-- ==== Sys2Proof/Word.lean ====
section
/-!
DEFINITION. The words of the SKH-8816: bytes, 32-bit and 64-bit words (R2, R5, R6). Sizes, times, powers and indexes are
plain numbers; a bit vector stands where the manual numbers bits or wraps.
-/
namespace Sys2Proof

/-- One byte. -/
abbrev Byte := BitVec 8

/-- A 32-bit word: an owner epoch, a sequence that wraps, a Barn register (R173, R223, R272). -/
abbrev Word32 := BitVec 32

/-- A 64-bit word of the Granary, of a command or of a record (R6, R272). -/
abbrev Word64 := BitVec 64

end Sys2Proof
end

