-- ==== Sys2Proof/Config.lean ====
section
/-!
DEFINITION. What the manual leaves open or names without defining its arithmetic: constants with no body. No proof can see a
value of one, so a claim holds whatever the hardware does. Each is named in the assumption log.
-/
namespace Sys2Proof.Config

/-- A value the manual leaves undefined (R204), by the model's count of such values drawn. -/
opaque freeWord : Nat → Word64

/-- SHA-384 of a string of bytes (R162, R193, R451): the manual names the function and does not define it. -/
opaque sha384 : List Byte → BitVec 384

/-- Whether an ECDSA P-384 signature over a hash verifies under a key, the key given by the SHA-384 of its public half
(R163, R440, R444, R445). -/
opaque ecdsaVerify : (keyHash hash : BitVec 384) → (signature : List Byte) → Bool

/-- SHA-384 of the vendor image key and of the vendor program key that the bay ROM holds (R444): the manual gives no value. -/
opaque vendorKeyHash : (program : Bool) → BitVec 384

/-- An ECDSA P-384 signature by the device's own key (R443): the manual gives no value. -/
opaque ecdsaSign : (message : List Byte) → BitVec 768

/-- Conditioned entropy bytes, by the count of draws made (R447). -/
opaque entropyByte : (draw index : Nat) → Byte

/-- The seed that a reseed gives a generator lane, by reseed number, panel and lane: a draw whose words are all 0 is discarded, so the
seed is one more than this value modulo 2^128 - 1 (R137, R447). -/
opaque reseedBits : (reseed panel lane : Nat) → Nat

/-- The radius that the Easel returns for the evaluation of a slot's linear estimate in a window, in units of 2^-16 W: the manual gives
the ROM linear program no strokes (R48, R166). -/
opaque linearRadius : (slot wseq : Nat) → Nat

/-- The radius that the governor record shows for a slot in a window of the measured fallback, mW: the manual states none (R52, R80). -/
opaque fallbackRadius : (slot wseq : Nat) → Nat

/-- Draws of the generator that a node identifier seeds, by draw made (R115, R304): the manual does not define the generator. -/
opaque nodeDraw : (node draw : Nat) → Nat

/-- The factory guardband of a bay's supply in steps of 2.5 mV: the manual gives a bay a GB_FLOOR and no factory guardband (R95, R96). -/
opaque bayGuardband : (bay : Nat) → Nat

/-- CAPABILITY of a bay's supply regulator as the owner read it at governor start (R427): the device on the board gives it. -/
opaque regulatorCapability : (bay : Nat) → Byte

/-- VOUT_MODE of a bay's supply regulator as the owner read it at governor start (R427, R428): the device on the board gives it. -/
opaque regulatorMode : (bay : Nat) → Byte

/-- Speed of a fan or pump channel at a time, rpm, as its tachometer edges give it (R396, R406): the edges come from outside the table. -/
opaque rotorSpeed : (channel time : Nat) → Nat

/-- PROXY_PRIO of a member as the root knows it (R314): the manual names no frame that carries it. -/
opaque proxyPrio : (node : Word64) → Nat

/-- Hop time that a root takes for a broadcast of its tree, ns (R323 to R325): it depends on the fibres. -/
opaque hopTime : Nat

/-- Digest of the bay ROM (R443): the manual gives no value. -/
opaque romDigest : BitVec 384

/-- Address in the bay ROM at which a ROM hand starts, by hand, and that of the Fallow entry (R438, R441): the manual gives none. -/
opaque romEntry : (fallow : Bool) → (hand : Nat) → Word32

/-- The settings as stage 1 reads them from the Loft, as bytes (R443): the manual gives no format. -/
opaque settingsBytes : (start : Nat) → List Byte

/-- Bytes of the calibration header that the manual places nowhere, by USER flag, writes made and CRC (R466). -/
opaque calHeaderByte : (user : Bool) → (writes : Nat) → (crc : Word32) → (offset : Nat) → Byte

/-- A value that the calibration set holds in a part whose byte layout the manual does not give, by part offset, item and the set's
bytes (R466). -/
opaque calValue : (part item : Nat) → (bytes : List Byte) → Nat

/-- Bytes of a bay's public attestation key and of the vendor's signature over it (R443): the manual gives no value. -/
opaque attestation : (bay index : Nat) → Byte

end Sys2Proof.Config
end

