-- ==== Sys2Proof/Syntax.lean ====
section
/-!
DEFINITION. The commands of the block: one constructor of `Instr` for each row of the table of operations and events, with
the operands that the command, the wire or the tray supplies. The packets an operand can carry are structures of their own,
with the field names of the frame maps (R24, R25, R258, R272, R300, R321).
-/
namespace Sys2Proof

/-- What the owner holds of a fetched command besides its parameters (R272, R277). -/
structure CmdHdr where
  /-- command ring the entry was fetched from -/
  ring : Nat := 0
  /-- SEQ -/
  seq : Word32 := 0
  /-- OPT, FLAGS [15:8] -/
  opt : BitVec 8 := 0
  /-- PLEN -/
  plen : Nat := 0
  /-- PARAM offset of the first byte that breaks R274, if any -/
  rsvAt : Option Nat := none
  /-- a reserved bit of word 0 or word 1 is set -/
  rsvHdr : Bool := false
  /-- the input buffer as the owner read it; none when the read failed (R277) -/
  buf : Option (List Byte) := some []
  deriving DecidableEq, Repr

/-- Ring descriptor (R258). -/
structure RingDesc where
  base : Word64 := 0
  sblk : Word64 := 0
  kind : Nat := 0
  log2size : Nat := 6
  peer : Nat := 0
  prio : Nat := 0
  minSev : Nat := 0
  irqEn : Bool := false
  vector : Nat := 0
  coalN : Nat := 0
  coalUs : Nat := 0
  subs : Word32 := 0
  deriving DecidableEq, Repr

/-- A grid target, park or unpark (R101). -/
structure Target where
  tseq : Word32 := 0
  /-- TARGET, W -/
  target : Nat := 0
  /-- SLOPE, W per ms -/
  slope : Nat := 0
  /-- DEADLINE, fabric time in ns -/
  deadline : Nat := 0
  /-- ISSUE_TIME, fabric time in ns -/
  issueTime : Nat := 0
  deriving DecidableEq, Repr

/-- Counter frame (R24). -/
structure CounterFrame where
  slot : Nat := 0
  tslice : Nat := 0
  count : Nat := 0
  wseq : Word32 := 0
  snapTime : Nat := 0
  epochSeen : Word32 := 0
  gseqHeld : Word32 := 0
  densApplied : Nat := 240
  opIndex : Nat := 0
  droop : Bool := false
  lapsed : Bool := true
  ballastOn : Bool := false
  opcBusy : Bool := false
  opcFrozen : Bool := false
  opcStep : Nat := 0
  quiesced : Bool := false
  fwReady : Bool := false
  pushSt : Nat := 0
  cfBad : Nat := 0
  pushNext : Nat := 0
  /-- counters 0, 1, ...; those not listed are sent as 0 -/
  counters : List Nat := []
  /-- the 64 points of the slice, 1/128 degC; -32768 and unlisted points mean no reading -/
  temps : List Int := []
  /-- rail voltages 0, 1, ..., 100 uV -/
  rails : List Nat := []
  crc : Word32 := 0
  deriving DecidableEq, Repr

/-- Grant entry of a command frame (R25). -/
structure GrantEntry where
  gseq : Word32 := 0
  rise : Nat := 0
  fall : Nat := 0
  deriving DecidableEq, Repr

/-- Command frame (R25). -/
structure CommandFrame where
  slot : Nat := 0
  cseq : Word32 := 0
  epoch : Word32 := 0
  devTime : Nat := 0
  density : Nat := 240
  safeDensity : Nat := 160
  ballastW : Nat := 0
  quiesce : Bool := false
  gseqCommit : Word32 := 0
  revoke : Bool := false
  /-- GRANT0 to GRANT7; those not listed are empty -/
  grants : List GrantEntry := []
  opTarget : Nat := 0
  opc : Nat := 0
  vgb : Int := 0
  crc : Word32 := 0
  deriving DecidableEq, Repr

/-- Burst frame (R25). -/
structure BurstFrame where
  slot : Nat := 0
  dens : Nat := 192
  len : Nat := 16
  epoch : Word32 := 0
  bseq : Word32 := 0
  crc : Word32 := 0
  deriving DecidableEq, Repr

/-- Push block (R25). -/
structure PushBlock where
  slot : Nat := 0
  last : Bool := false
  first : Bool := false
  block : Nat := 0
  epoch : Word32 := 0
  data : List Byte := []
  crc : Word32 := 0
  deriving DecidableEq, Repr

/-- What the accelerator package itself supplies in one window (R24, R32). -/
structure AccelSense where
  counters : List Nat := []
  /-- temperature points, 1/128 degC -/
  temps : List Int := []
  /-- rail voltages, 100 uV -/
  rails : List Nat := []
  /-- draw its work would take in the window, W, by its own activity-to-power table -/
  demand : Nat := 0
  /-- its droop flag rose in the window -/
  droop : Bool := false
  /-- dummy issue took place in the window -/
  ballastOn : Bool := false
  deriving DecidableEq, Repr

/-- Fabric frame header (R300). -/
structure FabHdr where
  ver : Nat := 1
  drole : Nat := 0
  hops : Nat := 0
  mepoch : Word32 := 0
  src : Word64 := 0
  dst : Word64 := 0
  ownerEpoch : Word32 := 0
  repoch : Word32 := 0
  fseq : Word32 := 0
  /-- the frame's CRC word passes -/
  crcOk : Bool := true
  deriving DecidableEq, Repr

/-- BEACON payload (R300). -/
structure BeaconBody where
  root : Word64 := 0
  rootRoleEpoch : Word32 := 0
  rtick : Word32 := 0
  depth : Nat := 0
  parent : Word64 := 0
  roles : BitVec 4 := 0
  roleEpoch : Word32 := 0
  maxMepoch : Word32 := 0
  ancestors : List Word64 := []
  deriving DecidableEq, Repr

/-- Member-table entry (R307); the role set as ROLES of R331 codes it. -/
structure Member where
  node : Word64 := 0
  mepoch : Word32 := 0
  parent : Word64 := 0
  roles : BitVec 4 := 0
  roleEpoch : Word32 := 0
  ownerEpoch : Word32 := 0
  proxyPrio : Nat := 0
  deriving DecidableEq, Repr

/-- One change of a MEMBER frame (R307). -/
inductive MemberChange where
  | put (m : Member)
  | remove (node : Word64)
  deriving DecidableEq, Repr

/-- The four timestamps of a TIME exchange (R317): request sent by the member, request received by the parent, answer sent by
the parent, answer received by the member. -/
structure Stamps where
  t1 : Int := 0
  t2 : Int := 0
  t3 : Int := 0
  t4 : Int := 0
  deriving DecidableEq, Repr

/-- Global descriptor (R321). -/
structure GDesc where
  op : Nat := 0
  scope : Nat := 2
  sel : Nat := 0
  func : Nat := 0
  tseq : Word32 := 0
  scopeNode : Word64 := 0
  issueTime : Nat := 0
  atTime : Nat := 0
  value0 : Word32 := 0
  value1 : Word32 := 0
  share : Nat := 0
  deriving DecidableEq, Repr

/-- A contribution to a combining operation (R324, R325). -/
structure Contribution where
  value : Int := 0
  contributors : Nat := 0
  notAligned : Nat := 0
  deriving DecidableEq, Repr

/-- GUP payload: a request to the root, a contribution, or the removal of a lost child (R300, R308, R320, R324). -/
inductive GupBody where
  | request (desc : GDesc) (body : List Byte)
  | contribution (opNo : Word32) (c : Contribution)
  | removal (node : Word64)
  deriving DecidableEq, Repr

/-- Payload of a fabric frame (R300). -/
inductive FabBody where
  | beacon (b : BeaconBody)
  | claim
  | join (maxMepoch : Word32) (parent : Word64)
  | admitted (mepoch : Word32) (table : List Member)
  | member (changes : List MemberChange)
  | nak (reason : Nat) (roles : BitVec 4) (roleEpoch : Word32)
  | time (stamps : Stamps)
  | msg (msg : List Byte) (reply : Bool) (hand : Nat)
  | gdown (desc : GDesc) (body : List Byte)
  | gup (body : GupBody)
  | report (want keep flr : Nat)
  | pushreq (hash : Nat) (bay : Nat)
  | offer (hash : Nat) (taken : Bool)
  | push (offset : Nat) (data : List Byte)
  | pushAck (offset : Nat)
  deriving DecidableEq, Repr

/-- A fabric frame as a node sends it (R300). -/
structure FabFrame where
  hdr : FabHdr := {}
  body : FabBody := .claim
  deriving DecidableEq, Repr

/-- One 64-byte command entry as the owner reads it (R261, R272), with the input buffer it names. -/
structure RawEntry where
  words : List Word64 := []
  buf : Option (List Byte) := some []
  poisoned : Bool := false
  deriving DecidableEq, Repr

/-- What a Granary word's check bits say when an access reads it (R207, R208). -/
inductive Ecc where
  | clean
  | single
  | double
  deriving DecidableEq, Repr

/-- Result of a panel's known-answer set (R146): it finished with every case right, a case differed, or it found no gap. -/
inductive KacResult where
  | pass
  | fail (failingCase : Nat)
  | starved
  deriving DecidableEq, Repr

/-- A run that an Easel phase carries (R161, R164). -/
structure Phase where
  inst : Nat := 0
  deriving DecidableEq, Repr

/-- One power channel's conversion of one microsecond (R359). -/
structure SenseIn where
  channel : Nat := 0
  /-- current as the selected range converts it, mA -/
  current : Int := 0
  /-- voltage, mV -/
  volt : Int := 0
  deriving DecidableEq, Repr

/-- What an authenticated probe asks for (R445). -/
inductive DebugAct where
  | readWord (addr : Nat)
  | writeWord (addr : Nat) (value : Word64)
  | halt (hand : Nat)
  | resume (hand : Nat)
  | step (hand : Nat)
  | inspect (hand reg : Nat)
  deriving DecidableEq, Repr

/-- A grid operation of the conductor as it reaches a tray (R101, R113, R115, R328). -/
inductive GridOp where
  | target
  | share
  | park
  | unpark
  deriving DecidableEq, Repr

/-- An internal change that is journalled (R234). -/
inductive Change where
  | adminEnable
  | adminDrain
  | join (bay : Nat)
  | handover
  | grid (op : GridOp) (t : Target)
  | reseed (n : Nat)
  | panelOut (panel : Nat)
  | trim (who point : Nat) (trim : Int)
  | thermal (slot h : Nat)
  deriving DecidableEq, Repr

/-- The commands of the block, one constructor per row of the table of operations and events, in the table's order. -/
inductive Instr where
  /-- ADM_NOP (R283) -/
  | admNop (h : CmdHdr)
  /-- ADM_RING_CREATE (R259) -/
  | admRingCreate (h : CmdHdr) (ring : Nat) (desc : RingDesc)
  /-- ADM_RING_DELETE (R260) -/
  | admRingDelete (h : CmdHdr) (ring : Nat)
  /-- ADM_RING_RESET (R260) -/
  | admRingReset (h : CmdHdr) (ring : Nat)
  /-- ADM_RING_QUERY (R283) -/
  | admRingQuery (h : CmdHdr) (ring buf : Nat)
  /-- ADM_RING_SUBSCRIBE (R266) -/
  | admRingSubscribe (h : CmdHdr) (ring subs minSev : Nat)
  /-- ADM_HEALTH (R283) -/
  | admHealth (h : CmdHdr)
  /-- ADM_ENTROPY (R447) -/
  | admEntropy (h : CmdHdr) (bytes : Nat)
  /-- GOV_SET_CAP (R58) -/
  | govSetCap (h : CmdHdr) (slot cap : Nat)
  /-- GOV_SET_SLOPE (R64) -/
  | govSetSlope (h : CmdHdr) (slot rise fall : Nat)
  /-- GOV_SET_PRIORITY (R59) -/
  | govSetPriority (h : CmdHdr) (slot crit : Nat)
  /-- GOV_SET_GAIN (R79) -/
  | govSetGain (h : CmdHdr) (slot kp : Nat)
  /-- GOV_SET_MODEL (R49) -/
  | govSetModel (h : CmdHdr) (slot model : Nat)
  /-- GOV_LOAD_WEIGHTS (R171) -/
  | govLoadWeights (h : CmdHdr) (slot what vrail tensor buf blen delta : Nat)
  /-- GOV_SET_SAFE_DENSITY (R26) -/
  | govSetSafeDensity (h : CmdHdr) (slot dens : Nat)
  /-- GOV_SET_OVERSUB (R58) -/
  | govSetOversub (h : CmdHdr) (osf : Nat)
  /-- GOV_SET_LIMITS (R79) -/
  | govSetLimits (h : CmdHdr) (slot item value : Nat)
  /-- GOV_SET_RUNAHEAD (R68) -/
  | govSetRunahead (h : CmdHdr) (slot on missTol raHold : Nat)
  /-- GOV_SET_ESCALATION (R76) -/
  | govSetEscalation (h : CmdHdr) (escSat shedWait parkWait marked : Nat)
  /-- GOV_PARK_ACK (R75) -/
  | govParkAck (h : CmdHdr) (slot : Nat)
  /-- GOV_UNPARK (R77) -/
  | govUnpark (h : CmdHdr) (slot : Nat)
  /-- GOV_SET_TELEMETRY (R80) -/
  | govSetTelemetry (h : CmdHdr) (period : Nat)
  /-- GOV_SET_OP (R85) -/
  | govSetOp (h : CmdHdr) (slot clear timeout : Nat)
  /-- GOV_SET_DROOP (R100) -/
  | govSetDroop (h : CmdHdr) (slot dens len resume di storm : Nat)
  /-- GOV_SET_MARGIN (R100) -/
  | govSetMargin (h : CmdHdr) (slot item : Nat) (value : BitVec 32)
  /-- GOV_TRIM_RESET (R99) -/
  | govTrimReset (h : CmdHdr) (slot : Nat)
  /-- GOV_STATUS (R284) -/
  | govStatus (h : CmdHdr) (slot buf : Nat)
  /-- GRID_SET_TARGET (R105) -/
  | gridSetTarget (h : CmdHdr) (tseq : BitVec 32) (target slope deadline issueTime : Nat)
  /-- GRID_SET_CURVE (R109) -/
  | gridSetCurve (h : CmdHdr) (npoints frSlope freqStale buf : Nat)
  /-- GRID_SET_FREQ (R110) -/
  | gridSetFreq (h : CmdHdr) (df : Int) (issueTime : Nat)
  /-- GRID_PARK (R115) -/
  | gridPark (h : CmdHdr) (tseq : BitVec 32) (slope deadline issueTime : Nat)
  /-- GRID_UNPARK (R115) -/
  | gridUnpark (h : CmdHdr) (tseq : BitVec 32) (issueTime : Nat)
  /-- GRID_SET_SOURCE (R104) -/
  | gridSetSource (h : CmdHdr) (source reportStale : Nat)
  /-- GRID_SET_PARK (R117) -/
  | gridSetPark (h : CmdHdr) (rails : BitVec 64) (spread : Nat)
  /-- GRID_STATUS (R285) -/
  | gridStatus (h : CmdHdr) (buf : Nat)
  /-- COOL_SET_ZONE (R390) -/
  | coolSetZone (h : CmdHdr) (zone pumps fans slots : Nat) (target trip : Int)
  /-- COOL_SET_SENSOR (R389) -/
  | coolSetSensor (h : CmdHdr) (point zone n : Nat) (thresh : Int) (buf blen : Nat)
  /-- COOL_SET_DRIVE (R392) -/
  | coolSetDrive (h : CmdHdr) (channel mode drive : Nat)
  /-- COOL_SET_VALVE (R402) -/
  | coolSetValve (h : CmdHdr) (channel on : Nat)
  /-- COOL_SET_INPUT (R403) -/
  | coolSetInput (h : CmdHdr) (channel filter stuck chatter : Nat)
  /-- COOL_STATUS (R406) -/
  | coolStatus (h : CmdHdr) (buf : Nat)
  /-- PWR_SET_TRIP (R371) -/
  | pwrSetTrip (h : CmdHdr) (channel thresh retries : Nat)
  /-- PWR_RESET_TRIP (R371) -/
  | pwrResetTrip (h : CmdHdr) (channel : Nat)
  /-- PWR_BRANCH (R366) -/
  | pwrBranch (h : CmdHdr) (slot on : Nat)
  /-- PWR_SET_RAIL (R334) -/
  | pwrSetRail (h : CmdHdr) (rail sheaf : Nat) (parents : List Nat) (riseTimeout : Nat)
  /-- PWR_RAIL_CTRL (R340) -/
  | pwrRailCtrl (h : CmdHdr) (mask : BitVec 64) (on : Nat)
  /-- PWR_SET_WARN (R385) -/
  | pwrSetWarn (h : CmdHdr) (feed : Nat) (thresh : Int)
  /-- PWR_STATUS (R383) -/
  | pwrStatus (h : CmdHdr) (buf : Nat)
  /-- EASEL_LOAD (R168) -/
  | easelLoad (h : CmdHdr) (buf blen : Nat)
  /-- EASEL_BIND (R169) -/
  | easelBind (h : CmdHdr) (progId rev slot : Nat)
  /-- EASEL_UNBIND (R172) -/
  | easelUnbind (h : CmdHdr) (inst : Nat)
  /-- EASEL_DELETE (R288) -/
  | easelDelete (h : CmdHdr) (progId rev : Nat)
  /-- EASEL_STATUS (R147) -/
  | easelStatus (h : CmdHdr) (gslot buf : Nat)
  /-- EASEL_CONFIG (R148) -/
  | easelConfig (h : CmdHdr) (reseedPeriod kacPeriod : Nat)
  /-- HAND_LOAD (R193) -/
  | handLoad (h : CmdHdr) (first count data buf blen shrBase shrLen : Nat)
  /-- HAND_START (R179) -/
  | handStart (h : CmdHdr) (hand : Nat) (regs : List (BitVec 32))
  /-- HAND_STOP (R179) -/
  | handStop (h : CmdHdr) (hand : Nat)
  /-- HAND_CONFIG (R193) -/
  | handConfig (h : CmdHdr) (hand shadow restartMax restartWindow ckptWd : Nat)
  /-- HAND_STATUS (R290) -/
  | handStatus (h : CmdHdr) (hand bay : Nat)
  /-- BIST_RUN (R216) -/
  | bistRun (h : CmdHdr) (bay bank : Nat)
  /-- BIST_RESULT (R218) -/
  | bistResult (h : CmdHdr) (bay bank buf : Nat)
  /-- REPAIR_APPLY (R219) -/
  | repairApply (h : CmdHdr) (bay bank kind pos : Nat)
  /-- GRAN_STATUS (R210) -/
  | granStatus (h : CmdHdr) (bay first count buf : Nat)
  /-- GRAN_CONFIG (R222) -/
  | granConfig (h : CmdHdr) (bay gleanPeriod ceThresh autotest : Nat)
  /-- FAB_GLOBAL (R320) -/
  | fabGlobal (h : CmdHdr) (op : Nat) (node : BitVec 64) (buf blen : Nat)
  /-- FAB_STATUS (R331) -/
  | fabStatus (h : CmdHdr) (buf : Nat)
  /-- FAB_CONFIG (R332) -/
  | fabConfig (h : CmdHdr) (item value : Nat)
  /-- UPD_BEGIN (R452) -/
  | updBegin (h : CmdHdr) (kind len : Nat)
  /-- UPD_BLOCK (R453) -/
  | updBlock (h : CmdHdr) (offset blen buf : Nat) (crc : BitVec 32)
  /-- UPD_COMMIT (R454) -/
  | updCommit (h : CmdHdr) (hash : Nat)
  /-- UPD_CONFIRM (R458) -/
  | updConfirm (h : CmdHdr) (kind : Nat)
  /-- UPD_LOCK (R455) -/
  | updLock (h : CmdHdr) (lock : Nat)
  /-- UPD_ABORT (R454) -/
  | updAbort (h : CmdHdr) (kind : Nat)
  /-- UPD_STATUS (R449) -/
  | updStatus (h : CmdHdr)
  /-- LOG_READ (R355) -/
  | logRead (h : CmdHdr) (start count buf : Nat)
  /-- LOG_STATUS (R355) -/
  | logStatus (h : CmdHdr)
  /-- TW_XFER (R430) -/
  | twXfer (h : CmdHdr) (port addr kind wlen rlen tout buf : Nat) (wdata : List (BitVec 8))
  /-- TW_CONFIG (R411) -/
  | twConfig (h : CmdHdr) (port enable speed filter target : Nat)
  /-- CAL_READ (R467) -/
  | calRead (h : CmdHdr) (offset len buf : Nat)
  /-- CAL_WRITE (R467) -/
  | calWrite (h : CmdHdr) (offset len buf : Nat)
  /-- BAY_STATUS (R291) -/
  | bayStatus (h : CmdHdr)
  /-- BAY_HANDOVER (R242) -/
  | bayHandover (h : CmdHdr) (waitUs : Nat)
  /-- BAY_CONFIG (R245) -/
  | bayConfig (h : CmdHdr) (item value : Nat)
  /-- BAY_RESTART (R293) -/
  | bayRestart (h : CmdHdr) (bay : Nat)
  /-- ADD (R183) -/
  | add (bay hand rd rs1 rs2 : Nat)
  /-- SUB (R183) -/
  | sub (bay hand rd rs1 rs2 : Nat)
  /-- AND (R183) -/
  | and (bay hand rd rs1 rs2 : Nat)
  /-- OR (R183) -/
  | or (bay hand rd rs1 rs2 : Nat)
  /-- XOR (R183) -/
  | xor (bay hand rd rs1 rs2 : Nat)
  /-- SHL (R183) -/
  | shl (bay hand rd rs1 rs2 : Nat)
  /-- SHR (R183) -/
  | shr (bay hand rd rs1 rs2 : Nat)
  /-- SRA (R183) -/
  | sra (bay hand rd rs1 rs2 : Nat)
  /-- SLT (R183) -/
  | slt (bay hand rd rs1 rs2 : Nat)
  /-- SLTU (R183) -/
  | sltu (bay hand rd rs1 rs2 : Nat)
  /-- MUL (R183) -/
  | mul (bay hand rd rs1 rs2 : Nat)
  /-- MULH (R183) -/
  | mulh (bay hand rd rs1 rs2 : Nat)
  /-- MULHU (R183) -/
  | mulhu (bay hand rd rs1 rs2 : Nat)
  /-- MIN (R183) -/
  | min (bay hand rd rs1 rs2 : Nat)
  /-- MAX (R183) -/
  | max (bay hand rd rs1 rs2 : Nat)
  /-- ADDI (R183) -/
  | addi (bay hand rd rs1 : Nat) (imm : BitVec 18)
  /-- ANDI (R183) -/
  | andi (bay hand rd rs1 : Nat) (imm : BitVec 18)
  /-- ORI (R183) -/
  | ori (bay hand rd rs1 : Nat) (imm : BitVec 18)
  /-- XORI (R183) -/
  | xori (bay hand rd rs1 : Nat) (imm : BitVec 18)
  /-- SHLI (R183) -/
  | shli (bay hand rd rs1 : Nat) (imm : BitVec 18)
  /-- SHRI (R183) -/
  | shri (bay hand rd rs1 : Nat) (imm : BitVec 18)
  /-- SRAI (R183) -/
  | srai (bay hand rd rs1 : Nat) (imm : BitVec 18)
  /-- SLTI (R183) -/
  | slti (bay hand rd rs1 : Nat) (imm : BitVec 18)
  /-- LUI (R183) -/
  | lui (bay hand rd : Nat) (imm : BitVec 22)
  /-- LW (R175) -/
  | lw (bay hand rd rs1 : Nat) (imm : BitVec 18) (ecc : Ecc)
  /-- LHU (R175) -/
  | lhu (bay hand rd rs1 : Nat) (imm : BitVec 18) (ecc : Ecc)
  /-- SW (R201) -/
  | sw (bay hand rs2 rs1 : Nat) (imm : BitVec 18) (ecc : Ecc)
  /-- SH (R201) -/
  | sh (bay hand rs2 rs1 : Nat) (imm : BitVec 18) (ecc : Ecc)
  /-- LD (R175) -/
  | ld (bay hand rd rs1 : Nat) (imm : BitVec 18) (ecc : Ecc)
  /-- SD (R201) -/
  | sd (bay hand rs2 rs1 : Nat) (imm : BitVec 18) (ecc : Ecc)
  /-- AADD (R202) -/
  | aadd (bay hand rd rs1 rs2 : Nat) (imm : BitVec 14) (ecc : Ecc)
  /-- AADD64 (R202) -/
  | aadd64 (bay hand rd rs1 rs2 : Nat) (imm : BitVec 14) (ecc : Ecc)
  /-- ASWP (R202) -/
  | aswp (bay hand rd rs1 rs2 : Nat) (imm : BitVec 14) (ecc : Ecc)
  /-- BEQ (R183) -/
  | beq (bay hand rs1 rs2 : Nat) (off : BitVec 18)
  /-- BNE (R183) -/
  | bne (bay hand rs1 rs2 : Nat) (off : BitVec 18)
  /-- BLT (R183) -/
  | blt (bay hand rs1 rs2 : Nat) (off : BitVec 18)
  /-- BGE (R183) -/
  | bge (bay hand rs1 rs2 : Nat) (off : BitVec 18)
  /-- BLTU (R183) -/
  | bltu (bay hand rs1 rs2 : Nat) (off : BitVec 18)
  /-- BGEU (R183) -/
  | bgeu (bay hand rs1 rs2 : Nat) (off : BitVec 18)
  /-- JAL (R183) -/
  | jal (bay hand rd : Nat) (imm : BitVec 22)
  /-- JALR (R183) -/
  | jalr (bay hand rd rs1 : Nat) (imm : BitVec 18)
  /-- WAIT (R181) -/
  | wait (bay hand rd rs1 : Nat) (imm : BitVec 18)
  /-- EVB (R180) -/
  | evb (bay hand rd rs1 : Nat) (imm : BitVec 18)
  /-- SIG (R180) -/
  | sig (bay hand rd rs1 : Nat) (imm : BitVec 18)
  /-- TWI (R184) -/
  | twi (bay hand rd rs1 : Nat) (imm : BitVec 18)
  /-- LSEND (R185) -/
  | lsend (bay hand rd rs1 rs2 : Nat) (fn : BitVec 6)
  /-- TSET (R182) -/
  | tset (bay hand rd rs1 : Nat) (imm : BitVec 18)
  /-- TIME (R183) -/
  | time (bay hand rd rs1 : Nat) (imm : BitVec 18)
  /-- YIELD (R183) -/
  | yieldHand (bay hand rd rs1 : Nat) (imm : BitVec 18)
  /-- CKPT (R186) -/
  | ckpt (bay hand rd rs1 : Nat) (imm : BitVec 18)
  /-- HALT (R179) -/
  | halt (bay hand rd rs1 : Nat) (imm : BitVec 18)
  /-- SELF (R183) -/
  | self (bay hand rd rs1 : Nat) (imm : BitVec 18)
  /-- ILLEGAL_INSTRUCTION (R183) -/
  | illegalInstruction (bay hand : Nat) (word : BitVec 32)
  /-- ACCESS_DONE (R175) -/
  | accessDone (bay hand : Nat)
  /-- ICACHE_LINE_FILL (R192) -/
  | icacheLineFill (bay hand line : Nat)
  /-- YIELD_EXPIRY (R183) -/
  | yieldExpiry (bay hand : Nat)
  /-- HAND_TIMER_EXPIRY (R182) -/
  | handTimerExpiry (bay hand : Nat)
  /-- CKPT_WD_EXPIRY (R187) -/
  | ckptWdExpiry (bay hand : Nat)
  /-- MIRROR_ACK (R186) -/
  | mirrorAck (bay hand : Nat)
  /-- MIRROR_ACK_TIMEOUT (R186) -/
  | mirrorAckTimeout (bay hand : Nat)
  /-- TWI_RESULT (R184) -/
  | twiResult (port status : Nat) (arbLost : Bool) (count : Nat) (data : List (BitVec 8))
  /-- SHADOW_RESULT_TIMEOUT (R190) -/
  | shadowResultTimeout (bay hand : Nat)
  /-- MAILBOX_MESSAGE (R185) -/
  | mailboxMessage (bay hand : Nat) (msg : List (BitVec 8))
  /-- LSEND_REPLY (R185) -/
  | lsendReply (bay hand : Nat) (msg : List (BitVec 8))
  /-- LSEND_REPLY_TIMEOUT (R185) -/
  | lsendReplyTimeout (bay hand : Nat)
  /-- COUNTER_FRAME (R30) -/
  | counterFrame (bay stalk : Nat) (frame : CounterFrame)
  /-- LANE_SIGNAL_DETECTED (R42) -/
  | laneSignalDetected (bay slot : Nat)
  /-- LANE_TRAIN_TIMEOUT (R42) -/
  | laneTrainTimeout (bay slot : Nat)
  /-- LANE_RETRY (R42) -/
  | laneRetry (bay slot : Nat)
  /-- LANE_LOST (R42) -/
  | laneLost (bay slot : Nat)
  /-- LANE_LOSS_OF_SIGNAL (R42) -/
  | laneLossOfSignal (bay slot : Nat)
  /-- LANE_COUNT_YIELD (R43) -/
  | laneCountYield
  /-- GOVERNOR_WINDOW (R45) -/
  | governorWindow (bay : Nat)
  /-- PUSH_RESTART_TIMEOUT (R40) -/
  | pushRestartTimeout (slot : Nat)
  /-- FUSION_PASS (R53) -/
  | fusionPass (bay : Nat)
  /-- ESC_SAT_EXPIRY (R75) -/
  | escSatExpiry
  /-- SHED_WAIT_EXPIRY (R75) -/
  | shedWaitExpiry
  /-- PARK_WAIT_EXPIRY (R77) -/
  | parkWaitExpiry
  /-- UNREACHABLE_REPEAT (R75) -/
  | unreachableRepeat
  /-- OPDN_EXPIRY (R78) -/
  | opdnExpiry (bay slot : Nat)
  /-- OPUP_EXPIRY (R78) -/
  | opupExpiry (bay slot : Nat)
  /-- OPC_TIMEOUT (R85) -/
  | opcTimeout (bay slot : Nat)
  /-- DROOP_RESUME_EXPIRY (R91) -/
  | droopResumeExpiry (bay slot : Nat)
  /-- AGEING_READ (R93) -/
  | ageingRead (slot : Nat) (margins : List Int)
  /-- BAY_AGEING_READ (R94) -/
  | bayAgeingRead (bay : Nat) (margin : Int)
  /-- TRIM_EVALUATION (R96) -/
  | trimEvaluation (who point : Nat)
  /-- GOVERNOR_RECORD (R80) -/
  | governorRecord
  /-- GRID_RECORD (R120) -/
  | gridRecord
  /-- EASEL_RECORD (R149) -/
  | easelRecord
  /-- TARGET_COMMIT (R105) -/
  | targetCommit (op : GridOp) (target : Target)
  /-- FREQUENCY_FRAME (R110) -/
  | frequencyFrame (df : Int) (issueTime arrival : Nat)
  /-- FREQ_STALE_EXPIRY (R111) -/
  | freqStaleExpiry
  /-- REPORT_STALE_EXPIRY (R113) -/
  | reportStaleExpiry (port : Nat)
  /-- SHARE_TABLE_BUILD (R112) -/
  | shareTableBuild
  /-- PARK_DELAY_EXPIRY (R115) -/
  | parkDelayExpiry
  /-- PARK_FUSE_OPEN (R116) -/
  | parkFuseOpen
  /-- UNPARK_DELAY_EXPIRY (R115) -/
  | unparkDelayExpiry
  /-- UNPARK_RAILS_UP (R115) -/
  | unparkRailsUp
  /-- EASEL_PHASE_RUN (R164) -/
  | easelPhaseRun (bay : Nat) (phase : Phase)
  /-- EASEL_PHASE_CLOSE (R161) -/
  | easelPhaseClose (bay inst : Nat)
  /-- KNOWN_ANSWER_CHECK (R146) -/
  | knownAnswerCheck (bay panel : Nat) (result : KacResult)
  /-- RESEED (R137) -/
  | reseed
  /-- SWITCH_WINDOW (R169) -/
  | switchWindow (bay : Nat)
  /-- GAP_LOAD_DONE (R170) -/
  | gapLoadDone (bay inst : Nat)
  /-- HEARTBEAT (R225) -/
  | heartbeat (bay : Nat)
  /-- WD_TIMEOUT_EXPIRY (R226) -/
  | wdTimeoutExpiry (bay : Nat)
  /-- CLAIM_GUARD_EXPIRY (R230) -/
  | claimGuardExpiry (bay : Nat)
  /-- OWNERSHIP_CLAIM (R227) -/
  | ownershipClaim (bay : Nat) (epoch : BitVec 32)
  /-- OWNERSHIP_YIELD (R229) -/
  | ownershipYield (bay : Nat) (on : Bool)
  /-- MIRROR_WRITE (R231) -/
  | mirrorWrite (bay : Nat) (epoch : BitVec 32) (addr : Nat) (data : List (BitVec 8))
  /-- SHADOW_COMPARE (R233) -/
  | shadowCompare (slot : Nat) (crc : BitVec 32)
  /-- JOURNAL_WRITE (R235) -/
  | journalWrite (change : Change)
  /-- JOURNAL_ACK (R235) -/
  | journalAck (jseq : Nat)
  /-- JOURNAL_ACK_TIMEOUT (R235) -/
  | journalAckTimeout (jseq : Nat)
  /-- JOURNAL_APPLY (R237) -/
  | journalApply
  /-- KEEPER_STEP_REPORT (R238) -/
  | keeperStepReport (jseq : Nat) (done ok : Bool)
  /-- RETAIN_EXPIRY (R236) -/
  | retainExpiry (jseq : Nat)
  /-- HANDOVER_WINDOW (R242) -/
  | handoverWindow
  /-- HANDOVER_WAIT_EXPIRY (R242) -/
  | handoverWaitExpiry
  /-- JOIN_COPY_DONE (R244) -/
  | joinCopyDone (bay : Nat)
  /-- BAY_RECORD (R246) -/
  | bayRecord
  /-- DOORBELL (R255) -/
  | doorbell (endpoint ring size : Nat) (value : BitVec 64)
  /-- DOORBELL_FORWARD (R262) -/
  | doorbellForward
  /-- COMMAND_FETCH (R261) -/
  | commandFetch (ring : Nat) (entries : List RawEntry)
  /-- COMPLETION_POST (R264) -/
  | completionPost (jseq : Nat) (bufOk : Bool)
  /-- COAL_US_EXPIRY (R269) -/
  | coalUsExpiry (ring : Nat)
  /-- RING_DMA_ERROR (R260) -/
  | ringDmaError (ring : Nat) (poisoned : Bool)
  /-- EVENT_POST (R268) -/
  | eventPost (bay code : Nat) (payload : List (BitVec 8))
  /-- ADM_CTRL_WRITE (R260) -/
  | admCtrlWrite (endpoint : Nat) (value : BitVec 32)
  /-- WIN_STATUS_WRITE (R206) -/
  | winStatusWrite (endpoint : Nat) (value : BitVec 32)
  /-- REGISTER_WRITE (R7) -/
  | registerWrite (endpoint offset : Nat) (value : BitVec 64)
  /-- HOST_WINDOW_ACCESS (R270) -/
  | hostWindowAccess (endpoint : Nat) (write : Bool) (offset size : Nat) (value : BitVec 64) (ecc : Ecc) (collide : Bool)
  /-- DEBUG_STATUS_READ (R205) -/
  | debugStatusRead (bay : Nat)
  /-- FUNCTION_LEVEL_RESET (R248) -/
  | functionLevelReset (endpoint : Nat)
  /-- ENDPOINT_LINK_CHANGE (R262) -/
  | endpointLinkChange (endpoint : Nat) (up busMaster : Bool) (width speed : Nat)
  /-- GLEANER_PASS (R211) -/
  | gleanerPass (bay : Nat) (singles : List Nat) (doubles : List (Nat × Nat))
  /-- GLEAN_STARVED (R211) -/
  | gleanStarved (bay : Nat)
  /-- CORRECTED_WRITEBACK (R207) -/
  | correctedWriteback (bay addr : Nat)
  /-- PEER_RESTORE_DONE (R213) -/
  | peerRestoreDone (bay addr : Nat)
  /-- MODEL_RELOAD_DONE (R213) -/
  | modelReloadDone (bay inst : Nat)
  /-- SELF_TEST_COPY_DONE (R216) -/
  | selfTestCopyDone (bay bank : Nat)
  /-- SELF_TEST_MARCH_DONE (R216) -/
  | selfTestMarchDone (bay bank : Nat) (fails : List (Nat × Nat × Nat))
  /-- SELF_TEST_RESTORE_DONE (R216) -/
  | selfTestRestoreDone (bay bank : Nat)
  /-- PORT_LIGHT_LOCK (R299) -/
  | portLightLock (port : Nat)
  /-- PORT_TRAIN_TIMEOUT (R299) -/
  | portTrainTimeout (port : Nat)
  /-- PORT_LOSS_OF_LIGHT (R299) -/
  | portLossOfLight (port : Nat)
  /-- DEAD_TIMEOUT_EXPIRY (R308) -/
  | deadTimeoutExpiry (port : Nat)
  /-- BEACON_SEND (R300) -/
  | beaconSend
  /-- BEACON (R305) -/
  | beacon (port : Nat) (hdr : FabHdr) (body : BeaconBody)
  /-- CLAIM (R304) -/
  | claim (port : Nat) (hdr : FabHdr)
  /-- JOIN (R306) -/
  | join (port : Nat) (hdr : FabHdr) (maxMepoch : BitVec 32) (parent : BitVec 64)
  /-- ADMIT (R306) -/
  | admitFrame (port : Nat) (hdr : FabHdr) (mepoch : BitVec 32) (table : List Member)
  /-- MEMBER (R307) -/
  | memberFrame (port : Nat) (hdr : FabHdr) (changes : List MemberChange)
  /-- NAK (R315) -/
  | nak (port : Nat) (hdr : FabHdr) (reason roles : Nat) (roleEpoch : BitVec 32)
  /-- TIME_FRAME (R317) -/
  | timeFrame (port : Nat) (hdr : FabHdr) (stamps : Stamps)
  /-- TIME_EXCHANGE_SEND (R317) -/
  | timeExchangeSend
  /-- MSG (R316) -/
  | msg (port : Nat) (hdr : FabHdr) (msg : List (BitVec 8)) (reply : Bool) (hand : Nat)
  /-- GDOWN (R323) -/
  | gdown (port : Nat) (hdr : FabHdr) (desc : GDesc) (body : List (BitVec 8))
  /-- GUP (R324) -/
  | gup (port : Nat) (hdr : FabHdr) (body : GupBody)
  /-- REPORT (R112) -/
  | report (port : Nat) (hdr : FabHdr) (want keep flr : Nat)
  /-- REPORT_SEND (R112) -/
  | reportSend
  /-- CLAIM_BACKOFF_EXPIRY (R304) -/
  | claimBackoffExpiry
  /-- CLAIM_SETTLE_EXPIRY (R304) -/
  | claimSettleExpiry
  /-- ROOT_TIMEOUT_EXPIRY (R309) -/
  | rootTimeoutExpiry
  /-- STALE_MEMBER_REMOVAL (R310) -/
  | staleMemberRemoval
  /-- OP_TIMEOUT_EXPIRY (R320) -/
  | opTimeoutExpiry (opNo : BitVec 32)
  /-- SNAPSHOT_LATCH (R325) -/
  | snapshotLatch (opNo : BitVec 32)
  /-- HALL_RESET (R327) -/
  | hallReset
  /-- PUSHREQ (R329) -/
  | pushreq (port : Nat) (hdr : FabHdr) (hash bay : Nat)
  /-- PUSHREQ_SEND (R329) -/
  | pushreqSend
  /-- PUSH (R330) -/
  | push (port : Nat) (hdr : FabHdr) (offset : Nat) (data : List (BitVec 8))
  /-- PUSH_ACK_TIMEOUT (R330) -/
  | pushAckTimeout
  /-- FABRIC_RECORD (R331) -/
  | fabricRecord
  /-- PG_COUNTED_UP (R336) -/
  | pgCountedUp (rail : Nat)
  /-- PG_COUNTED_DOWN (R336) -/
  | pgCountedDown (rail : Nat)
  /-- RISE_TIMEOUT_EXPIRY (R338) -/
  | riseTimeoutExpiry (rail : Nat)
  /-- FALLING_EXPIRY (R339) -/
  | fallingExpiry
  /-- EN_READBACK_MISMATCH (R345) -/
  | enReadbackMismatch (rail : Nat)
  /-- SHUTDOWN_FIRST_STEP (R342) -/
  | shutdownFirstStep
  /-- INPUT_RETURNED (R343) -/
  | inputReturned (channel : Nat)
  /-- RAIL_RECORD (R347) -/
  | railRecord
  /-- ALMANAC_WRITE (R352) -/
  | almanacWrite
  /-- ALMANAC_DROP (R352) -/
  | almanacDrop (source code : Nat) (payload : List (BitVec 8))
  /-- HOLDUP_COLLAPSE (R353) -/
  | holdupCollapse
  /-- KEEPER_START (R354) -/
  | keeperStart
  /-- SENSE_SAMPLE (R359) -/
  | senseSample (samples : List SenseIn) (vh : Option Nat)
  /-- ENERGY_WRITEBACK (R362) -/
  | energyWriteback
  /-- SEAT_PIN_MADE (R363) -/
  | seatPinMade (pinB : Bool)
  /-- SEATED (R363) -/
  | seated
  /-- SEAT_PIN_BROKEN (R382) -/
  | seatPinBroken (pinB : Bool)
  /-- GATE_FULLY_ON (R364) -/
  | gateFullyOn (channel : Nat)
  /-- INRUSH_TIMEOUT_EXPIRY (R364) -/
  | inrushTimeoutExpiry (channel : Nat)
  /-- FAST_TRIP (R369) -/
  | fastTrip (channel current : Nat)
  /-- TRIP_RETRY (R370) -/
  | tripRetry (channel : Nat)
  /-- RETRY_COUNT_RESTORE (R370) -/
  | retryCountRestore (channel : Nat)
  /-- COMMANDED_OPEN_DELAY (R366) -/
  | commandedOpenDelay (slot : Nat)
  /-- FEED_VALID (R372) -/
  | feedValid (channel : Nat)
  /-- FEED_WARN_ASSERT (R378) -/
  | feedWarnAssert
  /-- BOTH_OFF_EXPIRY (R373) -/
  | bothOffExpiry
  /-- FEED_WARN_DEASSERT (R378) -/
  | feedWarnDeassert
  /-- RETURN_TO_FEED_A (R376) -/
  | returnToFeedA
  /-- GATE_FAULT (R373) -/
  | gateFault (channel : Nat)
  /-- POWER_CHANNEL_RECORD (R384) -/
  | powerChannelRecord (channel : Nat)
  /-- DIODE_CONVERSION (R388) -/
  | diodeConversion (readings : List (Option Int))
  /-- SENSOR_CHECK (R389) -/
  | sensorCheck (bay : Nat)
  /-- ZONE_DEMAND (R391) -/
  | zoneDemand
  /-- THERMAL_STEP (R393) -/
  | thermalStep
  /-- THERMAL_HOLD_RELEASE (R395) -/
  | thermalHoldRelease (slot : Nat)
  /-- KICK (R396) -/
  | kick (channel : Nat)
  /-- KICK_RESPONSE (R396) -/
  | kickResponse (channel : Nat)
  /-- KICK_EXPIRY (R398) -/
  | kickExpiry (channel : Nat)
  /-- TACH_SILENCE (R397) -/
  | tachSilence (channel : Nat)
  /-- READ_IOUT (R397) -/
  | readIout (channel : Nat) (word : Option (BitVec 16)) (binary16 : Bool)
  /-- STALL_RETRY (R398) -/
  | stallRetry (channel : Nat)
  /-- PUMP_INDEX_PULSE (R399) -/
  | pumpIndexPulse (channel count : Nat)
  /-- FLOW_GATE (R400) -/
  | flowGate (channel pulses : Nat)
  /-- LEAK (R401) -/
  | leak (channel : Nat)
  /-- INPUT_STUCK (R403) -/
  | inputStuck (channel : Nat)
  /-- INPUT_CHATTER (R403) -/
  | inputChatter (channel transitions : Nat)
  /-- OUTPUT_FIGHT (R404) -/
  | outputFight (channel : Nat)
  /-- COOLING_RECORD (R407) -/
  | coolingRecord
  /-- TWI_DESCRIPTOR_START (R415) -/
  | twiDescriptorStart (port : Nat)
  /-- TOUT_EXPIRY (R415) -/
  | toutExpiry (port : Nat)
  /-- BUS_STUCK (R416) -/
  | busStuck (port : Nat) (sdaClears : Bool)
  /-- BUS_RECOVERY_RETRY (R416) -/
  | busRecoveryRetry (port : Nat) (success : Bool)
  /-- TARGET_TRANSFER (R423) -/
  | targetTransfer (port : Nat) (write : Bool) (data : List (BitVec 8)) (readLen : Nat) (stop : Bool)
  /-- TARGET_ABANDON (R420) -/
  | targetAbandon (port : Nat)
  /-- TARGET_LOCAL_ACCESS (R424) -/
  | targetLocalAccess (port : Nat)
  /-- HOST_NOTIFY (R425) -/
  | hostNotify (port : Nat) (data : List (BitVec 8))
  /-- DORMANT_ADDRESS_MATCH (R426) -/
  | dormantAddressMatch (port addr : Nat)
  /-- MATCHER_RETURN (R426) -/
  | matcherReturn (port : Nat)
  /-- READ_PIN (R427) -/
  | readPin (slot : Nat) (words : List (Option (BitVec 16 × Bool)))
  /-- SUPPLIES_VALID (R469) -/
  | suppliesValid
  /-- TRIM_PASS (R473) -/
  | trimPass (agree : Bool)
  /-- PLL_LOCK (R470) -/
  | pllLock
  /-- SCARECROW_LIVE (R405) -/
  | scarecrowLive
  /-- LOFT_SETTINGS_LOADED (R470) -/
  | loftSettingsLoaded
  /-- PUSH_WINDOW_OPEN (R432) -/
  | pushWindowOpen (bay : Nat)
  /-- CLAIM_WRITE (R436) -/
  | claimWrite (bay agent : Nat)
  /-- GO (R434) -/
  | go (bay agent : Nat)
  /-- APERTURE_COPY_DONE (R434) -/
  | apertureCopyDone (bay : Nat)
  /-- RELEASE (R439) -/
  | release (bay agent : Nat)
  /-- STAGE0_DONE (R440) -/
  | stage0Done (bay : Nat)
  /-- STAGE1_DONE (R441) -/
  | stage1Done (bay : Nat)
  /-- PUSH_ABANDON_EXPIRY (R437) -/
  | pushAbandonExpiry (bay : Nat)
  /-- STREAMER_CLAIM (R436) -/
  | streamerClaim (bay : Nat)
  /-- FALLOW_ENTRY (R438) -/
  | fallowEntry (bay : Nat)
  /-- QUOTE_REQUEST_POLL (R443) -/
  | quoteRequestPoll (bay : Nat)
  /-- LIFE_CYCLE_REQUEST (R444) -/
  | lifeCycleRequest (state serial key sig : Nat)
  /-- DEBUG_AUTHENTICATION (R445) -/
  | debugAuthentication (bay : Nat) (sig : Option Nat)
  /-- ENTROPY_READY (R447) -/
  | entropyReady
  /-- DRBG_RESEED (R447) -/
  | drbgReseed
  /-- ENTROPY_HEALTH_FAIL (R447) -/
  | entropyHealthFail
  /-- FUSE_COUNTER_BURN (R446) -/
  | fuseCounterBurn
  /-- STANDBY_LIMIT_EXPIRY (R457) -/
  | standbyLimitExpiry (bay : Nat)
  /-- ACCELEROMETER_READ (R455) -/
  | accelerometerRead (deviationMg : Nat)
  /-- FALLOW_PUSH_COMMIT (R464) -/
  | fallowPushCommit
  /-- FALLOW_RESET_EXPIRY (R465) -/
  | fallowResetExpiry
  /-- CONTROLLER_RESET (R475) -/
  | controllerReset
  /-- BAY_RESET (R475) -/
  | bayReset (bay : Nat)
  /-- PHOTONIC_RESTART (R475) -/
  | photonicRestart
  /-- PERST (R475) -/
  | perst (endpoint : Nat)
  /-- DORMANT_ENTRY (R478) -/
  | dormantEntry
  /-- WAKE (R480) -/
  | wake
  /-- WAKE_WATCHDOG (R481) -/
  | wakeWatchdog (bay : Nat)
  /-- CRYSTAL_LOSS (R484) -/
  | crystalLoss
  /-- KEEPER_HOLD (R17) -/
  | keeperHold (pair : Nat)
  /-- ACCEPT_COMMAND_FRAME (R31) -/
  | acceptCommandFrame (slot : Nat) (frame : CommandFrame)
  /-- ACCEPT_BURST_FRAME (R34) -/
  | acceptBurstFrame (slot : Nat) (frame : BurstFrame)
  /-- ACCEPT_PUSH_BLOCK (R39) -/
  | acceptPushBlock (slot : Nat) (block : PushBlock)
  /-- LEASE_LAPSE (R37) -/
  | leaseLapse (slot : Nat)
  /-- ACCELERATOR_WINDOW (R32) -/
  | acceleratorWindow (slot : Nat) (sense : AccelSense)
  /-- BURST_END (R33) -/
  | burstEnd (slot : Nat)
  /-- LOFT_DIE_LOST (R18) -/
  | loftDieLost (die : Nat)
  /-- DIE_FAILURE (R16) -/
  | dieFailure (die : Nat)
  /-- BREEZEWAY_LINK_CHANGE (R230) -/
  | breezewayLinkChange (up : Bool)
  /-- OWNER_HB_AGE_5MS (R227) -/
  | ownerHbAge5ms
  /-- ACCELERATOR_RESET (R38) -/
  | acceleratorReset (slot : Nat)
  /-- ACCELERATOR_STEP_COMPLETE (R35) -/
  | acceleratorStepComplete (slot : Nat)
  /-- ACCELERATOR_QUIESCED (R44) -/
  | acceleratorQuiesced (slot : Nat)
  /-- FIRMWARE_VERIFY_DONE (R40) -/
  | firmwareVerifyDone (slot : Nat) (ok : Bool)
  /-- BAY_RESTART_TIMEOUT (R293) -/
  | bayRestartTimeout (bay : Nat)
  /-- INPUT_FILTERED_CHANGE (R403) -/
  | inputFilteredChange (channel : Nat) (active : Bool)
  /-- STUCK_MASK_CLEAR (R403) -/
  | stuckMaskClear (channel : Nat)
  /-- CHATTER_END (R403) -/
  | chatterEnd (channel : Nat)
  /-- TACH_EDGES_RETURN (R398) -/
  | tachEdgesReturn (channel : Nat)
  /-- HOLDUP_EXHAUSTED (R494) -/
  | holdupExhausted
  /-- REDUCE_SAMPLE (R324) -/
  | reduceSample (opNo : BitVec 32)
  /-- PUSH_OFFER (R329) -/
  | pushOffer (port hash : Nat)
  /-- OFFER_WAIT_EXPIRY (R329) -/
  | offerWaitExpiry
  /-- PUSH_ACKNOWLEDGE (R330) -/
  | pushAcknowledge (port offset : Nat)
  /-- FALLOW_PUSH_STALL (R464) -/
  | fallowPushStall
  /-- DEBUG_ACCESS (R445) -/
  | debugAccess (bay : Nat) (act : DebugAct) (ecc : Ecc) (collide : Bool)
  /-- JUNCTION_SENSOR_READ (R246) -/
  | junctionSensorRead (bay0 bay1 keeper photonic loft : Int)
  /-- CODE_REWRITE_DONE (R213) -/
  | codeRewriteDone (bay page : Nat)
  /-- TARGET_DEADLINE_EXPIRY (R103) -/
  | targetDeadlineExpiry (fab : Bool) (target : Target)
  deriving DecidableEq, Repr

end Sys2Proof
end

