-- ==== Sys2Proof/Decode.lean ====
section
/-!
DEFINITION. Reading and writing the packets that carry commands: byte order and bit fields (R5, R6), the 64-byte command entry
(R272, with the parameter fields of R283 to R291), and the 32-bit words of Barn instructions (R183). The table of operations and
events gives its rows no bits of their own, so `decodeTableWord` reads no word.
-/
namespace Sys2Proof

/-- A number as n bytes, least significant first (R6). -/
def leBytes (n v : Nat) : List Byte := (List.range n).map fun i => BitVec.ofNat 8 (v >>> (8 * i))

/-- The number that bytes spell, least significant first (R6). -/
def ofLeBytes (bs : List Byte) : Nat := bs.foldr (fun b a => b.toNat + 256 * a) 0

/-- n bytes of a string at an offset, as a number (R6). -/
def fieldAt (bs : List Byte) (off n : Nat) : Nat := ofLeBytes ((bs.drop off).take n)

/-- The two's complement of a number in w bits. -/
def twos (w : Nat) (i : Int) : Nat := (i % (2 ^ w : Nat)).toNat

/-- The signed number that w bits spell. -/
def signed (w v : Nat) : Int :=
  if v % 2 ^ w < 2 ^ (w - 1) then ((v % 2 ^ w : Nat) : Int) else ((v % 2 ^ w : Nat) : Int) - (2 ^ w : Nat)

/-- A field of a word (R5). -/
def field (w lo width : Nat) : Nat := (w >>> lo) % 2 ^ width

/-- Words as bytes (R6). -/
def wordsBytes (ws : List Word64) : List Byte := ws.flatMap fun w => leBytes 8 w.toNat

/-- Bytes as words, n of them, missing bytes 0 (R6). -/
def bytesWords (n : Nat) (bs : List Byte) : List Word64 := (List.range n).map fun i => BitVec.ofNat 64 (fieldAt bs (8 * i) 8)

/-! ### Command entries -/

/-- The four bytes of PARENTS (R287): rail numbers, 0xFF none. -/
def parentsAt (p : List Byte) (off : Nat) : List Nat := (List.range 4).map fun i => fieldAt p (off + i) 1

/-- The seven registers of HAND_START (R290). -/
def regsAt (p : List Byte) (off : Nat) : List Word32 := (List.range 7).map fun i => BitVec.ofNat 32 (fieldAt p (off + 4 * i) 4)

/-- A ring descriptor from its 32 bytes (R258). -/
def ringDescAt (p : List Byte) (off : Nat) : RingDesc :=
  let w2 := fieldAt p (off + 16) 8
  { base := BitVec.ofNat 64 (fieldAt p off 8), sblk := BitVec.ofNat 64 (fieldAt p (off + 8) 8)
    kind := field w2 61 3, log2size := field w2 56 5, peer := field w2 41 15, prio := field w2 38 3, minSev := field w2 36 2
    irqEn := field w2 35 1 = 1, vector := field w2 16 8, coalN := field w2 8 8, coalUs := field w2 0 8
    subs := BitVec.ofNat 32 (fieldAt p (off + 28) 4) }

/-- The parameter fields of each opcode, as offset and size in bytes within PARAM (R283 to R291). -/
def commandFields (op : Nat) (p : List Byte) : Option (List (Nat × Nat)) :=
  match op with
  | 0x0000 => some []
  | 0x0001 => some [(0, 2), (8, 32)]
  | 0x0002 => some [(0, 2)]
  | 0x0003 => some [(0, 2)]
  | 0x0004 => some [(0, 2), (8, 8)]
  | 0x0005 => some [(0, 2), (4, 4), (8, 1)]
  | 0x0006 => some []
  | 0x0007 => some [(0, 1)]
  | 0x0100 => some [(0, 1), (4, 4)]
  | 0x0101 => some [(0, 1), (4, 4), (8, 4)]
  | 0x0102 => some [(0, 1), (1, 1)]
  | 0x0103 => some [(0, 1), (4, 4)]
  | 0x0104 => some [(0, 1), (1, 1)]
  | 0x0105 => some [(0, 1), (1, 1), (2, 2), (4, 2), (8, 8), (16, 4), (20, 4)]
  | 0x0106 => some [(0, 1), (1, 1)]
  | 0x0107 => some [(4, 4)]
  | 0x0108 => some [(0, 1), (1, 1), (4, 4)]
  | 0x0109 => some [(0, 1), (1, 1), (4, 4), (8, 4)]
  | 0x010A => some [(4, 4), (8, 4), (12, 4), (16, 1)]
  | 0x010B => some [(0, 1)]
  | 0x010C => some [(0, 1)]
  | 0x010D => some [(4, 4)]
  | 0x010E => some [(0, 1), (1, 1), (4, 4)]
  | 0x010F => some [(0, 1), (1, 1), (2, 1), (4, 4), (8, 4), (12, 4)]
  | 0x0110 => some [(0, 1), (1, 1), (4, 4)]
  | 0x0111 => some [(0, 1)]
  | 0x0112 => some [(0, 1), (8, 8)]
  | 0x0200 => some [(0, 4), (4, 4), (8, 4), (16, 8), (24, 8)]
  | 0x0201 => some [(0, 1), (4, 4), (8, 4), (16, 8)]
  | 0x0202 => some [(0, 4), (8, 8)]
  | 0x0203 => some [(0, 4), (4, 4), (8, 8), (16, 8)]
  | 0x0204 => some [(0, 4), (8, 8)]
  | 0x0205 => some [(0, 1), (4, 4)]
  | 0x0206 => some [(0, 8), (8, 4)]
  | 0x0207 => some [(8, 8)]
  | 0x0300 => some [(0, 1), (1, 1), (2, 2), (4, 1), (8, 4), (12, 4)]
  | 0x0301 => some [(0, 2), (2, 1), (3, 1), (4, 4), (8, 8), (16, 4)]
  | 0x0302 => some [(0, 2), (2, 1), (4, 4)]
  | 0x0303 => some [(0, 2), (2, 1)]
  | 0x0304 => some [(0, 2), (4, 4), (8, 4), (12, 4)]
  | 0x0305 => some [(8, 8)]
  | 0x0400 => some [(0, 2), (4, 4), (8, 1)]
  | 0x0401 => some [(0, 2)]
  | 0x0402 => some [(0, 1), (1, 1)]
  | 0x0403 => some [(0, 1), (1, 1), (2, 4), (8, 4)]
  | 0x0404 => some [(0, 8), (8, 1)]
  | 0x0405 => some [(0, 1), (4, 4)]
  | 0x0406 => some [(8, 8)]
  | 0x0500 => some [(8, 8), (16, 4)]
  | 0x0501 => some [(0, 4), (4, 4), (8, 1)]
  | 0x0502 => some [(0, 2)]
  | 0x0503 => some [(0, 4), (4, 4)]
  | 0x0504 => some [(0, 1), (8, 8)]
  | 0x0505 => some [(4, 4), (8, 4)]
  | 0x0600 => some [(0, 2), (2, 2), (4, 4), (8, 8), (16, 4), (24, 4), (28, 4)]
  | 0x0601 => some [(0, 2), (4, 28)]
  | 0x0602 => some [(0, 2)]
  | 0x0603 => some [(0, 2), (2, 1), (3, 1), (4, 4), (8, 4)]
  | 0x0604 => some [(0, 2), (2, 1)]
  | 0x0700 => some [(0, 1), (1, 1)]
  | 0x0701 => some [(0, 1), (1, 1), (8, 8)]
  | 0x0702 => some [(0, 1), (1, 1), (2, 1), (4, 4)]
  | 0x0703 => some [(0, 1), (4, 2), (6, 2), (8, 8)]
  | 0x0704 => some [(0, 1), (4, 4), (8, 4), (12, 1)]
  | 0x0800 => some [(0, 1), (8, 8), (16, 8), (24, 4)]
  | 0x0801 => some [(8, 8)]
  | 0x0802 => some [(0, 1), (8, 8)]
  | 0x0900 => some [(0, 1), (4, 4)]
  | 0x0901 => some [(0, 4), (4, 4), (8, 8), (16, 4)]
  | 0x0902 => some [(0, 48)]
  | 0x0903 => some [(0, 1)]
  | 0x0904 => some [(0, 1)]
  | 0x0905 => some [(0, 1)]
  | 0x0906 => some []
  | 0x0A00 => some [(0, 8), (8, 4), (16, 8)]
  | 0x0A01 => some []
  | 0x0B00 => some [(0, 1), (1, 1), (2, 1), (3, 1), (4, 1), (5, 1), (8, 8), (16, fieldAt p 3 1)]
  | 0x0B01 => some [(0, 1), (1, 1), (2, 1), (3, 1), (4, 1)]
  | 0x0C00 => some [(0, 4), (4, 4), (8, 8)]
  | 0x0C01 => some [(0, 4), (4, 4), (8, 8)]
  | 0x0D00 => some []
  | 0x0D01 => some [(4, 4)]
  | 0x0D02 => some [(0, 1), (4, 4)]
  | 0x0D03 => some [(0, 1)]
  | _ => none

/-- A command from its opcode, its header and its parameter bytes (R272, R283 to R291). -/
def decodeParams (op : Nat) (h : CmdHdr) (p : List Byte) : Option Instr :=
  match op with
  | 0x0000 => some (.admNop h)
  | 0x0001 => some (.admRingCreate h (fieldAt p 0 2) (ringDescAt p 8))
  | 0x0002 => some (.admRingDelete h (fieldAt p 0 2))
  | 0x0003 => some (.admRingReset h (fieldAt p 0 2))
  | 0x0004 => some (.admRingQuery h (fieldAt p 0 2) (fieldAt p 8 8))
  | 0x0005 => some (.admRingSubscribe h (fieldAt p 0 2) (fieldAt p 4 4) (fieldAt p 8 1))
  | 0x0006 => some (.admHealth h)
  | 0x0007 => some (.admEntropy h (fieldAt p 0 1))
  | 0x0100 => some (.govSetCap h (fieldAt p 0 1) (fieldAt p 4 4))
  | 0x0101 => some (.govSetSlope h (fieldAt p 0 1) (fieldAt p 4 4) (fieldAt p 8 4))
  | 0x0102 => some (.govSetPriority h (fieldAt p 0 1) (fieldAt p 1 1))
  | 0x0103 => some (.govSetGain h (fieldAt p 0 1) (fieldAt p 4 4))
  | 0x0104 => some (.govSetModel h (fieldAt p 0 1) (fieldAt p 1 1))
  | 0x0105 => some (.govLoadWeights h (fieldAt p 0 1) (fieldAt p 1 1) (fieldAt p 2 2) (fieldAt p 4 2) (fieldAt p 8 8) (fieldAt p 16 4) (fieldAt p 20 4))
  | 0x0106 => some (.govSetSafeDensity h (fieldAt p 0 1) (fieldAt p 1 1))
  | 0x0107 => some (.govSetOversub h (fieldAt p 4 4))
  | 0x0108 => some (.govSetLimits h (fieldAt p 0 1) (fieldAt p 1 1) (fieldAt p 4 4))
  | 0x0109 => some (.govSetRunahead h (fieldAt p 0 1) (fieldAt p 1 1) (fieldAt p 4 4) (fieldAt p 8 4))
  | 0x010A => some (.govSetEscalation h (fieldAt p 4 4) (fieldAt p 8 4) (fieldAt p 12 4) (fieldAt p 16 1))
  | 0x010B => some (.govParkAck h (fieldAt p 0 1))
  | 0x010C => some (.govUnpark h (fieldAt p 0 1))
  | 0x010D => some (.govSetTelemetry h (fieldAt p 4 4))
  | 0x010E => some (.govSetOp h (fieldAt p 0 1) (fieldAt p 1 1) (fieldAt p 4 4))
  | 0x010F => some (.govSetDroop h (fieldAt p 0 1) (fieldAt p 1 1) (fieldAt p 2 1) (fieldAt p 4 4) (fieldAt p 8 4) (fieldAt p 12 4))
  | 0x0110 => some (.govSetMargin h (fieldAt p 0 1) (fieldAt p 1 1) (BitVec.ofNat 32 (fieldAt p 4 4)))
  | 0x0111 => some (.govTrimReset h (fieldAt p 0 1))
  | 0x0112 => some (.govStatus h (fieldAt p 0 1) (fieldAt p 8 8))
  | 0x0200 => some (.gridSetTarget h (BitVec.ofNat 32 (fieldAt p 0 4)) (fieldAt p 4 4) (fieldAt p 8 4) (fieldAt p 16 8) (fieldAt p 24 8))
  | 0x0201 => some (.gridSetCurve h (fieldAt p 0 1) (fieldAt p 4 4) (fieldAt p 8 4) (fieldAt p 16 8))
  | 0x0202 => some (.gridSetFreq h (signed 32 (fieldAt p 0 4)) (fieldAt p 8 8))
  | 0x0203 => some (.gridPark h (BitVec.ofNat 32 (fieldAt p 0 4)) (fieldAt p 4 4) (fieldAt p 8 8) (fieldAt p 16 8))
  | 0x0204 => some (.gridUnpark h (BitVec.ofNat 32 (fieldAt p 0 4)) (fieldAt p 8 8))
  | 0x0205 => some (.gridSetSource h (fieldAt p 0 1) (fieldAt p 4 4))
  | 0x0206 => some (.gridSetPark h (BitVec.ofNat 64 (fieldAt p 0 8)) (fieldAt p 8 4))
  | 0x0207 => some (.gridStatus h (fieldAt p 8 8))
  | 0x0300 => some (.coolSetZone h (fieldAt p 0 1) (fieldAt p 1 1) (fieldAt p 2 2) (fieldAt p 4 1) (signed 32 (fieldAt p 8 4)) (signed 32 (fieldAt p 12 4)))
  | 0x0301 => some (.coolSetSensor h (fieldAt p 0 2) (fieldAt p 2 1) (fieldAt p 3 1) (signed 32 (fieldAt p 4 4)) (fieldAt p 8 8) (fieldAt p 16 4))
  | 0x0302 => some (.coolSetDrive h (fieldAt p 0 2) (fieldAt p 2 1) (fieldAt p 4 4))
  | 0x0303 => some (.coolSetValve h (fieldAt p 0 2) (fieldAt p 2 1))
  | 0x0304 => some (.coolSetInput h (fieldAt p 0 2) (fieldAt p 4 4) (fieldAt p 8 4) (fieldAt p 12 4))
  | 0x0305 => some (.coolStatus h (fieldAt p 8 8))
  | 0x0400 => some (.pwrSetTrip h (fieldAt p 0 2) (fieldAt p 4 4) (fieldAt p 8 1))
  | 0x0401 => some (.pwrResetTrip h (fieldAt p 0 2))
  | 0x0402 => some (.pwrBranch h (fieldAt p 0 1) (fieldAt p 1 1))
  | 0x0403 => some (.pwrSetRail h (fieldAt p 0 1) (fieldAt p 1 1) (parentsAt p 2) (fieldAt p 8 4))
  | 0x0404 => some (.pwrRailCtrl h (BitVec.ofNat 64 (fieldAt p 0 8)) (fieldAt p 8 1))
  | 0x0405 => some (.pwrSetWarn h (fieldAt p 0 1) (signed 32 (fieldAt p 4 4)))
  | 0x0406 => some (.pwrStatus h (fieldAt p 8 8))
  | 0x0500 => some (.easelLoad h (fieldAt p 8 8) (fieldAt p 16 4))
  | 0x0501 => some (.easelBind h (fieldAt p 0 4) (fieldAt p 4 4) (fieldAt p 8 1))
  | 0x0502 => some (.easelUnbind h (fieldAt p 0 2))
  | 0x0503 => some (.easelDelete h (fieldAt p 0 4) (fieldAt p 4 4))
  | 0x0504 => some (.easelStatus h (fieldAt p 0 1) (fieldAt p 8 8))
  | 0x0505 => some (.easelConfig h (fieldAt p 4 4) (fieldAt p 8 4))
  | 0x0600 => some (.handLoad h (fieldAt p 0 2) (fieldAt p 2 2) (fieldAt p 4 4) (fieldAt p 8 8) (fieldAt p 16 4) (fieldAt p 24 4) (fieldAt p 28 4))
  | 0x0601 => some (.handStart h (fieldAt p 0 2) (regsAt p 4))
  | 0x0602 => some (.handStop h (fieldAt p 0 2))
  | 0x0603 => some (.handConfig h (fieldAt p 0 2) (fieldAt p 2 1) (fieldAt p 3 1) (fieldAt p 4 4) (fieldAt p 8 4))
  | 0x0604 => some (.handStatus h (fieldAt p 0 2) (fieldAt p 2 1))
  | 0x0700 => some (.bistRun h (fieldAt p 0 1) (fieldAt p 1 1))
  | 0x0701 => some (.bistResult h (fieldAt p 0 1) (fieldAt p 1 1) (fieldAt p 8 8))
  | 0x0702 => some (.repairApply h (fieldAt p 0 1) (fieldAt p 1 1) (fieldAt p 2 1) (fieldAt p 4 4))
  | 0x0703 => some (.granStatus h (fieldAt p 0 1) (fieldAt p 4 2) (fieldAt p 6 2) (fieldAt p 8 8))
  | 0x0704 => some (.granConfig h (fieldAt p 0 1) (fieldAt p 4 4) (fieldAt p 8 4) (fieldAt p 12 1))
  | 0x0800 => some (.fabGlobal h (fieldAt p 0 1) (BitVec.ofNat 64 (fieldAt p 8 8)) (fieldAt p 16 8) (fieldAt p 24 4))
  | 0x0801 => some (.fabStatus h (fieldAt p 8 8))
  | 0x0802 => some (.fabConfig h (fieldAt p 0 1) (fieldAt p 8 8))
  | 0x0900 => some (.updBegin h (fieldAt p 0 1) (fieldAt p 4 4))
  | 0x0901 => some (.updBlock h (fieldAt p 0 4) (fieldAt p 4 4) (fieldAt p 8 8) (BitVec.ofNat 32 (fieldAt p 16 4)))
  | 0x0902 => some (.updCommit h (fieldAt p 0 48))
  | 0x0903 => some (.updConfirm h (fieldAt p 0 1))
  | 0x0904 => some (.updLock h (fieldAt p 0 1))
  | 0x0905 => some (.updAbort h (fieldAt p 0 1))
  | 0x0906 => some (.updStatus h)
  | 0x0A00 => some (.logRead h (fieldAt p 0 8) (fieldAt p 8 4) (fieldAt p 16 8))
  | 0x0A01 => some (.logStatus h)
  | 0x0B00 => some (.twXfer h (fieldAt p 0 1) (fieldAt p 1 1) (fieldAt p 2 1) (fieldAt p 3 1) (fieldAt p 4 1) (fieldAt p 5 1) (fieldAt p 8 8) ((p.drop 16).take (fieldAt p 3 1)))
  | 0x0B01 => some (.twConfig h (fieldAt p 0 1) (fieldAt p 1 1) (fieldAt p 2 1) (fieldAt p 3 1) (fieldAt p 4 1))
  | 0x0C00 => some (.calRead h (fieldAt p 0 4) (fieldAt p 4 4) (fieldAt p 8 8))
  | 0x0C01 => some (.calWrite h (fieldAt p 0 4) (fieldAt p 4 4) (fieldAt p 8 8))
  | 0x0D00 => some (.bayStatus h)
  | 0x0D01 => some (.bayHandover h (fieldAt p 4 4))
  | 0x0D02 => some (.bayConfig h (fieldAt p 0 1) (fieldAt p 4 4))
  | 0x0D03 => some (.bayRestart h (fieldAt p 0 1))
  | _ => none

/-- The reserved bits of PARAM byte i inside a ring descriptor at offset 8: word 2 [34:24] and word 3 [31:0] (R258). -/
def descRsvMask (i : Nat) : Nat := if i = 27 || (32 ≤ i && i < 36) then 0xFF else if i = 28 then 7 else 0

/-- PARAM offset of the first byte that R274 or R258 requires to be 0 and is not: at or beyond PLEN, in no field, or with a reserved
bit of a ring descriptor set. -/
def firstReserved (op plen : Nat) (p : List Byte) : Option Nat :=
  (List.range 48).find? fun i =>
    (fieldAt p i 1 != 0 && (plen ≤ i || !((commandFields op p).getD []).any fun f => f.1 ≤ i && i < f.1 + f.2)) ||
      (op == 1 && fieldAt p i 1 &&& descRsvMask i != 0)

/-- The command that one 64-byte entry spells (R272); none for an opcode that is in no table. The ring is the one it was fetched
from, and the buffer is what the owner read of it (R277). -/
def decodeCommand (ring : Nat) (e : RawEntry) : Option Instr :=
  let bs := wordsBytes e.words
  let w0 := fieldAt bs 0 8
  let w1 := fieldAt bs 8 8
  let p := bs.drop 16
  let op := field w0 0 16
  decodeParams op { ring := ring, seq := BitVec.ofNat 32 (field w0 32 32), opt := BitVec.ofNat 8 (field w0 24 8), plen := field w1 0 16
                    rsvAt := firstReserved op (field w1 0 16) p, rsvHdr := field w0 16 8 != 0 || field w1 16 48 != 0, buf := e.buf } p

/-! ### Barn instructions -/

/-- An R-format word's constructor by fn: ADD to MAX in the order of R183. -/
def decodeR (bay hand rd rs1 rs2 fn : Nat) : Option Instr :=
  match fn with
  | 0x00 => some (.add bay hand rd rs1 rs2)
  | 0x01 => some (.sub bay hand rd rs1 rs2)
  | 0x02 => some (.and bay hand rd rs1 rs2)
  | 0x03 => some (.or bay hand rd rs1 rs2)
  | 0x04 => some (.xor bay hand rd rs1 rs2)
  | 0x05 => some (.shl bay hand rd rs1 rs2)
  | 0x06 => some (.shr bay hand rd rs1 rs2)
  | 0x07 => some (.sra bay hand rd rs1 rs2)
  | 0x08 => some (.slt bay hand rd rs1 rs2)
  | 0x09 => some (.sltu bay hand rd rs1 rs2)
  | 0x0A => some (.mul bay hand rd rs1 rs2)
  | 0x0B => some (.mulh bay hand rd rs1 rs2)
  | 0x0C => some (.mulhu bay hand rd rs1 rs2)
  | 0x0D => some (.min bay hand rd rs1 rs2)
  | 0x0E => some (.max bay hand rd rs1 rs2)
  | _ => none

/-- Arithmetic: format R under op code 0x00, and the forms with an immediate, op codes 0x00 to 0x0F. -/
def decodeImm (bay hand w : Nat) : Option Instr :=
  let a := field w 22 4
  let b := field w 18 4
  let c := field w 14 4
  let i18 := BitVec.ofNat 18 (field w 0 18)
  let i22 := BitVec.ofNat 22 (field w 0 22)
  match field w 26 4 with
  | 0x0 => if field w 6 8 = 0 then decodeR bay hand a b c (field w 0 6) else none
  | 0x1 => some (.addi bay hand a b i18)
  | 0x2 => some (.andi bay hand a b i18)
  | 0x3 => some (.ori bay hand a b i18)
  | 0x4 => some (.xori bay hand a b i18)
  | 0x5 => if field w 5 13 = 0 then some (.shli bay hand a b i18) else none
  | 0x6 => if field w 5 13 = 0 then some (.shri bay hand a b i18) else none
  | 0x7 => if field w 5 13 = 0 then some (.srai bay hand a b i18) else none
  | 0x8 => some (.slti bay hand a b i18)
  | 0x9 => some (.lui bay hand a i22)
  | _ => none

/-- Loads, stores and atomics, op codes 0x10 to 0x1F. -/
def decodeMem (bay hand w : Nat) : Option Instr :=
  let a := field w 22 4
  let b := field w 18 4
  let c := field w 14 4
  let i18 := BitVec.ofNat 18 (field w 0 18)
  let i14 := BitVec.ofNat 14 (field w 0 14)
  match field w 26 4 with
  | 0x0 => some (.lw bay hand a b i18 .clean)
  | 0x1 => some (.lhu bay hand a b i18 .clean)
  | 0x2 => some (.sw bay hand a b i18 .clean)
  | 0x3 => some (.sh bay hand a b i18 .clean)
  | 0x4 => if a % 2 = 0 then some (.ld bay hand a b i18 .clean) else none
  | 0x5 => if a % 2 = 0 then some (.sd bay hand a b i18 .clean) else none
  | 0x8 => some (.aadd bay hand a b c i14 .clean)
  | 0x9 => if a % 2 = 0 && c % 2 = 0 then some (.aadd64 bay hand a b c i14 .clean) else none
  | 0xA => some (.aswp bay hand a b c i14 .clean)
  | _ => none

/-- Branches and jumps, op codes 0x20 to 0x2F. -/
def decodeJump (bay hand w : Nat) : Option Instr :=
  let a := field w 22 4
  let b := field w 18 4
  let i18 := BitVec.ofNat 18 (field w 0 18)
  let i22 := BitVec.ofNat 22 (field w 0 22)
  match field w 26 4 with
  | 0x0 => some (.beq bay hand a b i18)
  | 0x1 => some (.bne bay hand a b i18)
  | 0x2 => some (.blt bay hand a b i18)
  | 0x3 => some (.bge bay hand a b i18)
  | 0x4 => some (.bltu bay hand a b i18)
  | 0x5 => some (.bgeu bay hand a b i18)
  | 0x6 => some (.jal bay hand a i22)
  | 0x7 => some (.jalr bay hand a b i18)
  | _ => none

/-- Events, ports, timers, checkpoints and the hand itself, op codes 0x30 to 0x3F. -/
def decodeSystem (bay hand w : Nat) : Option Instr :=
  let a := field w 22 4
  let b := field w 18 4
  let c := field w 14 4
  let i18 := BitVec.ofNat 18 (field w 0 18)
  match field w 26 4 with
  | 0x0 => if b = 0 && field w 8 10 = 0 && field w 0 8 ≠ 0 then some (.wait bay hand a b i18) else none
  | 0x1 => if field w 0 3 < 7 && a = 0 && field w 3 15 = 0 then some (.evb bay hand a b i18) else none
  | 0x2 => if field w 0 3 < 7 && a = 0 && field w 3 15 = 0 then some (.sig bay hand a b i18) else none
  | 0x4 => if field w 0 18 = 0 then some (.twi bay hand a b i18) else none
  | 0x5 => if field w 6 8 = 0 && field w 1 5 = 0 then some (.lsend bay hand a b c (BitVec.ofNat 6 (field w 0 6))) else none
  | 0x8 => if field w 0 2 ≠ 3 && a = 0 && field w 2 16 = 0 then some (.tset bay hand a b i18) else none
  | 0x9 => if a % 2 = 0 && b = 0 && field w 0 18 = 0 then some (.time bay hand a b i18) else none
  | 0xA => if a = 0 && b = 0 && field w 10 8 = 0 then some (.yieldHand bay hand a b i18) else none
  | 0xC => if a = 0 && b = 0 && field w 1 17 = 0 then some (.ckpt bay hand a b i18) else none
  | 0xD => if a = 0 && b = 0 && field w 0 18 = 0 then some (.halt bay hand a b i18) else none
  | 0xE => if b = 0 && field w 4 14 = 0 && field w 0 4 < 8 then some (.self bay hand a b i18) else none
  | _ => none

/-- The Barn instruction that a 32-bit word spells for a hand of a bay: none for an encoding that is in no table, that has a
reserved bit set, or that names an odd register where R183 wants an even one. -/
def decodeBarn (bay hand : Nat) (word : Word32) : Option Instr :=
  match field word.toNat 30 2 with
  | 0 => decodeImm bay hand word.toNat
  | 1 => decodeMem bay hand word.toNat
  | 2 => decodeJump bay hand word.toNat
  | _ => decodeSystem bay hand word.toNat

/-- An instruction word of format R, A or S, I and B alike, from its fields (R183). -/
def barnWord (op a b low : Nat) : Word32 := BitVec.ofNat 32 (op % 64 * 2 ^ 26 + a % 16 * 2 ^ 22 + b % 16 * 2 ^ 18 + low % 2 ^ 18)

/-- An instruction word of format R, under op code 0, from its fields (R183). -/
def barnWordR (rd rs1 rs2 fn : Nat) : Word32 := barnWord 0 rd rs1 (rs2 % 16 * 2 ^ 14 + fn % 2 ^ 6)

/-- The word of a Barn instruction (R183); none for the other commands, which no Barn word spells. -/
def encodeBarn (i : Instr) : Option Word32 :=
  match i with
  | .add _ _ rd rs1 rs2 => some (barnWordR rd rs1 rs2 0)
  | .sub _ _ rd rs1 rs2 => some (barnWordR rd rs1 rs2 1)
  | .and _ _ rd rs1 rs2 => some (barnWordR rd rs1 rs2 2)
  | .or _ _ rd rs1 rs2 => some (barnWordR rd rs1 rs2 3)
  | .xor _ _ rd rs1 rs2 => some (barnWordR rd rs1 rs2 4)
  | .shl _ _ rd rs1 rs2 => some (barnWordR rd rs1 rs2 5)
  | .shr _ _ rd rs1 rs2 => some (barnWordR rd rs1 rs2 6)
  | .sra _ _ rd rs1 rs2 => some (barnWordR rd rs1 rs2 7)
  | .slt _ _ rd rs1 rs2 => some (barnWordR rd rs1 rs2 8)
  | .sltu _ _ rd rs1 rs2 => some (barnWordR rd rs1 rs2 9)
  | .mul _ _ rd rs1 rs2 => some (barnWordR rd rs1 rs2 10)
  | .mulh _ _ rd rs1 rs2 => some (barnWordR rd rs1 rs2 11)
  | .mulhu _ _ rd rs1 rs2 => some (barnWordR rd rs1 rs2 12)
  | .min _ _ rd rs1 rs2 => some (barnWordR rd rs1 rs2 13)
  | .max _ _ rd rs1 rs2 => some (barnWordR rd rs1 rs2 14)
  | .addi _ _ rd rs1 imm => some (barnWord 0x01 rd rs1 imm.toNat)
  | .andi _ _ rd rs1 imm => some (barnWord 0x02 rd rs1 imm.toNat)
  | .ori _ _ rd rs1 imm => some (barnWord 0x03 rd rs1 imm.toNat)
  | .xori _ _ rd rs1 imm => some (barnWord 0x04 rd rs1 imm.toNat)
  | .shli _ _ rd rs1 imm => some (barnWord 0x05 rd rs1 imm.toNat)
  | .shri _ _ rd rs1 imm => some (barnWord 0x06 rd rs1 imm.toNat)
  | .srai _ _ rd rs1 imm => some (barnWord 0x07 rd rs1 imm.toNat)
  | .slti _ _ rd rs1 imm => some (barnWord 0x08 rd rs1 imm.toNat)
  | .lui _ _ rd imm => some (BitVec.ofNat 32 (0x09 * 2 ^ 26 + rd % 16 * 2 ^ 22 + imm.toNat))
  | .lw _ _ rd rs1 imm _ => some (barnWord 0x10 rd rs1 imm.toNat)
  | .lhu _ _ rd rs1 imm _ => some (barnWord 0x11 rd rs1 imm.toNat)
  | .sw _ _ rs2 rs1 imm _ => some (barnWord 0x12 rs2 rs1 imm.toNat)
  | .sh _ _ rs2 rs1 imm _ => some (barnWord 0x13 rs2 rs1 imm.toNat)
  | .ld _ _ rd rs1 imm _ => some (barnWord 0x14 rd rs1 imm.toNat)
  | .sd _ _ rs2 rs1 imm _ => some (barnWord 0x15 rs2 rs1 imm.toNat)
  | .aadd _ _ rd rs1 rs2 imm _ => some (barnWord 0x18 rd rs1 (rs2 % 16 * 2 ^ 14 + imm.toNat))
  | .aadd64 _ _ rd rs1 rs2 imm _ => some (barnWord 0x19 rd rs1 (rs2 % 16 * 2 ^ 14 + imm.toNat))
  | .aswp _ _ rd rs1 rs2 imm _ => some (barnWord 0x1A rd rs1 (rs2 % 16 * 2 ^ 14 + imm.toNat))
  | .beq _ _ rs1 rs2 off => some (barnWord 0x20 rs1 rs2 off.toNat)
  | .bne _ _ rs1 rs2 off => some (barnWord 0x21 rs1 rs2 off.toNat)
  | .blt _ _ rs1 rs2 off => some (barnWord 0x22 rs1 rs2 off.toNat)
  | .bge _ _ rs1 rs2 off => some (barnWord 0x23 rs1 rs2 off.toNat)
  | .bltu _ _ rs1 rs2 off => some (barnWord 0x24 rs1 rs2 off.toNat)
  | .bgeu _ _ rs1 rs2 off => some (barnWord 0x25 rs1 rs2 off.toNat)
  | .jal _ _ rd imm => some (BitVec.ofNat 32 (0x26 * 2 ^ 26 + rd % 16 * 2 ^ 22 + imm.toNat))
  | .jalr _ _ rd rs1 imm => some (barnWord 0x27 rd rs1 imm.toNat)
  | .wait _ _ rd rs1 imm => some (barnWord 0x30 rd rs1 imm.toNat)
  | .evb _ _ rd rs1 imm => some (barnWord 0x31 rd rs1 imm.toNat)
  | .sig _ _ rd rs1 imm => some (barnWord 0x32 rd rs1 imm.toNat)
  | .twi _ _ rd rs1 imm => some (barnWord 0x34 rd rs1 imm.toNat)
  | .lsend _ _ rd rs1 rs2 fn => some (barnWord 0x35 rd rs1 (rs2 % 16 * 2 ^ 14 + fn.toNat))
  | .tset _ _ rd rs1 imm => some (barnWord 0x38 rd rs1 imm.toNat)
  | .time _ _ rd rs1 imm => some (barnWord 0x39 rd rs1 imm.toNat)
  | .yieldHand _ _ rd rs1 imm => some (barnWord 0x3A rd rs1 imm.toNat)
  | .ckpt _ _ rd rs1 imm => some (barnWord 0x3C rd rs1 imm.toNat)
  | .halt _ _ rd rs1 imm => some (barnWord 0x3D rd rs1 imm.toNat)
  | .self _ _ rd rs1 imm => some (barnWord 0x3E rd rs1 imm.toNat)
  | _ => none

/-- A Barn instruction as its word spells it: whether the word it loads or changes has a flipped bit is no part of the encoding (R183). -/
def spelledBarn (i : Instr) : Instr :=
  match i with
  | .lw bay hand rd rs1 imm _ => .lw bay hand rd rs1 imm .clean
  | .lhu bay hand rd rs1 imm _ => .lhu bay hand rd rs1 imm .clean
  | .sw bay hand rs2 rs1 imm _ => .sw bay hand rs2 rs1 imm .clean
  | .sh bay hand rs2 rs1 imm _ => .sh bay hand rs2 rs1 imm .clean
  | .ld bay hand rd rs1 imm _ => .ld bay hand rd rs1 imm .clean
  | .sd bay hand rs2 rs1 imm _ => .sd bay hand rs2 rs1 imm .clean
  | .aadd bay hand rd rs1 rs2 imm _ => .aadd bay hand rd rs1 rs2 imm .clean
  | .aadd64 bay hand rd rs1 rs2 imm _ => .aadd64 bay hand rd rs1 rs2 imm .clean
  | .aswp bay hand rd rs1 rs2 imm _ => .aswp bay hand rd rs1 rs2 imm .clean
  | i => i

/-! ### The table's words -/

/-- The table of operations and events gives no row any bits, so no word spells a command. -/
def decodeTableWord (_nbits _w : Nat) : Option Instr := none

end Sys2Proof
end

