-- ==== Sys2Proof/Machine/EaselNum.lean ====
section
/-!
DEFINITION. The arithmetic of the Easel: the Palette (R126, R127), rounding (R135, R136), conversion and saturation (R133, R134),
accumulation (R130 to R132), and the radius rules (R140, R141). Finite values are exact rationals.
-/
namespace Sys2Proof.Machine
open Sys2Proof

/-- A value of the Palette: finite, with the sign that a zero carries, infinite, or NaN (R126). -/
inductive Ev where
  | fin (neg : Bool) (q : Rat)
  | inf (neg : Bool)
  | nan
  deriving DecidableEq, Repr

/-- A radius; none is +∞ (R140). -/
abbrev Rd := Option Rat

/-- A midpoint and its radius, with what was seen on the way: an infinity, a NaN, a saturated accumulator (R132, R141, R147). -/
structure Bv where
  m : Ev
  r : Rd := some 0
  inf : Bool := false
  nan : Bool := false
  acc : Bool := false
  deriving DecidableEq, Repr

/-- 2^e. -/
def pow2 (e : Int) : Rat := if 0 ≤ e then ((2 ^ e.toNat : Nat) : Rat) else 1 / ((2 ^ (-e).toNat : Nat) : Rat)

/-- The exponent of the power of two at or below a positive number. -/
def ilog2 (q : Rat) : Int :=
  let e : Int := (Nat.log2 q.num.toNat : Int) - (Nat.log2 q.den : Int)
  if q < pow2 e then e - 1 else e

/-- The magnitude of a rational. -/
def magnitude (q : Rat) : Rat := if q < 0 then -q else q

/-- A finite value without the sign of a zero. -/
def Ev.ofRat (q : Rat) : Ev := .fin (decide (q < 0)) q

/-- The exact number of a finite value; 0 for any other. -/
def Ev.num : Ev → Rat
  | .fin _ q => q
  | _ => 0

/-- A finite value. -/
def Ev.isFin : Ev → Bool
  | .fin _ _ => true
  | _ => false

/-! ### Formats -/

/-- A floating-point format: exponent and mantissa bits, bias, largest finite (R126). -/
structure FloatFmt where
  exp : Nat
  mant : Nat
  bias : Int
  largest : Rat

/-- FP32 (R126). -/
def fp32 : FloatFmt := { exp := 8, mant := 23, bias := 127, largest := (2 - pow2 (-23)) * pow2 127 }

/-- The floating-point formats of the Palette by code (R126). -/
def floatFmt (f : Nat) : FloatFmt :=
  match f with
  | 0x8 => { exp := 2, mant := 1, bias := 1, largest := 6 }
  | 0x9 => { exp := 4, mant := 3, bias := 7, largest := 448 }
  | 0xA => { exp := 5, mant := 2, bias := 15, largest := 57344 }
  | 0xB => { exp := 5, mant := 10, bias := 15, largest := 65504 }
  | 0xC => { exp := 8, mant := 7, bias := 127, largest := (2 - pow2 (-7)) * pow2 127 }
  | _ => fp32

/-- Formats of the integer class (R126, R128); S32 belongs to it though no MATMUL takes it as an operand. -/
def intClass (f : Nat) : Bool := f < 8

/-- Bits of an element (R126); a BS8 element has 8 besides its block's exponent. -/
def fmtBits (f : Nat) : Nat :=
  match f with
  | 0x0 => 4 | 0x1 => 4 | 0x2 => 8 | 0x3 => 8 | 0x4 => 16 | 0x5 => 32 | 0x6 => 16 | 0x7 => 32
  | 0x8 => 4 | 0x9 => 8 | 0xA => 8 | 0xB => 16 | 0xC => 16 | 0xD => 32 | _ => 8

/-- The scale exponent of an integer-class tensor: fixed for the Q formats (R126, R130). -/
def fmtScale (f : Nat) (s : Int) : Int := if f = 6 then -15 else if f = 7 then -16 else s

/-- Smallest and largest code of an integer-class format (R126). -/
def codeRange (f : Nat) : Int × Int :=
  let b := fmtBits f
  if f = 1 || f = 3 then (0, 2 ^ b - 1) else (-(2 ^ (b - 1)), 2 ^ (b - 1) - 1)

/-- The value of a floating-point code (R126). -/
def decodeFloat (f code : Nat) : Ev :=
  let F := floatFmt f
  let neg := code / 2 ^ (F.exp + F.mant) % 2 = 1
  let e := code / 2 ^ F.mant % 2 ^ F.exp
  let m := code % 2 ^ F.mant
  let top := e = 2 ^ F.exp - 1
  if f = 0x9 && top && m = 2 ^ F.mant - 1 then .nan
  else if 0xA ≤ f && top then (if m = 0 then .inf neg else .nan)
  else
    let q := if e = 0 then (m : Rat) * pow2 (1 - F.bias - F.mant) else ((2 ^ F.mant + m : Nat) : Rat) * pow2 (e - F.bias - F.mant)
    .fin neg (if neg then -q else q)

/-- The value of a code, for every format but BS8 (R126). -/
def decodeCode (f : Nat) (s : Int) (code : Nat) : Ev :=
  if intClass f then
    let n : Int := if f = 1 || f = 3 then (code : Int) else signed (fmtBits f) code
    .ofRat ((n : Rat) * pow2 (fmtScale f s))
  else decodeFloat f code

/-- The value of a BS8 mantissa under its block's exponent (R127). -/
def decodeBs8 (x m : Nat) : Ev := if x = 255 then .nan else .ofRat ((signed 8 m : Rat) * pow2 ((x : Int) - 127))

/-- The code of a value that the format holds exactly; the canonical NaN (R126). -/
def encodeFloat (f : Nat) (v : Ev) : Nat :=
  let F := floatFmt f
  let sgn (neg : Bool) := if neg then 2 ^ (F.exp + F.mant) else 0
  match v with
  | .nan => match f with | 0x8 => 0 | 0x9 => 0x7F | 0xA => 0x7F | 0xB => 0x7E00 | 0xC => 0x7FC0 | _ => 0x7FC00000
  | .inf neg => sgn neg + (2 ^ F.exp - 1) * 2 ^ F.mant
  | .fin neg q =>
    let a := magnitude q
    if a = 0 then sgn neg
    else
      let e := if 1 - F.bias ≤ ilog2 a then ilog2 a else 1 - F.bias
      let m := (a * pow2 (F.mant - e)).floor.toNat
      sgn neg + (if m < 2 ^ F.mant then m else (e + F.bias).toNat * 2 ^ F.mant + (m - 2 ^ F.mant))

/-! ### Rounding -/

/-- A magnitude in steps, rounded by RMODE with a 16-bit draw: 0 nearest even, 1 toward zero, 2 stochastic (R135). -/
def roundSteps (mode draw : Nat) (x : Rat) : Nat :=
  let n := x.floor.toNat
  let fr := x - n
  match mode with
  | 1 => n
  | 2 => if draw < (fr * 65536).floor.toNat then n + 1 else n
  | _ => if 1 / 2 < fr || (fr = 1 / 2 && n % 2 = 1) then n + 1 else n

/-- The step of a floating-point format at a positive magnitude (R126). -/
def FloatFmt.step (F : FloatFmt) (a : Rat) : Rat := pow2 ((if 1 - F.bias ≤ ilog2 a then ilog2 a else 1 - F.bias) - F.mant)

/-- A magnitude rounded to a floating-point format without regard to its largest value. -/
def FloatFmt.round (F : FloatFmt) (mode draw : Nat) (a : Rat) : Rat :=
  if a = 0 then 0 else (roundSteps mode draw (a / F.step a) : Rat) * F.step a

/-- A finite result rounded to FP32, with the magnitude of the error; a result beyond the largest is infinite, but the largest when
rounding toward zero (R131, R135). -/
def round32 (mode draw : Nat) (neg0 : Bool) (q : Rat) : Ev × Rat :=
  let a := fp32.round mode draw (magnitude q)
  let neg := if q = 0 then neg0 else decide (q < 0)
  if fp32.largest < a then
    if mode = 1 then (.fin neg (if neg then -fp32.largest else fp32.largest), magnitude q - fp32.largest) else (.inf neg, 0)
  else (.fin neg (if neg then -a else a), magnitude (magnitude q - a))

/-! ### Radii -/

/-- A magnitude rounded up to FP32; beyond the largest it is +∞ (R140). -/
def up32 (q : Rat) : Rd :=
  if q ≤ 0 then some 0
  else
    let st := fp32.step q
    let a := ((q / st).ceil : Rat) * st
    if fp32.largest < a then none else some a

/-- Sum of radii, rounded up (R140). -/
def Rd.add (a b : Rd) : Rd := match a, b with | some x, some y => up32 (x + y) | _, _ => none

/-- Product of a magnitude and a radius, rounded up (R140). -/
def Rd.scale (k : Rat) (a : Rd) : Rd := match a with | some x => up32 (magnitude k * x) | none => none

/-- Product of radii, rounded up (R140). -/
def Rd.mul (a b : Rd) : Rd := match a, b with | some x, some y => up32 (x * y) | _, _ => none

/-- The larger of two radii. -/
def Rd.max (a b : Rd) : Rd := match a, b with | some x, some y => some (if x ≤ y then y else x) | _, _ => none

/-- A stored radius: binary16 rounded up, +∞ above 65,504 (R140). -/
def radCode (r : Rd) : Nat :=
  match r with
  | none => 0x7C00
  | some q =>
    if q ≤ 0 then 0
    else
      let F := floatFmt 0xB
      let a := ((q / F.step q).ceil : Rat) * F.step q
      if F.largest < a then 0x7C00 else encodeFloat 0xB (.fin false a)

/-- The radius that a stored code spells. -/
def radOf (code : Nat) : Rd := match decodeFloat 0xB code with | .fin _ q => some q | _ => none

/-- A radius as FP32 code, rounded up (R140, R160). -/
def rad32 (r : Rd) : Word32 :=
  match r with
  | none => 0x7F800000#32
  | some q => match up32 q with | some x => BitVec.ofNat 32 (encodeFloat 0xD (.fin false x)) | none => 0x7F800000#32

/-- The radius an FP32 code spells; a NaN is +∞ (R138, R140). -/
def radOf32 (w : Word32) : Rd := match decodeFloat 0xD w.toNat with | .fin _ q => some (magnitude q) | _ => none

/-! ### Operations on values with their radii -/

/-- The arithmetic of an operation: integer class with its scale exponent, with Q16.16 rounding of products, or float class with the
mode and draw of its rounding (R130, R131, R135). -/
inductive Arith where
  | int (scale : Int) (q16 : Bool)
  | flt (mode draw : Nat)
  deriving DecidableEq, Repr

/-- What either operand has seen. -/
def Bv.seen (a b : Bv) (v : Bv) : Bv :=
  { v with inf := a.inf || b.inf || v.m matches .inf _, nan := a.nan || b.nan || v.m matches .nan, acc := a.acc || b.acc || v.acc }

/-- The sign of a finite or infinite value. -/
def Ev.neg : Ev → Bool
  | .fin n _ => n
  | .inf n => n
  | .nan => false

/-- A product (R130, R131, R132, R141). -/
def Bv.mul (k : Arith) (a b : Bv) : Bv :=
  a.seen b <|
  match a.m, b.m with
  | .nan, _ => { m := .nan, r := none }
  | _, .nan => { m := .nan, r := none }
  | .fin na x, .fin nb y =>
    let base := Rd.add (Rd.add (Rd.scale x b.r) (Rd.scale y a.r)) (Rd.mul a.r b.r)
    match k with
    | .int _ false => { m := .ofRat (x * y), r := base }
    | .int _ true =>
      let n : Int := (roundSteps 0 0 (magnitude (x * y) * 65536) : Int)
      let n := if x * y < 0 then -n else n
      let n := if n < -(2 ^ 31) then -(2 ^ 31) else if 2 ^ 31 - 1 < n then 2 ^ 31 - 1 else n
      let q : Rat := (n : Rat) / 65536
      { m := .ofRat q, r := Rd.add base (some (magnitude (x * y - q))) }
    | .flt mode draw =>
      let p := round32 mode draw (na != nb) (x * y)
      { m := p.1, r := if p.1.isFin then Rd.add base (some p.2) else none }
  | u, v => { m := if u.num = 0 && u.isFin || v.num = 0 && v.isFin then .nan else .inf (u.neg != v.neg), r := none }

/-- A sum: an integer sum is held at the ends of the S32 range and marks the accumulator; a float sum is rounded (R130 to R132, R141). -/
def Bv.add (k : Arith) (a b : Bv) : Bv :=
  a.seen b <|
  match a.m, b.m with
  | .nan, _ => { m := .nan, r := none }
  | _, .nan => { m := .nan, r := none }
  | .fin na x, .fin nb y =>
    let base := Rd.add a.r b.r
    match k with
    | .int sc _ =>
      let hi := ((2 ^ 31 - 1 : Int) : Rat) * pow2 sc
      let lo := ((-(2 ^ 31) : Int) : Rat) * pow2 sc
      if hi < x + y then { m := .ofRat hi, r := none, acc := true }
      else if x + y < lo then { m := .ofRat lo, r := none, acc := true }
      else { m := .ofRat (x + y), r := base }
    | .flt mode draw =>
      let p := round32 mode draw (na && nb) (x + y)
      { m := p.1, r := if p.1.isFin then Rd.add base (some p.2) else none }
  | .inf n, .inf n' => { m := if n = n' then .inf n else .nan, r := none }
  | .inf n, _ => { m := .inf n, r := none }
  | _, .inf n => { m := .inf n, r := none }

/-- Negation (R141). -/
def Bv.negate (a : Bv) : Bv :=
  { a with m := match a.m with | .fin n q => .fin (!n) (-q) | .inf n => .inf (!n) | .nan => .nan }

/-- Absolute value (R141). -/
def Bv.absolute (a : Bv) : Bv :=
  { a with m := match a.m with | .fin _ q => .fin false (magnitude q) | .inf _ => .inf false | .nan => .nan }

/-- Exact zero, the start of a sum. -/
def Bv.zero : Bv := { m := .fin false 0 }

/-- Neighbours added in pairs, low index first (R123). -/
def pairUp (k : Arith) (l : List Bv) : List Bv :=
  match l with
  | a :: b :: r => Bv.add k a b :: pairUp k r
  | l => l

/-- Sixteen products added by the fixed adder tree (R123). -/
def treeSum (k : Arith) (l : List Bv) : Bv :=
  let l := (List.range 16).map fun i => l.getD i .zero
  (pairUp k (pairUp k (pairUp k (pairUp k l)))).headD .zero

/-- A list cut into pieces of n. -/
def pieces {α : Type} (n : Nat) (l : List α) : List (List α) :=
  (List.range ((l.length + n - 1) / n)).map fun i => (l.drop (i * n)).take n

/-- The tree adds within exact integers wide enough for any sixteen products; the accumulator alone saturates (R123, R130). -/
def Arith.tree : Arith → Arith
  | .int sc q => .int (sc + 64) q
  | k => k

/-- A row accumulator over its products, tile by tile in ascending order (R123); with two elements a cell a tile holds 32 (R129). -/
def rowSum (k : Arith) (double : Bool) (ps : List Bv) : Bv :=
  (pieces (if double then 32 else 16) ps).foldl (fun acc t =>
    Bv.add k acc (treeSum k.tree (if double then pairUp k.tree t else t))) .zero

/-! ### Conversion -/

/-- A conversion's result: value and radius, the code that holds it, whether it saturated, and what the source was (R133). -/
structure Cv where
  v : Bv
  code : Nat := 0
  sat : Bool := false
  deriving DecidableEq, Repr

/-- The radius after a conversion whose midpoint moved by e; a source that was infinite or NaN leaves +∞ (R141). -/
def Bv.moved (a : Bv) (m : Ev) (e : Rat) : Bv :=
  { a with m := m, r := if a.m.isFin then Rd.add a.r (some e) else none, inf := a.inf || a.m matches .inf _, nan := a.nan || a.m matches .nan }

/-- Conversion to an integer or Q format (R133). -/
def convertInt (f : Nat) (s : Int) (mode draw : Nat) (a : Bv) : Cv :=
  let unit := pow2 (fmtScale f s)
  let rng := codeRange f
  let put (n : Int) (sat : Bool) (e : Rat) : Cv := { v := a.moved (.ofRat ((n : Rat) * unit)) e, code := twos (fmtBits f) n, sat := sat }
  match a.m with
  | .nan => put 0 false 0
  | .inf neg => put (if neg then rng.1 else rng.2) false 0
  | .fin _ q =>
    let x := q / unit
    let n : Int := (roundSteps mode draw (magnitude x) : Int)
    let n := if x < 0 then -n else n
    let c := if n < rng.1 then rng.1 else if rng.2 < n then rng.2 else n
    put c ((decide ((rng.2 : Rat) < x) || decide (x < (rng.1 : Rat))) && decide (1 / 2 ≤ magnitude x)) (magnitude (q - (c : Rat) * unit))

/-- Conversion to a floating-point format (R133). -/
def convertFloat (f mode draw : Nat) (a : Bv) : Cv :=
  let F := floatFmt f
  let put (m : Ev) (sat : Bool) (e : Rat) : Cv := { v := a.moved m e, code := encodeFloat f m, sat := sat }
  match a.m with
  | .nan => put (if f = 0x8 then .fin false 0 else .nan) false 0
  | .inf neg => if f ≤ 0x9 then put (.fin neg (if neg then -F.largest else F.largest)) false 0 else put (.inf neg) false 0
  | .fin neg q =>
    let x := magnitude q
    let y := F.round mode draw x
    let y := if F.largest < y then F.largest else y
    put (.fin neg (if neg then -y else y)) (decide (F.largest < x)) (magnitude (x - y))

/-- Conversion to any format but BS8 (R133). -/
def convertTo (f : Nat) (s : Int) (mode draw : Nat) (a : Bv) : Cv :=
  if intClass f then convertInt f s mode draw a else convertFloat f mode draw a

/-- A BS8 element under an exponent: its mantissa before it is held to ±127. -/
def bs8Mant (x mode draw : Nat) (q : Rat) : Int :=
  let n : Int := (roundSteps mode draw (magnitude q / pow2 ((x : Int) - 127)) : Int)
  if q < 0 then -n else n

/-- The exponent of a BS8 block (R134). -/
def bs8Exp (mode : Nat) (vs : List (Bv × Nat)) : Nat :=
  if vs.any fun v => v.1.m matches .nan then 255
  else if vs.all fun v => v.1.m.isFin && v.1.m.num = 0 then 0
  else ((List.range 253).find? fun i => vs.all fun v => v.1.m.isFin && decide ((bs8Mant (i + 1) mode v.2 v.1.m.num).natAbs ≤ 127)).elim 254 (· + 1)

/-- Conversion of one block to BS8: the exponent, and each element's result (R133, R134). -/
def convertBlock (mode : Nat) (vs : List (Bv × Nat)) : Nat × List Cv :=
  let x := bs8Exp mode vs
  (x, vs.map fun v =>
    let a := v.1
    if x = 255 then { v := { a with m := .nan, r := none, nan := true, inf := a.inf || a.m matches .inf _ }, code := 0 }
    else match a.m with
      | .inf neg => { v := a.moved (decodeBs8 x (if neg then 129 else 127)) 0, code := if neg then 129 else 127 }
      | _ =>
        let n := bs8Mant x mode v.2 a.m.num
        let c := if n < -127 then -127 else if 127 < n then 127 else n
        { v := a.moved (decodeBs8 x (twos 8 c)) (magnitude (a.m.num - (c : Rat) * pow2 ((x : Int) - 127))), code := twos 8 c, sat := c != n })

/-- A value as FP32 code, as a governor slot and a status word hold it (R160). -/
def code32 (mode draw : Nat) (a : Bv) : Word32 := BitVec.ofNat 32 (convertFloat 0xD mode draw a).code

/-! ### The stochastic generator -/

/-- One step of a generator lane: x, y, z and w in rising bits (R136). -/
def laneStep (g : BitVec 128) : BitVec 128 :=
  let x := g.setWidth 32
  let y := (g >>> 32).setWidth 32
  let z := (g >>> 64).setWidth 32
  let w := (g >>> 96).setWidth 32
  let t : BitVec 32 := x ^^^ (x <<< 11)
  let w' : BitVec 32 := w ^^^ (w >>> 19) ^^^ t ^^^ (t >>> 8)
  y.setWidth 128 ||| (z.setWidth 128 <<< 32) ||| (w.setWidth 128 <<< 64) ||| (w'.setWidth 128 <<< 96)

/-- The eight draws of one lane in one cycle, low half of each output first, and the lane after it (R136). -/
def laneCycle (g : BitVec 128) : List Nat × BitVec 128 :=
  (List.range 4).foldl (fun p _ =>
    let g := laneStep p.2
    let w := (g >>> 96).toNat
    (p.1 ++ [w % 65536, w / 65536], g)) ([], g)

/-- The 64 draws of a panel's lanes in each of n cycles, cycle after cycle, and the lanes after them (R136). -/
def panelDraws (lanes : List (BitVec 128)) (n : Nat) : List Nat × List (BitVec 128) :=
  (List.range n).foldl (fun p _ =>
    let c := p.2.map laneCycle
    (p.1 ++ c.flatMap (·.1), c.map (·.2))) ([], lanes)

end Sys2Proof.Machine
end

