-- ==== Sys2Proof/Machine/State.lean ====
section
/-!
DEFINITION. The state of the SKH-8816 as plain data: what every die of the package holds, by chapter of the manual, with the
queue of commands that wait and the record of what the controller has driven out. Every field's comment names the rule that
gives it. A table is a list of key and value pairs, keys rising; an absent key reads as the default its accessor names.
-/
namespace Sys2Proof.Machine
open Sys2Proof

/-- A table keyed by number, keys strictly rising. -/
abbrev Tbl (α : Type) := List (Nat × α)

/-- Lane and port states (R42, R299). -/
inductive LaneState where
  | down | train | up
  deriving DecidableEq, Repr

/-- States of an operating-point change (R87). -/
inductive ChgState where
  | idle | stepping | frozen | resuming | halted
  deriving DecidableEq, Repr

/-- Escalation states (R75). -/
inductive EscState where
  | none | saturate | shed | parking | unreachable
  deriving DecidableEq, Repr

/-- Grid sources (R104, R121); byMembership is the default, FABRIC if a member and HOST otherwise. -/
inductive GridSource where
  | byMembership | none | fabric | host | either
  deriving DecidableEq, Repr

/-- Grid states (R115). -/
inductive GridState where
  | following | parkRamp | parkDelay | parkFuses | parked | unparkDelay | unparking
  deriving DecidableEq, Repr

/-- Hand states (R179). -/
inductive HandState where
  | free | loaded | ready | wait | stopped | halted | faulted | held
  deriving DecidableEq, Repr

/-- What a hand in WAIT waits for (R175, R181 to R186). -/
inductive Waiting where
  | access
  | events (mask : BitVec 8) (rd : Nat)
  | yielded (wakeAt : Nat)
  | twoWire (rd : Nat) (buf : Nat) (since : Nat)
  | reply (rd : Nat) (buf : Nat) (since : Nat)
  | mirror (since : Nat)
  | icache (line : Nat)
  deriving DecidableEq, Repr

/-- Phases of a bank self-test (R216). -/
inductive BistPhase where
  | idle | copy | march | restore
  deriving DecidableEq, Repr

/-- Bay states (R230, R250). -/
inductive BState where
  | down | joining | standby | owner | fallow
  deriving DecidableEq, Repr

/-- Steps of a planned handover (R242). -/
inductive HandoverPhase where
  | none | acks | journalled | yielded
  deriving DecidableEq, Repr

/-- What a journal entry carries: a ring command, an internal change or nothing (R234). -/
inductive Work where
  | nothing
  | cmd (i : Instr)
  | change (c : Change)
  deriving DecidableEq, Repr

/-- Ring states (R256, R260). -/
inductive RState where
  | disabled | active | stopped | draining
  deriving DecidableEq, Repr

/-- Fabric states of a node (R306). -/
inductive FState where
  | isolated | claiming | joining | member | reattaching
  deriving DecidableEq, Repr

/-- Rail states (R336). -/
inductive RailState where
  | off | rising | up | falling | fault
  deriving DecidableEq, Repr

/-- Kinds of rail sequence (R347). -/
inductive SeqKind where
  | idle | powerUp | commanded | faultDown | inputLoss | safeFloor
  deriving DecidableEq, Repr

/-- Power channel states (R366, R372, R383). -/
inductive CState where
  | off | ready | inrush | on | tripped | latched | gateFault
  deriving DecidableEq, Repr

/-- One sample of a power channel (R359, R383). -/
structure Sample where
  /-- device time of the sample, ns -/
  time : Nat := 0
  /-- current, mA -/
  current : Int := 0
  /-- voltage, mV -/
  volt : Int := 0
  /-- current that power and energy use: interpolated for a flagged sample, mA (R361) -/
  used : Int := 0
  /-- flagged under R361 -/
  flagged : Bool := false
  deriving DecidableEq, Repr

/-- Drive states of a fan or pump (R396, R406). -/
inductive DState where
  | off | kick | running | stalled | tachLost | disabled
  deriving DecidableEq, Repr

/-- Who issued a two-wire descriptor: a hand, TW_XFER, or the owner's VOUT_COMMAND to a bay regulator (R99, R184, R414). -/
inductive TwIssuer where
  | hand (bay hand : Nat)
  | host (jseq : Nat)
  | vout (bay : Nat) (trim : Int)
  deriving DecidableEq, Repr

/-- Push window states (R433). -/
inductive PwState where
  | held | opened | pushing | verifying | released | fallow
  deriving DecidableEq, Repr

/-- What an Easel stroke asks for, as its 64-byte descriptor fields (R151). -/
structure Stroke where
  words : List Word64 := []
  deriving DecidableEq, Repr

/-- A tensor descriptor (R156). -/
structure Desc where
  words : List Word64 := []
  deriving DecidableEq, Repr

/-- One held grant (R25 grant entry, R31). -/
structure Grant where
  /-- window the grant governs (R25) -/
  gseq : BitVec 32 := 0
  /-- largest rise, W (R25) -/
  rise : Nat := 0
  /-- largest fall of the ballast floor, W (R25) -/
  fall : Nat := 0
  /-- marked committed (R31) -/
  committed : Bool := false
  deriving DecidableEq, Repr

/-- Operating-point entry of the calibration set (R81). -/
structure OpPoint where
  /-- table voltage, 100 uV (L) (R81) -/
  vTable : Nat := 0
  /-- clock frequency, MHz (L) (R81) -/
  fTable : Nat := 0
  /-- factory guardband, 2.5 mV steps (L) (R81) -/
  gbFact : Nat := 0
  /-- entry in use (L) (R81) -/
  valid : Bool := false
  deriving DecidableEq, Repr

/-- The accelerator's side of one stalk (R22 to R44), keyed by slot. -/
structure Accel where
  /-- its branch carries it (world side of BRn_PG) (R366) -/
  powered : Bool := false
  /-- window sequence (R23) -/
  wseq : BitVec 32 := 0
  /-- next temperature slice 0-7 (R24) -/
  tslice : Nat := 0
  /-- newest owner epoch accepted (R24, R28) -/
  epochSeen : BitVec 32 := 0
  /-- latest accepted GSEQ_COMMIT (R31) -/
  gseqCommit : BitVec 32 := 0
  /-- held grants (R31) -/
  grants : List Grant := []
  /-- CSEQ of the last accepted command frame of this epoch (R27) -/
  lastCseq : Option (BitVec 32) := none
  /-- BSEQ of the last accepted burst frame of this epoch (R27) -/
  lastBseq : Option (BitVec 32) := none
  /-- commanded density (R38) -/
  density : Nat := 240
  /-- SAFE_DENSITY held (R38) -/
  safeDensity : Nat := 240
  /-- LAPSED (R38) -/
  lapsed : Bool := true
  /-- lapse density (R33, R37, R38) -/
  lapseDensity : Nat := 240
  /-- device time of the latest accepted command frame (R36) -/
  leaseTime : Nat := 0
  /-- a command frame was accepted in this window (R34) -/
  acceptedThisWindow : Bool := false
  /-- density of the running burst, none when no burst runs (R33, R34) -/
  burstDens : Option Nat := none
  /-- device time at which the burst ends (R34) -/
  burstEnd : Nat := 0
  /-- ballast floor, W (R34) -/
  ballastFloor : Nat := 0
  /-- BALLAST_ON: dummy issue took place in the window (R24) -/
  ballastOn : Bool := false
  /-- QUIESCE of the latest accepted command frame (R25) -/
  quiesce : Bool := false
  /-- QUIESCED (R24, R44) -/
  quiesced : Bool := false
  /-- OP_INDEX (R24) -/
  opIndex : Nat := 0
  /-- OPC_BUSY (R24, R35) -/
  opcBusy : Bool := false
  /-- OPC_FROZEN (R24, R90) -/
  opcFrozen : Bool := false
  /-- OPC_STEP: bit 0 voltage moved, bit 1 frequency moved (R24) -/
  opcStep : Nat := 0
  /-- OP_TARGET of the step under way (R35) -/
  stepTarget : Nat := 0
  /-- the step under way moves the voltage (R35) -/
  stepVolt : Bool := false
  /-- VGB of the step under way (R35) -/
  stepVgb : Int := 0
  /-- point whose table voltage stands (R24, R35) -/
  vIndex : Nat := 0
  /-- VGB included in the voltage that stands (R86) -/
  vVgb : Int := 0
  /-- point whose frequency stands (R24, R35) -/
  fIndex : Nat := 0
  /-- droop flag rose in this window (R24) -/
  droop : Bool := false
  /-- FW_READY (R24, R40) -/
  fwReady : Bool := false
  /-- PUSH_ST (R24, R40) -/
  pushSt : Nat := 0
  /-- PUSH_NEXT (R24, R39) -/
  pushNext : Nat := 0
  /-- the block with LAST has been accepted and the image is being verified (R40) -/
  pushLast : Bool := false
  /-- CF_BAD, saturating (R24) -/
  cfBad : Nat := 0
  /-- draw of window w-1 as the accelerator measures it (R32) -/
  draw : Nat := 0
  deriving DecidableEq, Repr

/-- The controller's receiving end of one stalk lane (R42); keyed by slot*2+bay. -/
structure Lane where
  /-- DOWN, TRAIN, UP (R42) -/
  lstate : LaneState := .down
  /-- block lock gained (R42) -/
  blockLock : Bool := false
  /-- valid counter frames in a row in TRAIN (R42) -/
  goodFrames : Nat := 0
  /-- failed training attempts in a row (R42) -/
  failedAttempts : Nat := 0
  /-- lane reported failed (R42) -/
  failed : Bool := false
  /-- device time the present attempt started (R42) -/
  trainStart : Nat := 0
  /-- device time of the last valid frame (R42) -/
  lastValid : Nat := 0
  /-- frames discarded for CRC (R42) -/
  crcErr : Nat := 0
  /-- WSEQ of the last accepted frame on the lane (R30) -/
  lastWseq : Option (BitVec 32) := none
  deriving DecidableEq, Repr

/-- What a bay holds of a slot's counter frames (R24, R30, R387). -/
structure FrameView where
  /-- latest frame placed (R24) -/
  frame : CounterFrame := {}
  /-- latest temperature points, 1/128 degC; absent no reading (R24, R387) -/
  temps : Tbl Int := []
  /-- device time of each slice's arrival (R387) -/
  tempTime : Tbl Nat := []
  /-- a counter frame has been placed since the branch last closed (R39, R368) -/
  seen : Bool := false
  /-- placed in the present window, the governor has not used it (R51, R69) -/
  fresh : Bool := false
  deriving DecidableEq, Repr

/-- Owner's firmware push to a slot (R39 to R41). -/
structure PushJob where
  /-- a push is under way (R39) -/
  active : Bool := false
  /-- next block to send (R39) -/
  nextBlock : Nat := 0
  /-- device time of block 0 (R40) -/
  startTime : Nat := 0
  /-- failed pushes (R40) -/
  attempts : Nat := 0
  /-- DENSITY 240 is held for the push (R40) -/
  hold240 : Bool := true
  /-- Loft slot the firmware is pushed from (R460) -/
  imageSlot : Nat := 2
  /-- blocks of the image (R39) -/
  nBlocks : Nat := 0
  deriving DecidableEq, Repr

/-- Governor parameters of a slot (R79, R100), keyed by slot; shared by both bays through the journal. -/
structure GovParam where
  /-- Kp, 0.001 (R79) -/
  kp : Nat := 2000
  /-- W per 10 us (R79) -/
  riseSlope : Nat := 450
  /-- W per 10 us (R79) -/
  fallSlope : Nat := 450
  /-- accelerator cap, W (R79) -/
  cap : Nat := 3600
  /-- HEADROOM, W (R79) -/
  headroom : Nat := 180
  /-- PFLOOR, W (R79) -/
  pfloor : Nat := 400
  /-- PFLOOR was set by a command, which precedes the calibration value (R466) -/
  pfloorSet : Bool := false
  /-- critical mark (R79) -/
  critical : Bool := false
  /-- model: linear selected (R79) -/
  linear : Bool := false
  /-- LIN_RADIUS, W (R79) -/
  linRadius : Nat := 72
  /-- RAD_LIMIT, W (R79) -/
  radLimit : Nat := 360
  /-- VRAIL (R79) -/
  vrail : Nat := 0
  /-- LANE_MARGIN, W (R79) -/
  laneMargin : Nat := 360
  /-- run-ahead on (R79) -/
  runAhead : Bool := true
  /-- MISS_TOL, W (R79) -/
  missTol : Nat := 36
  /-- RA_HOLD, windows (R79) -/
  raHold : Nat := 16
  /-- SAFE_DENSITY (R26, R79) -/
  safeDensity : Nat := 160
  /-- OPDN_DENS (R79) -/
  opdnDens : Nat := 128
  /-- OPDN_T, us (R79) -/
  opdnT : Nat := 1000
  /-- OPUP_MARGIN, W (R79) -/
  opupMargin : Nat := 360
  /-- OPUP_T, us (R79) -/
  opupT : Nat := 10000
  /-- OPC_TIMEOUT, us (R100) -/
  opcTimeout : Nat := 200
  /-- DROOP_DENS (R100) -/
  droopDens : Nat := 192
  /-- DROOP_LEN, 250 ns (R100) -/
  droopLen : Nat := 16
  /-- DROOP_RESUME, us (R100) -/
  droopResume : Nat := 50
  /-- DROOP_DI, A per us (R100) -/
  droopDi : Nat := 15
  /-- DROOP_STORM (R100) -/
  droopStorm : Nat := 8
  /-- linear weights, Q16.16 codes (R48) -/
  weights : List Int := []
  /-- s0, Q16.16 (R48) -/
  s0 : Int := 0
  /-- sV, Q16.16 (R48) -/
  sV : Int := 0
  /-- sT, Q16.16 (R48) -/
  sT : Int := 0
  /-- linear weights were set by a command, which precede the calibration values (R466) -/
  linearSet : Bool := false
  /-- linear buffer accepted: W, its 2,051 codes, VRAIL (R169, R171) -/
  nextLinear : List (Nat × List Int × Nat) := []
  deriving DecidableEq, Repr

/-- Governor parameters of the tray (R79, R80). -/
structure TrayParam where
  /-- tray cap, W (R79) -/
  trayCap : Nat := 31000
  /-- OSF, 0.001 (R79) -/
  osf : Nat := 1000
  /-- PLAT_MARGIN, W (R79) -/
  platMargin : Nat := 200
  /-- ESC_SAT, us (R79) -/
  escSat : Nat := 100
  /-- SHED_WAIT, us (R79) -/
  shedWait : Nat := 20000
  /-- PARK_WAIT, us (R79) -/
  parkWait : Nat := 50000
  /-- park of marked slots allowed (R79) -/
  parkMarked : Bool := true
  /-- record period, us (R79, R80) -/
  recordPeriod : Nat := 1000
  /-- APPLY_DWN of the record period (R80) -/
  recordFrom : Nat := 0
  deriving DecidableEq, Repr

/-- Margin parameters (R100), keyed by slot 0-7, 0x10 bay 0, 0x11 bay 1. -/
structure MarginParam where
  /-- MARGIN_TGT, 0.1 mV (R100) -/
  tgt : Int := 150
  /-- MARGIN_BAND, 0.1 mV (R100) -/
  band : Int := 50
  /-- MARGIN_CRIT, 0.1 mV (R100) -/
  crit : Int := 50
  /-- GB_FLOOR, 0.1 mV (R100) -/
  gbFloor : Int := 100
  /-- TRIM_MAX, 0.1 mV (R100) -/
  trimMax : Int := 500
  /-- bay regulator port and address (R100) -/
  regulator : Option (Nat × Nat) := none
  deriving DecidableEq, Repr

/-- Trim of one operating point or bay (R95), keyed by who*32+point. -/
structure Trim where
  /-- trim, 2.5 mV steps (R95) -/
  trim : Int := 0
  /-- lowest margin since the last evaluation, 0.5 mV (R95) -/
  lowest : Option Int := none
  /-- device time of the last evaluation (R95) -/
  evalTime : Nat := 0
  /-- point forbidden (R98) -/
  forbidden : Bool := false
  deriving DecidableEq, Repr

/-- Calibration values of a slot (R466). -/
structure CalSlot where
  /-- P_max, W (R45, R466) -/
  pMax : Nat := 3600
  /-- V_ref, mV (R48, R466) -/
  vRef : Rat := 0
  /-- T_ref, degC (R48, R466) -/
  tRef : Rat := 0
  /-- operating-point table (R81, R466) -/
  opTable : List OpPoint := []
  /-- margin target port and address (R93, R466) -/
  marginPort : Option (Nat × Nat) := none
  /-- starting g (R53, R466) -/
  gStart : Rat := 1
  /-- starting o, W (R53, R466) -/
  oStart : Rat := 0
  deriving DecidableEq, Repr

/-- Operating-point change of a slot as a bay runs it (R84 to R91). -/
structure Chg where
  /-- IDLE, STEPPING, FROZEN, RESUMING, HALTED (R87) -/
  cst : ChgState := .idle
  /-- newest target (R87) -/
  target : Option Nat := none
  /-- a trim step of the point in effect is due (R97) -/
  trimDue : Bool := false
  /-- step commanded is a voltage step (R85) -/
  stepVolt : Bool := false
  /-- device time of the step's first frame (R85) -/
  stepTime : Nat := 0
  /-- the next frame carries OPC 0x4 (R91) -/
  sendResume : Bool := false
  /-- device time of the OPC 0x4 frame (R85) -/
  resumeTime : Nat := 0
  /-- device time of the last burst frame sent; none starts the resume timer at the next frame (R91, R92) -/
  lastBurst : Option Nat := none
  /-- device time at which the last burst formed ends (R78) -/
  burstEnd : Nat := 0
  /-- VGB of the step commanded (R85, R86) -/
  stepVgb : Int := 0
  /-- point of the step commanded (R85) -/
  stepPoint : Nat := 0
  /-- the step's first frame is still to be formed (R85) -/
  stepNew : Bool := false
  /-- window in which the latest frame that moved the change is sent (R85) -/
  stepFrom : BitVec 32 := 0
  /-- HALTED: OPC 0x3 is sent until DROOP_RESUME (R87) -/
  holdFrames : Bool := false
  /-- BSEQ of the last burst frame sent (R25) -/
  bseq : BitVec 32 := 0
  /-- droop events in the present fusion pass (R92) -/
  droops : Nat := 0
  /-- end of conversion of the sample of the latest droop-sense flag (R88) -/
  lastFlag : Option Nat := none
  /-- SNAP_TIME of the latest counter frame with DROOP (R88) -/
  lastFrame : Option Nat := none
  /-- since when commanded density held at or above OPDN_DENS (R78) -/
  highSince : Option Nat := none
  /-- since when commanded density held at 0 with margin (R78) -/
  zeroSince : Option Nat := none
  /-- point whose voltage the reports show (R84) -/
  vIndex : Nat := 0
  /-- point whose frequency the reports show (R84) -/
  fIndex : Nat := 0
  /-- trim included in the voltage in effect (R84, R86) -/
  vTrim : Int := 0
  deriving DecidableEq, Repr

/-- Governor state of one slot on one bay, keyed by bay*8+slot. -/
structure GovSlot where
  /-- window k of the values below (R45) -/
  k : BitVec 32 := 0
  /-- P_upper(k) (R50) -/
  pUpper : Rat := 0
  /-- corrected estimate g e + o (R50) -/
  corrected : Rat := 0
  /-- raw estimate e(w) of the window (R50) -/
  est : Rat := 0
  /-- radius r(k) (R50) -/
  radius : Rat := 0
  /-- linear model used in this window (R80) -/
  linUsed : Bool := false
  /-- measured fallback in use (R52) -/
  measured : Bool := false
  /-- switched to the linear model by R49 (R49) -/
  switchedLinear : Bool := false
  /-- consecutive windows failing R47 (R49) -/
  failRun : Nat := 0
  /-- model fallbacks, saturating (R47, R80) -/
  fallbacks : Nat := 0
  /-- last value T took (R48) -/
  lastT : Option Rat := none
  /-- latest P_upper values, newest first, at most 8 (R59) -/
  recent : List Rat := []
  /-- want (R59) -/
  want : Rat := 0
  /-- keep (R59) -/
  keep : Rat := 0
  /-- floor (R59) -/
  flr : Rat := 0
  /-- allotment A (after thermal cap) (R60) -/
  allot : Rat := 0
  /-- descending allotment A_d while a cut is under way (R73) -/
  descend : Option Rat := none
  /-- OVER_ALLOT (R73) -/
  overAllot : Bool := false
  /-- ballast track B (R66) -/
  ballast : Rat := 0
  /-- density commanded (R62) -/
  density : Nat := 0
  /-- committed bound U_c (R67) -/
  uC : Rat := 0
  /-- QUIESCE set in the slot's frames (R75) -/
  quiesce : Bool := false
  /-- predictions Q(j), newest first (R67, R68) -/
  preds : List (BitVec 32 × Rat) := []
  /-- grants of the latest frame, then committed ones of windows still ahead (R67) -/
  grantsSent : List Grant := []
  /-- window from which speculative grants may be carried again (R71) -/
  raHeldUntil : Option (BitVec 32) := none
  /-- rollbacks, saturating (R70, R80) -/
  rollbacks : Nat := 0
  /-- corrected estimated energy since governor start, uJ (R80) -/
  energy : Rat := 0
  /-- fusion gain (R53) -/
  g : Rat := 1
  /-- fusion offset (R53) -/
  o : Rat := 0
  /-- last (E_est, E_ref) pairs, newest first, J (R53) -/
  pairs : List (Rat × Rat) := []
  /-- E_est of the pass under way (R53) -/
  eSum : Rat := 0
  /-- branch energy at the start of the pass (R53) -/
  branchSum : Rat := 0
  /-- PMBus input energy of the pass under way (R54) -/
  pmbusSum : Rat := 0
  /-- last good READ_PIN sample of each regulator (R54, R429) -/
  lastPin : List Rat := []
  /-- residual (R53) -/
  residual : Rat := 0
  /-- PMBus less branch energy of the latest passes (R54) -/
  senseDiffs : List Rat := []
  /-- sense-disagreement condition held at the last pass (R54) -/
  senseOn : Bool := false
  /-- residual condition held at the last pass (R54) -/
  residOn : Bool := false
  /-- since when the second escalation case holds (R75) -/
  satSince : Option Nat := none
  /-- revocation triggers raised in this window, bit n for trigger n (R69) -/
  triggers : Nat := 0
  /-- the next frame is the first of this owner (R72) -/
  firstFrame : Bool := true
  /-- CSEQ of the last command frame formed (R25) -/
  cseq : BitVec 32 := 0
  /-- CRC-32C of bytes 8-123 of the last command frame formed (R233) -/
  frameCrc : BitVec 32 := 0
  /-- the bay accepted the counter frame of that window (R233) -/
  frameOk : Bool := false
  /-- takes part in the allocation since its accelerator start (R59, R368) -/
  started : Bool := false
  deriving DecidableEq, Repr

/-- Escalation of the tray (R75 to R77). -/
structure Esc where
  /-- NONE, SATURATE, SHED, PARKING, UNREACHABLE (R75) -/
  state : EscState := .none
  /-- device time of entry into the state (R75) -/
  since : Nat := 0
  /-- shortfall (R75) -/
  shortfall : Rat := 0
  /-- mask of escalated slots (R75) -/
  slots : Nat := 0
  /-- slot being parked (R75) -/
  parkSlot : Nat := 0
  /-- mask of slots whose GOV_PARK_ACK was received (R75, R116) -/
  ackPark : Nat := 0
  /-- device time of the latest park notice (R75, R116) -/
  noticeTime : Nat := 0
  /-- mask of slots parked by escalation (R77, R119) -/
  escParked : Nat := 0
  /-- mask of slots whose fuse the grid park opened (R119) -/
  gridParked : Nat := 0
  /-- cap-not-reachable reported (R80) -/
  capUnreach : Bool := false
  /-- device time of the latest cap-not-reachable report (R75) -/
  unreachTime : Nat := 0
  deriving DecidableEq, Repr

/-- Last report of a child node (R112, R113), keyed by fabric port. -/
structure Child where
  /-- want sum, W (R112) -/
  want : Nat := 0
  /-- keep sum, W (R112) -/
  keep : Nat := 0
  /-- floor sum, W (R112) -/
  flr : Nat := 0
  /-- device time of the report (R113) -/
  time : Nat := 0
  /-- REPORT_STALE passed; the floor sum stands in (R113) -/
  stale : Bool := false
  deriving DecidableEq, Repr

/-- Grid following of the tray (R101 to R121). -/
structure Grid where
  /-- source obeyed (R104) -/
  source : GridSource := .byMembership
  /-- REPORT_STALE, us (R121) -/
  reportStale : Nat := 5000
  /-- last committed TSEQ of the conductor's series (R102) -/
  tseqFab : Option (BitVec 32) := none
  /-- last committed TSEQ of the host's series (R102) -/
  tseqHost : Option (BitVec 32) := none
  /-- status of the last committed conductor target (R102) -/
  statusFab : Nat := 0
  /-- completion words of the last committed host TSEQ (R102, R278) -/
  lastHost : List (BitVec 64) := []
  /-- ISSUE_TIME of the newest committed target, park or unpark (R104) -/
  newestIssue : Option Nat := none
  /-- committed tray target (R105) -/
  target : Option Target := none
  /-- T_r (R106) -/
  tR : Rat := 31000
  /-- committed group share (R113) -/
  share : Option Target := none
  /-- S_r, none while no share (R106) -/
  sR : Option Rat := none
  /-- response curve, df mHz and frac 0.001 (R109) -/
  curve : List (Int × Nat) := []
  /-- device time the curve applies from (R109, R111) -/
  curveFrom : Nat := 0
  /-- FR_SLOPE, W per ms (R121) -/
  frSlope : Nat := 20000
  /-- FREQ_STALE, us (R121) -/
  freqStale : Nat := 100000
  /-- df in use, mHz (R110) -/
  df : Option Int := none
  /-- ISSUE_TIME of the df in use (R110) -/
  dfIssue : Nat := 0
  /-- device time of the latest df (R111) -/
  dfTime : Nat := 0
  /-- newest frame's df, ISSUE_TIME and arrival, waiting for its window (R110) -/
  dfNext : Option (Int × Nat × Nat) := none
  /-- f_r (R106) -/
  fR : Rat := 1
  /-- f_r held for staleness (R111) -/
  freqHold : Bool := false
  /-- PATH_LOST (R114) -/
  pathLost : Bool := false
  /-- grid grant P (R106) -/
  p : Rat := 31000
  /-- first window for which the grant has not been computed (R106) -/
  nextDwn : Nat := 0
  /-- the tray allotment fell in the window computed last (R69, R106) -/
  fell : Bool := false
  /-- feed less branch energy at the start of the present 1 ms, uJ (R57) -/
  platBase : Rat := 0
  /-- device time at which it started (R57) -/
  platTime : Nat := 0
  /-- 1 ms mean of platform power, floored at 0 (R57) -/
  platMean : Rat := 0
  /-- tray allotment (R106) -/
  aTray : Rat := 31000
  /-- platform allotment (R57) -/
  aPlat : Rat := 200
  /-- effective target E (R107) -/
  eTarget : Rat := 31000
  /-- GSTATE (R115) -/
  state : GridState := .following
  /-- SLOPE of the park under way (R115) -/
  parkSlope : Nat := 0
  /-- device time the park or unpark delay ends (R115) -/
  delayEnd : Nat := 0
  /-- device time of the last fuse opening (R116) -/
  lastOpen : Nat := 0
  /-- slot just opened (R116) -/
  lastOpenSlot : Option Nat := none
  /-- next slot to close in UNPARKING (R116) -/
  closeNext : Option Nat := none
  /-- P at the previous closing (R116) -/
  closeBase : Rat := 0
  /-- GRID_SPREAD, us (R121) -/
  spread : Nat := 0
  /-- park rail set (R117, R121) -/
  parkRails : BitVec 64 := 0
  /-- targets refused as late, saturating (R120) -/
  late : Nat := 0
  /-- device time the draw last entered 2 % of E (R120) -/
  settleTime : Nat := 0
  /-- draw within 2 % of E at the last window (R120) -/
  inBand : Bool := false
  /-- children's reports (R112) -/
  children : Tbl Child := []
  /-- share table: entry (port, or 4 for own) and its breakpoints (R112) -/
  shares : List (Nat × List (Nat × Nat)) := []
  /-- group headroom, W (R112) -/
  groupHeadroom : Nat := 0
  /-- last group allotment received (R114) -/
  lastGroup : Option Nat := none
  /-- conductor operations received and not yet committed, oldest first; while PARKED the newest target or share and the newest park or unpark (R105, R118) -/
  held : List (GridOp × Target) := []
  /-- newest df held while PARKED (R118) -/
  heldDf : Option (Int × Nat) := none
  deriving DecidableEq, Repr

/-- Contents of one tensor of an instance (R156), keyed by descriptor index. -/
structure Tensor where
  /-- element codes (BS8: mantissa bytes) (R126, R156) -/
  codes : List Nat := []
  /-- BS8 exponent bytes (R127) -/
  exps : List Nat := []
  /-- stored radii, binary16 (R140) -/
  rads : List Nat := []
  /-- declared radius, FP32 (R138, R171) -/
  delta : BitVec 32 := 0
  /-- holds an uncorrectable word (R145) -/
  poison : Bool := false
  deriving DecidableEq, Repr

/-- A loaded Easel program (R162, R168). -/
structure Program where
  /-- PROG_ID (R162) -/
  progId : Nat := 0
  /-- PROG_REV (R162) -/
  rev : Nat := 0
  /-- CLASS (R162) -/
  cls : Nat := 0
  /-- PANELS (R162) -/
  panels : Nat := 1
  /-- PERIOD (R162) -/
  period : Nat := 1
  /-- strokes (R151) -/
  strokes : List Stroke := []
  /-- descriptors (R156) -/
  descs : List Desc := []
  /-- initial contents (R162) -/
  data : Tbl Tensor := []
  /-- bytes of its container (R162, R448) -/
  size : Nat := 0
  /-- HASH (R162) -/
  hash : Nat := 0
  deriving DecidableEq, Repr

/-- A bound instance (R150), keyed by instance number; ROM linear programs are not listed. -/
structure Inst where
  /-- accelerator slot, none for no slot (R150) -/
  slot : Option Nat := none
  /-- run offset (R165) -/
  offset : Nat := 0
  /-- journal sequence of its binding: the order of binding (R164) -/
  order : Nat := 0
  /-- physical panels of panel slots 0, 1, ...; empty while unplaced (R166) -/
  panels : List Nat := []
  /-- contents of its tensors (R150) -/
  tensors : Tbl Tensor := []
  /-- window W from which it runs (R169) -/
  switchAt : Nat := 0
  /-- GAP: waits for its contents to be written (R170) -/
  gapWait : Bool := false
  /-- window W from which it is unbound (R172) -/
  unbindAt : Option Nat := none
  /-- the program it was bound with (R150) -/
  prog : Program := {}
  /-- replacement program, W, its panels and run offset (R169, R289) -/
  nextProg : List (Program × Nat × List Nat × Nat) := []
  /-- the switch under way takes the gap (R170) -/
  gap : Bool := false
  /-- tensors to replace at W (W, index, contents) (R171) -/
  nextTensors : List (Nat × Nat × Tensor) := []
  /-- its seeds are in place (R137) -/
  seeded : Bool := true
  /-- suspended for want of a panel (R167) -/
  suspended : Bool := false
  /-- contents under reload from the Loft (R213) -/
  reloading : Bool := false
  /-- status word of the latest run (R147) -/
  status : BitVec 64 := 0xFFFF000000000000
  /-- word 1 of its latest slot entry (R149) -/
  runWseq : BitVec 32 := 0
  /-- runs since bind, saturating (R149) -/
  runs : Nat := 0
  /-- flagged runs since bind, saturating (R149) -/
  flagged : Nat := 0
  /-- recurrence resets since bind, saturating (R149) -/
  resets : Nat := 0
  /-- its run has not reached END in this window (R161) -/
  running : Bool := false
  deriving DecidableEq, Repr

/-- Governor slot entry (R160). -/
structure SlotEntry where
  /-- word 0 (R160, R147) -/
  status : BitVec 64 := 0xFFFF000000000000
  /-- word 1 [63:32] (R160) -/
  wseq : BitVec 32 := 0
  /-- values: FP32 midpoint and radius (R160) -/
  vals : List (BitVec 32 × BitVec 32) := []
  /-- written since start (R161) -/
  written : Bool := false
  deriving DecidableEq, Repr

/-- The Easel of one bay, keyed by bay. -/
structure Easel where
  /-- bound instances (R150) -/
  insts : Tbl Inst := []
  /-- governor slots (R160) -/
  gslots : Tbl SlotEntry := []
  /-- generator lanes, keyed by panel*8+lane; absent until seeded (R136) -/
  lanes : Tbl (BitVec 128) := []
  /-- panels out of service (R146, R167) -/
  panelsOut : BitVec 16 := 0
  /-- panels out of service that the next passing check after a bay restart returns (R146) -/
  kacReturn : BitVec 16 := 0
  deriving DecidableEq, Repr

/-- Easel parameters and what both bays share. -/
structure EaselCfg where
  /-- RESEED_PERIOD, us (R148) -/
  reseedPeriod : Nat := 60000000
  /-- KAC_PERIOD, us (R148) -/
  kacPeriod : Nat := 1000000
  /-- device time of the latest reseed (R137) -/
  lastReseed : Nat := 0
  /-- a program load or a stochastic binding asks for seeds (R137) -/
  reseedDue : Bool := false
  /-- loaded programs (R168) -/
  programs : List Program := []
  deriving DecidableEq, Repr

/-- One event slot of a hand (R180). -/
structure EvSlot where
  /-- pending bit (R180) -/
  pending : Bool := false
  /-- overrun count, saturating (R180) -/
  overrun : Nat := 0
  /-- bound source; 0 none (R180) -/
  source : Nat := 0
  deriving DecidableEq, Repr

/-- One hand of one bay (R178 to R193), keyed by bay*4096+hand. -/
structure Hand where
  /-- state (R179) -/
  state : HandState := .free
  /-- g1-g15; g0 reads 0 (R179) -/
  regs : Tbl (BitVec 32) := []
  /-- program counter (R179) -/
  pc : BitVec 32 := 0
  /-- checkpoint pointer (R179, R186) -/
  ckptPtr : Nat := 0
  /-- entry address (R179, R193) -/
  entry : BitVec 32 := 0
  /-- event slots; slot 7 is the timer (R180) -/
  slots : Tbl EvSlot := []
  /-- what a hand in WAIT waits for (R179) -/
  wait : Option Waiting := none
  /-- timer mode; 2 not armed (R182) -/
  timerMode : Nat := 2
  /-- timer value v, ns (R182) -/
  timerVal : Nat := 0
  /-- next deadline (R182) -/
  timerDeadline : Nat := 0
  /-- TSEQ (R184) -/
  tseq : BitVec 32 := 0
  /-- newest CSEQ written (R186) -/
  cseq : Nat := 0
  /-- g1-g7 of the latest HAND_START (R187) -/
  startRegs : List (BitVec 32) := []
  /-- last restart cause (R187) -/
  cause : Nat := 0
  /-- device times of counted restarts in the window (R188) -/
  restarts : List Nat := []
  /-- SHADOW (R193) -/
  shadow : Bool := false
  /-- RESTART_MAX (R193) -/
  restartMax : Nat := 3
  /-- RESTART_WINDOW, us (R193) -/
  restartWindow : Nat := 1000000
  /-- CKPT_WD, us, 0 off (R193) -/
  ckptWd : Nat := 0
  /-- device time of the latest checkpoint or start (R187) -/
  lastCkpt : Nat := 0
  /-- code region base (R193) -/
  codeBase : Nat := 0
  /-- code region length (R193) -/
  codeLen : Nat := 0
  /-- data region base (R193) -/
  dataBase : Nat := 0
  /-- data region length (R193) -/
  dataLen : Nat := 0
  /-- shared range base (R193) -/
  shrBase : Nat := 0
  /-- shared range length (R193) -/
  shrLen : Nat := 0
  /-- owner results held on the standby: TSEQ, status word, read bytes (R190) -/
  heldResults : List (Nat × Nat × List (BitVec 8)) := []
  /-- shadow resynchronisation under way (R190) -/
  resync : Bool := false
  /-- two-wire results still due that are discarded (R189, R179) -/
  discardTwi : Nat := 0
  /-- missed mirror writes (R186) -/
  missedMirror : Nat := 0
  deriving DecidableEq, Repr

/-- A loaded code container (R193). -/
structure CodeImage where
  /-- PROG_ID (R193) -/
  progId : Nat := 0
  /-- PROG_REV (R193) -/
  rev : Nat := 0
  /-- first hand (R290) -/
  first : Nat := 0
  /-- hands named (R290) -/
  count : Nat := 0
  /-- code (R193) -/
  code : List (BitVec 8) := []
  /-- initialised data (R193) -/
  data : List (BitVec 8) := []
  /-- ENTRY (R193) -/
  entryOff : Nat := 0
  /-- HASH (R193) -/
  hash : Nat := 0
  /-- bytes of its container (R193, R448) -/
  size : Nat := 0
  deriving DecidableEq, Repr

/-- Self-test failure entry (R218). -/
structure BistFail where
  /-- KIND (R218) -/
  kind : Nat := 0
  /-- REPAIR (R218) -/
  repair : Nat := 0
  /-- BIT (R218) -/
  bit : Nat := 0
  /-- ADDR (R218) -/
  addr : Nat := 0
  /-- TIME (R218) -/
  time : Nat := 0
  deriving DecidableEq, Repr

/-- Latest self-test of one bank (R216, R218), keyed by bay*256+bank. -/
structure Bist where
  /-- phase under way (R216) -/
  phase : BistPhase := .idle
  /-- RESULT (R218) -/
  result : Nat := 0xFF
  /-- NFAIL (R218) -/
  nfail : Nat := 0
  /-- DURATION, us (R218) -/
  duration : Nat := 0
  /-- TIME (R218) -/
  time : Nat := 0
  /-- device time of the start of the copy (R218) -/
  start : Nat := 0
  /-- failure entries (R218) -/
  fails : List BistFail := []
  /-- soft repair applied outside a test: column, position (R219) -/
  repair : Option (Bool × Nat) := none
  /-- journal entry that waits for the result, 0 none (R291) -/
  jseq : Nat := 0
  deriving DecidableEq, Repr

/-- One repair of a bank (R219, R220). -/
structure Repair where
  /-- bay (R219) -/
  bay : Nat := 0
  /-- bank (R219) -/
  bank : Nat := 0
  /-- column, else row (R219) -/
  column : Bool := false
  /-- line or bit position (R219) -/
  pos : Nat := 0
  /-- permanent in the fuse block (R220) -/
  fused : Bool := false
  deriving DecidableEq, Repr

/-- Granary and Porch of one bay, keyed by bay. -/
structure Granary where
  /-- bytes, canonical form (R194) -/
  mem : List Host.Cell := []
  /-- poisoned word addresses, rising (R208) -/
  poison : List Nat := []
  /-- words holding a single-bit error not yet written back, rising (R207) -/
  flipped : List Nat := []
  /-- words queued for the corrected write-back (R207, R212) -/
  writeBack : List Nat := []
  /-- page map entries (R210) -/
  pageMap : Tbl (BitVec 32) := []
  /-- corrected words of the present pass (R215) -/
  ceCount : Tbl Nat := []
  /-- device time the present pass started (R211) -/
  gleanStart : Nat := 0
  /-- starved event raised in this pass (R211) -/
  gleanStarved : Bool := false
  /-- bank SPARE_G stands in for permanently (R221) -/
  spareG : Option Nat := none
  /-- bank SPARE_P stands in for permanently (R221) -/
  spareP : Option Nat := none
  /-- bank under test (R216, R217) -/
  steered : Option Nat := none
  /-- self-tests queued (R213, R215) -/
  autotestQ : List Nat := []
  /-- second bank failure of a kind (R221) -/
  degraded : Bool := false
  /-- uncorrectable words since start, saturating (R246) -/
  ueCount : Nat := 0
  /-- words being restored from the peer (R213) -/
  waitRestore : List Nat := []
  /-- GLEAN_PERIOD, us (R222) -/
  gleanPeriod : Nat := 8000000
  /-- CE_THRESH (R222) -/
  ceThresh : Nat := 16
  /-- AUTOTEST (R222) -/
  autotest : Bool := true
  /-- WIN_STATUS (R206) -/
  winStatus : BitVec 32 := 0
  /-- DBG_BUSY pin (R205) -/
  dbgBusy : Bool := false
  deriving DecidableEq, Repr

/-- The ownership latch (R223). -/
structure Latch where
  /-- OWNER_EPOCH (L) (R223, R224) -/
  epoch : BitVec 32 := 0
  /-- OWNER_VALID (R223) -/
  valid : Bool := false
  /-- OWNER (R223) -/
  owner : Nat := 0
  /-- YIELD0 (R223) -/
  yield0 : Bool := false
  /-- YIELD1 (R223) -/
  yield1 : Bool := false
  /-- FORCED0 (R223) -/
  forced0 : Bool := false
  /-- FORCED1 (R223) -/
  forced1 : Bool := false
  /-- HOLD (R223) -/
  hold : Bool := false
  /-- REFUSED, saturating (R223) -/
  refused : Nat := 0
  deriving DecidableEq, Repr

/-- One bay, keyed by bay. -/
structure Bay where
  /-- bay state (R230, R250) -/
  bstate : BState := .down
  /-- OWNER_EPOCH as this bay last read the latch (R250) -/
  readEpoch : BitVec 32 := 0
  /-- device time of the last heartbeat since start (R223) -/
  hbTime : Option Nat := none
  /-- age in ns at which the count of HB_AGE stopped for Dormant (R479) -/
  hbFrozen : Option Nat := none
  /-- watchdog armed (R226) -/
  wdArmed : Bool := false
  /-- the watchdog was armed by a wake and no heartbeat has come since (R481) -/
  wakeWd : Bool := false
  /-- device time the claim guard started (R230) -/
  guardStart : Option Nat := none
  /-- the die has not failed (R16) -/
  alive : Bool := true
  /-- device time of release after push boot (R441, R457) -/
  releasedAt : Option Nat := none
  /-- Loft slot of the image it runs (R457) -/
  runsSlot : Option Nat := none
  /-- consecutive differing windows of the shadow compare, keyed by slot (R233) -/
  shadowMiss : Tbl Nat := []
  /-- its Easel state has been copied (R125) -/
  easelReady : Bool := false
  /-- highest journal sequence this bay holds (R246) -/
  held : Nat := 0
  /-- highest JSEQ it has seen announced (R239) -/
  announced : Nat := 0
  /-- since when the owner has fewer lanes UP (R43) -/
  fewLanes : Option Nat := none
  /-- latest ageing margin, 0.5 mV (R94) -/
  margin : Option Int := none
  /-- the standby's reading reached the owner (R94) -/
  marginSeen : Bool := false
  /-- hottest junction, 1/128 degC; 0x8000 no reading (R246) -/
  tj : Int := -32768
  /-- device time of the reset a BAY_RESTART made (R293) -/
  restartAt : Option Nat := none
  /-- journal entry that waits for JOINING, 0 none (R293) -/
  restartJseq : Nat := 0
  /-- trim applied to its supply regulator, 0.1 mV (R99) -/
  vout : Int := 0
  /-- the latest VOUT_COMMAND failed; it is written again at the next evaluation (R429) -/
  voutFailed : Bool := false
  /-- its own YIELD bit was set when the other bay's claim was accepted (R230) -/
  swapYield : Bool := false
  deriving DecidableEq, Repr

/-- One journal entry (R234), keyed by JSEQ. -/
structure Entry where
  /-- OWNER_EPOCH (R234) -/
  epoch : BitVec 32 := 0
  /-- RING (R234) -/
  ring : Nat := 0
  /-- KIND (R234) -/
  kind : Nat := 0
  /-- STATE (R234) -/
  state : Nat := 0
  /-- APPLY_DWN (R234) -/
  applyDwn : Nat := 0
  /-- SEQ (R234) -/
  seq : BitVec 32 := 0
  /-- the standby acknowledged it, or single-copy (R235) -/
  acked : Bool := false
  /-- device time of the write (R235) -/
  written : Nat := 0
  /-- has taken effect (R237) -/
  applied : Bool := false
  /-- device time from which RETAIN_MIN runs (R236) -/
  doneTime : Option Nat := none
  /-- COMPLETION (R234) -/
  completion : List (BitVec 64) := []
  /-- further submissions of the command still to be answered (R236, R240) -/
  owed : Nat := 0
  /-- index in its completion ring that its completion was written at, until consumed (R236, R264) -/
  compIdx : Option (BitVec 32) := none
  /-- output buffer to be written before the completion is posted (R277) -/
  bufOut : List (Nat × List (BitVec 8)) := []
  /-- its completion has been posted (R238) -/
  posted : Bool := false
  /-- steps outside the bays not yet reported done (R238) -/
  stepsDue : Nat := 0
  /-- steps reported as started (R238) -/
  stepStarted : Nat := 0
  /-- last journalled SEQ of its ring before it (R236, R263) -/
  prevSeq : BitVec 32 := 0
  /-- CTRL_IDX of its ring before it (R263) -/
  prevIdx : BitVec 32 := 0
  /-- COMMAND: the command, or the internal change (R234) -/
  body : Work := .nothing
  deriving DecidableEq, Repr

/-- The journal and its parameters. -/
structure Journal where
  /-- entries held, keyed by JSEQ (R234) -/
  entries : Tbl Entry := []
  /-- next JSEQ (R234) -/
  nextJseq : Nat := 1
  /-- single-copy mode (R239) -/
  single : Bool := true
  /-- handover under way (R242) -/
  handover : HandoverPhase := .none
  /-- H, the window of the handover (R242) -/
  handoverAt : Nat := 0
  /-- device time YIELD was set (R242) -/
  handoverStart : Nat := 0
  /-- BAY_HANDOVER entry that waits, 0 none (R242) -/
  handoverJseq : Nat := 0
  /-- bay to reset after the handover (R293) -/
  restartAfter : Option Nat := none
  /-- breezeway works (R230) -/
  breezeUp : Bool := true
  deriving DecidableEq, Repr

/-- Ownership parameters (R245). -/
structure OwnParam where
  /-- HB_PERIOD, us (R245) -/
  hbPeriod : Nat := 100
  /-- WD_TIMEOUT, us (R245) -/
  wdTimeout : Nat := 1500
  /-- CLAIM_GUARD, us (R245) -/
  claimGuard : Nat := 200
  /-- APPLY_LEAD, windows (R245) -/
  applyLead : Nat := 8
  /-- RETAIN_MIN, us (R245) -/
  retainMin : Nat := 100000
  /-- SHADOW_MISMATCH, windows (R245) -/
  shadowMismatch : Nat := 16
  /-- HANDOVER_WAIT, us (R245) -/
  handoverWait : Nat := 100
  /-- bay record period, us (R245) -/
  recordPeriod : Nat := 100000
  deriving DecidableEq, Repr

/-- One ring (R253 to R260), keyed by ring number. -/
structure Ring where
  /-- descriptor (R258) -/
  desc : RingDesc := {}
  /-- RSTATE (R256, R260) -/
  state : RState := .disabled
  /-- RERR (R256) -/
  rerr : Nat := 0
  /-- HOST_IDX (R254) -/
  hostIdx : BitVec 32 := 0
  /-- CTRL_IDX (R254) -/
  ctrlIdx : BitVec 32 := 0
  /-- ACC_SEQ (R256) -/
  accSeq : BitVec 32 := 0
  /-- last journalled SEQ (R236, R259) -/
  lastSeq : BitVec 32 := 0
  /-- DROPPED (R256) -/
  dropped : Nat := 0
  /-- events dropped since the last posted event (R268) -/
  lostRun : Nat := 0
  /-- events held for a full event ring (R268) -/
  heldEv : List (List (BitVec 64)) := []
  /-- entries not yet signalled (R269) -/
  unsignalled : Nat := 0
  /-- device time of the first entry not yet signalled (R269) -/
  firstUnsig : Nat := 0
  /-- commands fetched and not yet posted (R261) -/
  fetchedOpen : Nat := 0
  /-- HOST_IDX of each doorbell not yet fetched past, with its device time, oldest first (R261) -/
  arrivals : List (BitVec 32 × Nat) := []
  /-- poisoned reads in a row of the next entry (R260) -/
  poisonReads : Nat := 0
  /-- completion ring: the command ring it serves, 0 none (R253) -/
  serves : Nat := 0
  /-- ADM_RING_DELETE entry that waits for DISABLED (R260) -/
  deleteJseq : Nat := 0
  deriving DecidableEq, Repr

/-- Admin ring registers (R250, R260). -/
structure Admin where
  /-- ADM_CTRL.ENABLE (R250) -/
  enable : Bool := false
  /-- ADM_CTRL.BUSY (R250) -/
  busy : Bool := false
  /-- ADM_DESC0 (R250) -/
  desc0 : RingDesc := {}
  /-- ADM_DESC1 (R250) -/
  desc1 : RingDesc := {}
  deriving DecidableEq, Repr

/-- One host endpoint (R247 to R250), keyed by bay. -/
structure Endpoint where
  /-- link up (R262) -/
  linkUp : Bool := true
  /-- bus mastering enabled (R262) -/
  busMaster : Bool := true
  /-- link width (R247, R296) -/
  width : Nat := 2
  /-- link speed, GT/s (R247, R296) -/
  speed : Nat := 32
  /-- DB_ERR.STALE (R250) -/
  dbStale : Nat := 0
  /-- DB_ERR.BAD (R250) -/
  dbBad : Nat := 0
  /-- DB_ERR.LAST_RING (R250) -/
  dbLast : Nat := 0
  /-- WIN_DENY.COUNT (R250) -/
  denyCount : Nat := 0
  /-- WIN_DENY.LAST_OFF (R250) -/
  denyLast : Nat := 0
  /-- MSI-X table (R249) -/
  msix : Tbl (BitVec 128) := []
  /-- MSI-X pending bit array (R249) -/
  msixPend : BitVec 64 := 0
  /-- doorbells waiting to be forwarded to the owner (R262) -/
  fwdDoorbells : List (Nat × BitVec 32) := []
  /-- doorbells held while the bays are Dormant (R269) -/
  heldDoorbells : List (Nat × BitVec 32) := []
  /-- ADM_CTRL and descriptors while the bay is in Fallow mode (R461) -/
  fadm : Admin := {}
  /-- data returned by the latest BAR0 read (R270) -/
  readData : BitVec 64 := 0
  deriving DecidableEq, Repr

/-- Rings, events and host side. -/
structure Rings where
  /-- rings that are not DISABLED or have been used (R253) -/
  rings : Tbl Ring := []
  /-- ESEQ of the latest event formed (R268) -/
  eseq : BitVec 32 := 0
  /-- fetches since the last oldest-first fetch (R261) -/
  fetchCount : Nat := 0
  /-- ring fetched last at each PRIO (round robin) (R261) -/
  lastFetched : Tbl Nat := []
  deriving DecidableEq, Repr

/-- One Azhadin port (R299, R331), keyed by port. -/
structure Port where
  /-- PSTATE (R299, R331) -/
  pstate : LaneState := .down
  /-- valid BEACON frames in a row in TRAIN (R299) -/
  good : Nat := 0
  /-- failed training attempts (R299) -/
  attempts : Nat := 0
  /-- device time TRAIN was entered (R299) -/
  trainStart : Nat := 0
  /-- device time of the last valid frame (R299) -/
  lastValid : Nat := 0
  /-- its neighbour is lost (R299, R308) -/
  lost : Bool := true
  /-- CRC_ERR (R331) -/
  crcErr : Nat := 0
  /-- DELAY, ns (R331) -/
  delay : Nat := 0
  /-- NEIGHBOUR (R331) -/
  neighbour : BitVec 64 := 0
  /-- NB_MEPOCH (R331) -/
  nbMepoch : BitVec 32 := 0
  /-- NB_ROLE_EPOCH (R331) -/
  nbRoleEpoch : BitVec 32 := 0
  /-- root its BEACON names (R305) -/
  nbRoot : BitVec 64 := 0
  /-- depth its BEACON gives (R305) -/
  nbDepth : Nat := 0
  /-- parent its BEACON gives (R305) -/
  nbParent : BitVec 64 := 0
  /-- RTICK its BEACON carries (R309) -/
  nbTick : BitVec 32 := 0
  /-- device time its RTICK last advanced (R309) -/
  nbTickTime : Nat := 0
  /-- ancestors its BEACON lists (R309) -/
  nbAncestors : List (BitVec 64) := []
  /-- TX_FRAMES (R331) -/
  txFrames : Nat := 0
  /-- RX_FRAMES (R331) -/
  rxFrames : Nat := 0
  /-- device time of the last rejoin NAK to each source (R301) -/
  nakTime : Tbl Nat := []
  deriving DecidableEq, Repr

/-- A combining operation in progress at this node (R324 to R326). -/
structure GlobalOp where
  /-- descriptor (R321) -/
  desc : GDesc := {}
  /-- port the GDOWN came from; none at the root (R323) -/
  upPort : Option Nat := none
  /-- node that asked the root for it (R320) -/
  requester : BitVec 64 := 0
  /-- contributions of the children, by port (R324) -/
  contrib : Tbl Contribution := []
  /-- own contribution (R324) -/
  own : Option Contribution := none
  /-- grid operations received before a BARRIER and not yet committed or refused (R326) -/
  awaits : List (GridOp × Target) := []
  /-- time the operation reached this node (R320) -/
  start : Nat := 0
  deriving DecidableEq, Repr

/-- A FAB_GLOBAL command that waits at the proxy (R320, R322). -/
structure FabWait where
  /-- descriptor (R321) -/
  desc : GDesc := {}
  /-- time it was sent to the root (R320) -/
  start : Nat := 0
  /-- its journal entry (R320) -/
  jseq : Nat := 0
  /-- fabric time of issue at the root, once known (R320) -/
  issue : Nat := 0
  deriving DecidableEq, Repr

/-- A frame that names a role and may be sent again (R315). -/
structure MsgTry where
  /-- the frame (R315) -/
  frame : FabFrame := {}
  /-- times sent (R315) -/
  tries : Nat := 1
  /-- bay and hand whose LSEND it carries (R316) -/
  waiter : Option (Nat × Nat) := none
  deriving DecidableEq, Repr

/-- Fabric parameters (R332). -/
structure FabParam where
  /-- PRIORITY (R332) -/
  priority : Nat := 0x8000
  /-- PROXY_PRIO (R332) -/
  proxyPrio : Nat := 0
  /-- PORT_MASK (R332) -/
  portMask : Nat := 0xFF
  /-- BEACON_PERIOD, us (R332) -/
  beaconPeriod : Nat := 10
  /-- DEAD_TIMEOUT, us (R332) -/
  deadTimeout : Nat := 100
  /-- ROOT_TIMEOUT, us (R332) -/
  rootTimeout : Nat := 500
  /-- CLAIM_SETTLE, us (R332) -/
  claimSettle : Nat := 2000
  /-- PUSH_SERVE (R332) -/
  pushServe : Bool := true
  /-- ALIGN_TOL, ns (R332) -/
  alignTol : Nat := 50
  /-- OP_TIMEOUT, us (R332) -/
  opTimeout : Nat := 10000
  /-- record period, us (R332) -/
  recordPeriod : Nat := 100000
  deriving DecidableEq, Repr

/-- The photonic die's fabric engine. -/
structure Fabric where
  /-- photonic die running (R475) -/
  alive : Bool := true
  /-- fabric state (R306) -/
  state : FState := .isolated
  /-- serial number of the node identifier (fuse, L) (R303) -/
  serial : Nat := 1
  /-- PRIORITY in force since the last bring-up (R332) -/
  prioInForce : Nat := 0x8000
  /-- PORT_MASK in force since the last bring-up (R332) -/
  maskInForce : Nat := 0xFF
  /-- own MEPOCH (R306) -/
  mepoch : BitVec 32 := 0
  /-- highest MEPOCH seen (the root's counter) (R306) -/
  maxMepoch : BitVec 32 := 0
  /-- role set (R313, R331) -/
  roles : Nat := 0
  /-- role epoch (R313) -/
  roleEpoch : BitVec 32 := 0
  /-- root's node identifier (R331) -/
  rootId : BitVec 64 := 0
  /-- root's role epoch (R300) -/
  rootRoleEpoch : BitVec 32 := 0
  /-- depth (R305) -/
  depth : Nat := 0
  /-- up port (R305) -/
  upPort : Option Nat := none
  /-- RTICK carried in its BEACON (R300, R309) -/
  rtick : BitVec 32 := 0
  /-- member table (R307) -/
  members : List Member := []
  /-- ports (R299) -/
  ports : Tbl Port := []
  /-- FSEQ of the last frame originated (R300) -/
  fseq : BitVec 32 := 0
  /-- device time of the latest BEACON sent (R300) -/
  beaconTime : Option Nat := none
  /-- device time of the latest TIME sent to the parent (R317) -/
  exchangeTime : Option Nat := none
  /-- device time of the latest REPORT sent (R112) -/
  reportTime : Option Nat := none
  /-- device time of the latest fabric record (R331) -/
  recordTime : Option Nat := none
  /-- device time the claim backoff ends (R304) -/
  backoffEnd : Option Nat := none
  /-- highest claim seen (R304) -/
  claimSeen : BitVec 64 := 0
  /-- device time of its own CLAIM (R304) -/
  claimStart : Option Nat := none
  /-- port on which the JOIN was sent (R301) -/
  joinPort : Option Nat := none
  /-- device time re-attachment began (R309) -/
  reattachStart : Nat := 0
  /-- members that have re-attached since this node became root (R310) -/
  reattached : List (BitVec 64) := []
  /-- device time it became root by R310 (R310) -/
  becameRoot : Option Nat := none
  /-- ALIGN_ERR, ns (R331) -/
  alignErr : Int := 0
  /-- offset estimates beyond ALIGN_TOL in a row (R319) -/
  alignBad : Nat := 0
  /-- alignment lost (R319) -/
  alignLost : Bool := false
  /-- ROLE_NAKS (R331) -/
  roleNaks : Nat := 0
  /-- REJOINS (R331) -/
  rejoins : Nat := 0
  /-- DROPPED (R331) -/
  dropped : Nat := 0
  /-- ELECTIONS (R331) -/
  elections : Nat := 0
  /-- admitted at least once since supplies valid (R318) -/
  admitted : Bool := false
  /-- the first exchange after the first admission steps device time (R318) -/
  stepDue : Bool := false
  /-- combining operations in progress (R324) -/
  ops : List GlobalOp := []
  /-- FAB_GLOBAL commands that wait here (R320) -/
  waits : List FabWait := []
  /-- frames that may be sent again on a role NAK (R315) -/
  msgRetry : List MsgTry := []
  /-- snapshots latched whose records wait until the bays wake (R325) -/
  snapHeld : List (List (Nat × Nat)) := []
  /-- fabric time of a pending HALL_RESET (R327) -/
  hallResetAt : Option Nat := none
  /-- bay for which PUSHREQ is sent (R329) -/
  pushReqBay : Option Nat := none
  /-- device time of the latest PUSHREQ sent (R329) -/
  pushReqTime : Option Nat := none
  /-- hash that the PUSHREQ names (R329, R464) -/
  pushHash : Nat := 0
  /-- first offer and when it came (R329) -/
  firstOffer : Option (Nat × Nat) := none
  /-- port whose offer was taken (R329) -/
  offerTaken : Option Nat := none
  /-- port this node pushes to (R329, R330) -/
  pushTo : Option Nat := none
  /-- the requester has acknowledged, so it has taken the offer (R329, R330) -/
  pushTaken : Bool := false
  /-- Loft slot it pushes from (R330) -/
  pushSlot : Nat := 0
  /-- next offset to send (R330) -/
  pushNext : Nat := 0
  /-- last acknowledged offset (R330) -/
  pushAcked : Nat := 0
  /-- device time of the last acknowledgement (R330) -/
  pushAckTime : Nat := 0
  /-- highest offset below which every block has arrived (R330) -/
  pushRecv : Nat := 0
  /-- blocks received since the last acknowledgement (R330) -/
  pushBlocks : Nat := 0
  /-- blocks received beyond pushRecv: first and end offset (R330) -/
  pushAhead : List (Nat × Nat) := []
  /-- device time of the latest progress of a push received (R464) -/
  pushRecvTime : Nat := 0
  deriving DecidableEq, Repr

/-- One rail (R333 to R346), keyed by rail. -/
structure Rail where
  /-- SHEAF; none means its own number (first start) (R333) -/
  sheaf : Option Nat := none
  /-- parent rails (R333) -/
  parents : List Nat := []
  /-- RISE_TIMEOUT, us; 0 unused (R333) -/
  riseTimeout : Nat := 0
  /-- OFF, RISING, UP, FALLING, FAULT (R336, R346) -/
  rstate : RailState := .off
  /-- CAUSE (R346) -/
  cause : Nat := 0
  /-- ENnn driven high (R336) -/
  en : Bool := false
  /-- ENnn released to high impedance (R345) -/
  released : Bool := false
  /-- PGnn counted up (R336) -/
  pg : Bool := false
  /-- STRAY (R336) -/
  stray : Bool := false
  /-- FAULTS, saturating (R346) -/
  faults : Nat := 0
  /-- device time ENnn went high (R338) -/
  riseStart : Nat := 0
  /-- RISE_US (R346) -/
  riseUs : Nat := 0
  deriving DecidableEq, Repr

/-- The rail sequence under way (R337 to R343). -/
structure Seq where
  /-- SEQ: idle, power-up, commanded, fault, input-loss, at safe floor (R347) -/
  kind : SeqKind := .idle
  /-- rails a power-up still has to switch on (R337) -/
  upSet : BitVec 64 := 0
  /-- rails a shutdown still has to switch off (R339) -/
  downSet : BitVec 64 := 0
  /-- device time the present level went off (R339) -/
  levelTime : Nat := 0
  /-- PWR_RAIL_CTRL entry that waits, 0 none (R340) -/
  jseq : Nat := 0
  /-- a rail of the commanded sequence faulted (R340) -/
  faulted : Bool := false
  /-- rails of the commanded sequence (R340) -/
  seqSet : BitVec 64 := 0
  /-- device time an input-loss shutdown started (R342) -/
  shutStart : Option Nat := none
  /-- the decision point has passed (R343) -/
  firstDone : Bool := false
  /-- input returned; power-up follows the safe floor (R343) -/
  returned : Bool := false
  /-- ABORTS (R347) -/
  aborts : Nat := 0
  /-- FLOORS (R347) -/
  floors : Nat := 0
  /-- the rail power-up at start has begun (R470) -/
  startedUp : Bool := false
  /-- the rail power-up at start has ended (R470) -/
  startDone : Bool := false
  /-- commanded sequences waiting in JSEQ order, a pre-empted one with the rails still to be switched and whether a rail of it faulted (R340) -/
  waitQ : List (Nat × BitVec 64 × Bool × Bool) := []
  /-- the power-up under way follows an input-loss shutdown (R340, R343) -/
  afterLoss : Bool := false
  /-- the sequence under way is the shutdown of a grid park (R341) -/
  park : Bool := false
  deriving DecidableEq, Repr

/-- One Almanac record (R349). -/
structure AlmRec where
  /-- ASEQ (R349) -/
  aseq : Nat := 0
  /-- FTIME (R349) -/
  ftime : Nat := 0
  /-- SOURCE (R349) -/
  source : Nat := 0
  /-- CODE (R349) -/
  code : Nat := 0
  /-- OWNER_EPOCH (R349) -/
  epoch : BitVec 32 := 0
  /-- PAYLOAD (R349) -/
  payload : List (BitVec 64) := []
  /-- SINGLE (R349) -/
  single : Bool := false
  /-- HOLDUP (R349) -/
  holdup : Bool := false
  /-- the slot fails its CRC (R353, R355) -/
  torn : Bool := false
  deriving DecidableEq, Repr

/-- The Almanac and the keeper's record queue (R348 to R356). -/
structure Almanac where
  /-- records of Loft die 0, keyed by slot; absent empty (R348) -/
  die0 : Tbl AlmRec := []
  /-- records of Loft die 1 (R348) -/
  die1 : Tbl AlmRec := []
  /-- records waiting to be written (R352) -/
  queue : List AlmRec := []
  /-- newest records in keeper memory, newest first (R356) -/
  memory : List AlmRec := []
  /-- next ASEQ (R349) -/
  nextAseq : Nat := 1
  /-- records dropped and not yet reported (R352) -/
  dropped : Nat := 0
  /-- torn slots found since start (R355) -/
  torn : Nat := 0
  /-- the keeper-start record has been written (R354) -/
  started : Bool := false
  /-- the previous collapse finished on hold-up (R351) -/
  prevOnHoldup : Bool := false
  deriving DecidableEq, Repr

/-- One power channel (R357 to R385), keyed by keeper channel 0x2A-0x33. -/
structure Chan where
  /-- CSTATE (R366, R383) -/
  cstate : CState := .off
  /-- RANGE (R360) -/
  highRange : Bool := false
  /-- the next sample is the first after a range change (R361) -/
  rangeChanged : Bool := false
  /-- consecutive samples below 60 % of low full scale (R360) -/
  lowRun : Nat := 0
  /-- latest samples, newest first (R383) -/
  samples : List Sample := []
  /-- newest samples that await interpolation (R361) -/
  flagRun : Nat := 0
  /-- current of the last unflagged sample (R361) -/
  lastGood : Option Int := none
  /-- energy, uJ (integer part reported) (L) (R362) -/
  energy : Rat := 0
  /-- gate driven on (R366) -/
  gate : Bool := false
  /-- gate driver readback on (R373) -/
  gateRead : Bool := false
  /-- device time the gate readback went off (R373) -/
  gateOffTime : Nat := 0
  /-- branch: BRn_PG high; feed: gate fully on (R366) -/
  pg : Bool := false
  /-- device time BRn_PG fell (R379) -/
  pgLowTime : Nat := 0
  /-- device time the inrush ramp or limited turn-on started (R364) -/
  rampStart : Nat := 0
  /-- limited turn-on of a switchover (R374) -/
  limited : Bool := false
  /-- a commanded opening waits for its 20 us (R366) -/
  openDue : Bool := false
  /-- device time it became ON (R370) -/
  onSince : Nat := 0
  /-- RETRIES_LEFT (L) (R370, R383) -/
  retriesLeft : Nat := 3
  /-- RETRIES (R385) -/
  retries : Nat := 3
  /-- device time the next retry starts (R370) -/
  retryDue : Option Nat := none
  /-- number of the retry waited for (R370) -/
  retryNo : Nat := 0
  /-- trip threshold, A (L) (R385) -/
  thresh : Nat := 100
  /-- CAUSE of the last trip (R383) -/
  cause : Nat := 0
  /-- TRIPS (R383) -/
  trips : Nat := 0
  /-- feed: warning threshold, 0.1 mV (R385) -/
  warn : Nat := 460000
  /-- feed valid (R372) -/
  valid : Bool := false
  /-- since when VS is at or above warning + 2.0 V (R372) -/
  aboveSince : Option Nat := none
  /-- since when VS is below the warning threshold (R374, R378) -/
  belowSince : Option Nat := none
  /-- since when VS is at or above the warning threshold (R343, R378) -/
  okSince : Option Nat := none
  /-- since when the feed is READY (R376) -/
  readySince : Option Nat := none
  /-- highest sample since the last record, mA (R384) -/
  iMax : Option Int := none
  /-- lowest sample since the last record, mA (R384) -/
  iMin : Option Int := none
  /-- PWR_RESET_TRIP entry that waits, 0 none (R371) -/
  resetJseq : Nat := 0
  /-- PWR_BRANCH and GOV_UNPARK entries that wait (R287, R284) -/
  closeJseq : List Nat := []
  /-- PWR_BRANCH off entries that wait for the gate to be pulled (R279, R366) -/
  openJseq : List Nat := []
  /-- INRUSH_SLEW, 0.1 V per ms (calibration) (R385) -/
  inrushSlew : Nat := 10
  /-- inrush limit, A (calibration) (R385) -/
  inrushLimit : Nat := 10
  /-- INRUSH_TIMEOUT, ms (calibration) (R385) -/
  inrushTimeout : Nat := 100
  deriving DecidableEq, Repr

/-- Feeds, seating and warning (R363 to R382). -/
structure Feed where
  /-- channel of the feed in use (R383) -/
  inUse : Option Nat := none
  /-- FEED_WARN_N asserted (R378) -/
  warnPin : Bool := false
  /-- SEAT_A_N counts as made (R363) -/
  seatA : Bool := false
  /-- SEAT_B_N counts as made (R363) -/
  seatB : Bool := false
  /-- start of the 100 ms count (R363) -/
  madeTime : Option Nat := none
  /-- seated (R363) -/
  seated : Bool := false
  /-- feed to be driven after the both-off interval (R374) -/
  switchTo : Option Nat := none
  /-- feed pulled in the switchover (R374) -/
  switchFrom : Option Nat := none
  /-- device time the new feed's gate was driven (R375) -/
  switchTime : Nat := 0
  /-- SWITCHOVERS (R383) -/
  switchovers : Nat := 0
  /-- LAST_SW (R383) -/
  lastSw : Nat := 0
  /-- neither gate is driven afresh until a power cycle (R373) -/
  gateFault : Bool := false
  /-- next slot of the branch closing at start (R367) -/
  closing : Option Nat := none
  /-- the branch closing at start has begun (R367) -/
  closingOn : Bool := false
  /-- every BRn_PG was driven low for want of a feed (R379) -/
  noFeed : Bool := false
  /-- energy counts held in the Loft (R362) -/
  loftEnergy : Tbl Int := []
  deriving DecidableEq, Repr

/-- One zone (R390), keyed by zone. -/
structure Zone where
  /-- pump mask (R390) -/
  pumps : Nat := 0
  /-- fan mask (R390) -/
  fans : Nat := 0
  /-- slot mask (R390) -/
  slots : Nat := 0
  /-- TARGET, 1/128 degC (R408) -/
  target : Int := 10880
  /-- TRIP, 1/128 degC (R408) -/
  trip : Int := 12160
  /-- zone temperature, 1/128 degC (R390) -/
  temp : Option Rat := none
  /-- HOTTEST (R406) -/
  hottest : Nat := 0xFFFF
  /-- D, 0.1 % (R391) -/
  demand : Nat := 0
  /-- OVER (R406) -/
  isOver : Bool := false
  /-- the latest demand found the zone at or above TRIP (R395) -/
  atTrip : Bool := false
  /-- OVER (bit 0) and TRIP (bit 1) of the latest cooling record (R407) -/
  posted : Nat := 0
  /-- since when at or below TARGET (R395) -/
  okSince : Option Nat := none
  /-- since when without a reading (R395) -/
  blankSince : Option Nat := none
  deriving DecidableEq, Repr

/-- One temperature point with settings (R389), keyed by point number. -/
structure Point where
  /-- neighbours (R389) -/
  neighbours : List Nat := []
  /-- THRESH, 1/128 degC (R408) -/
  thresh : Int := 640
  /-- N (R408) -/
  n : Nat := 8
  /-- zone (R389) -/
  zone : Nat := 0
  /-- suspect mark of each bay (R389) -/
  suspect : Tbl Bool := []
  /-- consecutive checks out of THRESH (R389) -/
  bad : Tbl Nat := []
  /-- consecutive checks within THRESH (R389) -/
  good : Tbl Nat := []
  /-- neighbour estimate (R389) -/
  estimate : Tbl Rat := []
  deriving DecidableEq, Repr

/-- One fan or pump channel (R396 to R399), keyed by channel 0x00-0x13. -/
structure Drive where
  /-- DSTATE (R406) -/
  dstate : DState := .off
  /-- MODE 1 (R392) -/
  mode1 : Bool := false
  /-- DRIVE, 0.1 % (R392, R408) -/
  fixed : Nat := 700
  /-- DEMAND, 0.1 % (R406) -/
  demand : Nat := 0
  /-- drive on the pin, 0.1 % (R406) -/
  drive : Nat := 0
  /-- device time the kick started (R396) -/
  kickStart : Nat := 0
  /-- device time of the last tachometer edge (R397) -/
  lastEdge : Nat := 0
  /-- last good drive, 0.1 % (R398) -/
  lastGood : Nat := 0
  /-- device time and value of the latest changes of the drive on the pin, newest first (R398) -/
  hist : List (Nat × Nat) := []
  /-- IDX_FAULTS (R399) -/
  idxFaults : Nat := 0
  /-- device time of the latest index-fault event (R399) -/
  idxEventTime : Option Nat := none
  /-- STALLS (R406) -/
  stalls : Nat := 0
  /-- stalled, until a retry kick is answered (R398) -/
  isStalled : Bool := false
  /-- device time of the latest stall or retry (R398) -/
  stallTime : Nat := 0
  /-- supply current, mA (R397, R406) -/
  current : Option Nat := none
  /-- current monitor: port, address, page (calibration) (R397) -/
  monitor : Option (Nat × Nat × Nat) := none
  /-- device time of the latest READ_IOUT (R397) -/
  readTime : Option Nat := none
  /-- consecutive READ_IOUT misses (R429) -/
  misses : Nat := 0
  /-- I_LOCK, mA (calibration) (R408) -/
  iLock : Option Nat := none
  /-- I_OPEN, mA (calibration) (R408) -/
  iOpen : Option Nat := none
  /-- PPR (calibration) (R408) -/
  ppr : Nat := 2
  /-- pump PWM frequency, kHz (calibration) (R408) -/
  pwmKhz : Nat := 25
  deriving DecidableEq, Repr

/-- One leak, flow, alert or GPIO input (R403), keyed by channel. -/
structure Input where
  /-- FILTER, us (R408) -/
  filter : Nat := 1000
  /-- STUCK, us (R408) -/
  stuck : Nat := 600000000
  /-- CHATTER (R408) -/
  chatter : Nat := 20
  /-- filtered state (R403) -/
  active : Bool := false
  /-- pin level (R406) -/
  level : Bool := false
  /-- device time it became active (R403) -/
  activeSince : Nat := 0
  /-- device time it became inactive (R403) -/
  inactiveSince : Nat := 0
  /-- masked (R403) -/
  masked : Bool := false
  /-- chattering (R403) -/
  chattering : Bool := false
  /-- since when at or below CHATTER (R403) -/
  calmSince : Nat := 0
  /-- device time the latest flow gate ended (R400) -/
  gateTime : Option Nat := none
  /-- flow, mL/min (R400) -/
  flow : Option Nat := none
  /-- K factor (calibration) (R408) -/
  kFactor : Nat := 1000
  deriving DecidableEq, Repr

/-- One remote diode (R388, R405), keyed by diode. -/
structure Diode where
  /-- reading, 1/128 degC (R388) -/
  temp : Option Int := none
  /-- consecutive conversions at or above its trip (R405) -/
  hot : Nat := 0
  deriving DecidableEq, Repr

/-- One valve (R401), keyed by valve. -/
structure Valve where
  /-- driven high (R402) -/
  isOpen : Bool := false
  /-- released to high impedance (R404) -/
  released : Bool := false
  deriving DecidableEq, Repr

/-- Thermal factor and hold of a slot (R393, R395), keyed by slot. -/
structure Thermal where
  /-- h, 0.001 (R393) -/
  h : Nat := 1000
  /-- zones whose thermal hold stands on the slot (bit 15-0), or diode trips (R395) -/
  hold : Nat := 0
  deriving DecidableEq, Repr

/-- Cooling. -/
structure Cool where
  /-- zones (R390) -/
  zones : Tbl Zone := []
  /-- points with settings (R389) -/
  points : Tbl Point := []
  /-- fan and pump channels (R386) -/
  drives : Tbl Drive := []
  /-- inputs (R403) -/
  inputs : Tbl Input := []
  /-- remote diodes (R388) -/
  diodes : Tbl Diode := []
  /-- valves (R386) -/
  valves : Tbl Valve := []
  /-- GPIO output levels (R185) -/
  gpio : Tbl Bool := []
  /-- thermal factors (R393) -/
  thermal : Tbl Thermal := []
  /-- Scarecrow live (R405) -/
  scarecrow : Bool := false
  /-- mask of GPIO outputs released to high impedance (R404) -/
  released : Nat := 0
  /-- mask of diodes at or above their trip (R405) -/
  hotDiodes : Nat := 0
  /-- device time of the latest conversions (R388) -/
  diodeTime : Option Nat := none
  /-- millisecond of each bay's latest sensor check, plus one (R389) -/
  checkTick : Tbl Nat := []
  /-- millisecond of the latest zone demand, plus one (R391) -/
  demandTick : Nat := 0
  /-- window of the latest thermal step, plus one (R393) -/
  stepWindow : Nat := 0
  /-- device time of the latest cooling records of every zone (R407) -/
  recordTime : Option Nat := none
  deriving DecidableEq, Repr

/-- Two-wire descriptor (R184) with its issuer. -/
structure TwDesc where
  /-- PORT (R184) -/
  port : Nat := 0
  /-- ADDR (R184) -/
  addr : Nat := 0
  /-- KIND (R184) -/
  kind : Nat := 0
  /-- WLEN (R184) -/
  wlen : Nat := 0
  /-- RLEN (R184) -/
  rlen : Nat := 0
  /-- BUF (R184) -/
  buf : Nat := 0
  /-- TOUT, ms (R184) -/
  tout : Nat := 0
  /-- bytes to write (R184) -/
  wdata : List (BitVec 8) := []
  /-- hand, host command or keeper work that waits (R414) -/
  issuer : TwIssuer := .host 0
  /-- TSEQ tag (R190) -/
  tag : Nat := 0
  /-- addresses the port's own page (R424) -/
  ownPage : Bool := false
  deriving DecidableEq, Repr

/-- One two-wire port (R409 to R431), keyed by port. -/
structure TwPort where
  /-- ENABLE (R411) -/
  enable : Bool := true
  /-- SPEED (R411) -/
  speed : Nat := 0
  /-- FILTER (R411) -/
  filter : Nat := 0
  /-- TARGET, 0 none (R411) -/
  target : Nat := 0
  /-- setting waiting for a free bus (R411) -/
  pendingCfg : Option (Bool × Nat × Nat × Nat) := none
  /-- queued descriptors of ROM hands (R414) -/
  romQ : List TwDesc := []
  /-- other queued descriptors (R414) -/
  otherQ : List TwDesc := []
  /-- host descriptors that wait for room (R414) -/
  waitQ : List TwDesc := []
  /-- consecutive ROM descriptors served (R414) -/
  romRun : Nat := 0
  /-- descriptor on the bus (R415) -/
  active : Option TwDesc := none
  /-- attempts made by it (R415) -/
  attempts : Nat := 0
  /-- device time of its first attempt (R415) -/
  startTime : Nat := 0
  /-- a transaction is on the bus (R238, R415) -/
  started : Bool := false
  /-- bus stuck (R416) -/
  stuck : Bool := false
  /-- device time of the last recovery attempt (R416) -/
  stuckTime : Nat := 0
  /-- register page (absent bytes are 0) (R422) -/
  page : List (BitVec 8) := []
  /-- bus pointer (R423) -/
  busPtr : Nat := 0
  /-- local pointer (R424) -/
  locPtr : Nat := 0
  /-- a target transfer is on the bus (R424) -/
  busTarget : Bool := false
  /-- Host Notify places: address, status word (R425) -/
  notes : List (Nat × Nat) := []
  /-- low-power matcher on, port clock stopped (R426) -/
  matcher : Bool := false
  /-- device time of the last transaction addressed to it (R426) -/
  lastTarget : Nat := 0
  deriving DecidableEq, Repr

/-- Push window of one bay (R432 to R442), keyed by bay. -/
structure Push where
  /-- PW_STATE (R433) -/
  state : PwState := .held
  /-- AGENT (R433) -/
  agent : Nat := 0
  /-- node identifier of the neighbour that pushes (R443) -/
  pusher : BitVec 64 := 0
  /-- ATTEMPT (R433) -/
  attempt : Nat := 0
  /-- failed attempts since the window opened (R442) -/
  failed : Nat := 0
  /-- CHECK (R433) -/
  check : Nat := 0
  /-- WANT_HASH (R433, R456) -/
  wantHash : Nat := 0
  /-- IMG_OFF (R433) -/
  imgOff : Nat := 0
  /-- LEN (R433) -/
  len : Nat := 0
  /-- CRC (R433) -/
  crc : BitVec 32 := 0
  /-- HALF (R433) -/
  half : Nat := 0
  /-- XSTAT (R433) -/
  xstat : Nat := 0
  /-- IMG_LEN (R433) -/
  imgLen : Nat := 0
  /-- pages copied good, rising (R434) -/
  good : List Nat := []
  /-- device time the window opened (R436) -/
  openTime : Nat := 0
  /-- device time of the claim that stands (R436) -/
  claimTime : Nat := 0
  /-- copy under way: IMG_OFF, LEN, CRC and HALF at its GO (R434) -/
  copy : Option (Nat × Nat × BitVec 32 × Nat) := none
  /-- stage 1 runs its checks (R439, R441) -/
  stage1 : Bool := false
  /-- device time DONE_TO or XSTAT last changed (R437) -/
  progressTime : Nat := 0
  deriving DecidableEq, Repr

/-- Measurements and debug of one bay (R443, R445), keyed by bay. -/
structure Measure where
  /-- TALLY0-TALLY7 (R443) -/
  tally : Tbl Nat := []
  /-- QREQ at the last poll (R443) -/
  qreqSeen : BitVec 64 := 0
  /-- QTIME (R443) -/
  qtime : Nat := 0
  /-- QUOTE (R443) -/
  quote : Nat := 0
  /-- IMG_EPOCH (R443) -/
  imgEpoch : Nat := 0
  /-- DBG: 0 open, 1 authenticated closed, 2 authenticated opened, 3 closed (R443) -/
  dbg : Nat := 3
  /-- challenge drawn for the probe (R445) -/
  challenge : Option Nat := none
  /-- the probe's challenge waits for entropy (R445, R447) -/
  challengeDue : Bool := false
  /-- device time of the latest QREQ poll (R443) -/
  pollTime : Option Nat := none
  /-- hands halted by the probe, each with the address of the one instruction that a step lets issue (R445) -/
  haltedHands : List (Nat × Option (BitVec 32)) := []
  /-- data returned by the latest debug read (R203) -/
  dbgData : BitVec 64 := 0
  deriving DecidableEq, Repr

/-- Fuse block (R219, R303, R444, R446). -/
structure Fuse where
  /-- life-cycle state 0 BLANK .. 4 RETIRED (R444) -/
  lifeCycle : Nat := 0
  /-- fuse counter 0-128 (R446) -/
  counter : Nat := 0
  /-- epoch the burn under way goes to (R446) -/
  burnTo : Nat := 0
  /-- SHA-384 of the four public keys (R444) -/
  keyHashes : Tbl Nat := []
  /-- UPD_CONFIRM entry that waits for the burn, 0 none (R458) -/
  burnJseq : Nat := 0
  /-- slot that becomes VARNISHED when the burn ends (R446, R458) -/
  burnSlot : Option Nat := none
  /-- key hashes and device secret erased (R444) -/
  erased : Bool := false
  /-- result byte of the latest life-cycle request (R444) -/
  lastResult : Nat := 0
  deriving DecidableEq, Repr

/-- Entropy source (R447). -/
structure Entropy where
  /-- 512 tested bits gathered and the DRBG seeded (R447) -/
  ready : Bool := false
  /-- ENT_FAIL (R443, R447) -/
  failCount : Nat := 0
  /-- MODEL'S OWN: draws made from the generator, argument of the free value (R447) -/
  draws : Nat := 0
  /-- device time of the latest reseed (R447) -/
  reseedTime : Nat := 0
  /-- MODEL'S OWN: reseeds made (R447) -/
  reseeds : Nat := 0
  deriving DecidableEq, Repr

/-- One image slot of the Loft (R448, R449), keyed by slot. -/
structure Slot where
  /-- slot state (R449) -/
  state : Nat := 0
  /-- LEN (R452) -/
  len : Nat := 0
  /-- pages received, rising (R453) -/
  pages : List Nat := []
  /-- contents by 4 KiB page (R448) -/
  data : Tbl (List (BitVec 8)) := []
  /-- image hash, once committed (R451) -/
  hash : Nat := 0
  /-- EPOCH of its header (R450) -/
  epoch : Nat := 0
  /-- committed in Fallow mode (R465) -/
  fallowFlag : Bool := false
  deriving DecidableEq, Repr

/-- Update session and Loft system area (R448 to R465). -/
structure Update where
  /-- image slots (R448) -/
  slots : Tbl Slot := []
  /-- slot of the open field-image session (R452) -/
  session0 : Option Nat := none
  /-- slot of the open firmware session (R452) -/
  session1 : Option Nat := none
  /-- bay that opened the Fallow session (R463) -/
  sessionBay : Nat := 0
  /-- the open field-image session was begun by a fabric push (R464) -/
  pushSession : Bool := false
  /-- kind of the session UPD_BLOCK and UPD_COMMIT act on (R452) -/
  latestKind : Nat := 0
  /-- update lock (R455) -/
  lock : Bool := false
  /-- device time movement was last seen (R455) -/
  moveTime : Option Nat := none
  /-- accelerometer named by the calibration set (R455) -/
  accel : Option (Nat × Nat × Nat) := none
  /-- device time of the latest Fallow commit (R465) -/
  fallowCommit : Option Nat := none
  /-- SFMT of settings copy X (R459) -/
  settingsX : Nat := 0
  /-- SFMT of settings copy Y (R459) -/
  settingsY : Nat := 0
  /-- SHA-384 of the owner public keys held in the Loft: 0 image key, 1 program key (R444) -/
  ownerKeys : Tbl Nat := []
  /-- user hands as the Loft keeps them while no bay holds them: regions, entry and configuration (R193) -/
  loftHands : Tbl Hand := []
  /-- instances bound, as the Loft keeps them while no bay holds them (R150, R459) -/
  loftBinds : Tbl Inst := []
  /-- device time of the latest accelerometer reading (R455) -/
  accelTime : Option Nat := none
  /-- owner epoch held in the Loft (R224) -/
  loftEpoch : BitVec 32 := 0
  deriving DecidableEq, Repr

/-- Loft dies and the calibration set (R448, R466). -/
structure Loft where
  /-- die 0 lost (R18) -/
  lost0 : Bool := false
  /-- die 1 lost (R18) -/
  lost1 : Bool := false
  /-- calibration bytes, canonical (R466) -/
  cal : List (Nat × BitVec 8) := []
  /-- USER flag (R467) -/
  calUser : Bool := false
  /-- writes made by CAL_WRITE (R466) -/
  calWrites : Nat := 0
  /-- calibration CRC of die 0 passes (R468) -/
  calOk0 : Bool := true
  /-- calibration CRC of die 1 passes (R468) -/
  calOk1 : Bool := true
  /-- the set is not treated as absent (R468) -/
  calPresent : Bool := true
  /-- settings have been loaded (R470) -/
  loaded : Bool := false
  deriving DecidableEq, Repr

/-- Supplies, trim, clocks and hold-up (R469 to R494). -/
structure Power where
  /-- time counted since the crystal PLL locked, ns (R483) -/
  devTime : Nat := 0
  /-- device time less the time counted, ns: steps and slews towards fabric time (R318) -/
  timeBase : Int := 0
  /-- the crystal PLL has locked and device time counts (R470) -/
  counting : Bool := false
  /-- FT_OFFSET, ns (R318) -/
  ftOffset : Int := 0
  /-- supplies are valid (R469) -/
  suppliesValid : Bool := false
  /-- trim passes that agreed in the present load (R473) -/
  trimPass : Nat := 0
  /-- loads in a row that ended without TRIM_VALID (R474) -/
  trimLoads : Nat := 0
  /-- TRIM_VALID (R473) -/
  trimValid : Bool := false
  /-- outputs hold the safe state (R472) -/
  safeState : Bool := true
  /-- the keeper runs on its internal oscillator (R482) -/
  internalOsc : Bool := true
  /-- the hold-up supervisor has reported collapse (R494) -/
  collapsed : Bool := false
  /-- the store reached 5.0 V (R494) -/
  keeperStopped : Bool := false
  /-- hold-up store level, % (R493) -/
  holdup : Nat := 0
  /-- a controller reset waits for the hold-up writing (R477) -/
  resetPending : Bool := false
  /-- level of FALLOW_N (R438) -/
  fallowN : Bool := true
  /-- both bays Dormant (R478) -/
  dormant : Bool := false
  /-- a wake event has arrived and the bays have not yet left Dormant (R480) -/
  wakePending : Bool := false
  /-- device time of the latest wake (R480) -/
  wakeTime : Option Nat := none
  /-- device time of the photonic die's last heartbeat (R475) -/
  photHb : Nat := 0
  /-- TJ_KEEPER (R246) -/
  tjKeeper : Int := -32768
  /-- TJ_PHOTONIC (R246) -/
  tjPhotonic : Int := -32768
  /-- TJ_LOFT (R246) -/
  tjLoft : Int := -32768
  /-- MODEL'S OWN: draws of free values made (R204, R133) -/
  freshCount : Nat := 0
  /-- events of the keeper that wait until an owner serves: code and payload (R442, R226) -/
  waitEvents : List (Nat × List (Nat × Nat)) := []
  deriving DecidableEq, Repr

/-- The eight stalks: accelerator side, receiving lanes, placed frames and firmware pushes. -/
structure LinkSt where
  /-- accelerators, keyed by slot (R22, R44) -/
  accels : Tbl Accel := []
  /-- receiving lanes, keyed by slot*2+bay (R42) -/
  lanes : Tbl Lane := []
  /-- placed counter frames, keyed by slot*2+bay (R30) -/
  views : Tbl FrameView := []
  /-- firmware pushes, keyed by slot (R39) -/
  pushes : Tbl PushJob := []
  deriving DecidableEq, Repr

/-- The governor of both bays. -/
structure GovSt where
  /-- parameters, keyed by slot (R79, R100) -/
  params : Tbl GovParam := []
  /-- tray parameters (R79) -/
  tray : TrayParam := {}
  /-- margin parameters, keyed by slot, 0x10 and 0x11 (R100) -/
  margins : Tbl MarginParam := []
  /-- trims, keyed by who*32+point (R95) -/
  trims : Tbl Trim := []
  /-- calibration values, keyed by slot (R466) -/
  cal : Tbl CalSlot := []
  /-- operating-point changes, keyed by bay*8+slot (R84) -/
  chgs : Tbl Chg := []
  /-- governor slots, keyed by bay*8+slot (R45) -/
  slots : Tbl GovSlot := []
  /-- escalation (R75) -/
  esc : Esc := {}
  /-- device time at which the fusion pass under way began, keyed by bay (R53) -/
  passTime : Tbl Nat := []
  /-- window each bay's governor completed last, keyed by bay (R225) -/
  windowDone : Tbl Nat := []
  deriving DecidableEq, Repr

/-- The Easels of both bays. -/
structure EaselSt where
  /-- Easel, keyed by bay (R122) -/
  bays : Tbl Easel := []
  /-- parameters and loaded programs (R148) -/
  cfg : EaselCfg := {}
  deriving DecidableEq, Repr

/-- The Barns of both bays. -/
structure BarnSt where
  /-- hands, keyed by bay*4096+hand (R178) -/
  hands : Tbl Hand := []
  /-- valid cache lines of each core, keyed by bay*32+core, oldest first (R192) -/
  icache : Tbl (List Nat) := []
  /-- loaded code containers (R193) -/
  images : List CodeImage := []
  deriving DecidableEq, Repr

/-- The Granaries of both bays. -/
structure GranSt where
  /-- Granary and Porch, keyed by bay (R194) -/
  bays : Tbl Granary := []
  /-- self-tests, keyed by bay*256+bank (R216) -/
  bists : Tbl Bist := []
  /-- repairs in force (R219) -/
  repairs : List Repair := []
  deriving DecidableEq, Repr

/-- Ownership, bays and journal. -/
structure OwnSt where
  /-- ownership latch (R223) -/
  latch : Latch := {}
  /-- bays, keyed by bay (R230) -/
  bays : Tbl Bay := []
  /-- journal (R234) -/
  journal : Journal := {}
  /-- ownership parameters (R245) -/
  param : OwnParam := {}
  /-- device time of the latest bay records (R246) -/
  recordTime : Nat := 0
  deriving DecidableEq, Repr

/-- Rings and host endpoints. -/
structure HostSt where
  /-- rings (R253) -/
  rings : Rings := {}
  /-- endpoints, keyed by bay (R247) -/
  endpoints : Tbl Endpoint := []
  /-- admin ring registers (R250) -/
  admin : Admin := {}
  deriving DecidableEq, Repr

/-- The photonic die. -/
structure FabSt where
  /-- fabric engine (R306) -/
  fab : Fabric := {}
  /-- parameters (R332) -/
  param : FabParam := {}
  deriving DecidableEq, Repr

/-- Rails and the sequence under way. -/
structure RailSt where
  /-- rails, keyed by rail (R333) -/
  rails : Tbl Rail := []
  /-- sequence (R340) -/
  seq : Seq := {}
  deriving DecidableEq, Repr

/-- Power channels and feeds. -/
structure PowerSt where
  /-- power channels, keyed by keeper channel number (R357) -/
  chans : Tbl Chan := []
  /-- feeds and seating (R363) -/
  feed : Feed := {}
  deriving DecidableEq, Repr

/-- Two-wire ports. -/
structure TwSt where
  /-- ports, keyed by port (R409) -/
  ports : Tbl TwPort := []
  deriving DecidableEq, Repr

/-- Push windows, measurements, fuses and entropy. -/
structure BootSt where
  /-- push windows, keyed by bay (R432) -/
  push : Tbl Push := []
  /-- measurements and debug, keyed by bay (R443) -/
  measure : Tbl Measure := []
  /-- fuse block (R444) -/
  fuse : Fuse := {}
  /-- entropy source (R447) -/
  entropy : Entropy := {}
  deriving DecidableEq, Repr

/-- The Loft: image slots, system area and dies. -/
structure LoftSt where
  /-- image slots and sessions (R448) -/
  upd : Update := {}
  /-- dies and calibration (R466) -/
  die : Loft := {}
  deriving DecidableEq, Repr

/-- What the controller drives out, by the boundary it crosses (R24, R25, R256, R269, R300). -/
inductive Out where
  /-- a write into host memory through an endpoint (R256, R262, R277) -/
  | dma (endpoint : Nat) (addr : Nat) (bytes : List Byte)
  /-- an MSI-X message (R269) -/
  | msix (endpoint : Nat) (vector : Nat)
  /-- a command frame on the owner's lane of a slot (R25) -/
  | command (f : CommandFrame)
  /-- a burst frame (R25) -/
  | burst (f : BurstFrame)
  /-- a push block (R25) -/
  | block (f : PushBlock)
  /-- a counter frame an accelerator sends on both lanes (R24) -/
  | counter (f : CounterFrame)
  /-- a fabric frame on a port (R300) -/
  | fabric (port : Nat) (f : FabFrame)
  /-- a two-wire transaction on a port (R415) -/
  | twoWire (port : Nat) (d : TwDesc)
  /-- bytes a target transfer reads from a register page (R423) -/
  | twoWireRead (port : Nat) (bytes : List Byte)
  /-- an alert or other pin driven by its name and level (R378, R426) -/
  | pin (number : Nat) (level : Bool)
  /-- a mirrored write over the breezeway (R186, R235) -/
  | mirror (bay : Nat) (epoch : Word32) (addr : Nat) (bytes : List Byte)
  /-- a refused mirror write answered to its sender (R231) -/
  | mirrorRefused (bay : Nat)
  /-- data returned by a read of an endpoint (R249, R270) -/
  | readData (endpoint : Nat) (value : Word64)
  /-- a status or data word returned to the debug probe (R205, R445) -/
  | debugData (bay : Nat) (value : Word64)
  deriving DecidableEq, Repr

/-- The machine: every die's state, what it has driven out (newest first), and the commands that wait (first in, first out). -/
structure State where
  link : LinkSt := {}
  gov : GovSt := {}
  grid : Grid := {}
  easel : EaselSt := {}
  barn : BarnSt := {}
  gran : GranSt := {}
  own : OwnSt := {}
  host : HostSt := {}
  fab : FabSt := {}
  rail : RailSt := {}
  alm : Almanac := {}
  pwr : PowerSt := {}
  cool : Cool := {}
  tw : TwSt := {}
  boot : BootSt := {}
  loft : LoftSt := {}
  sys : Power := {}
  out : List Out := []
  pending : List Instr := []
  deriving DecidableEq, Repr

/-- Reasons the machine stops with a fault: there are none. No rule of the manual stops the whole controller; every failure it
describes is a state it goes on from, so no command raises a fault. -/
inductive Fault where
  deriving DecidableEq, Repr

/-- Reasons a command has no meaning. -/
inductive Refusal where
  /-- Answered by the arm of a command that has no meaning yet, with its mnemonic. Safe: nothing is claimed of it. -/
  | notModelled (mnemonic : String)
  deriving DecidableEq, Repr

/-- The machine right after power comes: every field at the value the manual gives, or that the assumption log names. -/
def State.reset : State := {}

end Sys2Proof.Machine
end

