-- ==== Sys2Proof/Machine/Access.lean ====
section
/-!
DEFINITION. Reading and changing the state: tables keyed by number, one change operation for each part of the state, and one
reader and one change operation for each table (R223 to R496 name what they hold).
-/
namespace Sys2Proof.Machine
open Sys2Proof

/-- The value at a key of a table, or the default where the key is absent. -/
def tget {α : Type} (t : Tbl α) (k : Nat) (d : α) : α :=
  match t with
  | [] => d
  | (k', v) :: r => if k' = k then v else tget r k d

/-- The table with a value set at a key; keys stay strictly rising. -/
def tset {α : Type} (t : Tbl α) (k : Nat) (v : α) : Tbl α :=
  match t with
  | [] => [(k, v)]
  | (k', v') :: r =>
    if k < k' then (k, v) :: (k', v') :: r
    else if k' = k then (k, v) :: r
    else (k', v') :: tset r k v

/-- The table without a key. -/
def tdel {α : Type} (t : Tbl α) (k : Nat) : Tbl α := t.filter fun e => e.1 != k

/-- The value at a key, if the key is present. -/
def tfind {α : Type} (t : Tbl α) (k : Nat) : Option α :=
  match t with
  | [] => none
  | (k', v) :: r => if k' = k then some v else tfind r k

/-- Apply a change for each index below n, in rising order. -/
def forUpTo {α : Type} (n : Nat) (f : α → Nat → α) (a : α) : α := (List.range n).foldl f a

/-- A power channel's parameters before any is set: branch channels 0x2A to 0x31, feeds 0x32 and 0x33 (R371, R385). -/
def chanDefault (ch : Nat) : Chan :=
  if 0x32 ≤ ch then { thresh := 800, inrushLimit := 20, inrushSlew := 10 } else {}

/-- An input's parameters before any is set, by the kind of the channel (R403, R408). -/
def inputDefault (ch : Nat) : Input :=
  if ch < 0x1C then {}
  else if ch < 0x20 then { filter := 100000, chatter := 2000 }
  else { filter := 10, stuck := 10000000, chatter := 1000 }

/-- Change link. -/
def State.modLink (s : State) (f : LinkSt → LinkSt) : State := { s with link := f s.link }

/-- Change gov. -/
def State.modGov (s : State) (f : GovSt → GovSt) : State := { s with gov := f s.gov }

/-- Change grid. -/
def State.modGrid (s : State) (f : Grid → Grid) : State := { s with grid := f s.grid }

/-- Change easel. -/
def State.modEasel (s : State) (f : EaselSt → EaselSt) : State := { s with easel := f s.easel }

/-- Change barn. -/
def State.modBarn (s : State) (f : BarnSt → BarnSt) : State := { s with barn := f s.barn }

/-- Change gran. -/
def State.modGran (s : State) (f : GranSt → GranSt) : State := { s with gran := f s.gran }

/-- Change own. -/
def State.modOwn (s : State) (f : OwnSt → OwnSt) : State := { s with own := f s.own }

/-- Change host. -/
def State.modHost (s : State) (f : HostSt → HostSt) : State := { s with host := f s.host }

/-- Change fab. -/
def State.modFab (s : State) (f : FabSt → FabSt) : State := { s with fab := f s.fab }

/-- Change rail. -/
def State.modRail (s : State) (f : RailSt → RailSt) : State := { s with rail := f s.rail }

/-- Change alm. -/
def State.modAlm (s : State) (f : Almanac → Almanac) : State := { s with alm := f s.alm }

/-- Change pwr. -/
def State.modPwr (s : State) (f : PowerSt → PowerSt) : State := { s with pwr := f s.pwr }

/-- Change cool. -/
def State.modCool (s : State) (f : Cool → Cool) : State := { s with cool := f s.cool }

/-- Change tw. -/
def State.modTw (s : State) (f : TwSt → TwSt) : State := { s with tw := f s.tw }

/-- Change boot. -/
def State.modBoot (s : State) (f : BootSt → BootSt) : State := { s with boot := f s.boot }

/-- Change loft. -/
def State.modLoft (s : State) (f : LoftSt → LoftSt) : State := { s with loft := f s.loft }

/-- Change sys. -/
def State.modSys (s : State) (f : Power → Power) : State := { s with sys := f s.sys }

/-- Record something driven out. -/
def State.emit (s : State) (o : Out) : State := { s with out := o :: s.out }

/-- The accelerator's side of one stalk (R22 to R44), keyed by slot. -/
def State.accel (s : State) (slot : Nat) : Accel := tget s.link.accels slot {}

/-- Change the accelerator's side of one stalk (R22 to R44), keyed by slot. -/
def State.modAccel (s : State) (slot : Nat) (f : Accel → Accel) : State :=
  { s with link := { s.link with accels := tset s.link.accels slot (f (s.accel slot)) } }

/-- The controller's receiving end of one stalk lane (R42); keyed by slot*2+bay. -/
def State.lane (s : State) (slot bay : Nat) : Lane := tget s.link.lanes (slot * 2 + bay) {}

/-- Change the controller's receiving end of one stalk lane (R42); keyed by slot*2+bay. -/
def State.modLane (s : State) (slot bay : Nat) (f : Lane → Lane) : State :=
  { s with link := { s.link with lanes := tset s.link.lanes (slot * 2 + bay) (f (s.lane slot bay)) } }

/-- What a bay holds of a slot's counter frames (R24, R30, R387). -/
def State.view (s : State) (slot bay : Nat) : FrameView := tget s.link.views (slot * 2 + bay) {}

/-- Change what a bay holds of a slot's counter frames (R24, R30, R387). -/
def State.modView (s : State) (slot bay : Nat) (f : FrameView → FrameView) : State :=
  { s with link := { s.link with views := tset s.link.views (slot * 2 + bay) (f (s.view slot bay)) } }

/-- Owner's firmware push to a slot (R39 to R41). -/
def State.pushJob (s : State) (slot : Nat) : PushJob := tget s.link.pushes slot {}

/-- Change owner's firmware push to a slot (R39 to R41). -/
def State.modPushJob (s : State) (slot : Nat) (f : PushJob → PushJob) : State :=
  { s with link := { s.link with pushes := tset s.link.pushes slot (f (s.pushJob slot)) } }

/-- Governor parameters of a slot (R79, R100), keyed by slot; shared by both bays through the journal. -/
def State.govParam (s : State) (slot : Nat) : GovParam := tget s.gov.params slot {}

/-- Change governor parameters of a slot (R79, R100), keyed by slot; shared by both bays through the journal. -/
def State.modGovParam (s : State) (slot : Nat) (f : GovParam → GovParam) : State :=
  { s with gov := { s.gov with params := tset s.gov.params slot (f (s.govParam slot)) } }

/-- Margin parameters (R100), keyed by slot 0-7, 0x10 bay 0, 0x11 bay 1. -/
def State.marginParam (s : State) (who : Nat) : MarginParam := tget s.gov.margins who {}

/-- Change margin parameters (R100), keyed by slot 0-7, 0x10 bay 0, 0x11 bay 1. -/
def State.modMarginParam (s : State) (who : Nat) (f : MarginParam → MarginParam) : State :=
  { s with gov := { s.gov with margins := tset s.gov.margins who (f (s.marginParam who)) } }

/-- Trim of one operating point or bay (R95), keyed by who*32+point. -/
def State.trimOf (s : State) (who point : Nat) : Trim := tget s.gov.trims (who * 32 + point) {}

/-- Change trim of one operating point or bay (R95), keyed by who*32+point. -/
def State.modTrimOf (s : State) (who point : Nat) (f : Trim → Trim) : State :=
  { s with gov := { s.gov with trims := tset s.gov.trims (who * 32 + point) (f (s.trimOf who point)) } }

/-- Calibration values of a slot (R466). -/
def State.calSlot (s : State) (slot : Nat) : CalSlot := tget s.gov.cal slot {}

/-- Change calibration values of a slot (R466). -/
def State.modCalSlot (s : State) (slot : Nat) (f : CalSlot → CalSlot) : State :=
  { s with gov := { s.gov with cal := tset s.gov.cal slot (f (s.calSlot slot)) } }

/-- Operating-point change of a slot as a bay runs it (R84 to R91). -/
def State.chg (s : State) (bay slot : Nat) : Chg := tget s.gov.chgs (bay * 8 + slot) {}

/-- Change operating-point change of a slot as a bay runs it (R84 to R91). -/
def State.modChg (s : State) (bay slot : Nat) (f : Chg → Chg) : State :=
  { s with gov := { s.gov with chgs := tset s.gov.chgs (bay * 8 + slot) (f (s.chg bay slot)) } }

/-- Governor state of one slot on one bay, keyed by bay*8+slot. -/
def State.govSlot (s : State) (bay slot : Nat) : GovSlot := tget s.gov.slots (bay * 8 + slot) {}

/-- Change governor state of one slot on one bay, keyed by bay*8+slot. -/
def State.modGovSlot (s : State) (bay slot : Nat) (f : GovSlot → GovSlot) : State :=
  { s with gov := { s.gov with slots := tset s.gov.slots (bay * 8 + slot) (f (s.govSlot bay slot)) } }

/-- The Easel of one bay, keyed by bay. -/
def State.easelBay (s : State) (bay : Nat) : Easel := tget s.easel.bays bay {}

/-- Change the Easel of one bay, keyed by bay. -/
def State.modEaselBay (s : State) (bay : Nat) (f : Easel → Easel) : State :=
  { s with easel := { s.easel with bays := tset s.easel.bays bay (f (s.easelBay bay)) } }

/-- One hand of one bay (R178 to R193), keyed by bay*4096+hand. -/
def State.hand (s : State) (bay hand : Nat) : Hand := tget s.barn.hands (bay * 4096 + hand) {}

/-- Change one hand of one bay (R178 to R193), keyed by bay*4096+hand. -/
def State.modHand (s : State) (bay hand : Nat) (f : Hand → Hand) : State :=
  { s with barn := { s.barn with hands := tset s.barn.hands (bay * 4096 + hand) (f (s.hand bay hand)) } }

/-- Granary and Porch of one bay, keyed by bay. -/
def State.granary (s : State) (bay : Nat) : Granary := tget s.gran.bays bay {}

/-- Change Granary and Porch of one bay, keyed by bay. -/
def State.modGranary (s : State) (bay : Nat) (f : Granary → Granary) : State :=
  { s with gran := { s.gran with bays := tset s.gran.bays bay (f (s.granary bay)) } }

/-- Latest self-test of one bank (R216, R218), keyed by bay*256+bank. -/
def State.bist (s : State) (bay bank : Nat) : Bist := tget s.gran.bists (bay * 256 + bank) {}

/-- Change latest self-test of one bank (R216, R218), keyed by bay*256+bank. -/
def State.modBist (s : State) (bay bank : Nat) (f : Bist → Bist) : State :=
  { s with gran := { s.gran with bists := tset s.gran.bists (bay * 256 + bank) (f (s.bist bay bank)) } }

/-- One bay, keyed by bay. -/
def State.bay (s : State) (b : Nat) : Bay := tget s.own.bays b {}

/-- Change one bay, keyed by bay. -/
def State.modBay (s : State) (b : Nat) (f : Bay → Bay) : State :=
  { s with own := { s.own with bays := tset s.own.bays b (f (s.bay b)) } }

/-- One host endpoint (R247 to R250), keyed by bay. -/
def State.endpoint (s : State) (e : Nat) : Endpoint := tget s.host.endpoints e {}

/-- Change one host endpoint (R247 to R250), keyed by bay. -/
def State.modEndpoint (s : State) (e : Nat) (f : Endpoint → Endpoint) : State :=
  { s with host := { s.host with endpoints := tset s.host.endpoints e (f (s.endpoint e)) } }

/-- One rail (R333 to R346), keyed by rail. -/
def State.rail_ (s : State) (nn : Nat) : Rail := tget s.rail.rails nn {}

/-- Change one rail (R333 to R346), keyed by rail. -/
def State.modRail_ (s : State) (nn : Nat) (f : Rail → Rail) : State :=
  { s with rail := { s.rail with rails := tset s.rail.rails nn (f (s.rail_ nn)) } }

/-- One power channel (R357 to R385), keyed by keeper channel 0x2A-0x33. -/
def State.chan (s : State) (ch : Nat) : Chan := tget s.pwr.chans ch (chanDefault ch)

/-- Change one power channel (R357 to R385), keyed by keeper channel 0x2A-0x33. -/
def State.modChan (s : State) (ch : Nat) (f : Chan → Chan) : State :=
  { s with pwr := { s.pwr with chans := tset s.pwr.chans ch (f (s.chan ch)) } }

/-- One two-wire port (R409 to R431), keyed by port. -/
def State.twPort (s : State) (port : Nat) : TwPort := tget s.tw.ports port {}

/-- Change one two-wire port (R409 to R431), keyed by port. -/
def State.modTwPort (s : State) (port : Nat) (f : TwPort → TwPort) : State :=
  { s with tw := { s.tw with ports := tset s.tw.ports port (f (s.twPort port)) } }

/-- Push window of one bay (R432 to R442), keyed by bay. -/
def State.push (s : State) (bay : Nat) : Push := tget s.boot.push bay {}

/-- Change push window of one bay (R432 to R442), keyed by bay. -/
def State.modPush (s : State) (bay : Nat) (f : Push → Push) : State :=
  { s with boot := { s.boot with push := tset s.boot.push bay (f (s.push bay)) } }

/-- Measurements and debug of one bay (R443, R445), keyed by bay. -/
def State.measure (s : State) (bay : Nat) : Measure := tget s.boot.measure bay {}

/-- Change measurements and debug of one bay (R443, R445), keyed by bay. -/
def State.modMeasure (s : State) (bay : Nat) (f : Measure → Measure) : State :=
  { s with boot := { s.boot with measure := tset s.boot.measure bay (f (s.measure bay)) } }

/-- One zone (R390), keyed by zone. -/
def State.zone (s : State) (z : Nat) : Zone := tget s.cool.zones z {}

/-- Change one zone (R390), keyed by zone. -/
def State.modZone (s : State) (z : Nat) (f : Zone → Zone) : State :=
  { s with cool := { s.cool with zones := tset s.cool.zones z (f (s.zone z)) } }

/-- One temperature point with settings (R389), keyed by point number. -/
def State.point (s : State) (p : Nat) : Point := tget s.cool.points p {}

/-- Change one temperature point with settings (R389), keyed by point number. -/
def State.modPoint (s : State) (p : Nat) (f : Point → Point) : State :=
  { s with cool := { s.cool with points := tset s.cool.points p (f (s.point p)) } }

/-- One fan or pump channel (R396 to R399), keyed by channel 0x00-0x13. -/
def State.drive (s : State) (ch : Nat) : Drive := tget s.cool.drives ch {}

/-- Change one fan or pump channel (R396 to R399), keyed by channel 0x00-0x13. -/
def State.modDrive (s : State) (ch : Nat) (f : Drive → Drive) : State :=
  { s with cool := { s.cool with drives := tset s.cool.drives ch (f (s.drive ch)) } }

/-- One leak, flow, alert or GPIO input (R403), keyed by channel. -/
def State.input (s : State) (ch : Nat) : Input := tget s.cool.inputs ch (inputDefault ch)

/-- Change one leak, flow, alert or GPIO input (R403), keyed by channel. -/
def State.modInput (s : State) (ch : Nat) (f : Input → Input) : State :=
  { s with cool := { s.cool with inputs := tset s.cool.inputs ch (f (s.input ch)) } }

/-- One remote diode (R388, R405), keyed by diode. -/
def State.diode (s : State) (d : Nat) : Diode := tget s.cool.diodes d {}

/-- Change one remote diode (R388, R405), keyed by diode. -/
def State.modDiode (s : State) (d : Nat) (f : Diode → Diode) : State :=
  { s with cool := { s.cool with diodes := tset s.cool.diodes d (f (s.diode d)) } }

/-- One valve (R401), keyed by valve. -/
def State.valve (s : State) (v : Nat) : Valve := tget s.cool.valves v {}

/-- Change one valve (R401), keyed by valve. -/
def State.modValve (s : State) (v : Nat) (f : Valve → Valve) : State :=
  { s with cool := { s.cool with valves := tset s.cool.valves v (f (s.valve v)) } }

/-- Thermal factor and hold of a slot (R393, R395), keyed by slot. -/
def State.thermal (s : State) (slot : Nat) : Thermal := tget s.cool.thermal slot {}

/-- Change thermal factor and hold of a slot (R393, R395), keyed by slot. -/
def State.modThermal (s : State) (slot : Nat) (f : Thermal → Thermal) : State :=
  { s with cool := { s.cool with thermal := tset s.cool.thermal slot (f (s.thermal slot)) } }

/-- Change the ownership latch (R223). -/
def State.modLatch (s : State) (f : Latch → Latch) : State :=
  { s with own := { s.own with latch := f s.own.latch } }

/-- Change the journal and its parameters. -/
def State.modJournal (s : State) (f : Journal → Journal) : State :=
  { s with own := { s.own with journal := f s.own.journal } }

/-- Change ownership parameters (R245). -/
def State.modOwnParam (s : State) (f : OwnParam → OwnParam) : State :=
  { s with own := { s.own with param := f s.own.param } }

/-- Change escalation of the tray (R75 to R77). -/
def State.modEsc (s : State) (f : Esc → Esc) : State :=
  { s with gov := { s.gov with esc := f s.gov.esc } }

/-- Change governor parameters of the tray (R79, R80). -/
def State.modTrayParam (s : State) (f : TrayParam → TrayParam) : State :=
  { s with gov := { s.gov with tray := f s.gov.tray } }

/-- Change rings, events and host side. -/
def State.modRings (s : State) (f : Rings → Rings) : State :=
  { s with host := { s.host with rings := f s.host.rings } }

/-- Change admin ring registers (R250, R260). -/
def State.modAdmin (s : State) (f : Admin → Admin) : State :=
  { s with host := { s.host with admin := f s.host.admin } }

/-- Change the photonic die's fabric engine. -/
def State.modFabric (s : State) (f : Fabric → Fabric) : State :=
  { s with fab := { s.fab with fab := f s.fab.fab } }

/-- Change fabric parameters (R332). -/
def State.modFabParam (s : State) (f : FabParam → FabParam) : State :=
  { s with fab := { s.fab with param := f s.fab.param } }

/-- Change the rail sequence under way (R337 to R343). -/
def State.modSeq (s : State) (f : Seq → Seq) : State :=
  { s with rail := { s.rail with seq := f s.rail.seq } }

/-- Change feeds, seating and warning (R363 to R382). -/
def State.modFeed (s : State) (f : Feed → Feed) : State :=
  { s with pwr := { s.pwr with feed := f s.pwr.feed } }

/-- Change fuse block (R219, R303, R444, R446). -/
def State.modFuse (s : State) (f : Fuse → Fuse) : State :=
  { s with boot := { s.boot with fuse := f s.boot.fuse } }

/-- Change entropy source (R447). -/
def State.modEntropy (s : State) (f : Entropy → Entropy) : State :=
  { s with boot := { s.boot with entropy := f s.boot.entropy } }

/-- Change update session and Loft system area (R448 to R465). -/
def State.modUpd (s : State) (f : Update → Update) : State :=
  { s with loft := { s.loft with upd := f s.loft.upd } }

/-- Change Loft dies and the calibration set (R448, R466). -/
def State.modDie (s : State) (f : Loft → Loft) : State :=
  { s with loft := { s.loft with die := f s.loft.die } }

/-- Change Easel parameters and what both bays share. -/
def State.modEaselCfg (s : State) (f : EaselCfg → EaselCfg) : State :=
  { s with easel := { s.easel with cfg := f s.easel.cfg } }

/-- One ring. -/
def State.ring (s : State) (n : Nat) : Ring := tget s.host.rings.rings n {}

/-- Change one ring. -/
def State.modRing (s : State) (n : Nat) (f : Ring → Ring) : State :=
  s.modRings fun r => { r with rings := tset r.rings n (f (tget r.rings n {})) }

/-- One journal entry. -/
def State.entry (s : State) (jseq : Nat) : Entry := tget s.own.journal.entries jseq {}

/-- Change one journal entry. -/
def State.modEntry (s : State) (jseq : Nat) (f : Entry → Entry) : State :=
  s.modJournal fun j => { j with entries := tset j.entries jseq (f (tget j.entries jseq {})) }

/-- One fabric port. -/
def State.port (s : State) (p : Nat) : Port := tget s.fab.fab.ports p {}

/-- Change one fabric port. -/
def State.modPort (s : State) (p : Nat) (f : Port → Port) : State :=
  s.modFabric fun fb => { fb with ports := tset fb.ports p (f (tget fb.ports p {})) }

/-- One image slot of the Loft. -/
def State.slot (s : State) (n : Nat) : Slot := tget s.loft.upd.slots n {}

/-- Change one image slot of the Loft. -/
def State.modSlot (s : State) (n : Nat) (f : Slot → Slot) : State :=
  s.modUpd fun u => { u with slots := tset u.slots n (f (tget u.slots n {})) }

/-- One instance of a bay's Easel. -/
def State.inst (s : State) (bay n : Nat) : Inst := tget (s.easelBay bay).insts n {}

/-- Change one instance of a bay's Easel. -/
def State.modInst (s : State) (bay n : Nat) (f : Inst → Inst) : State :=
  s.modEaselBay bay fun e => { e with insts := tset e.insts n (f (tget e.insts n {})) }

end Sys2Proof.Machine
end

