-- ==== Sys2Proof/Machine/Ops.lean ====
section
/-!
DEFINITION. The shared operations: bytes and their order (R6), CRC-32C (R21), window sequences (R23), sequences that wrap (R236),
device time and windows, who serves, memory, host memory writes (R256, R262), interrupts (R269), events (R268, R296), telemetry
(R266, R267) and Almanac records (R349 to R352), and the delivery of event sources to hands (R180, R181).
-/
namespace Sys2Proof.Machine
open Sys2Proof

/-! ### Numbers, bytes and fields -/

/-- A word packed from fields, each its lowest bit, its width and its value (R5). -/
def pack (fs : List (Nat × Nat × Nat)) : Word64 :=
  BitVec.ofNat 64 (fs.foldl (fun a f => a + (f.2.2 % 2 ^ f.2.1) * 2 ^ f.1) 0)

/-- A Boolean as a bit. -/
def bit (b : Bool) : Nat := if b then 1 else 0

/-- A saturating count of w bits. -/
def satAdd (w a b : Nat) : Nat := min (a + b) (2 ^ w - 1)

/-- One bit of CRC-32C, reflected polynomial (R21). -/
def crcBit (c : Word32) : Word32 := if c.getLsbD 0 then (c >>> 1) ^^^ 0x82F63B78#32 else c >>> 1

/-- One byte of CRC-32C (R21). -/
def crcByte (c : Word32) (b : Byte) : Word32 :=
  crcBit (crcBit (crcBit (crcBit (crcBit (crcBit (crcBit (crcBit (c ^^^ b.setWidth 32))))))))

/-- CRC-32C: polynomial 0x1EDC6F41 reflected, initial value and final exclusive or all ones (R21). -/
def crc32c (bs : List Byte) : Word32 := bs.foldl crcByte 0xFFFFFFFF#32 ^^^ 0xFFFFFFFF#32

/-- Payload bytes packed in the order listed, each field at a multiple of its size (R296, R349). -/
def packPayload (fs : List (Nat × Nat)) : List Byte :=
  fs.foldl (fun acc f =>
    let pad := (f.1 - acc.length % f.1) % f.1
    acc ++ List.replicate pad 0 ++ leBytes f.1 f.2) []

/-! ### Sequences -/

/-- Newer modulo 2^32: the difference lies in 1 .. 2^31 - 1 (R23, R236). -/
def seqNewer (a b : Word32) : Bool := 1 ≤ (a - b).toNat && (a - b).toNat ≤ 2 ^ 31 - 1

/-- Length of the cycle of window sequences, 1 .. 0xFFFFFFFF (R23). -/
def wsCycle : Nat := 2 ^ 32 - 1

/-- The window sequence n windows after w in the cycle (R23). -/
def wsAdd (w : Word32) (n : Nat) : Word32 :=
  if n = 0 then w else if w = 0 then BitVec.ofNat 32 ((n - 1) % wsCycle + 1)
  else BitVec.ofNat 32 ((w.toNat - 1 + n) % wsCycle + 1)

/-- The window sequence n windows before w in the cycle (R23). -/
def wsSub (w : Word32) (n : Nat) : Word32 :=
  if n = 0 then w else BitVec.ofNat 32 ((w.toNat - 1 + (wsCycle - n % wsCycle)) % wsCycle + 1)

/-- Steps from b to a in the cycle (R23). -/
def wsSteps (a b : Word32) : Nat := (a.toNat + wsCycle - b.toNat) % wsCycle

/-- Window sequence a is above b (R23); 0 is below every other value. -/
def wsAbove (a b : Word32) : Bool :=
  if a = 0 then false else if b = 0 then true else 1 ≤ wsSteps a b && wsSteps a b ≤ 2 ^ 31 - 1

/-- Window sequence a is at or above b (R23). -/
def wsAtOrAbove (a b : Word32) : Bool := a == b || wsAbove a b

/-! ### Time, ownership and carriers -/

/-- The time the keeper has counted, in ns: intervals run on it. Device time is this time plus what fabric time has moved it by
(R318, R483). -/
def State.now (s : State) : Nat := s.sys.devTime

/-- Device time in ns (R318, R483). -/
def State.devNow (s : State) : Nat := (s.sys.devTime + s.sys.timeBase).toNat

/-- The counted time at which device time reads a value. -/
def State.countAt (s : State) (dev : Nat) : Nat := (dev - s.sys.timeBase).toNat

/-- One keeper cycle passes: device time gains 5 ns once it counts (R483). -/
def idle (s : State) : State := if s.sys.counting then { s with sys := { s.sys with devTime := s.sys.devTime + 5 } } else s

/-- Device window number (R232). -/
def State.dwn (s : State) : Nat := s.devNow / 2000

/-- Fabric time: device time plus FT_OFFSET (R318). -/
def State.fabNow (s : State) : Nat := (s.sys.devTime + s.sys.timeBase + s.sys.ftOffset).toNat

/-- A time of t ns has passed since start. -/
def State.passed (s : State) (start t : Nat) : Bool := decide (start + t ≤ s.sys.devTime)

/-- Speed of a fan or pump channel as its tachometer shows it, rpm: no command brings its edges, so the value is free (R396, R406). -/
def State.rpm (s : State) (ch : Nat) : Nat := Config.rotorSpeed ch s.now % 2 ^ 32

/-- The other bay. -/
def peer (bay : Nat) : Nat := 1 - bay

/-- The bay the latch names as owner (R223). -/
def State.owner (s : State) : Option Nat := if s.own.latch.valid then some s.own.latch.owner else none

/-- The owner, while it serves (R230): a bay in Dormant does not (R478). -/
def State.serving (s : State) : Option Nat :=
  match s.owner with
  | some b => if (s.bay b).bstate = .owner && (s.bay b).alive && !s.sys.dormant then some b else none
  | none => none

/-- This bay is the serving owner. -/
def State.isOwner (s : State) (bay : Nat) : Bool := s.serving == some bay

/-- The bay that stands by (R230). -/
def State.standby (s : State) : Option Nat :=
  if (s.bay 0).bstate = .standby then some 0 else if (s.bay 1).bstate = .standby then some 1 else none

/-- A bay that runs the shadow or the owner's work (R13, R232). -/
def State.runs (s : State) (bay : Nat) : Bool := (s.bay bay).bstate = .owner || (s.bay bay).bstate = .standby

/-- The keeper's output gates are open for the owner (R14, R17). -/
def State.gateOpen (s : State) (bay : Nat) : Bool := s.owner == some bay && !s.own.latch.hold

/-- An endpoint that is up with bus mastering enabled (R262). -/
def State.endpointOk (s : State) (e : Nat) : Bool := (s.endpoint e).linkUp && (s.endpoint e).busMaster

/-- The endpoint that carries ring traffic: the owner's own, or the other over the breezeway (R262). -/
def State.carrier (s : State) : Option Nat :=
  match s.serving with
  | none => none
  | some b => if s.endpointOk b then some b else if s.endpointOk (peer b) && s.own.journal.breezeUp then some (peer b) else none

/-- The key of ring n of a bay in Fallow mode: each Fallow bay has rings 0 and 1 of its own (R461, R463). -/
def fallowRing (bay n : Nat) : Nat := 0x10000 * (bay + 1) + n

/-- A bay that serves rings in Fallow mode: it is in Fallow mode and no bay serves as owner (R461, R462). -/
def State.fallowServes (s : State) (bay : Nat) : Bool := (s.bay bay).bstate = .fallow && s.serving.isNone

/-- The bay that serves a ring. -/
def State.ringServer (s : State) (n : Nat) : Option Nat :=
  if n < 0x10000 then s.serving
  else if s.fallowServes (n / 0x10000 - 1) then some (n / 0x10000 - 1) else none

/-- The endpoint that carries a ring: R262 for the owner's rings, its own endpoint alone for a bay in Fallow mode (R461). -/
def State.ringCarrier (s : State) (n : Nat) : Option Nat :=
  if n < 0x10000 then s.carrier
  else if s.fallowServes (n / 0x10000 - 1) && s.endpointOk (n / 0x10000 - 1) then some (n / 0x10000 - 1) else none

/-- A write into host memory over the endpoint that carries a ring (R262, R277). -/
def State.dma (s : State) (n addr : Nat) (bytes : List Byte) : State :=
  match s.ringCarrier n with
  | some e => s.emit (.dma e addr bytes)
  | none => s

/-- A free value: the manual leaves it undefined. The state counts the draw, so each is a fresh one. -/
def State.drawFree (s : State) : Word64 × State :=
  (Config.freeWord s.sys.freshCount, s.modSys fun p => { p with freshCount := p.freshCount + 1 })

/-! ### Memory of one bay -/

/-- The byte at an address; an unlisted byte reads 0 (DESIGN CHOICE, log entry 2). -/
def memGet (m : List Host.Cell) (a : Nat) : Byte :=
  match m with
  | [] => 0
  | (k, v) :: r => if k = a then v else memGet r a

/-- The memory with one byte written, in canonical form: addresses rising, no byte equal to 0 listed. -/
def memSet (m : List Host.Cell) (a : Nat) (b : Byte) : List Host.Cell :=
  match m with
  | [] => if b = 0 then [] else [(a, b)]
  | (k, v) :: r =>
    if a < k then (if b = 0 then (k, v) :: r else (a, b) :: (k, v) :: r)
    else if k = a then (if b = 0 then r else (a, b) :: r)
    else (k, v) :: memSet r a b

/-- The canonical form of a memory above a lower bound: addresses strictly rising, no byte 0. -/
def memWfFrom (lo : Nat) (m : List Host.Cell) : Bool :=
  match m with
  | [] => true
  | (k, v) :: r => decide (lo ≤ k) && v != 0 && memWfFrom (k + 1) r

/-- A memory is in canonical form. -/
def Memory.wf (m : List Host.Cell) : Bool := memWfFrom 0 m

/-- n bytes from an address. -/
def memRead (m : List Host.Cell) (a n : Nat) : List Byte := (List.range n).map fun i => memGet m (a + i)

/-- Bytes written from an address on. -/
def memWrite (m : List Host.Cell) (a : Nat) (bs : List Byte) : List Host.Cell :=
  match bs with
  | [] => m
  | b :: r => memWrite (memSet m a b) (a + 1) r

/-! ### Rings -/

/-- Entries a ring holds (R253). -/
def Ring.size (r : Ring) : Nat := 2 ^ r.desc.log2size

/-- Bytes of one entry (R253). -/
def Ring.entryBytes (r : Ring) : Nat := if r.desc.kind = 1 then 32 else 64

/-- Entries between producer and consumer (R254). -/
def Ring.used (r : Ring) : Nat := if r.desc.kind = 0 then (r.hostIdx - r.ctrlIdx).toNat else (r.ctrlIdx - r.hostIdx).toNat

/-- RSTATE as the status block codes it (R256). -/
def RState.code : RState → Nat
  | .disabled => 0 | .active => 1 | .stopped => 2 | .draining => 3

/-- The ring's status block (R256). -/
def State.statusWords (s : State) (n : Nat) : List Word64 :=
  let r := s.ring n
  [ pack [(32, 32, r.ctrlIdx.toNat), (0, 32, r.hostIdx.toNat)],
    pack [(32, 32, if r.desc.kind = 0 then r.accSeq.toNat else 0), (0, 32, if 2 ≤ r.desc.kind then r.dropped else 0)],
    pack [(56, 8, r.state.code), (48, 8, r.rerr), (0, 32, s.own.latch.epoch.toNat)],
    BitVec.ofNat 64 s.devNow, 0, 0, 0, 0 ]

/-- Write the ring's status block (R256). -/
def State.writeStatus (s : State) (n : Nat) : State := s.dma n (s.ring n).desc.sblk.toNat (wordsBytes (s.statusWords n))

/-- Send a vector over the endpoint that carries the ring; a masked vector becomes pending (R249, R269). -/
def State.sendVector (s : State) (n v : Nat) : State :=
  match s.ringCarrier n with
  | none => s
  | some e =>
    if (tget (s.endpoint e).msix v 0).getLsbD 96 then
      s.modEndpoint e fun ep => { ep with msixPend := ep.msixPend ||| (1#64 <<< v) }
    else s.emit (.msix e v)

/-- Send a produced ring's interrupt if its coalescing lets it (R269). -/
def State.signalRing (s : State) (n : Nat) : State :=
  let r := s.ring n
  if r.desc.irqEn && 0 < r.unsignalled && (r.desc.coalN ≤ r.unsignalled || r.desc.coalUs = 0) then
    (s.sendVector n r.desc.vector).modRing n fun r => { r with unsignalled := 0 }
  else s

/-- Write one entry of a produced ring, then its status block, then its interrupt (R254, R256, R269). -/
def State.ringWrite (s : State) (n : Nat) (words : List Word64) : State :=
  let r := s.ring n
  let s1 := s.dma n (r.desc.base.toNat + (r.ctrlIdx.toNat % r.size) * r.entryBytes) (wordsBytes words)
  let s2 := s1.modRing n fun r => { r with
    ctrlIdx := r.ctrlIdx + 1, unsignalled := r.unsignalled + 1,
    firstUnsig := if r.unsignalled = 0 then s.now else r.firstUnsig }
  (s2.writeStatus n).signalRing n

/-- A produced ring can take an entry: ACTIVE, not full, and an endpoint carries it (R254, R262). -/
def State.ringRoom (s : State) (n : Nat) : Bool :=
  (s.ring n).state = .active && (s.ring n).used < (s.ring n).size && (s.ringCarrier n).isSome

/-- Post a record on every telemetry ring subscribed to its class; a full ring drops and counts it, and its status block shows the count (R256,
R266, R267). -/
def State.telemetry (s : State) (cls : Nat) (words : List Word64) : State :=
  s.host.rings.rings.foldl (fun s e =>
    let n := e.1
    let r := s.ring n
    if r.desc.kind = 2 && r.state = .active && r.desc.subs.getLsbD cls then
      if s.ringRoom n then s.ringWrite n words
      else (s.modRing n fun r => { r with dropped := satAdd 32 r.dropped 1 }).writeStatus n
    else s) s

/-! ### Events and Almanac records -/

/-- The words of an event entry (R268). -/
def State.eventWords (s : State) (bay code sev : Nat) (eseq : Word32) (lost : Nat) (jseq : Nat) (payload : List Byte) : List Word64 :=
  [ pack [(56, 8, 0x20), (52, 4, code / 256), (50, 2, sev), (49, 1, bay), (32, 16, code), (0, 32, eseq.toNat)],
    BitVec.ofNat 64 s.devNow,
    pack [(32, 32, s.own.latch.epoch.toNat), (0, 32, lost)],
    BitVec.ofNat 64 jseq ] ++ bytesWords 4 payload

/-- Post one event on one event ring: written, held while the ring is full, or dropped and counted beyond 256 held (R256, R268). -/
def State.eventTo (s : State) (n bay code sev : Nat) (eseq : Word32) (jseq : Nat) (payload : List Byte) : State :=
  let r := s.ring n
  if s.ringRoom n && r.heldEv.isEmpty then
    (s.ringWrite n (s.eventWords bay code sev eseq r.lostRun jseq payload)).modRing n fun r => { r with lostRun := 0 }
  else if r.heldEv.length < 256 then
    s.modRing n fun r => { r with heldEv := r.heldEv ++ [s.eventWords bay code sev eseq r.lostRun jseq payload], lostRun := 0 }
  else (s.modRing n fun r => { r with dropped := satAdd 32 r.dropped 1, lostRun := satAdd 32 r.lostRun 1 }).writeStatus n

/-- Severities of the event codes (R296); code 0x0102 carries its own. -/
def eventSev (code : Nat) : Nat :=
  if code ∈ [0x0108, 0x0109, 0x0204, 0x0306, 0x0801, 0x0802, 0x0901, 0x0B01, 0x0D01] then 0
  else if code ∈ [0x0104, 0x0105, 0x0106, 0x0107, 0x010C, 0x010E, 0x0201, 0x0202, 0x0203, 0x0302, 0x0303, 0x0305, 0x0403, 0x0406,
    0x0502, 0x0503, 0x0702, 0x0704, 0x0803, 0x0A01, 0x0C01, 0x0E02, 0x0E03, 0x0F01, 0x0F02] then 1
  else if code ∈ [0x0002, 0x0003, 0x010A, 0x0304, 0x0402, 0x0404, 0x0E01] then 3
  else 2

/-- Form an event and post it on every event ring that wants it (R268). No event is formed while no bay serves. -/
def State.raiseSev (s : State) (bay code sev jseq : Nat) (payload : List (Nat × Nat)) : State :=
  if s.serving.isNone then s else
  let eseq := s.host.rings.eseq + 1
  let s := s.modRings fun r => { r with eseq := eseq }
  s.host.rings.rings.foldl (fun s e =>
    let r := s.ring e.1
    if r.desc.kind = 3 && r.state = .active && r.desc.subs.getLsbD (code / 256) && r.desc.minSev ≤ sev then
      s.eventTo e.1 bay code sev eseq jseq (packPayload payload)
    else s) s

/-- The bay that forms the owner's events. -/
def State.formingBay (s : State) : Nat := s.serving.getD 0

/-- Form an event of the table of R296 with its severity there. -/
def State.raise (s : State) (code : Nat) (payload : List (Nat × Nat)) : State :=
  s.raiseSev s.formingBay code (eventSev code) 0 payload

/-- An event of the keeper is formed at once while an owner serves, and otherwise when one does (R226, R442). -/
def State.raiseLater (s : State) (code : Nat) (payload : List (Nat × Nat)) : State :=
  if s.serving.isSome then s.raise code payload else s.modSys fun p => { p with waitEvents := p.waitEvents ++ [(code, payload)] }

/-- Hand a record to the keeper's queue: dropped and counted with the queue full, not taken from a bay or the photonic die once
the input has collapsed (R349 to R353). SOURCE is 0 keeper, 1 Bay 0, 2 Bay 1, 3 photonic die. -/
def State.almanac (s : State) (source code : Nat) (payload : List (Nat × Nat)) : State :=
  if s.sys.collapsed && source ≠ 0 then s
  else if 256 ≤ s.alm.queue.length then s.modAlm fun a => { a with dropped := satAdd 32 a.dropped 1 }
  else s.modAlm fun a => { a with queue := a.queue ++ [{
    ftime := s.fabNow, source := source, code := code, epoch := s.own.latch.epoch,
    payload := bytesWords 4 (packPayload payload), holdup := s.sys.collapsed }] }

/-- An event and the record that accompanies it, with the same code and payload (R351). -/
def State.raiseAndRecord (s : State) (source code : Nat) (payload : List (Nat × Nat)) : State :=
  (s.raise code payload).almanac source code payload

/-- SOURCE code of a bay's records (R349). -/
def baySource (bay : Nat) : Nat := bay + 1

/-- An owner serves: the events that waited for one are formed, and the snapshots latched while the tray was parked are recorded (R226,
R325, R442). -/
def State.raiseWaiting (s : State) : State :=
  match s.serving with
  | some bay =>
    let t := s.sys.waitEvents.foldl (fun s e => s.raise e.1 e.2) (s.modSys fun p => { p with waitEvents := [] })
    s.fab.fab.snapHeld.foldl (fun s e => s.almanac (baySource bay) 0x8801 e) (t.modFabric fun f => { f with snapHeld := [] })
  | none => s

/-! ### Event sources of hands -/

/-- The pending slots of a hand under a mask (R180, R181). -/
def Hand.pendingMask (h : Hand) (mask : BitVec 8) : BitVec 8 :=
  BitVec.ofNat 8 ((List.range 8).foldl (fun a i =>
    if mask.getLsbD i && (tget h.slots i {}).pending then a + 2 ^ i else a) 0)

/-- Write a Barn register; g0 discards writes (R179). -/
def Hand.setReg (h : Hand) (r : Nat) (v : Word32) : Hand := if r = 0 then h else { h with regs := tset h.regs r v }

/-- Read a Barn register; g0 reads 0 (R179). -/
def Hand.reg (h : Hand) (r : Nat) : Word32 := if r = 0 then 0 else tget h.regs r 0

/-- Clear the pending bits of the slots in a mask (R181). -/
def Hand.clearMask (h : Hand) (mask : BitVec 8) : Hand :=
  forUpTo 8 (fun h i => if mask.getLsbD i then { h with slots := tset h.slots i { tget h.slots i {} with pending := false } } else h) h

/-- A hand waiting on a mask completes its WAIT once a masked slot is pending (R181). -/
def Hand.wakeOnEvent (h : Hand) : Hand :=
  match h.state, h.wait with
  | .wait, some (.events mask rd) =>
    let p := h.pendingMask mask
    if p = 0 then h else { (h.clearMask p).setReg rd (p.setWidth 32) with state := .ready, wait := none }
  | _, _ => h

/-- An event sets one slot pending, or counts an overrun where it is already pending (R180). -/
def Hand.post (h : Hand) (i : Nat) : Hand :=
  let e := tget h.slots i {}
  Hand.wakeOnEvent { h with slots := tset h.slots i (if e.pending then { e with overrun := satAdd 8 e.overrun 1 } else { e with pending := true }) }

/-- An event source reaches one hand: every slot 0 to 6 bound to it (R180). -/
def Hand.deliver (h : Hand) (src : Nat) : Hand :=
  forUpTo 7 (fun h i => if src ≠ 0 && (tget h.slots i {}).source = src then h.post i else h) h

/-- An event source reaches every hand of one bay (R180). -/
def State.signalBay (s : State) (bay src : Nat) : State :=
  s.modBarn fun b => { b with hands := b.hands.map fun e => if e.1 / 4096 = bay then (e.1, e.2.deliver src) else e }

/-- An event source reaches every hand of both bays (R11, R180). -/
def State.signal (s : State) (src : Nat) : State := (s.signalBay 0 src).signalBay 1 src

/-- A keeper channel changed (R180, R252). -/
def State.signalChannel (s : State) (ch : Nat) : State := s.signal (0x0100 + ch)

end Sys2Proof.Machine
end

