-- ==== Sys2Proof/Machine/Journal.lean ====
section
/-!
DEFINITION. A command's way through a ring and the journal: the checks in the order of R278 with the device states of R295, the
refusal completion (R264, R280), the journal entry and its acknowledgement (R234 to R239), and the completion (R273, R279).
-/
namespace Sys2Proof.Machine
open Sys2Proof

/-- OPCODE of a ring command (R283 to R291); no other row has one. -/
def opcodeOf (i : Instr) : Option Nat :=
  match i with
  | .admNop .. => some 0x0000
  | .admRingCreate .. => some 0x0001
  | .admRingDelete .. => some 0x0002
  | .admRingReset .. => some 0x0003
  | .admRingQuery .. => some 0x0004
  | .admRingSubscribe .. => some 0x0005
  | .admHealth .. => some 0x0006
  | .admEntropy .. => some 0x0007
  | .govSetCap .. => some 0x0100
  | .govSetSlope .. => some 0x0101
  | .govSetPriority .. => some 0x0102
  | .govSetGain .. => some 0x0103
  | .govSetModel .. => some 0x0104
  | .govLoadWeights .. => some 0x0105
  | .govSetSafeDensity .. => some 0x0106
  | .govSetOversub .. => some 0x0107
  | .govSetLimits .. => some 0x0108
  | .govSetRunahead .. => some 0x0109
  | .govSetEscalation .. => some 0x010A
  | .govParkAck .. => some 0x010B
  | .govUnpark .. => some 0x010C
  | .govSetTelemetry .. => some 0x010D
  | .govSetOp .. => some 0x010E
  | .govSetDroop .. => some 0x010F
  | .govSetMargin .. => some 0x0110
  | .govTrimReset .. => some 0x0111
  | .govStatus .. => some 0x0112
  | .gridSetTarget .. => some 0x0200
  | .gridSetCurve .. => some 0x0201
  | .gridSetFreq .. => some 0x0202
  | .gridPark .. => some 0x0203
  | .gridUnpark .. => some 0x0204
  | .gridSetSource .. => some 0x0205
  | .gridSetPark .. => some 0x0206
  | .gridStatus .. => some 0x0207
  | .coolSetZone .. => some 0x0300
  | .coolSetSensor .. => some 0x0301
  | .coolSetDrive .. => some 0x0302
  | .coolSetValve .. => some 0x0303
  | .coolSetInput .. => some 0x0304
  | .coolStatus .. => some 0x0305
  | .pwrSetTrip .. => some 0x0400
  | .pwrResetTrip .. => some 0x0401
  | .pwrBranch .. => some 0x0402
  | .pwrSetRail .. => some 0x0403
  | .pwrRailCtrl .. => some 0x0404
  | .pwrSetWarn .. => some 0x0405
  | .pwrStatus .. => some 0x0406
  | .easelLoad .. => some 0x0500
  | .easelBind .. => some 0x0501
  | .easelUnbind .. => some 0x0502
  | .easelDelete .. => some 0x0503
  | .easelStatus .. => some 0x0504
  | .easelConfig .. => some 0x0505
  | .handLoad .. => some 0x0600
  | .handStart .. => some 0x0601
  | .handStop .. => some 0x0602
  | .handConfig .. => some 0x0603
  | .handStatus .. => some 0x0604
  | .bistRun .. => some 0x0700
  | .bistResult .. => some 0x0701
  | .repairApply .. => some 0x0702
  | .granStatus .. => some 0x0703
  | .granConfig .. => some 0x0704
  | .fabGlobal .. => some 0x0800
  | .fabStatus .. => some 0x0801
  | .fabConfig .. => some 0x0802
  | .updBegin .. => some 0x0900
  | .updBlock .. => some 0x0901
  | .updCommit .. => some 0x0902
  | .updConfirm .. => some 0x0903
  | .updLock .. => some 0x0904
  | .updAbort .. => some 0x0905
  | .updStatus .. => some 0x0906
  | .logRead .. => some 0x0A00
  | .logStatus .. => some 0x0A01
  | .twXfer .. => some 0x0B00
  | .twConfig .. => some 0x0B01
  | .calRead .. => some 0x0C00
  | .calWrite .. => some 0x0C01
  | .bayStatus .. => some 0x0D00
  | .bayHandover .. => some 0x0D01
  | .bayConfig .. => some 0x0D02
  | .bayRestart .. => some 0x0D03
  | _ => none

/-- The header of a ring command. -/
def hdrOf (i : Instr) : CmdHdr :=
  match i with
  | .admNop h => h
  | .admRingCreate h .. => h
  | .admRingDelete h .. => h
  | .admRingReset h .. => h
  | .admRingQuery h .. => h
  | .admRingSubscribe h .. => h
  | .admHealth h => h
  | .admEntropy h .. => h
  | .govSetCap h .. => h
  | .govSetSlope h .. => h
  | .govSetPriority h .. => h
  | .govSetGain h .. => h
  | .govSetModel h .. => h
  | .govLoadWeights h .. => h
  | .govSetSafeDensity h .. => h
  | .govSetOversub h .. => h
  | .govSetLimits h .. => h
  | .govSetRunahead h .. => h
  | .govSetEscalation h .. => h
  | .govParkAck h .. => h
  | .govUnpark h .. => h
  | .govSetTelemetry h .. => h
  | .govSetOp h .. => h
  | .govSetDroop h .. => h
  | .govSetMargin h .. => h
  | .govTrimReset h .. => h
  | .govStatus h .. => h
  | .gridSetTarget h .. => h
  | .gridSetCurve h .. => h
  | .gridSetFreq h .. => h
  | .gridPark h .. => h
  | .gridUnpark h .. => h
  | .gridSetSource h .. => h
  | .gridSetPark h .. => h
  | .gridStatus h .. => h
  | .coolSetZone h .. => h
  | .coolSetSensor h .. => h
  | .coolSetDrive h .. => h
  | .coolSetValve h .. => h
  | .coolSetInput h .. => h
  | .coolStatus h .. => h
  | .pwrSetTrip h .. => h
  | .pwrResetTrip h .. => h
  | .pwrBranch h .. => h
  | .pwrSetRail h .. => h
  | .pwrRailCtrl h .. => h
  | .pwrSetWarn h .. => h
  | .pwrStatus h .. => h
  | .easelLoad h .. => h
  | .easelBind h .. => h
  | .easelUnbind h .. => h
  | .easelDelete h .. => h
  | .easelStatus h .. => h
  | .easelConfig h .. => h
  | .handLoad h .. => h
  | .handStart h .. => h
  | .handStop h .. => h
  | .handConfig h .. => h
  | .handStatus h .. => h
  | .bistRun h .. => h
  | .bistResult h .. => h
  | .repairApply h .. => h
  | .granStatus h .. => h
  | .granConfig h .. => h
  | .fabGlobal h .. => h
  | .fabStatus h .. => h
  | .fabConfig h .. => h
  | .updBegin h .. => h
  | .updBlock h .. => h
  | .updCommit h .. => h
  | .updConfirm h .. => h
  | .updLock h .. => h
  | .updAbort h .. => h
  | .updStatus h => h
  | .logRead h .. => h
  | .logStatus h => h
  | .twXfer h .. => h
  | .twConfig h .. => h
  | .calRead h .. => h
  | .calWrite h .. => h
  | .bayStatus h => h
  | .bayHandover h .. => h
  | .bayConfig h .. => h
  | .bayRestart h .. => h
  | _ => {}

/-! ### The journal -/

/-- Entries the journal can take (R234). -/
def journalSize : Nat := 16384

/-- The journal has a free entry (R236). -/
def State.journalFree (s : State) : Bool := s.own.journal.entries.length < journalSize

/-- Write an entry of a kind, from a ring, with its sequence, its window and what it carries, under the next JSEQ (R234, R235). -/
def State.journalWrite (s : State) (kind ring : Nat) (seq : Word32) (applyDwn : Nat) (w : Work) : State :=
  let n := s.own.journal.nextJseq
  let s := s.modJournal fun j => { j with
    entries := tset j.entries j.nextJseq {
      epoch := s.own.latch.epoch, ring := ring, kind := kind, state := 1, applyDwn := applyDwn, seq := seq
      acked := j.single, written := s.now, body := w, prevSeq := (s.ring ring).lastSeq, prevIdx := (s.ring ring).ctrlIdx },
    nextJseq := j.nextJseq + 1 }
  match s.owner with
  | none => s
  | some b =>
    let s := s.modBay b fun x => { x with held := n, announced := n }
    let p := (s.bay (peer b)).bstate
    if s.own.journal.breezeUp && (p = .joining || p = .standby) then s.modBay (peer b) fun x => { x with announced := n } else s

/-- The window an entry written now takes effect from: APPLY_LEAD windows after the write, rounded up to a window start (R235, the example
of R265). -/
def State.applyWindow (s : State) : Nat := (s.devNow + 1999) / 2000 + s.own.param.applyLead

/-- Journal an internal change, if an entry is free (R234, R236). -/
def State.journalChange (s : State) (c : Change) : State :=
  if s.journalFree then s.journalWrite 2 0 0 s.applyWindow (.change c) else s

/-- Write the completion into an accepted entry and set STATE 0b10 (R238, R273). -/
def State.complete (s : State) (jseq status : Nat) (res : List Nat) : State :=
  let e := s.entry jseq
  if e.state = 1 then
    let op := match e.body with | .cmd i => (opcodeOf i).getD 0 | _ => 0
    s.modEntry jseq fun e => { e with
      state := 2, applied := true, doneTime := if e.kind = 0 then none else some s.now
      completion := [pack [(32, 32, e.seq.toNat), (16, 16, op), (0, 16, status)], BitVec.ofNat 64 (res.getD 0 0),
        BitVec.ofNat 64 (res.getD 1 0), BitVec.ofNat 64 (res.getD 2 0)] }
  else s

/-- Complete with OK and no result. -/
def State.ok (s : State) (jseq : Nat) : State := s.complete jseq 0 []

/-- Name output that is written into host memory before the completion is posted (R277). -/
def State.bufferOut (s : State) (jseq addr : Nat) (bytes : List Byte) : State :=
  s.modEntry jseq fun e => { e with bufOut := e.bufOut ++ [(addr, bytes)] }

/-- Post acceptance of an entry: its SEQ in ACC_SEQ (R264); ACC_SEQ only rises (R265). -/
def State.postAcceptance (s : State) (n : Nat) (seq : Word32) : State :=
  if seqNewer seq (s.ring n).accSeq then (s.modRing n fun r => { r with accSeq := seq }).writeStatus n else s

/-- An entry counts as held by the standby, or is accepted in single-copy mode; a ring command's acceptance is posted (R235, R239). -/
def State.acknowledge (s : State) (jseq : Nat) : State :=
  let e := s.entry jseq
  let s := s.modEntry jseq fun e => { e with acked := true }
  if e.kind = 0 then s.postAcceptance e.ring e.seq else s

/-! ### Checks of a fetched command -/

/-- One check of R278: whether it fails, and the STATUS and RES0 it then reports (R281). -/
structure Chk where
  bad : Bool
  status : Nat
  res0 : Nat := 0
  deriving DecidableEq, Repr

/-- A range check: OUT_OF_RANGE with the parameter's offset (R3, R281). -/
def inRange (ok : Bool) (off : Nat) : Chk := { bad := !ok, status := 0x0104, res0 := off }

/-- A named item exists and may be named: NO_SUCH with the parameter's offset (R281). -/
def exists' (ok : Bool) (off : Nat) : Chk := { bad := !ok, status := 0x0105, res0 := off }

/-- A joint rule holds: CONFLICT with the offset of the parameter that breaks it (R281). -/
def joint (ok : Bool) (off : Nat) : Chk := { bad := !ok, status := 0x0107, res0 := off }

/-- A named item is in a state that allows the command: WRONG_STATE with its state code (R281). -/
def rightState (ok : Bool) (code : Nat) : Chk := { bad := !ok, status := 0x0205, res0 := code }

/-- A check of another status. -/
def check (ok : Bool) (status : Nat) (res0 : Nat := 0) : Chk := { bad := !ok, status := status, res0 := res0 }

/-- BUF is aligned to 64 bytes (R277, BUF_ERROR). -/
def bufAligned (buf : Nat) : Chk := check (buf % 64 = 0 && buf < 2 ^ 64) 0x0106

/-- A switch is 0 or 1 (R275). -/
def switchOk (v off : Nat) : Chk := inRange (v < 2) off

/-- The input buffer was read (R277, BUF_ERROR). -/
def bufRead (h : CmdHdr) : Chk := check h.buf.isSome 0x0106

/-- The first check that fails. -/
def firstBad (cs : List Chk) : Option (Nat × Nat) :=
  match cs with
  | [] => none
  | c :: r => if c.bad then some (c.status, c.res0) else firstBad r

/-- What the checks of R278 find. -/
inductive Verdict where
  /-- every check passes -/
  | accept
  /-- refused, with STATUS and RES0 -/
  | refuse (status res0 : Nat)
  /-- a duplicate whose entry is still held (R236) -/
  | duplicate (jseq : Nat)
  /-- a duplicate of a grid target: answered with the earlier completion's words 1 to 3 and status (R102, R278) -/
  | replay (words : List Word64)
  deriving DecidableEq, Repr

/-- A command's row: its opcode, PLEN, OPT bits, and its checks of steps 5 to 7, of its own states (step 8) and of trust and
resources (steps 9 and 10). -/
structure CmdSpec where
  opcode : Nat
  plen : Nat
  optMask : BitVec 8 := 0
  grid : Option Verdict := none
  params : List Chk := []
  states : List Chk := []
  late : List Chk := []
  deriving DecidableEq, Repr

/-- Opcodes served in keeper-hold (R295). -/
def holdServes (op : Nat) : Bool :=
  op / 256 = 0 || op / 256 = 0x0A ||
  op ∈ [0x0112, 0x0207, 0x0305, 0x0406, 0x0504, 0x0604, 0x0701, 0x0703, 0x0801, 0x0906, 0x0C00, 0x0D00]

/-- Opcodes served in Fallow mode (R295). -/
def fallowServesOp (op : Nat) : Bool :=
  op ∈ [0x0000, 0x0001, 0x0002, 0x0003, 0x0004, 0x0005, 0x0006, 0x0900, 0x0901, 0x0902, 0x0905, 0x0906, 0x0C00, 0x0D00] || op / 256 = 0x0A

/-- Opcodes served with the life cycle RETIRED (R295). -/
def retiredServes (op : Nat) : Bool := op / 256 = 0 || op / 256 = 0x0A || op ∈ [0x0D00, 0x0906]

/-- Opcodes that need the Loft (R295). -/
def needsLoft (op : Nat) : Bool := op ∈ [0x0500, 0x0501, 0x0105, 0x0600, 0x0900, 0x0901, 0x0902, 0x0903, 0x0C01]

/-- UPD_BEGIN, UPD_COMMIT and UPD_CONFIRM (R295). -/
def updateGuarded (op : Nat) : Bool := op ∈ [0x0900, 0x0902, 0x0903]

/-- Both Loft dies are lost (R18). -/
def State.loftLost (s : State) : Bool := s.loft.die.lost0 && s.loft.die.lost1

/-- A seating pin does not count as made, or the tray has moved within the last 1 s (R295, R455). -/
def State.moving (s : State) : Bool :=
  !(s.pwr.feed.seatA && s.pwr.feed.seatB) || (match s.loft.upd.moveTime with | some t => !s.passed t 1000000000 | none => false)

/-- REPAIR_APPLY asks for a fuse repair. -/
def isFuseRepair (i : Instr) : Bool :=
  match i with
  | .repairApply _ _ _ kind _ => kind = 3
  | _ => false

/-- The device states of R295, the row nearer the top first. -/
def State.deviceState (s : State) (i : Instr) (op ring : Nat) : List Chk :=
  [ check (!(s.own.latch.hold && !holdServes op)) 0x020C,
    check (!(0x10000 ≤ ring && !fallowServesOp op)) 0x020B,
    check (!(s.boot.fuse.lifeCycle = 4 && !retiredServes op)) 0x0402,
    check (!(s.loftLost && needsLoft op)) 0x0303,
    check (!(s.moving && updateGuarded op)) 0x0208,
    check (!(s.sys.holdup < 80 && (updateGuarded op || isFuseRepair i))) 0x0209 s.sys.holdup,
    check (!(s.loft.upd.lock && updateGuarded op)) 0x020A,
    check (!(!s.boot.entropy.ready && op = 0x0007)) 0x0207,
    check (!(s.own.journal.handover != .none && (op = 0x0D01 || op = 0x0D03))) 0x0206 ]

/-- The held entry of a ring command with this SEQ, if any (R236). -/
def State.heldEntry (s : State) (ring : Nat) (seq : Word32) : Option Nat :=
  (s.own.journal.entries.find? fun e => e.2.kind = 0 && e.2.ring = ring && e.2.seq = seq && e.2.state ≠ 0).map (·.1)

/-- The verdict on a fetched command, its checks in the order of R278. -/
def State.verdict (s : State) (i : Instr) (h : CmdHdr) (c : CmdSpec) : Verdict :=
  if !seqNewer h.seq (s.ring h.ring).lastSeq then
    match s.heldEntry h.ring h.seq with
    | some j => .duplicate j
    | none => .refuse 0x0201 (s.ring h.ring).lastSeq.toNat
  else match c.grid with
    | some v => v
    | none =>
      if h.plen ≠ c.plen then .refuse 0x0102 0
      else if h.rsvHdr || (h.opt &&& ~~~c.optMask) ≠ 0 then .refuse 0x0103 (Config.freeWord s.sys.freshCount).toNat
      else match h.rsvAt with
        | some off => .refuse 0x0103 off
        | none =>
          match firstBad (c.params ++ s.deviceState i c.opcode h.ring ++ c.states ++ c.late) with
          | some (st, r) => .refuse st r
          | none => .accept

/-! ### Submission -/

/-- Completion entry of a refusal or of a repeated answer (R273). -/
def completionWords (seq : Word32) (opcode status : Nat) (res : List Word64) : List Word64 :=
  [pack [(32, 32, seq.toNat), (16, 16, opcode), (0, 16, status)], res.getD 0 0, res.getD 1 0, res.getD 2 0]

/-- Free entries of a produced ring. -/
def Ring.free (r : Ring) : Nat := r.size - r.used

/-- The owner can fetch from this command ring now: it and its completion ring are ACTIVE, an entry is pending, the completion ring
has room for every command fetched and not yet posted plus one, an endpoint carries it, the bays are awake, a journal entry is
free (R236, R260, R261, R262, R286). During a handover only BAY_HANDOVER and BAY_RESTART leave their rings, to be answered BUSY
(R295). -/
def State.canFetch (s : State) (n op : Nat) : Bool :=
  let r := s.ring n
  let c := s.ring r.desc.peer
  !s.sys.dormant && r.state = .active && r.desc.kind = 0 && 0 < r.used && c.state = .active && c.desc.kind = 1 &&
  r.fetchedOpen + 1 ≤ c.free && (s.ringCarrier n).isSome && s.journalFree &&
  (s.own.journal.handover = .none || op = 0x0D01 || op = 0x0D03)

/-- CTRL_IDX passes the entry fetched (R263). -/
def State.passEntry (s : State) (n : Nat) : State := s.modRing n fun r => { r with ctrlIdx := r.ctrlIdx + 1 }

/-- Post a completion that needs no journal entry: a refusal or a repeated answer (R264). -/
def State.answer (s : State) (n : Nat) (words : List Word64) : State :=
  ((s.passEntry n).writeStatus n).ringWrite (s.ring n).desc.peer words

/-- The owner fetches one command and checks it: a refusal is answered at once, a duplicate is answered with the original
completion as soon as there is one, and any other command is journalled and takes effect from its window (R235, R236, R263,
R278). A bay in Fallow mode keeps no journal, so its command takes effect at once (R461). -/
def State.submit (s : State) (i : Instr) (h : CmdHdr) (c : CmdSpec) : State :=
  if !s.canFetch h.ring c.opcode then s else
  match s.verdict i h c with
  | .refuse st r => s.drawFree.2.answer h.ring (completionWords h.seq c.opcode st [BitVec.ofNat 64 r])
  | .replay ws => s.answer h.ring ((completionWords h.seq c.opcode 0 []).take 1 |>.map (fun w => w ||| ws.getD 0 0) |>.append (ws.drop 1))
  | .duplicate j =>
    if (s.entry j).state = 2 && (s.entry j).posted then s.answer h.ring (s.entry j).completion
    else ((s.passEntry h.ring).writeStatus h.ring).modEntry j fun e => { e with owed := e.owed + 1 }
  | .accept =>
    let j := s.own.journal.nextJseq
    let s := s.journalWrite 0 h.ring h.seq (if h.ring < 0x10000 then s.applyWindow else s.dwn) (.cmd i)
    let s := s.modRing h.ring fun r => { r with ctrlIdx := r.ctrlIdx + 1, lastSeq := h.seq, fetchedOpen := r.fetchedOpen + 1 }
    if s.own.journal.single || 0x10000 ≤ h.ring then s.acknowledge j else s.writeStatus h.ring

/-! ### Posting completions -/

/-- The admin registers behind a ring key: the mirrored set, or those of a bay's own endpoint in Fallow mode (R250, R461). -/
def State.modAdminOf (s : State) (key : Nat) (f : Admin → Admin) : State :=
  if key < 0x10000 then s.modAdmin f else s.modEndpoint (key / 0x10000 - 1) fun e => { e with fadm := f e.fadm }

/-- A draining ring whose every accepted entry is posted becomes DISABLED; a waiting ADM_RING_DELETE completes. The admin completion
ring follows its command ring, and BUSY ends (R250, R260). -/
def State.drainRing (s : State) (n : Nat) : State :=
  let r := s.ring n
  let own := if r.deleteJseq ≠ 0 && (s.entry r.deleteJseq).ring = n then 1 else 0
  if r.state = .draining && r.fetchedOpen ≤ own then
    let s := s.modJournal fun j => { j with entries := j.entries.filter fun e => !(e.2.kind = 0 && e.2.ring = n && e.2.state = 2 && e.2.posted) }
    let s := s.modRing n fun r => { r with state := .disabled, deleteJseq := 0 }
    let s := s.writeStatus n
    if n % 0x10000 = 0 then
      ((s.modRing (n + 1) fun r => { r with state := .disabled }).writeStatus (n + 1)).modAdminOf n fun a => { a with busy := false }
    else if r.deleteJseq = 0 then s else s.ok r.deleteJseq
  else s

/-- The completion of a successful UPD_COMMIT of a Fallow ring is posted: the 10 ms of R465 run from now. -/
def State.fallowCommitted (s : State) (e : Entry) : State :=
  match e.body with
  | .cmd (.updCommit ..) =>
    if 0x10000 ≤ e.ring && ((e.completion.getD 0 1).setWidth 16 : BitVec 16) = 0 then s.modUpd fun u => { u with fallowCommit := some s.now } else s
  | _ => s

/-- Post the completion of a finished entry: its output buffer first, then the completion and the status block that counts it
(R256, R264, R277). Where the buffer write fails the completion carries DMA_ERROR (R281). A further submission of the same command is
answered with the same words (R240). -/
def State.postCompletion (s : State) (jseq : Nat) (bufOk : Bool) : State :=
  let s := if bufOk || (s.entry jseq).bufOut.isEmpty || (s.entry jseq).posted then s else s.modEntry jseq fun e =>
    { e with bufOut := [], completion := match e.completion with
      | w :: _ => [(w &&& 0xFFFFFFFFFFFF0000#64) ||| 0x0501#64, 0, 0, 0]
      | [] => [] }
  let e := s.entry jseq
  let c := (s.ring e.ring).desc.peer
  if e.kind = 0 && e.state = 2 && (!e.posted || 0 < e.owed) && s.ringRoom c then
    let idx := (s.ring c).ctrlIdx
    let s := e.bufOut.foldl (fun s b => s.dma c b.1 b.2) s
    let s := s.ringWrite c e.completion
    let s := s.modEntry jseq fun e => { e with posted := true, bufOut := [], compIdx := some idx, owed := if e.posted then e.owed - 1 else e.owed }
    let s := if e.posted then s else s.modRing e.ring fun r => { r with fetchedOpen := r.fetchedOpen - 1 }
    let s := if e.posted then s else s.fallowCommitted e
    s.drainRing e.ring
  else s

end Sys2Proof.Machine
end

