-- ==== Sys2Proof/Machine/Flags.lean ====
section
/-!
DEFINITION. The status words the controller reports: the ownership latch (R223), health flags (R283), BAY_INFO, DB_ERR and WIN_DENY
(R250), and WIN_STATUS (R206).
-/
namespace Sys2Proof.Machine
open Sys2Proof

/-- Time since a bay's last heartbeat, units of 100 us, saturating at 255; 255 before the first (R223). In Dormant,
and until 1 ms after the wake, the count stands still (R479). -/
def State.hbAge (s : State) (bay : Nat) : Nat :=
  match (s.bay bay).hbFrozen, (s.bay bay).hbTime with
  | some a, _ => min (a / 100000) 255
  | none, none => 255
  | none, some t => min ((s.now - t) / 100000) 255

/-- The ownership latch (R223). -/
def State.latchWord (s : State) : Word64 :=
  let l := s.own.latch
  pack [(32, 32, l.epoch.toNat), (31, 1, bit l.valid), (30, 1, l.owner), (29, 1, bit l.yield1), (28, 1, bit l.yield0),
    (27, 1, bit l.forced1), (26, 1, bit l.forced0), (25, 1, bit l.hold), (16, 8, s.hbAge 1), (8, 8, s.hbAge 0), (0, 8, l.refused)]

/-- BSTATE as BAY_INFO codes it (R250). -/
def BState.code : BState → Nat
  | .down => 0 | .joining => 1 | .standby => 2 | .owner => 3 | .fallow => 5

/-- BAY_INFO of one bay (R250). -/
def State.bayInfo (s : State) (b : Nat) : Word64 :=
  pack [(32, 32, (s.bay b).readEpoch.toNat), (31, 1, bit ((s.bay b).bstate = .owner)),
    (28, 3, if s.sys.dormant then 4 else (s.bay b).bstate.code),
    (27, 1, bit (s.endpointOk (peer b))), (26, 1, bit s.own.journal.single)]

/-- Images not varnished: a slot sketched, underpainted or booted and not confirmed (R449). -/
def State.notVarnished (s : State) : Bool := (List.range 4).any fun n => 1 ≤ (s.slot n).state && (s.slot n).state ≤ 4

/-- The health flags of ADM_HEALTH (R283). -/
def State.health (s : State) : Nat :=
  bit (s.loft.die.lost0 || s.loft.die.lost1) + 2 * bit s.loftLost + 4 * bit s.own.journal.single +
  8 * bit ((s.granary 0).degraded || (s.granary 1).degraded) +
  16 * bit ((s.easelBay 0).panelsOut != 0 || (s.easelBay 1).panelsOut != 0) +
  32 * bit s.own.latch.hold + 64 * bit (s.fab.fab.state != .member) + 128 * bit s.notVarnished +
  256 * bit s.loft.die.calUser

/-- DB_ERR of one endpoint (R250). -/
def Endpoint.dbErr (e : Endpoint) : Word64 := pack [(48, 16, e.dbStale), (32, 16, e.dbBad), (17, 15, e.dbLast)]

/-- WIN_DENY of one endpoint (R250). -/
def Endpoint.winDeny (e : Endpoint) : Word64 := pack [(20, 12, e.denyCount), (0, 20, e.denyLast)]

/-- Count a window access that is denied (R250, R270, R271). -/
def Endpoint.deny (e : Endpoint) (off : Nat) : Endpoint :=
  { e with denyCount := satAdd 12 e.denyCount 1, denyLast := off / 8 * 8 % 2 ^ 20 }

/-- Set BUSY or POISON of WIN_STATUS for a word; OVER when the bit was still set (R206). -/
def winWarn (w : Word32) (bitNo off : Nat) : Word32 :=
  let again := w.getLsbD 31 || w.getLsbD 30
  let top := (w &&& 0xE0000000#32) ||| (1#32 <<< bitNo) ||| (if again then 0x20000000#32 else 0)
  top ||| BitVec.ofNat 32 (off / 8 * 8 % 2 ^ 20)

/-- Writing WIN_STATUS: a 1 clears BUSY, POISON or OVER (R7, R206). -/
def winClear (w v : Word32) : Word32 := w &&& ~~~(v &&& 0xE0000000#32)

end Sys2Proof.Machine
end

