-- ==== Sys2Proof/Machine/Reset.lean ====
section
/-!
DEFINITION. The resets of R475 and what each touches (R472, R476): a bay, the photonic die, an endpoint, the whole controller.
-/
namespace Sys2Proof.Machine
open Sys2Proof

/-- No bay holds the journal and the ring states any more: the bay named was the last one that did. -/
def State.lastHolder (s : State) (bay : Nat) : Bool :=
  !((s.bay (peer bay)).bstate = .owner || (s.bay (peer bay)).bstate = .standby || (s.bay (peer bay)).bstate = .joining)

/-- The owner runs on alone: single-copy mode, with the entries that wait for an acknowledgement accepted (R239). -/
def State.goSingle (s : State) : State :=
  let waiting := s.own.journal.entries.filter fun e => e.2.state = 1 && !e.2.acked
  waiting.foldl (fun s e => s.acknowledge e.1) (s.modJournal fun j => { j with single := true })

/-! ### Images of the Loft that a failure touches -/

/-- Bytes n to n + k - 1 of an image slot; pages that are not held read 0 (R448). -/
def Slot.bytesAt (x : Slot) (n k : Nat) : List Byte := (List.range k).map fun i => (tget x.data ((n + i) / 4096) []).getD ((n + i) % 4096) 0

/-- SFMT of a field image (R450). -/
def Slot.sfmt (x : Slot) : Nat := ofLeBytes (x.bytesAt 0x014 2)

/-- The first field-image slot whose record passes a test (R448, R456). -/
def State.fieldSlot (s : State) (f : Slot → Bool) : Option Nat := (List.range 2).find? fun n => f (s.slot n)

/-- U: the field image in state 0x2, 0x3 or 0x4 (R456). -/
def State.slotU (s : State) : Option Nat := s.fieldSlot fun x => x.state = 2 || x.state = 3 || x.state = 4

/-- V: the varnished field image (R456). -/
def State.slotV (s : State) : Option Nat := s.fieldSlot fun x => x.state = 5

/-- P: the PREVIOUS field image (R456). -/
def State.slotP (s : State) : Option Nat := s.fieldSlot fun x => x.state = 6

/-- An image slot changes state, which raises the image-state event (R296, R449). -/
def State.setSlot (s : State) (n st : Nat) : State :=
  if (s.slot n).state = st then s else (s.modSlot n fun x => { x with state := st }).raise 0x0901 [(1, n), (1, st)]

/-- U becomes REFUSED: the record and the event, the Fallow flag cleared, and settings copy Y back in V's format (R457, R459, R465). -/
def State.refuseSlot (s : State) (n bay check : Nat) : State :=
  let s := (s.setSlot n 7).modSlot n fun x => { x with fallowFlag := false }
  let s := (s.almanac 0 0x0902 [(1, n), (1, bay), (2, check)]).raiseLater 0x0902 [(1, n), (1, bay), (2, check)]
  match s.slotV with
  | some v => s.modUpd fun u => { u with settingsY := (s.slot v).sfmt }
  | none => s

/-- A bay that runs U goes DOWN other than by BAY_RESTART: U is refused (R457). -/
def State.refuseRunning (s : State) (bay : Nat) : State :=
  match (s.bay bay).runsSlot with
  | some n => if (s.bay bay).releasedAt.isSome && s.slotU = some n then s.refuseSlot n bay 0 else s
  | none => s

/-! ### Resets -/

/-- The governor of a bay starts afresh: g and o come from the calibration set (R53). -/
def State.freshGovernor (s : State) (bay : Nat) : State :=
  let s := forUpTo 8 (fun s n =>
    let c := s.calSlot n
    (((s.modGovSlot bay n fun _ => { g := c.gStart, o := c.oStart }).modChg bay n fun _ => {}).modView n bay fun _ => {})) s
  s.modGov fun g => { g with passTime := tdel g.passTime bay, windowDone := tdel g.windowDone bay }

/-- A user hand as the Loft keeps it: entry, regions and configuration, in LOADED (R193). -/
def Hand.inLoft (h : Hand) : Hand :=
  { state := .loaded, entry := h.entry, pc := h.entry, ckptPtr := h.ckptPtr, codeBase := h.codeBase, codeLen := h.codeLen, dataBase := h.dataBase
    dataLen := h.dataLen, shrBase := h.shrBase, shrLen := h.shrLen, shadow := h.shadow, restartMax := h.restartMax
    restartWindow := h.restartWindow, ckptWd := h.ckptWd }

/-- Before a bay that holds them loses them, the Loft's copies of the loaded user hands and of the bound instances stand as that bay has
them: both are settings, written as they change (R150, R193, R459). -/
def State.keepLoaded (s : State) (bay : Nat) : State :=
  if (s.bay bay).bstate = .owner || (s.bay bay).bstate = .standby then
    s.modUpd fun u => { u with
      loftHands := ((s.barn.hands.filter fun e => e.1 / 4096 = bay && 1024 ≤ e.1 % 4096 && e.2.state != .free).map fun e => (e.1 % 4096, e.2.inLoft))
      loftBinds := (s.easelBay bay).insts }
  else s

/-- Settings of a bay's Gleaner, and the banks retired for good (R221, R222). -/
def Granary.settings (g : Granary) : Granary :=
  { gleanPeriod := g.gleanPeriod, ceThresh := g.ceThresh, autotest := g.autotest, spareG := g.spareG, spareP := g.spareP, degraded := g.degraded }

/-- A bay reset: its cores, hands, Granary, Porch, panel stores, tally registers, link registers and push control block; it is DOWN
and its watchdog is disarmed (R226, R230, R475, R476). A self-test under way there is abandoned (R217). A stalled
die runs again. The other bay, the keeper,
the photonic die and its stalk lanes run on. -/
def State.resetBay (s : State) (bay : Nat) : State :=
  let was := (s.bay bay).bstate
  let lost := s.lastHolder bay && (was = .owner || was = .standby || was = .joining)
  let g := s.granary bay
  let s := s.keepLoaded bay
  let s := s.modBarn fun b => { b with hands := b.hands.filter fun e => e.1 / 4096 != bay, icache := b.icache.filter fun e => e.1 / 32 != bay }
  let s := s.modGranary bay fun _ => g.settings
  let s := s.modGran fun gr => { gr with bists := gr.bists.map fun e =>
    if e.1 / 256 = bay && e.2.phase != .idle then (e.1, { e.2 with phase := .idle, result := 3 }) else e }
  let s := s.modEaselBay bay fun e => { panelsOut := e.panelsOut, kacReturn := e.panelsOut }
  let s := s.modMeasure bay fun _ => {}
  let s := s.modPush bay fun _ => {}
  let s := s.modEndpoint bay fun e => { e with dbStale := 0, dbBad := 0, dbLast := 0, denyCount := 0, denyLast := 0 }
  let s := s.modBay bay fun b => { b with
    bstate := .down, alive := true, wdArmed := false, wakeWd := false, guardStart := none, releasedAt := none, shadowMiss := [], easelReady := false, held := 0, announced := 0,
    fewLanes := none, hbFrozen := none, runsSlot := none, readEpoch := s.own.latch.epoch }
  let s := if lost then s.modJournal (fun j => { j with entries := [], single := true, handover := .none }) else s
  let s := if lost then s.modHost (fun h => { h with rings := {}, admin := {} }) else s
  if was = .standby || was = .joining then s.goSingle else s

/-- A restart of the photonic die: ports, membership, roles and alignment (R312, R475, R476). Its parameters come from the Loft
again, so PRIORITY and PORT_MASK take effect (R332). -/
def State.restartPhotonic (s : State) : State :=
  let s := s.modGrid fun g => { g with pathLost := g.pathLost || s.fab.fab.mepoch != 0, children := [] }
  let s := s.modSys fun p => { p with ftOffset := 0, photHb := s.now, tjPhotonic := -32768 }
  s.modFabric fun f => {
    serial := f.serial
    prioInForce := s.fab.param.priority
    maskInForce := s.fab.param.portMask
    admitted := f.admitted
    waits := f.waits }

/-- An endpoint reset: link, configuration space and MSI-X state (R248, R475). -/
def State.resetEndpoint (s : State) (e : Nat) : State :=
  s.modEndpoint e fun ep => { ep with busMaster := false, msix := [], msixPend := 0 }

/-- Grid settings that the Loft keeps (R121, R459). -/
def Grid.settings (g : Grid) : Grid :=
  { source := g.source, reportStale := g.reportStale, curve := g.curve, frSlope := g.frSlope, freqStale := g.freqStale, spread := g.spread, parkRails := g.parkRails }

/-- Settings and calibration values of a power channel, with its energy count and RETRIES_LEFT, that the Loft keeps (R362, R370, R385). -/
def Chan.settings (c : Chan) : Chan :=
  { retriesLeft := c.retriesLeft, retries := c.retries, thresh := c.thresh, warn := c.warn, inrushSlew := c.inrushSlew, inrushLimit := c.inrushLimit
    inrushTimeout := c.inrushTimeout }

/-- A rail's table entry (R333). -/
def Rail.settings (r : Rail) : Rail := { sheaf := r.sheaf, parents := r.parents, riseTimeout := r.riseTimeout }

/-- Settings of a zone (R390, R408). -/
def Zone.settings (z : Zone) : Zone := { pumps := z.pumps, fans := z.fans, slots := z.slots, target := z.target, trip := z.trip }

/-- Settings of a temperature point (R389, R408). -/
def Point.settings (p : Point) : Point := { neighbours := p.neighbours, thresh := p.thresh, n := p.n, zone := p.zone }

/-- Settings and calibration values of a fan or pump channel (R392, R397, R408). -/
def Drive.settings (d : Drive) : Drive :=
  { mode1 := d.mode1, fixed := d.fixed, monitor := d.monitor, iLock := d.iLock, iOpen := d.iOpen, ppr := d.ppr, pwmKhz := d.pwmKhz }

/-- Settings and calibration values of an input (R408). -/
def Input.settings (x : Input) : Input := { filter := x.filter, stuck := x.stuck, chatter := x.chatter, kFactor := x.kFactor }

/-- Settings of a two-wire port (R411). -/
def TwPort.settings (p : TwPort) : TwPort := { enable := p.enable, speed := p.speed, filter := p.filter, target := p.target }

/-- A controller reset: every die restarts and every output takes its safe state; the Loft with every setting, the fuses, the owner epoch,
the energy counts and the Almanac are kept (R459, R472, R475, R477). A load of trim that it strikes counts towards the eight of R474.
Keeper-hold ends only with a power cycle (R17). A slot run by a bay returns to state 0x2 (R456). Every accelerator loses its branch.
What the controller has driven out and the commands that wait are the model's own and stay. -/
def State.resetController (s : State) : State :=
  let cycled := s.sys.keeperStopped
  let s := match s.owner with | some b => s.keepLoaded b | none => s
  let loads := if cycled || s.sys.trimValid || !s.sys.suppliesValid then (if cycled then 0 else s.sys.trimLoads) else satAdd 4 s.sys.trimLoads 1
  { State.reset with
    out := s.out
    pending := s.pending
    gov := { State.reset.gov with
      params := s.gov.params.map (fun e => (e.1, { e.2 with nextLinear := [] })), tray := { s.gov.tray with recordFrom := 0 }, margins := s.gov.margins
      trims := s.gov.trims, cal := s.gov.cal }
    grid := s.grid.settings
    easel := { bays := [], cfg := { s.easel.cfg with lastReseed := 0, reseedDue := false } }
    barn := { State.reset.barn with images := s.barn.images }
    gran := { bays := s.gran.bays.map (fun e => (e.1, e.2.settings)), repairs := s.gran.repairs }
    own := { State.reset.own with latch := { epoch := s.loft.upd.loftEpoch, hold := !cycled && (s.own.latch.hold || 8 ≤ loads) }, param := s.own.param }
    fab := { fab := { serial := s.fab.fab.serial, prioInForce := s.fab.param.priority, maskInForce := s.fab.param.portMask }, param := s.fab.param }
    rail := { rails := s.rail.rails.map fun e => (e.1, e.2.settings) }
    alm := { s.alm with queue := [], started := false, torn := 0, dropped := 0, memory := if cycled then [] else s.alm.memory }
    pwr := { chans := s.pwr.chans.map (fun e => (e.1, e.2.settings)), feed := { loftEnergy := s.pwr.feed.loftEnergy } }
    cool := { zones := s.cool.zones.map (fun e => (e.1, e.2.settings)), points := s.cool.points.map (fun e => (e.1, e.2.settings))
              drives := s.cool.drives.map (fun e => (e.1, e.2.settings)), inputs := s.cool.inputs.map (fun e => (e.1, e.2.settings)) }
    tw := { ports := s.tw.ports.map fun e => (e.1, e.2.settings) }
    boot := { State.reset.boot with fuse := { s.boot.fuse with burnJseq := 0 } }
    loft := { upd := { s.loft.upd with
                moveTime := none, accelTime := none, fallowCommit := none
                slots := s.loft.upd.slots.map fun e => (e.1, if e.2.state = 3 || e.2.state = 4 then { e.2 with state := 2 } else e.2) }
              die := { s.loft.die with loaded := false } }
    sys := { State.reset.sys with
      suppliesValid := s.sys.suppliesValid && !cycled, trimLoads := loads, fallowN := s.sys.fallowN, holdup := s.sys.holdup
      freshCount := s.sys.freshCount } }

end Sys2Proof.Machine
end

