-- ==== Sys2Proof/Machine/Granary.lean ====
section
/-!
DEFINITION. The Granary and the Porch of a bay: addresses and banks (R194, R195), errors and poison (R207 to R209), the page map
(R210), the Gleaner and its policy (R211 to R215), and the restart of a hand (R186 to R188), which that policy can bring about.
-/
namespace Sys2Proof.Machine
open Sys2Proof

/-! ### Addresses -/

/-- An address of the single-port Granary (R194). -/
def inGranary (a : Nat) : Bool := a < 0x01800000

/-- An address of the Porch (R194). -/
def inPorch (a : Nat) : Bool := 0x02000000 ≤ a && a < 0x02100000

/-- The bank of an address (R195). -/
def bankOf (a : Nat) : Nat := if inPorch a then 64 + field a 6 2 else field a 6 6

/-- The line of an address within its bank (R195). -/
def lineOf (a : Nat) : Nat := if inPorch a then field a 8 12 else field a 12 13

/-- The page of an address in the page map: Granary pages, then Porch pages (R210). -/
def pageOf (a : Nat) : Nat := if inPorch a then 6144 + (a - 0x02000000) / 4096 else a / 4096

/-- Pages of the page map (R210). -/
def pageCount : Nat := 6400

/-- The 64-bit word of an address. -/
def wordOf (a : Nat) : Nat := a / 8 * 8

/-- OWNER of a page map entry (R210). -/
def pageOwner (e : Word32) : Nat := field e.toNat 28 4

/-- TAG of a page map entry (R210). -/
def pageTag (e : Word32) : Nat := field e.toNat 0 16

/-- The page map entry of an address. -/
def Granary.pageEntry (g : Granary) (a : Nat) : Word32 := tget g.pageMap (pageOf a) 0

/-- A word is poisoned (R208). -/
def Granary.poisoned (g : Granary) (a : Nat) : Bool := (wordOf a) ∈ g.poison

/-- Keep a list of addresses rising and without repeats. -/
def insertAddr (a : Nat) (l : List Nat) : List Nat :=
  match l with
  | [] => [a]
  | x :: r => if a < x then a :: x :: r else if a = x then x :: r else x :: insertAddr a r

/-- Store bytes that lie in one 64-bit word: a full word clears poison, a partial store to a poisoned word leaves it as it is (R201,
R208); a write drops a pending write-back of the word (R212). -/
def Granary.store (g : Granary) (a : Nat) (bs : List Byte) : Granary :=
  let w := wordOf a
  if w ∈ g.poison && bs.length < 8 then g
  else { g with mem := memWrite g.mem a bs, poison := g.poison.filter (· != w), flipped := g.flipped.filter (· != w),
                writeBack := g.writeBack.filter (· != w) }

/-- Store a string of bytes a whole number of words long from a word address on, as a transfer does. -/
def Granary.fill (g : Granary) (a : Nat) (bs : List Byte) : Granary :=
  { g with mem := memWrite g.mem a bs, poison := g.poison.filter fun p => !(a ≤ p && p < a + bs.length) }

/-- n bytes from an address as a number. -/
def Granary.load (g : Granary) (a n : Nat) : Nat := ofLeBytes (memRead g.mem a n)

/-! ### Hands: checkpoints and restart -/

/-- A checkpoint record of 128 bytes (R186). -/
def ckptBytes (cseq : Nat) (h : Hand) (now : Nat) : List Byte :=
  let body := leBytes 8 cseq ++ leBytes 4 h.pc.toNat ++ leBytes 4 h.tseq.toNat ++
    ((List.range 15).flatMap fun i => leBytes 4 (h.reg (i + 1)).toNat) ++
    ((List.range 7).flatMap fun i => leBytes 2 (tget h.slots i {}).source) ++
    leBytes 2 h.timerMode ++ leBytes 4 h.timerVal ++ leBytes 8 h.timerDeadline ++ leBytes 8 now ++ List.replicate 12 0
  body ++ leBytes 4 (crc32c body).toNat

/-- The bytes of one of a hand's two checkpoint records. -/
def Granary.ckptRecord (g : Granary) (h : Hand) (i : Nat) : List Byte := memRead g.mem (h.ckptPtr + 128 * i) 128

/-- A record is valid when its CRC passes (R187) and no word of it is poisoned. -/
def Granary.ckptValid (g : Granary) (h : Hand) (i : Nat) : Bool :=
  let b := g.ckptRecord h i
  fieldAt b 0x7C 4 == (crc32c (b.take 0x7C)).toNat &&
  !g.poison.any fun p => h.ckptPtr + 128 * i ≤ p && p < h.ckptPtr + 128 * i + 128

/-- CSEQ of a record. -/
def Granary.ckptSeq (g : Granary) (h : Hand) (i : Nat) : Nat := fieldAt (g.ckptRecord h i) 0 8

/-- The valid record with the higher CSEQ, if any (R187). -/
def Granary.newestCkpt (g : Granary) (h : Hand) : Option Nat :=
  match g.ckptValid h 0, g.ckptValid h 1 with
  | true, true => if g.ckptSeq h 0 < g.ckptSeq h 1 then some 1 else some 0
  | true, false => some 0
  | false, true => some 1
  | false, false => none

/-- Every pending bit and overrun count cleared (R187). -/
def Hand.clearSlots (h : Hand) : Hand :=
  { h with slots := h.slots.map fun e => (e.1, { e.2 with pending := false, overrun := 0 }) }

/-- The first deadline after a time on a periodic timer's grid (R182, R187). -/
def nextOnGrid (deadline v now : Nat) : Nat :=
  if now < deadline || v = 0 then deadline else deadline + ((now - deadline) / v + 1) * v

/-- Re-arm the timer after a restart: a one-shot deadline already past sets slot 7 pending at once (R187). -/
def Hand.rearm (h : Hand) (now : Nat) : Hand :=
  if h.timerMode = 0 && h.timerDeadline ≤ now then { h with timerMode := 2 }.post 7
  else if h.timerMode = 1 then { h with timerDeadline := nextOnGrid h.timerDeadline h.timerVal now }
  else h

/-- The hand with everything a checkpoint record holds (R186, R187). -/
def Hand.fromCkpt (h : Hand) (b : List Byte) : Hand :=
  { h with
    pc := BitVec.ofNat 32 (fieldAt b 0x08 4)
    tseq := BitVec.ofNat 32 (fieldAt b 0x0C 4)
    regs := (List.range 15).map fun i => (i + 1, BitVec.ofNat 32 (fieldAt b (0x10 + 4 * i) 4))
    slots := (List.range 7).map fun i => (i, { tget h.slots i {} with source := fieldAt b (0x4C + 2 * i) 2 })
    timerMode := field (fieldAt b 0x5A 2) 0 2
    timerVal := fieldAt b 0x5C 4
    timerDeadline := fieldAt b 0x60 8
    cseq := fieldAt b 0x00 8 }

/-- The hand at its entry with the registers of its HAND_START, others 0, and TSEQ 0 (R179, R187). -/
def Hand.fromEntry (h : Hand) : Hand :=
  { h with
    pc := h.entry, tseq := 0, timerMode := 2,
    regs := (List.range 7).map fun i => (i + 1, h.startRegs.getD i 0) }

/-- A restart of a hand with a cause (R187). A two-wire result still due is discarded (R189). -/
def Hand.restart (h : Hand) (g : Granary) (cause now : Nat) : Hand :=
  let due := match h.wait with | some (.twoWire ..) => 1 | _ => 0
  let h := { h.clearSlots with state := .ready, wait := none, cause := cause, lastCkpt := now, discardTwi := h.discardTwi + due }
  match g.newestCkpt h with
  | some i => (h.fromCkpt (g.ckptRecord h i)).rearm now
  | none => h.fromEntry

/-- Counted restarts of a hand inside its window (R188). -/
def Hand.recentRestarts (h : Hand) (now : Nat) : List Nat := h.restarts.filter fun t => now < t + h.restartWindow * 1000

/-- A fault of a hand with a counted cause: a restart, or FAULTED at the limit with the hand-fault event and its record (R188). -/
def State.handFault (s : State) (bay hand cause : Nat) : State :=
  let h := s.hand bay hand
  let recent := h.recentRestarts s.devNow
  if h.restartMax ≤ recent.length then
    ((s.modHand bay hand fun h => { h with state := .faulted, wait := none, timerMode := 2, cause := cause, restarts := recent }).raise
      0x0601 [(1, bay), (2, hand), (1, cause)]).almanac (baySource bay) 0x0601 [(1, bay), (2, hand), (1, cause)]
  else s.modHand bay hand fun h => { h.restart (s.granary bay) cause s.devNow with restarts := recent ++ [s.devNow] }

/-- A restart that is not counted (R187, R190, R191). -/
def State.handRestart (s : State) (bay hand cause : Nat) : State :=
  s.modHand bay hand fun h => h.restart (s.granary bay) cause s.devNow

/-! ### Uncorrectable words -/

/-- The other bay can give a good copy of a word (R213, R214): it is in service, the breezeway works, and its own word is not
poisoned. -/
def State.peerCopyGood (s : State) (bay a : Nat) : Bool :=
  ((s.bay (peer bay)).bstate = .owner || (s.bay (peer bay)).bstate = .standby) && s.own.journal.breezeUp &&
  !(s.granary (peer bay)).poisoned a

/-- The journal entry whose 128 bytes hold an address of a journal page: pages owned by the journal in rising order hold the ring of
entries (R210, R234; DEDUCED, log entry 20). -/
def State.journalSlotOf (s : State) (bay a : Nat) : Nat :=
  let before := ((s.granary bay).pageMap.filter fun e => e.1 < pageOf a && pageOwner e.2 = 1).length
  before * 32 + a % 4096 / 128

/-- Stop a ring with an error, raising the ring-error event (R260). -/
def State.stopRing (s : State) (n rerr : Nat) : State :=
  if (s.ring n).state = .active then
    ((s.modRing n fun r => { r with state := .stopped, rerr := rerr }).writeStatus n).raise 0x0001 [(2, n), (1, rerr)]
  else s

/-- A journal or ring-state word that no copy can restore: the ring is stopped and every entry the word touches is reported lost
(R214). -/
def State.journalLoss (s : State) (bay a : Nat) : State :=
  let e := (s.granary bay).pageEntry a
  if pageOwner e = 2 then s.stopRing (pageTag e + a % 4096 / 64) 4
  else
    let slot := s.journalSlotOf bay a
    match s.own.journal.entries.find? fun x => x.1 % 16384 = slot with
    | none => s
    | some (j, x) =>
      let s := if x.kind = 0 then s.stopRing x.ring 4 else s
      (s.raise 0x0003 [(2, x.ring), (4, x.seq.toNat), (8, j)]).modJournal fun jn => { jn with entries := tdel jn.entries j }

/-- Queue a self-test of a bank (R213, R215). -/
def Granary.queueTest (g : Granary) (bank : Nat) : Granary :=
  if bank ∈ g.autotestQ then g else { g with autotestQ := g.autotestQ ++ [bank] }

/-- The Gleaner's policy on an uncorrectable word: poison it, record it, raise the event, then act by the page's owner (R213, R214).
`again` says that a free word read back uncorrectable after it was zeroed. -/
def State.uncorrectable (s : State) (bay addr : Nat) (again : Bool) : State :=
  let a := wordOf addr
  let e := (s.granary bay).pageEntry a
  let pl := [(1, bay), (1, bankOf a), (4, a), (4, e.toNat)]
  let s := s.modGranary bay fun g => { g with poison := insertAddr a g.poison, flipped := g.flipped.filter (· != a), ueCount := satAdd 16 g.ueCount 1 }
  let s := (s.almanac (baySource bay) 0x0701 pl).raise 0x0701 pl
  match pageOwner e with
  | 0 =>
    s.modGranary bay fun g =>
      let g := g.fill a (List.replicate 8 0)
      if again then ({ g with poison := insertAddr a g.poison, pageMap := tset g.pageMap (pageOf a) (e ||| 0x08000000#32) }).queueTest (bankOf a) else g
  | 1 => if s.peerCopyGood bay a then s.modGranary bay fun g => { g with waitRestore := insertAddr a g.waitRestore } else s.journalLoss bay a
  | 2 => if s.peerCopyGood bay a then s.modGranary bay fun g => { g with waitRestore := insertAddr a g.waitRestore } else s.journalLoss bay a
  | 3 => if s.peerCopyGood bay a then s.modGranary bay fun g => { g with waitRestore := insertAddr a g.waitRestore } else (s.refuseRunning bay).resetBay bay
  | 4 => s.handFault bay (pageTag e + a % 4096 / 64) 4
  | 5 => if s.peerCopyGood bay a then s.modGranary bay fun g => { g with waitRestore := insertAddr a g.waitRestore } else s
  | 6 => s.modInst bay (pageTag e) fun i => { i with reloading := true }
  | 7 => s.modBarn fun b => { b with hands := b.hands.map fun x =>
      if x.1 / 4096 = bay && x.2.state = .ready && pageOf x.2.pc.toNat = pageOf a then
        (x.1, { x.2 with state := .wait, wait := some (.icache (x.2.pc.toNat / 64)) }) else x }
  | _ => s

/-- A read met a single-bit error: the word is queued for the corrected write-back and counted in the pass (R207, R215). -/
def Granary.corrected (g : Granary) (addr : Nat) : Granary :=
  let a := wordOf addr
  { g with writeBack := if a ∈ g.writeBack then g.writeBack else g.writeBack ++ [a], flipped := insertAddr a g.flipped }

end Sys2Proof.Machine
end

