-- ==== Sys2Proof/Machine/Handover.lean ====
section
/-!
DEFINITION. The planned handover of R242 as the owner starts it, for BAY_HANDOVER, for the yields of R43 and R99, and for BAY_RESTART
of the owner (R293).
-/
namespace Sys2Proof.Machine
open Sys2Proof

/-- A handover may start: the peer of the serving owner is STANDBY, HOLD is 0, and none is under way (R242). -/
def State.handoverOk (s : State) : Bool :=
  match s.serving with
  | some b => (s.bay (peer b)).bstate = .standby && !s.own.latch.hold && s.own.journal.handover = .none
  | none => false

/-- Every entry that was written has been acknowledged (R242). -/
def State.allAcked (s : State) : Bool := s.own.journal.entries.all fun e => e.2.acked || e.2.state != 1

/-- With every acknowledgement in, the owner journals the HANDOVER entry, whose APPLY_DWN is H (R242). -/
def State.handoverAdvance (s : State) : State :=
  if s.own.journal.handover = .acks && s.allAcked && s.journalFree then
    let h := s.applyWindow
    (s.journalChange .handover).modJournal fun j => { j with handover := .journalled, handoverAt := h }
  else s

/-- Start a planned handover: no new command is journalled from now on (R242). The journal entry that waits for its end is named, 0 for
none, and the bay that a BAY_RESTART resets afterwards (R293). -/
def State.startHandover (s : State) (jseq : Nat) (restart : Option Nat) : State :=
  if s.handoverOk then
    (s.modJournal fun j => { j with handover := .acks, handoverJseq := jseq, restartAfter := restart }).handoverAdvance
  else s

/-- A handover ends without a claim: YIELD clears, the owner resumes, and the command that waits completes with a failure (R242, R293). -/
def State.handoverFail (s : State) : State :=
  let j := s.own.journal.handoverJseq
  let s := s.modLatch fun l => match s.owner with
    | some 0 => { l with yield0 := false }
    | some _ => { l with yield1 := false }
    | none => l
  let s := s.modJournal fun j => { j with handover := .none, handoverJseq := 0, restartAfter := none }
  if j = 0 then s else s.complete j 0x0502 []

end Sys2Proof.Machine
end

