-- ==== Sys2Proof/Machine/Link.lean ====
section
/-!
DEFINITION. The accelerator link (R19 to R44): frame bytes and their CRC, the accelerator's acceptance of frames, grants, density,
ballast, lease, operating-point steps and firmware push, and the controller's receiving lanes.
-/
namespace Sys2Proof.Machine
open Sys2Proof

/-! ### Frame bytes -/

/-- The bytes of a command frame without its CRC word's CRC (R25): bytes 0 to 123. -/
def commandBytes (f : CommandFrame) : List Byte :=
  wordsBytes ([
    pack [(56, 8, 0xD2), (52, 4, 1), (48, 4, f.slot), (0, 32, f.cseq.toNat)],
    pack [(32, 32, f.epoch.toNat)],
    BitVec.ofNat 64 f.devTime,
    pack [(56, 8, f.density), (48, 8, f.safeDensity), (32, 16, f.ballastW), (31, 1, bit f.quiesce)],
    pack [(32, 32, f.gseqCommit.toNat), (31, 1, bit f.revoke)] ] ++
    ((List.range 8).map fun i => let g := f.grants.getD i {}; pack [(32, 32, g.gseq.toNat), (12, 12, g.rise), (0, 12, g.fall)]) ++
    [pack [(56, 8, f.opTarget), (52, 4, f.opc), (44, 8, twos 8 f.vgb)], 0]) ++ leBytes 4 0

/-- The CRC of a command frame (R21, R25). -/
def commandCrc (f : CommandFrame) : Word32 := crc32c (commandBytes f)

/-- The CRC of bytes 8 to 123, which leave out CSEQ, for the shadow compare (R233). -/
def shadowCrc (f : CommandFrame) : Word32 := crc32c ((commandBytes f).drop 8)

/-- The bytes of a burst frame before its CRC (R25). -/
def burstBytes (f : BurstFrame) : List Byte :=
  leBytes 8 (pack [(56, 8, 0xD3), (52, 4, 1), (48, 4, f.slot), (40, 8, f.dens), (32, 8, f.len), (0, 32, f.epoch.toNat)]).toNat ++ leBytes 4 f.bseq.toNat

/-- The CRC of a burst frame over bytes 0 to 11 (R21, R25). -/
def burstCrc (f : BurstFrame) : Word32 := crc32c (burstBytes f)

/-- The CRC of a push block over bytes 0 to 7 and 12 to 527 (R21, R25). -/
def blockCrc (f : PushBlock) : Word32 :=
  crc32c (leBytes 8 (pack [(56, 8, 0xD4), (52, 4, 1), (48, 4, f.slot), (33, 1, bit f.last), (32, 1, bit f.first), (0, 32, f.block)]).toNat ++
    leBytes 4 f.epoch.toNat ++ (List.range 512).map fun i => f.data.getD i 0)

/-- The bytes of a counter frame before its CRC (R24): header, counters, temperature slice, rail voltages. -/
def counterBytes (f : CounterFrame) : List Byte :=
  wordsBytes [
    pack [(56, 8, 0xC1), (52, 4, 1), (48, 4, f.slot), (44, 4, f.tslice), (32, 12, f.count), (0, 32, f.wseq.toNat)],
    BitVec.ofNat 64 f.snapTime,
    pack [(32, 32, f.epochSeen.toNat), (0, 32, f.gseqHeld.toNat)],
    pack [(56, 8, f.densApplied), (51, 5, f.opIndex), (50, 1, bit f.droop), (49, 1, bit f.lapsed), (48, 1, bit f.ballastOn),
      (47, 1, bit f.opcBusy), (46, 1, bit f.opcFrozen), (44, 2, f.opcStep), (43, 1, bit f.quiesced), (42, 1, bit f.fwReady),
      (40, 2, f.pushSt), (32, 8, f.cfBad), (0, 32, f.pushNext)]] ++
  ((List.range 2048).flatMap fun i => leBytes 2 (f.counters.getD i 0)) ++
  ((List.range 64).flatMap fun i => leBytes 2 (twos 16 (f.temps.getD i (-32768)))) ++
  ((List.range 32).flatMap fun i => leBytes 2 (f.rails.getD i 0))

/-- The CRC of a counter frame (R21, R24). -/
def counterCrc (f : CounterFrame) : Word32 := crc32c (counterBytes f)

/-! ### The accelerator: grants, density, ballast -/

/-- Drop every held speculative grant (R28, R37). -/
def Accel.dropSpeculative (a : Accel) : Accel := { a with grants := a.grants.filter (·.committed) }

/-- The highest GSEQ of some grants, none if there is none (R23). -/
def highest (gs : List Grant) : Option Grant :=
  gs.foldl (fun b g => match b with | none => some g | some x => if wsAbove g.gseq x.gseq then some g else b) none

/-- The grant in use in the present window: the one of that window, else the latest committed one not ahead of it (R32). -/
def Accel.grantInUse (a : Accel) : Option Grant :=
  match a.grants.find? fun g => g.gseq = a.wseq with
  | some g => some g
  | none => highest (a.grants.filter fun g => g.committed && !wsAbove g.gseq a.wseq)

/-- RISE in use; without a grant the draw may not rise (R32). -/
def Accel.riseNow (a : Accel) : Nat := match a.grantInUse with | some g => g.rise | none => 0

/-- The ballast floor after a window without an accepted command frame (R32, R34). -/
def Accel.decay (a : Accel) : Accel :=
  { a with ballastFloor := match a.grantInUse with | some g => a.ballastFloor - g.fall | none => 0 }

/-- The effective bubble density (R33). -/
def Accel.effective (a : Accel) : Nat :=
  max (max a.density (a.burstDens.getD 0)) (if a.lapsed then a.lapseDensity else 0)

/-- Store one grant entry: not an empty one, not one for a past window, not over a committed grant (R31). -/
def Accel.storeGrant (a : Accel) (e : GrantEntry) : Accel :=
  if e.gseq = 0 || !wsAtOrAbove e.gseq a.wseq then a
  else match a.grants.find? fun g => g.gseq = e.gseq with
    | some g => if g.committed then a else { a with grants := a.grants.map fun g => if g.gseq = e.gseq then { g with rise := e.rise, fall := e.fall } else g }
    | none => { a with grants := a.grants ++ [{ gseq := e.gseq, rise := e.rise, fall := e.fall }] }

/-- With more than 16 grants, drop the highest speculative ones (R31). -/
def Accel.trimGrants (a : Accel) : Accel :=
  forUpTo 8 (fun a _ => if a.grants.length ≤ 16 then a else
    match highest (a.grants.filter fun g => !g.committed) with
    | some g => { a with grants := a.grants.filter fun x => x.gseq != g.gseq }
    | none => a) a

/-- The grant rules on an accepted command frame, in order (R31). -/
def Accel.takeGrants (a : Accel) (f : CommandFrame) : Accel :=
  let a := if f.revoke then { a with grants := a.grants.filter fun g => !wsAbove g.gseq f.gseqCommit } else a
  let a := { a with gseqCommit := f.gseqCommit, grants := a.grants.map fun g => if wsAbove g.gseq f.gseqCommit then g else { g with committed := true } }
  (f.grants.foldl Accel.storeGrant a).trimGrants

/-- Grants of past windows are no longer held, but for the latest committed one (R32; DEDUCED, log entry 29). -/
def Accel.pruneGrants (a : Accel) : Accel :=
  let keep := highest (a.grants.filter fun g => g.committed && !wsAbove g.gseq a.wseq)
  { a with grants := a.grants.filter fun g => wsAtOrAbove g.gseq a.wseq || keep == some g }

/-! ### The accelerator: operating-point steps -/

/-- The operating-point table of a slot's accelerator, which matches the calibration table (R82). -/
def State.opEntry (s : State) (slot i : Nat) : OpPoint := (s.calSlot slot).opTable.getD i {}

/-- A table voltage with a guardband offset, 100 uV: a step of VGB is 2.5 mV (R25, R81). -/
def State.opVolt (s : State) (slot i : Nat) (vgb : Int) : Int := ((s.opEntry slot i).vTable : Int) + 25 * vgb

/-- The accelerator freezes (R34, R90). -/
def Accel.freeze (a : Accel) : Accel := { a with opcFrozen := true }

/-- Start the step that OPC names, unless one is under way, a freeze holds, or the value is already in effect (R35, R90). -/
def State.startStep (s : State) (slot : Nat) (a : Accel) (f : CommandFrame) : Accel :=
  let tgt := f.opTarget % 32
  let cleared := if a.stepTarget = tgt then a.opcStep else 0
  if a.opcBusy || a.opcFrozen then a
  else if f.opc = 1 then
    if s.opVolt slot tgt f.vgb = s.opVolt slot a.vIndex a.vVgb then a
    else { a with opcBusy := true, stepTarget := tgt, stepVolt := true, stepVgb := f.vgb, opcStep := cleared / 2 * 2 }
  else if f.opc = 2 then
    if (s.opEntry slot tgt).fTable = (s.opEntry slot a.fIndex).fTable then a
    else { a with opcBusy := true, stepTarget := tgt, stepVolt := false, stepVgb := a.stepVgb, opcStep := cleared % 2 }
  else a

/-- What OPC asks of the accelerator: 1 and 2 a step, 3 a freeze, 4 a resume, any other code hold (R25, R35, R90). -/
def State.takeOpc (s : State) (slot : Nat) (a : Accel) (f : CommandFrame) : Accel :=
  if f.opc = 3 then a.freeze else if f.opc = 4 then { a with opcFrozen := false } else s.startStep slot a f

/-- A step reaches its target: the quantity stands there, and OP_INDEX takes the target once both do (R24, R35). -/
def State.finishStep (s : State) (slot : Nat) (a : Accel) : Accel :=
  let a := if a.stepVolt then { a with vIndex := a.stepTarget, vVgb := a.stepVgb, opcStep := a.opcStep / 2 * 2 + 1 }
           else { a with fIndex := a.stepTarget, opcStep := a.opcStep % 2 + 2 }
  let both := (s.opVolt slot a.vIndex a.vVgb = s.opVolt slot a.stepTarget a.vVgb) && (s.opEntry slot a.fIndex).fTable = (s.opEntry slot a.stepTarget).fTable
  { a with opcBusy := false, opIndex := if both then a.stepTarget else a.opIndex }

/-! ### The accelerator's rows -/

/-- A frame of an owner epoch may be accepted: the slot's own, from an epoch not below EPOCH_SEEN (R27). -/
def Accel.takes (a : Accel) (slot fslot : Nat) (epoch : Word32) : Bool := a.powered && fslot = slot && a.epochSeen.toNat ≤ epoch.toNat

/-- A frame of a newer owner: EPOCH_SEEN follows, sequences start afresh, speculative grants drop (R28). -/
def Accel.newOwner (a : Accel) (epoch : Word32) : Accel :=
  if a.epochSeen.toNat < epoch.toNat then { a.dropSpeculative with epochSeen := epoch, lastCseq := none, lastBseq := none } else a

/-- A sequence is acceptable: greater than the last of the same epoch and type (R23, R27). -/
def seqOk (last : Option Word32) (seq : Word32) : Bool := match last with | none => true | some l => seqNewer seq l

/-- The accelerator accepts a command frame: grants, density, ballast floor, lease, quiesce and operating point (R27 to R36). A frame
that fails its CRC counts in CF_BAD and has no other effect (R21, R24). -/
def execAcceptCommandFrame (slot : Nat) (frame : CommandFrame) (s : State) : Host.Outcome State Fault Refusal :=
  .next (s.modAccel slot fun a =>
    if !a.powered then a
    else if frame.crc ≠ commandCrc frame then { a with cfBad := satAdd 8 a.cfBad 1 }
    else if !a.takes slot frame.slot frame.epoch then a
    else
      let b := a.newOwner frame.epoch
      if !seqOk b.lastCseq frame.cseq then a
      else
        let b := { b.takeGrants frame with
          lastCseq := some frame.cseq, density := min frame.density 240, safeDensity := min frame.safeDensity 240, ballastFloor := frame.ballastW
          acceptedThisWindow := true, leaseTime := s.now, lapsed := false, quiesce := frame.quiesce
          quiesced := b.quiesced && frame.quiesce }
        s.takeOpc slot b frame)

/-- The accelerator accepts a burst frame: the burst starts or restarts, and any step freezes (R27, R33, R34). -/
def execAcceptBurstFrame (slot : Nat) (frame : BurstFrame) (s : State) : Host.Outcome State Fault Refusal :=
  .next (s.modAccel slot fun a =>
    if !a.takes slot frame.slot frame.epoch || frame.crc ≠ burstCrc frame then a
    else
      let b := a.newOwner frame.epoch
      if !seqOk b.lastBseq frame.bseq then a
      else { b.freeze with lastBseq := some frame.bseq, burstDens := some (min frame.dens 240), burstEnd := s.now + frame.len * 250 })

/-- The accelerator accepts the next push block, or block 0 of a push that starts over (R27, R28, R39). -/
def execAcceptPushBlock (slot : Nat) (block : PushBlock) (s : State) : Host.Outcome State Fault Refusal :=
  .next (s.modAccel slot fun a =>
    if !a.takes slot block.slot block.epoch || block.crc ≠ blockCrc block then a
    else if block.first && block.block = 0 && a.pushSt ≠ 2 then { a.newOwner block.epoch with pushSt := 1, pushNext := 1, pushLast := block.last }
    else if block.block = a.pushNext then
      { a.newOwner block.epoch with pushNext := a.pushNext + 1, pushSt := if a.pushSt = 0 then 1 else a.pushSt, pushLast := a.pushLast || block.last }
    else a)

/-- The accelerator ends unpacking and verifying: PUSH_ST is verified and the firmware runs, or failed (R40). -/
def execFirmwareVerifyDone (slot : Nat) (ok : Bool) (s : State) : Host.Outcome State Fault Refusal :=
  .next (s.modAccel slot fun a =>
    if a.powered && a.pushLast && a.pushSt = 1 then { a with pushSt := if ok then 2 else 3, fwReady := ok, pushLast := false } else a)

/-- 500 us after the latest accepted command frame the lease lapses: LAPSED, the lapse density starts at the effective density, and
speculative grants drop (R36, R37). -/
def execLeaseLapse (slot : Nat) (s : State) : Host.Outcome State Fault Refusal :=
  .next (s.modAccel slot fun a =>
    if a.powered && !a.lapsed && s.passed a.leaseTime 500000 then { a.dropSpeculative with lapseDensity := a.effective, lapsed := true } else a)

/-- A burst ends after BURST_LEN (R33). -/
def execBurstEnd (slot : Nat) (s : State) : Host.Outcome State Fault Refusal :=
  .next (s.modAccel slot fun a => if a.burstDens.isSome && a.burstEnd ≤ s.now then { a with burstDens := none } else a)

/-- The counter frame of the window just closed (R24). -/
def Accel.frame (a : Accel) (slot now : Nat) (x : AccelSense) : CounterFrame :=
  let f : CounterFrame := {
    slot := slot, tslice := a.tslice, count := if a.fwReady then min x.counters.length 2048 else 0, wseq := a.wseq, snapTime := now
    epochSeen := a.epochSeen, gseqHeld := match highest a.grants with | some g => g.gseq | none => 0
    densApplied := a.effective, opIndex := a.opIndex, droop := x.droop, lapsed := a.lapsed, ballastOn := x.ballastOn, opcBusy := a.opcBusy
    opcFrozen := a.opcFrozen, opcStep := a.opcStep, quiesced := a.quiesced, fwReady := a.fwReady, pushSt := a.pushSt, cfBad := a.cfBad
    pushNext := a.pushNext, counters := if a.fwReady then (x.counters.take 2048).map fun c => min c 65535 else []
    temps := (x.temps.drop (64 * a.tslice)).take 64, rails := x.rails.take 32 }
  { f with crc := counterCrc f }

/-- A window of the accelerator ends: its draw keeps within RISE and on the ballast floor, the floor decays where no command frame came,
the lapse density rises by 4/256 towards SAFE_DENSITY, and one counter frame leaves on both lanes (R23, R24, R32 to R34, R37). -/
def execAcceleratorWindow (slot : Nat) (sense : AccelSense) (s : State) : Host.Outcome State Fault Refusal :=
  .next (let a := s.accel slot
  if !a.powered then s
  else
    let draw := min (max sense.demand (if sense.ballastOn then a.ballastFloor else 0)) (a.draw + a.riseNow)
    let b := if a.acceptedThisWindow then a else a.decay
    let b := { b with
      lapseDensity := if a.lapsed && a.lapseDensity < a.safeDensity then min (a.lapseDensity + 4) a.safeDensity else a.lapseDensity
      draw := draw, ballastOn := sense.ballastOn, droop := sense.droop, acceptedThisWindow := false
      wseq := wsAdd a.wseq 1, tslice := (a.tslice + 1) % 8 }
    (s.modAccel slot fun _ => b.pruneGrants).emit (.counter (a.frame slot s.now sense)))

/-- An accelerator resets: WSEQ 0, and it behaves as lapsed with density and SAFE_DENSITY 240 (R23, R38). -/
def execAcceleratorReset (slot : Nat) (s : State) : Host.Outcome State Fault Refusal :=
  .next (s.modAccel slot fun a => if a.powered then { powered := true, safeDensity := 240, lapseDensity := 240, density := 240 } else a)

/-- A voltage or frequency step reaches its target, unless a freeze or a lapse holds it (R35, R37, R90). -/
def execAcceleratorStepComplete (slot : Nat) (s : State) : Host.Outcome State Fault Refusal :=
  .next (s.modAccel slot fun a => if a.powered && a.opcBusy && !a.opcFrozen && !a.lapsed then s.finishStep slot a else a)

/-- The accelerator has finished its issued work under QUIESCE (R25, R44). -/
def execAcceleratorQuiesced (slot : Nat) (s : State) : Host.Outcome State Fault Refusal :=
  .next (s.modAccel slot fun a => if a.powered && a.quiesce then { a with quiesced := true } else a)

/-! ### Receiving lanes -/

/-- Lanes a bay has in UP. -/
def State.lanesUp (s : State) (bay : Nat) : Nat := ((List.range 8).filter fun sl => (s.lane sl bay).lstate = .up).length

/-- The serving owner has fewer lanes in UP than a standby (R43). -/
def State.fewerLanes (s : State) : Option Nat :=
  match s.serving with
  | some b => if (s.bay (peer b)).bstate = .standby && s.lanesUp b < s.lanesUp (peer b) then some b else none
  | none => none

/-- Note since when the owner has fewer lanes in UP than the standby (R43). -/
def State.noteLanes (s : State) : State :=
  match s.fewerLanes with
  | some b => s.modBay b fun x => { x with fewLanes := x.fewLanes.orElse fun _ => some s.now }
  | none => (s.modBay 0 fun x => { x with fewLanes := none }).modBay 1 fun x => { x with fewLanes := none }

/-- Report a lane: 0 up, 1 lost, 2 failed (R42, R296). -/
def State.reportLane (s : State) (slot bay st : Nat) : State :=
  s.raiseSev bay 0x0102 (if st = 0 then 0 else 2) 0 [(1, slot), (1, bay), (1, st)]

/-- A lane's receiver works: its bay has not failed. -/
def State.laneLives (s : State) (bay : Nat) : Bool := (s.bay bay).alive

/-- A lane in DOWN detects signal: block lock starts (R42). -/
def execLaneSignalDetected (bay slot : Nat) (s : State) : Host.Outcome State Fault Refusal :=
  .next (if s.laneLives bay && (s.lane slot bay).lstate = .down then
    s.modLane slot bay fun l => { l with lstate := .train, trainStart := s.now, blockLock := false, goodFrames := 0 }
  else s)

/-- 100 us in TRAIN without block lock: a failed attempt; after 10 in a row the lane is reported failed (R42). -/
def execLaneTrainTimeout (bay slot : Nat) (s : State) : Host.Outcome State Fault Refusal :=
  .next (let l := s.lane slot bay
  if s.laneLives bay && l.lstate = .train && !l.blockLock && l.failedAttempts < 10 && s.passed l.trainStart 100000 then
    let s := s.modLane slot bay fun l => { l with failedAttempts := l.failedAttempts + 1, trainStart := s.now, failed := l.failed || 9 ≤ l.failedAttempts }
    if l.failedAttempts = 9 && !l.failed then s.reportLane slot bay 2 else s
  else s)

/-- A failed lane tries again every 10 ms (R42). -/
def execLaneRetry (bay slot : Nat) (s : State) : Host.Outcome State Fault Refusal :=
  .next (let l := s.lane slot bay
  if s.laneLives bay && l.lstate = .train && !l.blockLock && 10 ≤ l.failedAttempts && s.passed l.trainStart 10000000 then
    s.modLane slot bay fun l => { l with failedAttempts := 9, trainStart := s.now }
  else s)

/-- Four windows in a row without a valid frame in UP: the lane is lost and trains again (R42). -/
def execLaneLost (bay slot : Nat) (s : State) : Host.Outcome State Fault Refusal :=
  .next (let l := s.lane slot bay
  if s.laneLives bay && l.lstate = .up && (l.lastValid + s.sys.timeBase).toNat / 2000 + 5 ≤ s.dwn then
    ((s.modLane slot bay fun l => { l with lstate := .train, trainStart := s.now, blockLock := false, goodFrames := 0 }).reportLane slot bay 1).noteLanes
  else s)

/-- Loss of signal in any state: the lane is lost and DOWN (R42). -/
def execLaneLossOfSignal (bay slot : Nat) (s : State) : Host.Outcome State Fault Refusal :=
  .next (if s.laneLives bay && (s.lane slot bay).lstate ≠ .down then
    ((s.modLane slot bay fun l => { l with lstate := .down, blockLock := false, goodFrames := 0, failedAttempts := 0, failed := false }).reportLane slot bay 1).noteLanes
  else s)

/-- For 16 us the owner has fewer lanes in UP than the standby: it yields by a planned handover (R43, R242). -/
def execLaneCountYield (s : State) : Host.Outcome State Fault Refusal :=
  .next (match s.fewerLanes with
  | some b => match (s.bay b).fewLanes with
    | some t => if s.passed t 16000 then s.startHandover 0 none else s
    | none => s
  | none => s)

/-! ### Firmware push at the owner -/

/-- The firmware slot that a push takes: a committed image in trial, else the varnished one (R39, R460). -/
def State.firmwareSlot (s : State) : Option Nat :=
  match [2, 3].find? fun n => (s.slot n).state = 2 || (s.slot n).state = 3 with
  | some n => some n
  | none => [2, 3].find? fun n => (s.slot n).state = 5

/-- Start a push of the accelerator's firmware (R39, R460). DENSITY 240 is held from now on; with no image to push nothing is sent. -/
def State.startPush (s : State) (slot : Nat) : State :=
  match s.firmwareSlot with
  | some n => s.modPushJob slot fun _ =>
      { active := true, nextBlock := 0, startTime := s.now, attempts := 0, hold240 := true, imageSlot := n, nBlocks := ((s.slot n).len + 511) / 512 }
  | none => s.modPushJob slot fun p => { p with active := false, hold240 := true, attempts := 0 }

/-- A push failed: it restarts from block 0. After three failures the owner raises the accelerator-firmware event; a trial image becomes
REFUSED and the varnished firmware is pushed at once (R40, R460). -/
def State.pushFailed (s : State) (slot : Nat) : State :=
  let p := s.pushJob slot
  if p.attempts + 1 < 3 then s.modPushJob slot fun p => { p with attempts := p.attempts + 1, nextBlock := 0, startTime := s.now }
  else
    let s := (s.modPushJob slot fun p => { p with attempts := 3, active := false }).raise 0x0103 [(1, slot), (1, 3)]
    if (s.slot p.imageSlot).state = 2 || (s.slot p.imageSlot).state = 3 then (s.setSlot p.imageSlot 7).startPush slot else s

/-- 100 ms after block 0 PUSH_ST is not verified: the push restarts (R40). -/
def execPushRestartTimeout (slot : Nat) (s : State) : Host.Outcome State Fault Refusal :=
  .next (let p := s.pushJob slot
  if s.serving.isSome && p.active && 0 < p.nextBlock && s.passed p.startTime 100000000 then s.pushFailed slot else s)

/-- What a counter frame tells the push: PUSH_NEXT far behind sends again from there, failed restarts it, verified ends it; FW_READY ends
the hold at 240 and marks a trial image as run (R39, R40, R41, R460). -/
def State.pushSees (s : State) (slot : Nat) (f : CounterFrame) : State :=
  let p := s.pushJob slot
  if p.active && f.pushSt = 3 && 0 < p.nextBlock then s.pushFailed slot
  else if f.pushSt = 2 || f.fwReady then
    let s := s.modPushJob slot fun p => { p with active := p.active && f.pushSt ≠ 2, hold240 := p.hold240 && !f.fwReady }
    if f.fwReady && p.hold240 && (s.slot p.imageSlot).state = 2 then s.setSlot p.imageSlot 3 else s
  else if p.active && f.pushNext + 64 < p.nextBlock then s.modPushJob slot fun p => { p with nextBlock := f.pushNext }
  else s

/-- The data of one push block: 512 bytes of the image in the Loft, by 4 KiB page (R25, R448). -/
def Slot.block (x : Slot) (n : Nat) : List Byte := ((tget x.data (n / 8) []).drop (n % 8 * 512)).take 512

/-- The owner sends at most 12 push blocks in a window (R39, R41). -/
def State.sendBlocks (s : State) (slot : Nat) : State :=
  forUpTo 12 (fun s _ =>
    let p := s.pushJob slot
    if p.active && p.nextBlock < p.nBlocks then
      let b : PushBlock := { slot := slot, last := p.nextBlock + 1 = p.nBlocks, first := p.nextBlock = 0, block := p.nextBlock
                             epoch := s.own.latch.epoch, data := (s.slot p.imageSlot).block p.nextBlock }
      (s.modPushJob slot fun p => { p with nextBlock := p.nextBlock + 1, startTime := if p.nextBlock = 0 then s.now else p.startTime }).emit
        (.block { b with crc := blockCrc b })
    else s) s

end Sys2Proof.Machine
end

