-- ==== Sys2Proof/Machine/EaselRun.lean ====
section
/-!
DEFINITION. Easel programs as they run: strokes and descriptors (R151, R156), tensors with their radii (R127, R138 to R140), every
stroke (R152, R155, R158), input bindings (R159), and one run of an instance with its status word and slot entries (R147, R160).
-/
namespace Sys2Proof.Machine
open Sys2Proof

/-! ### Strokes and descriptors -/

/-- A field of a stroke (R151). -/
def Stroke.f (k : Stroke) (w lo width : Nat) : Nat := field (k.words.getD w 0).toNat lo width

/-- A stroke's fields (R151). -/
def Stroke.op (k : Stroke) : Nat := k.f 0 56 8
def Stroke.rmode (k : Stroke) : Nat := k.f 0 54 2
def Stroke.bound (k : Stroke) : Bool := k.f 0 53 1 = 1
def Stroke.sub (k : Stroke) : Nat := k.f 0 40 8
def Stroke.pslot (k : Stroke) : Nat := k.f 0 36 4
def Stroke.tdOut (k : Stroke) : Nat := k.f 1 48 16
def Stroke.tdA (k : Stroke) : Nat := k.f 1 32 16
def Stroke.tdB (k : Stroke) : Nat := k.f 1 16 16
def Stroke.tdC (k : Stroke) : Nat := k.f 1 0 16
def Stroke.n0 (k : Stroke) : Nat := k.f 2 32 32
def Stroke.n1 (k : Stroke) : Nat := k.f 2 0 32
def Stroke.offA (k : Stroke) : Nat := k.f 3 32 32
def Stroke.offB (k : Stroke) : Nat := k.f 3 0 32
def Stroke.offOut (k : Stroke) : Nat := k.f 4 32 32
def Stroke.param0 (k : Stroke) : Nat := k.f 4 0 32
def Stroke.param1 (k : Stroke) : Nat := k.f 5 0 64
def Stroke.cost (k : Stroke) : Nat := k.f 7 32 32

/-- A field of a descriptor (R156). -/
def Desc.f (d : Desc) (w lo width : Nat) : Nat := field (d.words.getD w 0).toNat lo width

/-- A descriptor's fields (R156). -/
def Desc.fmt (d : Desc) : Nat := d.f 0 60 4
def Desc.scale (d : Desc) : Int := signed 7 (d.f 0 53 7)
def Desc.rad (d : Desc) : Bool := d.f 0 52 1 = 1
def Desc.state (d : Desc) : Bool := d.f 0 51 1 = 1
def Desc.init (d : Desc) : Bool := d.f 0 50 1 = 1
def Desc.pslot (d : Desc) : Nat := d.f 0 44 4
def Desc.addr (d : Desc) : Nat := d.f 0 0 19
def Desc.dim0 (d : Desc) : Nat := d.f 1 32 32
def Desc.dim1 (d : Desc) : Nat := d.f 1 0 32
def Desc.delta (d : Desc) : Word32 := BitVec.ofNat 32 (d.f 2 32 32)
def Desc.raddr (d : Desc) : Nat := d.f 2 0 19
def Desc.doff (d : Desc) : Nat := d.f 3 32 32
def Desc.dlen (d : Desc) : Nat := d.f 3 0 32

/-- Elements of a tensor (R156). -/
def Desc.elems (d : Desc) : Nat := d.dim0 * d.dim1

/-- A descriptor of a program; index 0xFFFF names none. -/
def Program.desc (p : Program) (i : Nat) : Desc := p.descs.getD i {}

/-! ### Tensors -/

/-- The codes that bytes hold, element by element; two 4-bit elements share a byte, the lower one in [3:0] (R126). -/
def codesOf (f : Nat) (n : Nat) (bs : List Byte) : List Nat :=
  match fmtBits f with
  | 4 => (bs.flatMap fun b => [b.toNat % 16, b.toNat / 16]).take n
  | w => (pieces (w / 8) (bs.take (n * (w / 8)))).map ofLeBytes

/-- The tensor that initial contents spell; a BS8 exponent array follows its mantissas at the next multiple of 64 bytes (R127, R156). -/
def tensorOf (d : Desc) (bs : List Byte) : Tensor :=
  { codes := codesOf d.fmt d.elems bs
    exps := if d.fmt = 0xE then ((bs.drop ((d.elems + 63) / 64 * 64)).take ((d.elems + 31) / 32)).map (·.toNat) else []
    delta := d.delta }

/-- Elements of a tensor with their radii: declared while no stroke has written it, stored once one has; a poisoned operand is NaN (R139,
R145). -/
def Tensor.read (t : Tensor) (d : Desc) (poison : Bool) (off n : Nat) : List Bv :=
  let cs := (t.codes.drop off).take n
  let cs := cs ++ List.replicate (n - cs.length) 0
  let rs := (t.rads.drop off).take n
  (cs.zipIdx).map fun p =>
    if poison then { m := .nan, r := none, nan := true }
    else
      { m := if d.fmt = 0xE then decodeBs8 (t.exps.getD ((off + p.2) / 32) 0) p.1 else decodeCode d.fmt d.scale p.1
        r := if t.rads.isEmpty then radOf32 t.delta else radOf (rs.getD p.2 0x7C00) }

/-- A list with a piece of it replaced from an offset on; what was not there before is filled. -/
def splice {α : Type} (l : List α) (fill : α) (off : Nat) (xs : List α) : List α :=
  let head := l.take off
  head ++ List.replicate (off - head.length) fill ++ xs ++ l.drop (off + xs.length)

/-- What a stroke's conversions give: the tensor, and the results in order (R133, R134). A radius is stored by a bound-carrying stroke; a
plain stroke leaves +∞ (R139, R140). -/
def Tensor.write (t : Tensor) (d : Desc) (mode : Nat) (bound : Bool) (off : Nat) (vs : List (Bv × Nat)) : Tensor × List Cv :=
  let radsOf (cs : List Cv) := cs.map fun c => if bound then radCode c.v.r else 0x7C00
  if d.fmt = 0xE then
    let bl := (pieces 32 vs).map (convertBlock mode)
    let cs := bl.flatMap (·.2)
    ({ t with codes := splice t.codes 0 off (cs.map (·.code)), exps := splice t.exps 0 (off / 32) (bl.map (·.1)),
              rads := splice t.rads 0x7C00 off (radsOf cs) }, cs)
  else
    let cs := vs.map fun v => convertTo d.fmt d.scale mode v.2 v.1
    ({ t with codes := splice t.codes 0 off (cs.map (·.code)), rads := splice t.rads 0x7C00 off (radsOf cs) }, cs)

/-! ### A run -/

/-- What a run carries: tensors, generator lanes of its panels, status flags, outputs (R147, R160). -/
structure Run where
  tensors : Tbl Tensor
  lanes : Tbl (BitVec 128)
  outs : Tbl (List (Word32 × Word32)) := []
  poison : Bool := false
  nan : Bool := false
  inf : Bool := false
  sat : Bool := false
  acc : Bool := false
  radInf : Bool := false
  first : Nat := 0xFFFF
  satCount : Nat := 0
  resets : Nat := 0
  ended : Bool := false
  deriving DecidableEq, Repr

/-- What a run reads from outside itself: its program, the accelerator slot it is bound to, the physical panels of its panel slots, tensors
that read as poisoned, and the values of a binding's source (R150, R159). -/
structure RunEnv where
  prog : Program
  slot : Option Nat
  panels : List Nat
  poisoned : Bool
  source : Nat → List Ev

/-- Lanes per cycle of the vector unit (R152). -/
def vecLanes (bound : Bool) : Nat := if bound then 32 else 64

/-- Cycles of a stroke (R152). The wider operand sets q; two 4-bit operands set m. -/
def strokeCost (p : Program) (k : Stroke) : Nat :=
  let up (a b : Nat) := (a + b - 1) / b
  let L := vecLanes k.bound
  let R := if k.bound then 8 else 16
  let fa := (p.desc k.tdA).fmt
  let fb := (p.desc k.tdB).fmt
  let w := Nat.max (fmtBits fa) (fmtBits fb)
  match k.op with
  | 0x01 => up k.n0 R * up k.n1 (16 * (if w = 4 then 2 else 1)) * (if w ≤ 8 then 1 else if w = 16 then 4 else 16) + 4
  | 0x02 => up k.n0 L + 2
  | 0x03 => up k.n0 L + 6
  | 0x04 => up (k.n0 * k.n1) L + 6
  | 0x05 => up ((k.n0 * fmtBits fa + 7) / 8 + (if k.bound then 2 * k.n0 else 0)) 64 + 8
  | 0x06 => up k.n0 L + 2
  | 0x07 => if k.sub = 1 then 4 else 0
  | _ => 0

/-- The tensor of a descriptor index. -/
def Run.tensor (r : Run) (i : Nat) : Tensor := tget r.tensors i {}

/-- Elements that a stroke reads (R139, R145). -/
def Run.read (r : Run) (env : RunEnv) (i off n : Nat) : List Bv :=
  let d := env.prog.desc i
  let t := r.tensor i
  t.read d (t.poison || (env.poisoned && d.init)) off n

/-- Any of the elements read is poisoned (R145). -/
def Run.readsPoison (r : Run) (env : RunEnv) (i : Nat) : Bool :=
  i ≠ 0xFFFF && ((r.tensor i).poison || (env.poisoned && (env.prog.desc i).init))

/-- The draws of a stroke's n results: result i takes vector lane i mod L in cycle i / L, and the panel's lanes advance in every cycle of a
stochastic stroke (R135, R136; DEDUCED, log entry 40). -/
def Run.draws (r : Run) (env : RunEnv) (k : Stroke) (n : Nat) : List Nat × Run :=
  if k.rmode ≠ 2 then (List.replicate n 0, r)
  else
    let panel := env.panels.getD k.pslot 0
    let L := vecLanes k.bound
    let cycles := Nat.max (strokeCost env.prog k) ((n + L - 1) / L)
    let p := panelDraws ((List.range 8).map fun i => tget r.lanes (panel * 8 + i) 0) cycles
    ((List.range n).map (fun i => p.1.getD (i / L * 64 + i % L) 0),
     { r with lanes := (p.2.zipIdx).foldl (fun ls g => tset ls (panel * 8 + g.2) g.1) r.lanes })

/-- Set the flags that a stroke's results raise, and note the first stroke that set any (R147). -/
def Run.note (r : Run) (idx : Nat) (bound poison : Bool) (vs : List Bv) (sats : Nat) : Run :=
  let nan := vs.any fun v => v.nan || v.m matches .nan
  let inf := vs.any fun v => v.inf || v.m matches .inf _
  let acc := vs.any (·.acc)
  let rad := bound && vs.any fun v => v.r.isNone
  { r with
    poison := r.poison || poison, nan := r.nan || nan, inf := r.inf || inf, acc := r.acc || acc, sat := r.sat || decide (0 < sats)
    radInf := r.radInf || rad, satCount := Nat.min (r.satCount + sats) 0xFFFFFF
    first := if r.first = 0xFFFF && (poison || nan || inf || acc || rad || 0 < sats) then idx else r.first }

/-- The results of a stroke and what its conversions made of them. -/
def seenBy (cs : List Cv) (vs : List (Bv × Nat)) : List Bv := (cs.map fun (c : Cv) => c.v) ++ (vs.map fun (v : Bv × Nat) => v.1)

/-- How many of some conversions saturated (R147). -/
def satsOf (cs : List Cv) : Nat := (cs.filter fun (c : Cv) => c.sat).length

/-- Write a stroke's results through the conversion and raise its flags (R133, R147). -/
def Run.put (r : Run) (env : RunEnv) (idx : Nat) (k : Stroke) (poison : Bool) (vs : List (Bv × Nat)) : Run :=
  let w := (r.tensor k.tdOut).write (env.prog.desc k.tdOut) k.rmode k.bound k.offOut vs
  ({ r with tensors := tset r.tensors k.tdOut w.1 }).note idx k.bound poison (seenBy w.2 vs) (satsOf w.2)

/-- The arithmetic of an element-by-element operation on two formats: the integer class in S32 at the finer scale for a sum and the sum of
scales for a product, the float class in FP32 under RMODE (R123, R130, R135; DEDUCED, log entry 41). -/
def vecArith (da db : Desc) (product : Bool) (mode draw : Nat) : Arith :=
  if intClass da.fmt then
    let sa := fmtScale da.fmt da.scale
    let sb := fmtScale db.fmt db.scale
    let q := da.fmt = 7 || db.fmt = 7
    .int (if product then (if q then -16 else sa + sb) else if sa ≤ sb then sa else sb) q
  else .flt mode draw

/-- MATMUL (R123, R129 to R132, R152); the bias joins the finished sum (DEDUCED, log entry 42). -/
def matmulRow (env : RunEnv) (k : Stroke) (w x : List Bv) (bias : Option Bv) : Bv :=
  let da := env.prog.desc k.tdA
  let db := env.prog.desc k.tdB
  let ar : Arith :=
    if intClass da.fmt then
      let q := da.fmt = 7 || db.fmt = 7
      .int (if q then -16 else fmtScale da.fmt da.scale + fmtScale db.fmt db.scale) q
    else .flt 0 0
  let s :=
    if da.fmt = 0xE && db.fmt = 0xE then
      (pieces 32 ((w.zip x).map fun p => Bv.mul (.int 0 false) p.1 p.2)).foldl (fun acc ps =>
        let e := pairUp (.int 1000 false) ((pieces 16 ps).map (treeSum (.int 1000 false)))
        let b := e.headD .zero
        let q := round32 0 0 false b.m.num
        Bv.add ar acc (if b.m.isFin then { b with m := q.1, r := if q.1.isFin then Rd.add b.r (some q.2) else none } else b)) .zero
    else rowSum ar (fmtBits da.fmt = 4 && fmtBits db.fmt = 4) ((w.zip x).map fun p => Bv.mul ar p.1 p.2)
  match bias with
  | some c => Bv.add ar s c
  | none => s

/-- A BS8 element next to another float format is expanded in FP32 (R131). -/
def expandBs8 (d : Desc) (other : Nat) (l : List Bv) : List Bv :=
  if d.fmt = 0xE && other ≠ 0xE then l.map fun b => (convertFloat 0xD 0 0 b).v else l

/-- A table segment of ACTIVATE: its breakpoint, slope and offset (R158). -/
abbrev Segment := Rat × Rat × Rat

/-- The segment that holds x (R158). -/
def segmentOf (t : List Segment) (x : Rat) : Nat :=
  ((List.range t.length).filter fun j => 0 < j && (t.getD j (0, 0, 0)).1 ≤ x).foldl Nat.max 0

/-- f(x) exactly on a segment. -/
def Segment.eval (g : Segment) (x : Rat) : Rat := g.2.1 * x + g.2.2

/-- ACTIVATE on one value: computed in FP32, with the radius of R141. -/
def activate (t : List Segment) (mode draw : Nat) (a : Bv) : Bv :=
  match a.m with
  | .nan => { a with r := none, nan := true }
  | .inf n =>
    let g := if n then t.headD (0, 0, 0) else t.getD (t.length - 1) (0, 0, 0)
    { a with m := if g.2.1 = 0 then .nan else .inf (n != decide (g.2.1 < 0)), r := none, inf := true }
  | .fin _ x =>
    let g := t.getD (segmentOf t x) (0, 0, 0)
    let p := round32 mode draw false (g.2.1 * x)
    let y := if p.1.isFin then round32 mode draw false (p.1.num + g.2.2) else (p.1, 0)
    let e := magnitude (y.1.num - g.eval x)
    match a.r with
    | none => { a with m := y.1, r := none }
    | some ρ =>
      let lo := segmentOf t (x - ρ)
      let hi := segmentOf t (x + ρ)
      let touched := (List.range (hi + 1 - lo)).map fun i => lo + i
      let L := touched.foldl (fun m j => let v := magnitude (t.getD j (0, 0, 0)).2.1; if m < v then v else m) 0
      let J := touched.foldl (fun s j =>
        let b := t.getD j (0, 0, 0)
        if 0 < j && x - ρ < b.1 && b.1 < x + ρ then s + magnitude (b.eval b.1 - (t.getD (j - 1) (0, 0, 0)).eval b.1) else s) 0
      { a with m := y.1, r := if y.1.isFin then Rd.add (Rd.add (Rd.scale L (some ρ)) (up32 J)) (some e) else none }

/-- REDUCE of some values: sum in ascending order, or the largest or smallest (R141; the order of a sum DEDUCED, log entry 43). -/
def reduceGroup (k : Stroke) (ar : Arith) (vs : List Bv) : Bv :=
  if k.sub = 0 then vs.foldl (Bv.add ar) .zero
  else
    let pick (a b : Bv) : Bv :=
      match a.m, b.m with
      | .nan, _ => a
      | _, .nan => b
      | .inf n, _ => if n = (k.sub = 1) then b else a
      | _, .inf n => if n = (k.sub = 1) then a else b
      | .fin _ x, .fin _ y => if k.sub = 1 then (if x < y then b else a) else (if y < x then b else a)
    match vs with
    | [] => .zero
    | v :: rest =>
      let m := rest.foldl pick v
      let far (up : Bool) : Rd := vs.foldl (fun (acc : Rd) u =>
        match acc, u.r with
        | some d, some ρ => if u.m.isFin then
            let x := if up then u.m.num + ρ else u.m.num - ρ
            some (if up then (if d < x then x else d) else if x < d then x else d) else none
        | _, _ => none) (v.r.map fun ρ => if up then v.m.num + ρ else v.m.num - ρ)
      let gap : Rd := match far true, far false with
        | some hi, some lo =>
          let a := if k.sub = 1 then hi - m.m.num else m.m.num - lo
          let b := if k.sub = 1 then m.m.num - (vs.foldl (fun d u => let x := u.m.num - u.r.getD 0; if d < x then x else d) (v.m.num - v.r.getD 0))
                   else (vs.foldl (fun d u => let x := u.m.num + u.r.getD 0; if x < d then x else d) (v.m.num + v.r.getD 0)) - m.m.num
          up32 (if a < b then b else a)
        | _, _ => none
      { m with r := if m.m.isFin then gap else none
               inf := vs.any (·.inf), nan := vs.any fun u => u.nan || u.m matches .nan }

/-- The governor slot that an output BIND names: in classes 1 and 2 the slot's own (R160). -/
def outSlot (env : RunEnv) (param0 : Nat) : Nat :=
  match env.prog.cls, env.slot with
  | 1, some s => if param0 = 0x00 then s else param0
  | 2, some s => if param0 = 0x10 then 0x10 + s else param0
  | _, _ => param0

/-- The initial contents of a state tensor, radius 0 (R142, R155, R169). -/
def initialState (env : RunEnv) (r : Run) (k : Stroke) : Tensor :=
  let d := env.prog.desc k.tdOut
  let vs := if k.tdC = 0xFFFF then List.replicate d.elems Bv.zero else (r.tensor k.tdC).read (env.prog.desc k.tdC) false 0 d.elems
  let t := ({ delta := d.delta : Tensor }.write d 0 true 0 (vs.map fun v => ({ v with r := some 0 }, 0))).1
  { t with rads := t.rads.map fun _ => 0 }

/-- A RECUR in bound-carrying mode whose radius passes the cap resets the state (R142, R155). -/
def Run.recur (r : Run) (env : RunEnv) (idx : Nat) (k : Stroke) (poison : Bool) (vs : List (Bv × Nat)) : Run :=
  let w := (r.tensor k.tdOut).write (env.prog.desc k.tdOut) k.rmode k.bound k.offOut vs
  let beyond := k.bound && w.2.any fun c => match radOf (radCode c.v.r), radOf32 (BitVec.ofNat 32 k.param0) with
    | some ρ, some cap => decide (cap < ρ)
    | none, _ => true
    | some _, none => false
  if beyond then
    ({ r with tensors := tset r.tensors k.tdOut (initialState env r k), resets := Nat.min (r.resets + 1) 255 }).note idx false poison
      (seenBy w.2 vs) (satsOf w.2)
  else r.put env idx k poison vs

/-- One stroke (R152). -/
def Run.stroke (r : Run) (env : RunEnv) (idx : Nat) (k : Stroke) : Run :=
  let p := env.prog
  let poison := k.op ≠ 0x07 && (r.readsPoison env k.tdA || r.readsPoison env k.tdB || r.readsPoison env k.tdC)
  let da := p.desc k.tdA
  let db := p.desc k.tdB
  match k.op with
  | 0x01 =>
    let x := expandBs8 db da.fmt (r.read env k.tdB k.offB k.n1)
    let bias := if k.tdC = 0xFFFF then [] else r.read env k.tdC k.offOut k.n0
    let dr := r.draws env k k.n0
    dr.2.put env idx k poison ((List.range k.n0).map fun j =>
      (matmulRow env k (expandBs8 da db.fmt (r.read env k.tdA ((k.offA + j) * da.dim0) k.n1)) x bias[j]?, dr.1.getD j 0))
  | 0x02 =>
    let a := r.read env k.tdA k.offA k.n0
    let b := if k.sub < 3 then (if db.elems = 1 then List.replicate k.n0 ((r.read env k.tdB 0 1).headD .zero) else r.read env k.tdB k.offB k.n0) else []
    let dr := r.draws env k k.n0
    dr.2.put env idx k poison ((a.zipIdx).map fun v =>
      let d := dr.1.getD v.2 0
      let o := b.getD v.2 .zero
      (match k.sub with
       | 0 => Bv.add (vecArith da db false k.rmode d) v.1 o
       | 1 => Bv.add (vecArith da db false k.rmode d) v.1 o.negate
       | 2 => Bv.mul (vecArith da db true k.rmode d) v.1 o
       | 3 => v.1.absolute
       | 4 => v.1.negate
       | _ => v.1, d))
  | 0x03 =>
    let tb := (pieces 3 ((r.read env k.tdB 0 db.elems).map fun v => v.m.num)).map fun l => ((l.getD 0 0, l.getD 1 0, l.getD 2 0) : Segment)
    let dr := r.draws env k k.n0
    dr.2.put env idx k poison (((r.read env k.tdA k.offA k.n0).zipIdx).map fun v =>
      let d := dr.1.getD v.2 0
      (activate tb k.rmode d (if intClass da.fmt then (convertFloat 0xD k.rmode d v.1).v else v.1), d))
  | 0x04 =>
    let dr := r.draws env k k.n1
    dr.2.put env idx k poison ((List.range k.n1).map fun g =>
      let d := dr.1.getD g 0
      (reduceGroup k (vecArith da da false k.rmode d) (r.read env k.tdA (k.offA + g * k.n0) k.n0), d))
  | 0x05 =>
    let t := r.tensor k.tdA
    let o := r.tensor k.tdOut
    let rads := (List.range k.n0).map fun i => if !k.bound then 0x7C00
      else if t.rads.isEmpty then radCode (radOf32 t.delta) else t.rads.getD (k.offA + i) 0x7C00
    let o' : Tensor := { o with
      codes := splice o.codes 0 k.offOut ((List.range k.n0).map fun i => t.codes.getD (k.offA + i) 0)
      exps := if da.fmt = 0xE then splice o.exps 0 (k.offOut / 32) ((t.exps.drop (k.offA / 32)).take ((k.n0 + 31) / 32)) else o.exps
      rads := splice o.rads 0x7C00 k.offOut rads
      poison := o.poison || r.readsPoison env k.tdA }
    ({ r with tensors := tset r.tensors k.tdOut o' }).note idx k.bound poison (if k.bound then r.read env k.tdA k.offA k.n0 else []) 0
  | 0x06 =>
    let dout := p.desc k.tdOut
    let a := r.read env k.tdA k.offA k.n0
    let s := r.read env k.tdOut k.offOut k.n0
    let b := if k.sub = 1 then (if db.elems = 1 then List.replicate k.n0 ((r.read env k.tdB 0 1).headD .zero) else r.read env k.tdB k.offB k.n0) else []
    let dr := r.draws env k k.n0
    dr.2.recur env idx k poison ((a.zipIdx).map fun v =>
      let d := dr.1.getD v.2 0
      (if k.sub = 1 then
         Bv.add (if intClass da.fmt then .int (fmtScale db.fmt db.scale + fmtScale dout.fmt dout.scale) false else .flt k.rmode d)
           (Bv.mul (vecArith db dout true k.rmode d) (b.getD v.2 .zero) (s.getD v.2 .zero)) v.1
       else v.1, d))
  | 0x07 =>
    if k.sub = 0 then
      let drad := radOf32 (BitVec.ofNat 32 k.param1)
      let dr := r.draws env k k.n0
      let vs := (List.range k.n0).map fun i =>
        let v := (env.source k.param1).getD i .nan
        ({ m := v, r := if v.isFin then drad else none }, dr.1.getD i 0)
      dr.2.put env idx k false vs
    else
      let dr := r.draws env k k.n0
      let a := r.read env k.tdA k.offA k.n0
      let cs := (a.zipIdx).map fun v => convertFloat 0xD k.rmode (dr.1.getD v.2 0) v.1
      let vals := cs.map fun c => (BitVec.ofNat 32 c.code, if k.bound then rad32 c.v.r else 0x7F800000#32)
      ({ dr.2 with outs := tset dr.2.outs (outSlot env k.param0) vals }).note idx k.bound (r.readsPoison env k.tdA)
        (seenBy cs []) (satsOf cs)
  | 0x0F => { r with ended := true }
  | _ => r

/-- A run of a program from its first stroke to END (R147, R161). -/
def Run.go (r : Run) (env : RunEnv) : Run :=
  (env.prog.strokes.zipIdx).foldl (fun r k => if r.ended then r else r.stroke env k.2 k.1) r

/-- The status word of a run (R147). -/
def statusWord (r : Run) (unseeded panelFail : Bool) : Word64 :=
  pack [(48, 16, r.first), (32, 8, r.resets), (31, 1, bit r.poison), (30, 1, bit r.nan), (29, 1, bit r.inf), (28, 1, bit r.sat),
    (27, 1, bit r.acc), (26, 1, bit r.radInf), (25, 1, bit unseeded), (24, 1, bit panelFail), (0, 24, r.satCount)]

/-! ### Binding sources -/

/-- A source's value as an exact number in its unit (R159). -/
def evNat (n : Nat) : Ev := .fin false n

/-- Power of a sample, W, with the current that R361 lets power and energy use (R359, R361). -/
def Sample.power (x : Sample) : Rat := (x.used : Rat) * x.volt / 1000000

/-- Mean of a list of numbers, 0 of none. -/
def ratMean (xs : List Rat) : Rat := if xs.isEmpty then 0 else xs.foldl (· + ·) 0 / xs.length

/-- Mean power of a power channel over its latest 2 us: the two latest samples, W (R45, R52, R159, R359). -/
def State.meanPower (s : State) (ch : Nat) : Rat := ratMean (((s.chan ch).samples.take 2).map Sample.power)

/-- The values of a binding's source from START on, n of them (R159). -/
def State.bindSource (s : State) (bay : Nat) (slot : Option Nat) (param1 n : Nat) : List Ev :=
  let src := field param1 56 8
  let sslot := if field param1 52 4 = 0xF then slot.getD 0 else field param1 52 4
  let start := field param1 32 16
  let v := s.view sslot bay
  let g := s.govSlot bay sslot
  let temp (t : Option Int) : Ev := match t with | some x => if x = -32768 then .nan else .ofRat ((x : Rat) / 128) | none => .nan
  (List.range n).map fun k =>
    let i := start + k
    match src with
    | 0x01 => evNat (v.frame.counters.getD i 0)
    | 0x02 => temp (tfind v.temps i)
    | 0x03 => .fin false ((v.frame.rails.getD i 0 : Rat) / 10)
    | 0x04 => evNat (if i = 0 then v.frame.densApplied else if i = 1 then v.frame.opIndex else if v.frame.droop then 1 else 0)
    | 0x10 => if i < 4 then .fin false (((s.drive (0x10 + i)).drive : Rat) / 10) else if i < 8 then evNat (s.rpm (0x10 + i - 4))
              else evNat (s.drive (0x10 + i - 8)).idxFaults
    | 0x11 => match (s.input (0x1C + i)).flow with | some f => .fin false ((f : Rat) / 1000) | none => .nan
    | 0x12 => if i < 16 then .fin false (((s.drive i).drive : Rat) / 10) else evNat (s.rpm (i - 16))
    | 0x13 => temp (s.diode i).temp
    | 0x14 => .ofRat (s.meanPower (0x2A + i))
    | 0x20 => match i with
      | 0 => .ofRat g.g
      | 1 => .ofRat g.o
      | 2 => .ofRat g.pUpper
      | 3 => .ofRat g.corrected
      | 4 => .ofRat g.allot
      | _ => evNat g.density
    | _ => .nan

end Sys2Proof.Machine
end

