-- ==== Sys2Proof/Machine/Trust.lean ====
section
/-!
DEFINITION. Keys and signatures: byte strings read big-endian, which keys a life-cycle state admits (R444), and the check of a signed
container (R163, R193).
-/
namespace Sys2Proof.Machine
open Sys2Proof

/-- The number that a big-endian byte string spells (R162). -/
def ofBeBytes (bs : List Byte) : Nat := bs.foldl (fun a b => a * 256 + b.toNat) 0

/-- SHA-384 of a byte string as a number. -/
def hashOf (bs : List Byte) : Nat := (Config.sha384 bs).toNat

/-- A number as n big-endian bytes (R162). -/
def beBytes (n v : Nat) : List Byte := (leBytes n v).reverse

/-- Extend a TALLY register of a bay: SHA-384 of its 48 bytes and the bytes measured (R443). -/
def State.extendTally (s : State) (bay n : Nat) (m : List Byte) : State :=
  s.modMeasure bay fun x => { x with tally := tset x.tally n (hashOf (beBytes 48 (tget x.tally n 0) ++ m)) }

/-- A loaded container is measured into TALLY6 of every bay that runs, in JSEQ order (R443). -/
def State.measureContainer (s : State) (hash : Nat) : State :=
  forUpTo 2 (fun s b => if (s.bay b).bstate = .down || (s.bay b).bstate = .fallow then s else s.extendTally b 6 (beBytes 48 hash)) s

/-- The life-cycle state admits images and containers under a key: 0 vendor, 1 owner (R444). -/
def State.keyAdmitted (s : State) (keyId : Nat) : Bool :=
  match s.boot.fuse.lifeCycle with
  | 0 => keyId = 0
  | 1 => keyId = 0
  | 2 => keyId < 2
  | 3 => keyId < 2
  | _ => false

/-- The fused hash of a key: vendor image, vendor program, owner image, owner program (R444). -/
def State.keyHash (s : State) (program : Bool) (keyId : Nat) : Nat := tget s.boot.fuse.keyHashes (2 * keyId + (if program then 1 else 0)) 0

/-- SHA-384 of the public key itself: a vendor key of the bay ROM, an owner key of the Loft (R444). -/
def State.storedKeyHash (s : State) (program : Bool) (keyId : Nat) : Nat :=
  if keyId = 0 then (Config.vendorKeyHash program).toNat else tget s.loft.upd.ownerKeys (if program then 1 else 0) 0

/-- A signature over a hash verifies under the named key, the key's hash is the fused one, and the life cycle admits that key (R163, R440,
R444). -/
def State.signedBy (s : State) (program : Bool) (keyId hash : Nat) (sig : List Byte) : Bool :=
  s.keyAdmitted keyId && s.storedKeyHash program keyId = s.keyHash program keyId &&
  Config.ecdsaVerify (BitVec.ofNat 384 (s.keyHash program keyId)) (BitVec.ofNat 384 hash) sig

/-- HASH of a container covers bytes 0x000 to 0x02F and the whole body (R162, R193). -/
def containerHash (bs : List Byte) : Nat := hashOf (bs.take 0x30 ++ bs.drop 0x100)

/-- The signature check of a container: HASH matches, and SIG verifies under the program key that KEYID names (R163, R193). -/
def State.containerSigned (s : State) (bs : List Byte) : Bool :=
  ofBeBytes ((bs.drop 0x30).take 48) = containerHash bs && s.signedBy true (fieldAt bs 0x2C 1) (containerHash bs) ((bs.drop 0x60).take 96)

/-- Bytes of Easel and code containers the Loft holds, of 256 MiB (R448). -/
def State.containerBytes (s : State) : Nat :=
  (s.easel.cfg.programs.map (·.size)).sum + (s.barn.images.map (·.size)).sum

/-- The Loft has room for a container of n bytes (R448, NO_SPACE). -/
def State.containerRoom (s : State) (n : Nat) : Bool := s.containerBytes + n ≤ 256 * 1048576

end Sys2Proof.Machine
end

