-- ==== Sys2Proof/Machine/EaselLoad.lean ====
section
/-!
DEFINITION. Loading Easel programs: the container (R162), the checks of R163 in their order, the schedule of strokes on engines (R152,
R153, R164), and placement (R165 to R167).
-/
namespace Sys2Proof.Machine
open Sys2Proof

/-! ### The container -/

/-- The 64-bit words of a piece of a string. -/
def wordsAt (bs : List Byte) (off n : Nat) : List Word64 := (List.range n).map fun i => BitVec.ofNat 64 (fieldAt bs (off + 8 * i) 8)

/-- The program that a container holds (R162). -/
def parseProgram (bs : List Byte) : Program :=
  let body := bs.drop 0x100
  let strokes := (List.range (fieldAt bs 0x14 2)).map fun i => ({ words := wordsAt body (fieldAt bs 0x18 4 + 64 * i) 8 } : Stroke)
  let descs := (List.range (fieldAt bs 0x16 2)).map fun i => ({ words := wordsAt body (fieldAt bs 0x1C 4 + 32 * i) 4 } : Desc)
  let data := (body.drop (fieldAt bs 0x20 4)).take (fieldAt bs 0x24 4)
  { progId := fieldAt bs 0x08 4, rev := fieldAt bs 0x0C 4, cls := fieldAt bs 0x06 2, panels := fieldAt bs 0x10 2, period := fieldAt bs 0x12 2
    strokes := strokes, descs := descs
    data := ((descs.zipIdx).filter fun d => d.1.init).map fun d => (d.2, tensorOf d.1 ((data.drop d.1.doff).take d.1.dlen))
    hash := ofBeBytes ((bs.drop 0x30).take 48), size := bs.length }

/-! ### What strokes read and write -/

/-- Element ranges that a stroke reads: descriptor, first element, one past the last (R152). -/
def strokeReads (p : Program) (k : Stroke) : List (Nat × Nat × Nat) :=
  let range (td off n : Nat) := if td = 0xFFFF then [] else [(td, off, off + n)]
  let whole (td : Nat) := range td 0 (p.desc td).elems
  let second := if (p.desc k.tdB).elems = 1 then whole k.tdB else range k.tdB k.offB k.n0
  match k.op with
  | 0x01 =>
    let d := (p.desc k.tdA).dim0
    range k.tdA (k.offA * d) (k.n0 * d) ++ range k.tdB k.offB k.n1 ++ range k.tdC k.offOut k.n0
  | 0x02 => range k.tdA k.offA k.n0 ++ (if k.sub < 3 then second else [])
  | 0x03 => range k.tdA k.offA k.n0 ++ whole k.tdB
  | 0x04 => range k.tdA k.offA (k.n0 * k.n1)
  | 0x05 => range k.tdA k.offA k.n0
  | 0x06 => range k.tdA k.offA k.n0 ++ (if k.sub = 1 then second ++ range k.tdOut k.offOut k.n0 else []) ++ whole k.tdC
  | 0x07 => if k.sub = 1 then range k.tdA k.offA k.n0 else []
  | _ => []

/-- The element range that a stroke writes (R152). -/
def strokeWrites (k : Stroke) : List (Nat × Nat × Nat) :=
  let n := if k.op = 0x04 then k.n1 else k.n0
  if (k.op ∈ [0x01, 0x02, 0x03, 0x04, 0x05, 0x06] || (k.op = 0x07 && k.sub = 0)) && k.tdOut ≠ 0xFFFF then [(k.tdOut, k.offOut, k.offOut + n)] else []

/-! ### The schedule -/

/-- The engine a stroke uses: 1 cells, 2 vector unit, 3 crossbar, 4 receiver; 0 none (R152). -/
def engineOf (k : Stroke) : Nat :=
  match k.op with
  | 0x01 => 1 | 0x02 => 2 | 0x03 => 2 | 0x04 => 2 | 0x05 => 3 | 0x06 => 2
  | 0x07 => if k.sub = 1 then 2 else 4
  | _ => 0

/-- A claim of a scheduled stroke on an element range. -/
structure Claim where
  inst : Nat
  td : Nat
  lo : Nat
  hi : Nat
  finish : Nat
  isWrite : Bool
  deriving DecidableEq, Repr

/-- A combined schedule: when each engine of each panel is free, claims on ranges, when each instance's strokes on each panel finish, and
how long a fence holds an instance's later strokes on a panel (R153, R164). -/
structure Sched where
  free : Tbl Nat := []
  claims : List Claim := []
  finish : Tbl Nat := []
  hold : Tbl Nat := []
  deriving DecidableEq, Repr

/-- Two claims share an element. -/
def Claim.meets (c : Claim) (inst : Nat) (r : Nat × Nat × Nat) : Bool := c.inst = inst && c.td = r.1 && c.lo < r.2.2 && r.2.1 < c.hi

/-- The key of an instance on a panel. -/
def schedKey (inst panel : Nat) : Nat := inst * 16 + panel

/-- One stroke joins the schedule at the first cycle that R153 allows. -/
def Sched.add (c : Sched) (inst : Nat) (p : Program) (panels : List Nat) (k : Stroke) : Sched :=
  let panel := panels.getD k.pslot 0
  let key := schedKey inst panel
  if k.op = 0x08 then
    let t := (List.range 16).foldl (fun m i =>
      if k.param0 / 2 ^ i % 2 = 1 then Nat.max m (tget c.finish (schedKey inst (panels.getD i 0)) 0) else m) (tget c.hold key 0)
    { c with hold := tset c.hold key t, finish := tset c.finish key (Nat.max t (tget c.finish key 0)) }
  else
    let eng := panel * 8 + engineOf k
    let rs := strokeReads p k
    let ws := strokeWrites k
    let deps := c.claims.foldl (fun m x =>
      if (x.isWrite && (rs ++ ws).any (x.meets inst)) || (!x.isWrite && ws.any (x.meets inst)) then Nat.max m x.finish else m) 0
    let start := Nat.max (Nat.max (if engineOf k = 0 then 0 else tget c.free eng 0) deps) (tget c.hold key 0)
    let fin := start + strokeCost p k
    { c with
      free := if engineOf k = 0 then c.free else tset c.free eng fin
      claims := c.claims ++ rs.map (fun r => { inst := inst, td := r.1, lo := r.2.1, hi := r.2.2, finish := fin, isWrite := false }) ++
        ws.map (fun r => { inst := inst, td := r.1, lo := r.2.1, hi := r.2.2, finish := fin, isWrite := true })
      finish := tset c.finish key (Nat.max fin (tget c.finish key 0)) }

/-- Every stroke of an instance joins the schedule, in program order (R164). -/
def Sched.addAll (c : Sched) (inst : Nat) (p : Program) (panels : List Nat) : Sched :=
  p.strokes.foldl (fun c k => c.add inst p panels k) c

/-- The latest finishing cycle in a schedule. -/
def Sched.last (c : Sched) : Nat := c.finish.foldl (fun m e => Nat.max m e.2) 0

/-- The largest finishing cycle of a program by itself (R162, COST_MAX). -/
def Program.costMax (p : Program) : Nat := (({} : Sched).addAll 0 p (List.range 16)).last

/-- Cycles of the phase of a class (R164). -/
def phaseCycles (cls : Nat) : Nat := if cls = 1 then 1120 else if cls = 2 then 240 else 1840

/-! ### The checks at load -/

/-- A failed check: its number in the order of R163, and the stroke or descriptor index, 0xFFFF if none (R281). -/
abbrev LoadFault := Option (Nat × Nat)

/-- The first element of a list that fails a test, as a fault of a check. -/
def firstFault {α : Type} (check : Nat) (bad : α → Bool) (l : List α) : LoadFault :=
  ((l.zipIdx).find? fun e => bad e.1).map fun e => (check, e.2)

/-- Layout: magic, version, counts, offsets, parts within the container, operand ranges within their tensors (R151, R156, R162). -/
def checkLayout (bs : List Byte) (p : Program) : LoadFault :=
  let bodyLen := bs.length - 0x100
  let zero (off n : Nat) := fieldAt bs off n = 0
  let ns := fieldAt bs 0x14 2
  let nt := fieldAt bs 0x16 2
  if bs.length < 0x100 || fieldAt bs 0x00 4 ≠ 0xEA5E1701 || fieldAt bs 0x04 2 ≠ 1 || 2 < p.cls || p.panels < 1 || 16 < p.panels ||
     p.period < 1 || (p.cls ≠ 0 && p.period ≠ 1) || ns < 2 || 4096 < ns || nt < 1 || 1024 < nt || !zero 0x2D 3 || !zero 0xC0 64 ||
     1 < fieldAt bs 0x2C 1 ||
     bodyLen < fieldAt bs 0x18 4 + 64 * ns || bodyLen < fieldAt bs 0x1C 4 + 32 * nt || bodyLen < fieldAt bs 0x20 4 + fieldAt bs 0x24 4
  then some (3, 0xFFFF)
  else if (p.strokes.getLast?.elim 0 Stroke.op) ≠ 0x0F then some (3, ns - 1)
  else
    (firstFault 3 (fun (k : Stroke) =>
      (strokeReads p k ++ strokeWrites k).any fun r => nt ≤ r.1 || (p.desc r.1).elems < r.2.2) p.strokes).orElse fun _ =>
    firstFault 3 (fun (d : Desc) => d.elems = 0 || (d.init &&
      (fieldAt bs 0x24 4 < d.doff + d.dlen ||
        d.dlen < (if d.fmt = 0xE then (d.elems + 63) / 64 * 64 + (d.elems + 31) / 32 else (d.elems * fmtBits d.fmt + 7) / 8)))) p.descs

/-- Stroke: operation, sub-operation, rounding mode, reserved bits, panel slot (R151, R152). -/
def checkStroke (p : Program) : LoadFault :=
  firstFault 4 (fun (k : Stroke) =>
    let subs := match k.op with | 0x02 => 6 | 0x04 => 3 | 0x06 => 2 | 0x07 => 2 | _ => 1
    !(k.op ∈ [0x01, 0x02, 0x03, 0x04, 0x05, 0x06, 0x07, 0x08, 0x0F]) || subs ≤ k.sub || k.rmode = 3 || k.f 0 48 5 ≠ 0 || k.f 0 0 36 ≠ 0 ||
    k.f 6 0 64 ≠ 0 || k.f 7 0 32 ≠ 0 || p.panels ≤ k.pslot) p.strokes

/-- Format of a descriptor (R126, R127, R163). -/
def badFormat (t : Option Tensor) (d : Desc) : Bool :=
  d.fmt = 0xF || (d.scale ≠ 0 && (d.fmt = 6 || d.fmt = 7 || 8 ≤ d.fmt)) ||
  (d.fmt = 0xE && (d.dim0 % 32 ≠ 0 || (match t with | some t => t.codes.any (· = 0x80) | none => false)))

/-- Format of a stroke's operands: classes that pair, no S32 operand of a MATMUL, a bias not below the accumulator scale, aligned BS8
(R128, R130, R131, R163). -/
def badPairing (p : Program) (k : Stroke) : Bool :=
  let a := p.desc k.tdA
  let b := p.desc k.tdB
  let cross := intClass a.fmt != intClass b.fmt
  let bs8 (td off n : Nat) := td ≠ 0xFFFF && (p.desc td).fmt = 0xE && (off % 32 ≠ 0 || n % 32 ≠ 0)
  match k.op with
  | 0x01 =>
    a.fmt = 5 || b.fmt = 5 || cross ||
    (k.tdC ≠ 0xFFFF && (intClass a.fmt != intClass (p.desc k.tdC).fmt ||
      (intClass a.fmt && fmtScale (p.desc k.tdC).fmt (p.desc k.tdC).scale <
        (if a.fmt = 7 || b.fmt = 7 then -16 else fmtScale a.fmt a.scale + fmtScale b.fmt b.scale)))) ||
    ((a.fmt = 0xE || b.fmt = 0xE) && (k.offB % 32 ≠ 0 || k.n1 % 32 ≠ 0)) || bs8 k.tdOut k.offOut k.n0
  | 0x02 => (k.sub < 3 && cross) || bs8 k.tdA k.offA k.n0 || bs8 k.tdOut k.offOut k.n0
  | 0x03 => b.fmt ≠ 0xD || bs8 k.tdA k.offA k.n0 || bs8 k.tdOut k.offOut k.n0
  | 0x04 => bs8 k.tdA k.offA k.n0 || bs8 k.tdOut k.offOut k.n1
  | 0x05 => a.fmt ≠ (p.desc k.tdOut).fmt || bs8 k.tdA k.offA k.n0 || bs8 k.tdOut k.offOut k.n0
  | 0x06 => (k.sub = 1 && cross) || intClass a.fmt != intClass (p.desc k.tdOut).fmt || bs8 k.tdA k.offA k.n0 || bs8 k.tdOut k.offOut k.n0
  | 0x07 => k.sub = 0 && bs8 k.tdOut k.offOut k.n0
  | _ => false

/-- Format: descriptors, then strokes (R163). -/
def checkFormat (p : Program) : LoadFault :=
  (((p.descs.zipIdx).find? fun d => badFormat (tfind p.data d.2) d.1).map fun d => (5, d.2)).orElse fun _ =>
  firstFault 5 (badPairing p) p.strokes

/-- Bytes of a tensor's values in the panel store (R126, R156). -/
def Desc.bytes (d : Desc) : Nat :=
  if d.fmt = 0xE then (d.elems + 63) / 64 * 64 + (d.elems + 31) / 32 else (d.elems * fmtBits d.fmt + 7) / 8

/-- Panel-store pieces of a tensor: address and length of its values, then of its radii (R156). -/
def Desc.parts (d : Desc) : List (Nat × Nat) := (d.addr, d.bytes) :: (if d.rad then [(d.raddr, 2 * d.elems)] else [])

/-- Banks that a piece touches (R157). -/
def banksOf (x : Nat × Nat) : List Nat := (List.range 8).filter fun b => x.1 < (b + 1) * 65536 && b * 65536 < x.1 + x.2

/-- Tensor: within 0x7_8000, aligned, apart, and R157 on banks. -/
def checkTensor (p : Program) : LoadFault :=
  (firstFault 6 (fun (d : Desc) =>
    d.f 0 48 2 ≠ 0 || d.f 0 19 25 ≠ 0 || d.f 2 19 13 ≠ 0 || p.panels ≤ d.pslot ||
    d.parts.any fun x => x.1 % 64 ≠ 0 || 0x78000 < x.1 + x.2) p.descs).orElse fun _ =>
  (((p.descs.zipIdx).find? fun d =>
    ((p.descs.zipIdx).any fun e => e.2 < d.2 && e.1.pslot = d.1.pslot && d.1.parts.any fun x => e.1.parts.any fun y => x.1 < y.1 + y.2 && y.1 < x.1 + x.2) ||
    (match d.1.parts with | [x, y] => x.1 < y.1 + y.2 && y.1 < x.1 + x.2 | _ => false)).map fun d => (6, d.2)).orElse fun _ =>
  firstFault 6 (fun (k : Stroke) => k.op = 0x01 &&
    let held := (p.desc k.tdA).parts.flatMap banksOf
    ([k.tdB, k.tdC, k.tdOut].any fun td => td ≠ 0xFFFF && td ≠ k.tdA && ((p.desc td).parts.flatMap banksOf).any (· ∈ held))) p.strokes

/-- Rising breakpoints (R158). -/
def risingFrom (x : Rat) (l : List Rat) : Bool :=
  match l with
  | [] => true
  | y :: r => decide (x < y) && risingFrom y r

/-- Table: 1 to 64 segments, breakpoints strictly rising (R158). -/
def checkTable (p : Program) : LoadFault :=
  firstFault 7 (fun (k : Stroke) => k.op = 0x03 &&
    let d := p.desc k.tdB
    let xs := (pieces 3 ((tget p.data k.tdB {}).codes)).map fun l => (decodeFloat 0xD (l.getD 0 0)).num
    d.elems % 3 ≠ 0 || 192 < d.elems || (match xs.drop 1 with | [] => false | y :: r => !risingFrom y r)) p.strokes

/-- Dataflow: own panel slot, fences before gathers, only RECUR writes state, and every operand given by an earlier stroke or contents
(R154, R155). -/
def checkDataflow (p : Program) : LoadFault :=
  ((p.strokes.zipIdx).find? fun e =>
    let k := e.1
    let before := p.strokes.take e.2
    let onSlot (td : Nat) := td = 0xFFFF || (p.desc td).pslot = k.pslot
    let gather := k.op = 0x05
    let uses := (strokeReads p k ++ strokeWrites k).map (·.1)
    let slotsBad := uses.any fun td => !(onSlot td) && !(gather && td = k.tdA && (p.desc td).pslot = k.param0)
    let fenceBad := gather && !((before.zipIdx).any fun f => f.1.op = 0x08 && f.1.pslot = k.pslot && f.1.param0 / 2 ^ k.param0 % 2 = 1 &&
      ((before.drop f.2).all fun w => (strokeWrites w).all fun r => !(r.1 = k.tdA && r.2.1 < k.offA + k.n0 && k.offA < r.2.2)))
    let stateBad := k.op ≠ 0x06 && (strokeWrites k).any fun r => (p.desc r.1).state
    let recurBad := k.op = 0x06 && !(p.desc k.tdOut).state
    let given (r : Nat × Nat × Nat) := (p.desc r.1).init || (p.desc r.1).state ||
      (List.range (r.2.2 - r.2.1)).all fun i => before.any fun w => (strokeWrites w).any fun x => x.1 = r.1 && x.2.1 ≤ r.2.1 + i && r.2.1 + i < x.2.2
    slotsBad || fenceBad || stateBad || recurBad || (strokeReads p k).any fun r => !given r).map fun e => (8, e.2)

/-- Output: known binding sources, and governor slots as R160 gives them to each class. -/
def checkOutput (p : Program) : LoadFault :=
  firstFault 9 (fun (k : Stroke) => k.op = 0x07 &&
    if k.sub = 1 then
      !((p.cls = 1 && k.param0 = 0x00 && k.bound && k.n0 = 1) || (p.cls = 2 && k.param0 = 0x10 && k.bound && k.n0 = 8) ||
        (0x20 ≤ k.param0 && k.param0 ≤ 0x5F && 1 ≤ k.n0 && k.n0 ≤ 16))
    else
      let n := field k.param1 32 16 + k.n0
      let limit := match field k.param1 56 8 with
        | 0x01 => 2048 | 0x02 => 512 | 0x03 => 32 | 0x04 => 3 | 0x10 => 12 | 0x11 => 4 | 0x12 => 32 | 0x13 => 8 | 0x14 => 10 | 0x20 => 6 | _ => 0
      limit < n || (7 < field k.param1 52 4 && field k.param1 52 4 ≠ 0xF) || field k.param1 48 4 ≠ 0) p.strokes

/-- Timing: every COST and COST_MAX as the loader computes them, within the phase of the class (R152, R163, R164). -/
def checkTiming (bs : List Byte) (p : Program) : LoadFault :=
  (firstFault 10 (fun (k : Stroke) => k.cost ≠ strokeCost p k) p.strokes).orElse fun _ =>
  if fieldAt bs 0x28 4 ≠ p.costMax || phaseCycles p.cls < p.costMax then some (10, 0xFFFF) else none

/-- The first check of R163 that a container fails. -/
def State.loadFault (s : State) (bs : List Byte) (allowOlder : Bool) : LoadFault :=
  let p := parseProgram bs
  if !s.containerSigned bs then some (1, 0xFFFF)
  else if !allowOlder && s.easel.cfg.programs.any (fun q => q.progId = p.progId && p.rev < q.rev) then some (2, 0xFFFF)
  else (checkLayout bs p).orElse fun _ => (checkStroke p).orElse fun _ => (checkFormat p).orElse fun _ => (checkTensor p).orElse fun _ =>
    (checkTable p).orElse fun _ => (checkDataflow p).orElse fun _ => (checkOutput p).orElse fun _ => checkTiming bs p

/-! ### Placement -/

/-- The program of an identifier and revision, if loaded (R150). -/
def State.program (s : State) (id rev : Nat) : Option Program := s.easel.cfg.programs.find? fun p => p.progId = id && p.rev = rev

/-- A panel out of service on either bay counts as out on both (R167). -/
def State.panelsOut (s : State) : BitVec 16 := (s.easelBay 0).panelsOut ||| (s.easelBay 1).panelsOut

/-- The panel of the ROM linear program of a slot: 2i + 2 modulo 16, or the next one up in service that does not hold the slot's EST (R166,
R167). -/
def linearPanel (out : BitVec 16) (estPanels : List Nat) (slot : Nat) : Option Nat :=
  ((List.range 16).map fun j => (2 * slot + 2 + j) % 16).find? fun q => !out.getLsbD q && !(q ∈ estPanels)

/-- Cycles of the vector unit that a ROM linear program takes in phase G: 0 to 182 in the default schedule, and at most 200 (R166). -/
def linearCycles : Nat := 183

/-- An instance as placement sees it: number, accelerator slot, program, panels, run offset. -/
structure Placed where
  inst : Nat
  slot : Option Nat
  prog : Program
  panels : List Nat
  offset : Nat
  deriving DecidableEq, Repr

/-- Instances of one class finish within their phase on one combined schedule, the ROM linear programs first in phase G (R164). -/
def fitsPhase (cls : Nat) (out : BitVec 16) (ps : List Placed) : Bool :=
  let est (slot : Nat) := match ps.find? fun x => x.slot = some slot with | some x => x.panels | none => []
  let c0 : Sched := if cls ≠ 1 then {} else
    (List.range 8).foldl (fun c i => match linearPanel out (est i) i with
      | some q => { c with free := tset c.free (q * 8 + 2) (tget c.free (q * 8 + 2) 0 + linearCycles) }
      | none => c) {}
  (ps.foldl (fun c x => c.addAll x.inst x.prog x.panels) c0).last ≤ phaseCycles cls

/-- Two periodic instances are due in one window at some time (R165). -/
def coincide (a b : Placed) : Bool :=
  let g := Nat.gcd a.prog.period b.prog.period
  a.offset % g = b.offset % g

/-- Every set of instances that some window has in common, with the new one among them (R165). -/
def coinciding (n : Placed) (ps : List Placed) : List (List Placed) :=
  ps.foldl (fun sets x =>
    sets ++ (sets.filter fun t => t.all (coincide x)).map (· ++ [x])) [[n]] |>.map fun t => t.drop 1 ++ t.take 1

/-- A placed instance fits beside the others of its class, whatever window it runs in (R164, R165). The others come in the order of
binding. -/
def fitsAll (out : BitVec 16) (n : Placed) (others : List Placed) : Bool :=
  if n.prog.cls = 0 then (coinciding n others).all (fitsPhase 0 out) else fitsPhase n.prog.cls out (others ++ [n])

/-- The rising choices of k members of a list, in rising order. -/
def choices (k : Nat) (l : List Nat) : List (List Nat) :=
  match k, l with
  | 0, _ => [[]]
  | _, [] => []
  | k + 1, x :: r => (choices k r).map (x :: ·) ++ choices (k + 1) r

/-- Panel-store bytes that a program takes on one of its panel slots (R156, R157). -/
def Program.footprint (p : Program) (ps : Nat) : Nat :=
  ((p.descs.filter fun d => d.pslot = ps).flatMap Desc.parts).foldl (fun a x => a + (x.2 + 63) / 64 * 64) 0

/-- Panel-store bytes that placed instances take on a physical panel. -/
def storeUsed (ps : List Placed) (panel : Nat) : Nat :=
  (ps.map fun x => ((x.panels.zipIdx).filter fun q => q.1 = panel).foldl (fun a q => a + x.prog.footprint q.2) 0).sum

/-- A placement's contents fit beside those there already (R157, R170). -/
def storeFits (n : Placed) (others : List Placed) : Bool :=
  (n.panels.zipIdx).all fun q => storeUsed others q.1 + n.prog.footprint q.2 ≤ 0x78000

/-- The panels that may be tried for a program: those of its slot first for classes 1 and 2, then every choice of panels in service, lowest
first (R166, R167). -/
def candidatePanels (out : BitVec 16) (p : Program) (slot : Option Nat) : List (List Nat) :=
  let home := match p.cls, slot with
    | 0, _ => []
    | _, some i => if p.panels ≤ 2 && (List.range p.panels).all (fun j => !out.getLsbD (2 * i + j)) then [(List.range p.panels).map (2 * i + ·)] else []
    | _, none => []
  home ++ choices p.panels ((List.range 16).filter fun q => !out.getLsbD q)

/-- The first placement of a program that every rule admits: panels, then the run offset of a class 0 program (R165, R166). -/
def place (out : BitVec 16) (inst : Nat) (slot : Option Nat) (p : Program) (others : List Placed) : Option (List Nat × Nat) :=
  let cand := (candidatePanels out p slot).flatMap fun ps => (List.range (if p.cls = 0 then p.period else 1)).map fun o => (ps, o)
  cand.find? fun c => fitsAll out { inst := inst, slot := slot, prog := p, panels := c.1, offset := c.2 } others

/-- Instances that hold panels, in the order of binding, but for one: as they run once every switch under way is made. -/
def State.placedAll (s : State) (but : Option Nat) : List Placed :=
  let is := (s.easelBay (s.serving.getD 0)).insts.filter fun e => some e.1 != but && e.2.unbindAt.isNone
  ((is.mergeSort fun a b => a.2.order ≤ b.2.order).map fun e =>
    match e.2.nextProg with
    | (p, _, ps, o) :: _ => ({ inst := e.1, slot := e.2.slot, prog := p, panels := ps, offset := o } : Placed)
    | [] => { inst := e.1, slot := e.2.slot, prog := e.2.prog, panels := e.2.panels, offset := e.2.offset }).filter fun x => !x.panels.isEmpty

/-- Those of one class. -/
def State.placed (s : State) (cls : Nat) (but : Option Nat) : List Placed := (s.placedAll but).filter fun x => x.prog.cls = cls

end Sys2Proof.Machine
end

