-- ==== Sys2Proof/Machine/Easel.lean ====
section
/-!
DEFINITION. The Easel's rows: loading, binding and replacing programs (R168 to R172, R288, R289), runs in their phases (R161, R164,
R165), known-answer checks and re-placement (R146, R167), seeds (R137), records (R149) and model reloads (R213).
-/
namespace Sys2Proof.Machine
open Sys2Proof

/-- Change one instance on both bays (R124, R169). -/
def State.modInsts (s : State) (n : Nat) (f : Inst → Inst) : State := (s.modInst 0 n f).modInst 1 n f

/-- The switch window of an entry: the first that opens at least 2 ms after acceptance (R169). -/
def State.switchFor (s : State) (j : Nat) : Nat := ((s.entry j).written + 2000000 + 1999) / 2000

/-- A program uses stochastic rounding (R137). -/
def Program.stochastic (p : Program) : Bool := p.strokes.any fun k => k.rmode = 2

/-- The run environment of an instance. -/
def State.runEnv (s : State) (bay : Nat) (i : Inst) : RunEnv :=
  { prog := i.prog, slot := i.slot, panels := i.panels, poisoned := i.reloading, source := fun p1 => s.bindSource bay i.slot p1 2048 }

/-- Contents of an instance when it starts: initial tensors, and recurrent state from C or 0 (R169). -/
def Program.startTensors (p : Program) : Tbl Tensor :=
  let env : RunEnv := { prog := p, slot := none, panels := [], poisoned := false, source := fun _ => [] }
  (p.strokes.filter fun k => k.op = 0x06).foldl (fun ts k => tset ts k.tdOut (initialState env { tensors := ts, lanes := [] } k)) p.data

/-- The bound instance of a class on a slot, if any (R289). -/
def State.instOf (s : State) (bay cls slot : Nat) : Option Nat :=
  ((s.easelBay bay).insts.find? fun e => e.2.prog.cls = cls && e.2.slot = some slot && e.2.unbindAt.isNone).map (·.1)

/-! ### Loading -/

/-- EASEL_LOAD's checks: BLEN up to 16 MiB, the buffer, the container, Loft space (R163, R168, R288). -/
def specEaselLoad (h : CmdHdr) (buf blen : Nat) (s : State) : CmdSpec :=
  { opcode := 0x0500, plen := 20, optMask := 1
    params := [check (blen ≤ 16777216) 0x0102, bufAligned buf]
    late := [bufRead h,
      match s.loadFault ((h.buf.getD []).take blen) (h.opt.getLsbD 0) with
      | some f => check false 0x0401 (f.1 + f.2 * 65536)
      | none => check true 0x0401,
      check (s.containerRoom blen) 0x0301] }

/-- EASEL_LOAD: the owner writes the container to the Loft (R168). -/
def effEaselLoad (j : Nat) (s : State) : State := s.modEntry j fun e => { e with stepsDue := 1 }

/-- The Loft holds the container: the program is loaded, in place of one of the same identity; nothing runs until EASEL_BIND (R168). -/
def finishEaselLoad (j : Nat) (h : CmdHdr) (blen : Nat) (s : State) : State :=
  let p := parseProgram ((h.buf.getD []).take blen)
  let s := s.measureContainer p.hash
  (s.modEaselCfg fun c => { c with
    programs := (c.programs.filter fun q => !(q.progId = p.progId && q.rev = p.rev)) ++ [p], reseedDue := true }).complete j 0 [p.progId * 2 ^ 32 + p.rev]

/-- EASEL_LOAD (R168, R288). -/
def execEaselLoad (h : CmdHdr) (buf blen : Nat) (s : State) : Host.Outcome State Fault Refusal :=
  .next (s.submit (.easelLoad h buf blen) h (specEaselLoad h buf blen s))

/-! ### Binding -/

/-- The accelerator slot of a SLOT parameter, 0xFF none. -/
def bindSlot (slot : Nat) : Option Nat := if slot = 0xFF then none else some slot

/-- The instance number a binding takes: that of the instance it replaces, else the lowest free one (R150, R289). -/
def State.bindInst (s : State) (p : Program) (slot : Option Nat) : Option Nat :=
  let bay := s.serving.getD 0
  match p.cls, slot with
  | 0, _ => (List.range 32).find? fun n => !((s.easelBay bay).insts.any fun e => e.1 = n)
  | c, some i => (s.instOf bay c i).orElse fun _ => (List.range 32).find? fun n => !((s.easelBay bay).insts.any fun e => e.1 = n)
  | _, none => none

/-- A program reads a source that needs a slot with SSLOT 0xF (R159). -/
def Program.needsSlot (p : Program) : Bool :=
  p.strokes.any fun k => k.op = 0x07 && k.sub = 0 && field k.param1 52 4 = 0xF && field k.param1 56 8 ∈ [0x01, 0x02, 0x03, 0x04, 0x20]

/-- Where a binding would go, if anywhere (R165, R166). -/
def State.bindPlace (s : State) (p : Program) (slot : Option Nat) : Option (Nat × List Nat × Nat) :=
  match s.bindInst p slot with
  | none => none
  | some n => (place s.panelsOut n slot p (s.placed p.cls (some n))).map fun x => (n, x.1, x.2)

/-- The new contents fit in the panel stores beside everything there, the old contents among them (R170). -/
def State.bindFits (s : State) (p : Program) (slot : Option Nat) : Bool :=
  match s.bindPlace p slot with
  | none => true
  | some (n, ps, o) => storeFits { inst := n, slot := slot, prog := p, panels := ps, offset := o } (s.placedAll none)

/-- EASEL_BIND's checks: a loaded program; classes 1 and 2 name a slot; a free instance, a placement, space (R150, R159, R166, R170). -/
def specEaselBind (h : CmdHdr) (progId rev slot : Nat) (s : State) : CmdSpec :=
  let p := (s.program progId rev).getD {}
  { opcode := 0x0501, plen := 12, optMask := 1
    params := [inRange (slot < 8 || slot = 0xFF) 8, exists' (s.program progId rev).isSome 0,
      joint (p.cls = 0 || slot ≠ 0xFF) 8]
    late := [check (!(slot = 0xFF && p.needsSlot)) 0x0401 (9 + 0xFFFF * 65536), check (s.bindInst p (bindSlot slot)).isSome 0x0301,
      check (s.bindPlace p (bindSlot slot)).isSome 0x0302, check (h.opt.getLsbD 0 || s.bindFits p (bindSlot slot)) 0x0301] }

/-- EASEL_BIND: at window W the new instance runs, or replaces the one of its class on the slot (R169, R170, R289). -/
def effEaselBind (j : Nat) (h : CmdHdr) (progId rev slot : Nat) (s : State) : State :=
  match s.program progId rev with
  | none => s.complete j 0x0504 []
  | some p =>
    match s.bindPlace p (bindSlot slot) with
    | none => s.complete j 0x0504 []
    | some (n, ps, o) =>
      let w := s.switchFor j
      let gap := h.opt.getLsbD 0 && !s.bindFits p (bindSlot slot)
      let old := p.cls ≠ 0 && ((s.easelBay (s.serving.getD 0)).insts.any fun e => e.1 = n)
      let s := s.modInsts n fun i =>
        if old then { i with nextProg := [(p, w, ps, o)], order := j, gap := gap }
        else { prog := p, slot := bindSlot slot, offset := o, order := j, panels := ps, tensors := p.startTensors, switchAt := w, seeded := !p.stochastic
               gapWait := gap, gap := gap }
      let s := if p.stochastic then s.modEaselCfg fun c => { c with reseedDue := true } else s
      s.complete j 0 [n, w]

/-- EASEL_BIND (R169, R288). -/
def execEaselBind (h : CmdHdr) (progId rev slot : Nat) (s : State) : Host.Outcome State Fault Refusal :=
  .next (s.submit (.easelBind h progId rev slot) h (specEaselBind h progId rev slot s))

/-- A bound instance has this number. -/
def State.instBound (s : State) (n : Nat) : Bool := (s.easelBay (s.serving.getD 0)).insts.any fun e => e.1 = n && e.2.unbindAt.isNone

/-- EASEL_UNBIND's checks. -/
def specEaselUnbind (_h : CmdHdr) (inst : Nat) (s : State) : CmdSpec :=
  { opcode := 0x0502, plen := 2, params := [exists' (inst < 32 && s.instBound inst) 0] }

/-- EASEL_UNBIND: the instance runs through window W - 1 (R169, R172). -/
def effEaselUnbind (j inst : Nat) (s : State) : State :=
  if s.instBound inst then (s.modInsts inst fun i => { i with unbindAt := some (s.switchFor j) }).complete j 0 [0, s.switchFor j]
  else s.complete j 0x0504 []

/-- EASEL_UNBIND (R172, R288). -/
def execEaselUnbind (h : CmdHdr) (inst : Nat) (s : State) : Host.Outcome State Fault Refusal :=
  .next (s.submit (.easelUnbind h inst) h (specEaselUnbind h inst s))

/-- An instance runs or will run a program. -/
def State.programBound (s : State) (progId rev : Nat) : Bool :=
  (s.easelBay (s.serving.getD 0)).insts.any fun e =>
    (e.2.prog.progId = progId && e.2.prog.rev = rev) || e.2.nextProg.any fun x => x.1.progId = progId && x.1.rev = rev

/-- EASEL_DELETE's checks: WRONG_STATE while bound, NOT_PERMITTED for PROG_ID 1 and 2 (R288). -/
def specEaselDelete (_h : CmdHdr) (progId rev : Nat) (s : State) : CmdSpec :=
  { opcode := 0x0503, plen := 8, params := [exists' (s.program progId rev).isSome 0]
    states := [rightState (!s.programBound progId rev) 1], late := [check (progId ≠ 1 && progId ≠ 2) 0x0402] }

/-- EASEL_DELETE removes an unbound program (R288). -/
def effEaselDelete (j progId rev : Nat) (s : State) : State :=
  if s.programBound progId rev || (s.program progId rev).isNone then s.complete j 0x0504 []
  else (s.modEaselCfg fun c => { c with programs := c.programs.filter fun q => !(q.progId = progId && q.rev = rev) }).ok j

/-- EASEL_DELETE (R288). -/
def execEaselDelete (h : CmdHdr) (progId rev : Nat) (s : State) : Host.Outcome State Fault Refusal :=
  .next (s.submit (.easelDelete h progId rev) h (specEaselDelete h progId rev s))

/-! ### Status and parameters -/

/-- A governor slot number of R160. -/
def isGovSlot (g : Nat) : Bool := g ≤ 0x17 || (0x20 ≤ g && g ≤ 0x5F)

/-- A governor slot entry of a bay (R160). -/
def State.slotEntry (s : State) (bay g : Nat) : SlotEntry := tget (s.easelBay bay).gslots g {}

/-- A value of a slot entry as its word (R160). -/
def valueWord (v : Word32 × Word32) : Word64 := pack [(32, 32, v.1.toNat), (0, 32, v.2.toNat)]

/-- The 18 words of a slot entry (R160). -/
def SlotEntry.words (e : SlotEntry) : List Word64 :=
  [e.status, pack [(32, 32, e.wseq.toNat)]] ++ (List.range 16).map fun i => valueWord (e.vals.getD i (0, 0))

/-- EASEL_STATUS's checks. -/
def specEaselStatus (_h : CmdHdr) (gslot buf : Nat) (_s : State) : CmdSpec :=
  { opcode := 0x0504, plen := 16, params := [bufAligned buf, exists' (isGovSlot gslot) 0] }

/-- EASEL_STATUS: status word, WSEQ and value 0 of a governor slot, with the whole entry in the buffer (R147, R160, R288). -/
def effEaselStatus (j gslot buf : Nat) (s : State) : State :=
  let e := s.slotEntry (s.serving.getD 0) gslot
  let s := if buf = 0 then s else s.bufferOut j buf (wordsBytes e.words)
  s.complete j 0 [e.status.toNat, e.wseq.toNat, (valueWord (e.vals.getD 0 (0, 0))).toNat]

/-- EASEL_STATUS (R147, R288). -/
def execEaselStatus (h : CmdHdr) (gslot buf : Nat) (s : State) : Host.Outcome State Fault Refusal :=
  .next (s.submit (.easelStatus h gslot buf) h (specEaselStatus h gslot buf s))

/-- EASEL_CONFIG's checks: RESEED_PERIOD 1 to 3,600 s, KAC_PERIOD 0.1 to 60 s, in us (R148, R275). -/
def specEaselConfig (_h : CmdHdr) (reseed kac : Nat) (_s : State) : CmdSpec :=
  { opcode := 0x0505, plen := 12
    params := [inRange (1000000 ≤ reseed && reseed ≤ 3600000000) 4, inRange (100000 ≤ kac && kac ≤ 60000000) 8] }

/-- EASEL_CONFIG (R148). -/
def effEaselConfig (j reseed kac : Nat) (s : State) : State :=
  (s.modEaselCfg fun c => { c with reseedPeriod := reseed, kacPeriod := kac }).ok j

/-- EASEL_CONFIG (R148, R288). -/
def execEaselConfig (h : CmdHdr) (reseedPeriod kacPeriod : Nat) (s : State) : Host.Outcome State Fault Refusal :=
  .next (s.submit (.easelConfig h reseedPeriod kacPeriod) h (specEaselConfig h reseedPeriod kacPeriod s))

/-! ### Runs -/

/-- Governor slots an instance writes (R160). -/
def outSlots (env : RunEnv) : List Nat :=
  (env.prog.strokes.filter fun k => k.op = 0x07 && k.sub = 1).map fun k => outSlot env k.param0

/-- An instance that may run on a bay in this window: bound from W on, not waiting for contents, its period due, the bay at work (R161,
R164, R165, R169, R170). -/
def State.instDue (s : State) (bay : Nat) (i : Inst) : Bool :=
  s.runs bay && i.switchAt ≤ s.dwn && !i.gapWait && !i.suspended &&
  (i.prog.cls ≠ 0 || (i.offset ≤ s.dwn && (s.dwn - i.offset) % i.prog.period = 0))

/-- The outcome of a run enters the instance and its slots; a slot entry is replaced whole at END (R147, R149, R160, R161). -/
def State.postRun (s : State) (bay n : Nat) (i : Inst) (r : Run) (panelFail : Bool) : State :=
  let w := match i.slot with | some sl => (s.view sl bay).frame.wseq | none => BitVec.ofNat 32 s.dwn
  let st := statusWord r false panelFail
  let keep := r.tensors.filter fun t => (i.prog.desc t.1).init || (i.prog.desc t.1).state
  let s := s.modEaselBay bay fun e => { e with
    lanes := r.lanes
    gslots := if !r.ended then e.gslots else r.outs.foldl (fun g o =>
      tset g o.1 { status := st, wseq := w, written := true, vals := if panelFail then o.2.map fun v => (v.1, 0x7F800000#32) else o.2 }) e.gslots }
  s.modInst bay n fun i => { i with
    tensors := keep, status := st, runWseq := if r.ended then w else i.runWseq, running := !r.ended
    runs := satAdd 32 i.runs 1, flagged := satAdd 32 i.flagged (if (st.toNat >>> 24) % 256 = 0 then 0 else 1), resets := satAdd 32 i.resets r.resets }

/-- An instance that cannot run shows a status word alone (R137), or a failed panel with radius +∞ (R146, R167). -/
def State.showStatus (s : State) (bay n : Nat) (i : Inst) (st : Word64) (infinite : Bool) : State :=
  let s := s.modEaselBay bay fun e => { e with
    gslots := (outSlots (s.runEnv bay i)).foldl (fun g o =>
      let x := tget g o {}
      tset g o { x with status := st, vals := if infinite then x.vals.map (fun v => (v.1, 0x7F800000#32)) else x.vals }) e.gslots }
  s.modInst bay n fun i => { i with status := st }

/-- A run of one instance in its phase (R161, R164). -/
def execEaselPhaseRun (bay : Nat) (phase : Phase) (s : State) : Host.Outcome State Fault Refusal :=
  .next (match tfind (s.easelBay bay).insts phase.inst with
  | none => s
  | some i =>
    if !s.instDue bay i then s
    else if i.panels.isEmpty then s.showStatus bay phase.inst i (0xFFFF000001000000#64) true
    else if i.prog.stochastic && !i.seeded then s.showStatus bay phase.inst i (0xFFFF000002000000#64) false
    else
      let r : Run := { tensors := i.tensors, lanes := (s.easelBay bay).lanes }
      s.postRun bay phase.inst i (r.go (s.runEnv bay i)) (i.panels.any fun q => s.panelsOut.getLsbD q))

/-- A run that has not reached END when its phase closes is stopped; its slots keep what they held (R161). -/
def execEaselPhaseClose (bay inst : Nat) (s : State) : Host.Outcome State Fault Refusal :=
  .next (match tfind (s.easelBay bay).insts inst with
  | some i => if i.running then s.modInst bay inst fun i => { i with running := false } else s
  | none => s)

/-! ### Panels out of service -/

/-- Re-place the instances that are unplaced, suspended or on a panel out of service, in the order of binding (R167). -/
def State.replaceInsts (s : State) : State :=
  let out := s.panelsOut
  let hit := (s.easelBay (s.serving.getD 0)).insts.filter fun e => e.2.panels.isEmpty || e.2.panels.any fun q => out.getLsbD q
  (hit.mergeSort fun a b => a.2.order ≤ b.2.order).foldl (fun s e =>
    match place out e.1 e.2.slot e.2.prog ((s.placed e.2.prog.cls (some e.1)).filter fun x => !x.panels.any fun q => out.getLsbD q) with
    | some (ps, o) => s.modInsts e.1 fun i => { i with panels := ps, offset := o, suspended := false }
    | none =>
      let s := s.modInsts e.1 fun i => { i with panels := [], suspended := e.2.prog.cls = 0 }
      if e.2.prog.cls = 0 && !e.2.suspended then s.raise 0x0503 [(2, e.1), (4, e.2.prog.progId)] else s) s

/-- A known-answer set ends on a panel: a mismatch takes the panel out of service with a record and an event, and the owner journals the
re-placement; a starved check raises its event; a pass after a bay restart returns the panel (R146, R167). -/
def execKnownAnswerCheck (bay panel : Nat) (result : KacResult) (s : State) : Host.Outcome State Fault Refusal :=
  .next (if !(s.bay bay).alive || 16 ≤ panel then s else
  match result with
  | .starved => s.raiseSev bay 0x0502 1 0 [(1, bay), (1, panel)]
  | .fail c =>
    if (s.easelBay bay).panelsOut.getLsbD panel then s.modEaselBay bay fun e => { e with kacReturn := e.kacReturn &&& ~~~(1#16 <<< panel) }
    else
      let pl := [(1, bay), (1, panel), (2, c)]
      let s := s.modEaselBay bay fun e => { e with panelsOut := e.panelsOut ||| (1#16 <<< panel), kacReturn := e.kacReturn &&& ~~~(1#16 <<< panel) }
      let s := (s.almanac (baySource bay) 0x0501 pl).raiseSev bay 0x0501 2 0 pl
      if s.serving.isSome then s.journalChange (.panelOut panel) else s
  | .pass =>
    if (s.easelBay bay).kacReturn.getLsbD panel then
      let s := s.modEaselBay bay fun e => { e with
        panelsOut := e.panelsOut &&& ~~~(1#16 <<< panel), kacReturn := e.kacReturn &&& ~~~(1#16 <<< panel) }
      if s.serving.isSome then s.journalChange (.panelOut panel) else s
    else s)

/-! ### Seeds -/

/-- Every generator lane of both bays takes its seed of reseed n (R136, R137). -/
def State.applySeeds (s : State) (n : Nat) : State :=
  let lanes : Tbl (BitVec 128) := (List.range 128).map fun k => (k, BitVec.ofNat 128 (1 + Config.reseedBits n (k / 8) (k % 8) % (2 ^ 128 - 1)))
  let put (s : State) (bay : Nat) : State := s.modEaselBay bay fun e => { e with
    lanes := lanes, insts := e.insts.map fun i => (i.1, { i.2 with seeded := true }) }
  put (put s 0) 1

/-- The owner draws seeds every RESEED_PERIOD, at each program load and before a stochastic program's first window, and journals them with
the window from which they apply (R137). -/
def execReseed (s : State) : Host.Outcome State Fault Refusal :=
  .next (if s.serving.isSome && s.boot.entropy.ready && s.journalFree &&
      (s.easel.cfg.reseedDue || s.passed s.easel.cfg.lastReseed (s.easel.cfg.reseedPeriod * 1000)) then
    let n := s.boot.entropy.reseeds + 1
    ((s.modEntropy fun e => { e with reseeds := n }).modEaselCfg fun c => { c with reseedDue := false, lastReseed := s.now }).journalChange (.reseed n)
  else s)

/-! ### Switches -/

/-- A successful new load of a slot's learned model returns it to that model (R49, R169). -/
def State.newLoad (s : State) (bay : Nat) (i : Inst) : State :=
  match i.prog.cls, i.slot with
  | 1, some sl => s.modGovSlot bay sl fun g => { g with switchedLinear := false, failRun := 0 }
  | _, _ => s

/-- What window W brings one instance of a bay: an end (R172), a replacement (R169, R170), or new tensor contents (R171). -/
def State.switchInst (s : State) (bay n : Nat) (i : Inst) : State :=
  let due (w : Nat) := decide (w ≤ s.dwn)
  if i.unbindAt.elim false due then
    let s := s.modEaselBay bay fun e => { e with insts := tdel e.insts n }
    match i.prog.cls, i.slot with
    | 2, some sl => s.modGovParam sl fun p => { p with runAhead := false }
    | _, _ => s
  else
    let s := match i.nextProg with
      | (p, w, ps, o) :: _ =>
        if due w then
          let i' : Inst := { prog := p, slot := i.slot, offset := o, order := i.order, panels := ps, tensors := p.startTensors, switchAt := w
                             seeded := !p.stochastic, gapWait := i.gap, gap := i.gap }
          let s := s.modInst bay n fun _ => i'
          if i.gap then s else s.newLoad bay i'
        else s
      | [] => if i.switchAt = s.dwn && !i.gapWait then s.newLoad bay i else s
    match i.nextTensors.filter fun t => due t.1 with
    | [] => s
    | ts => (s.modInst bay n fun i => { i with
        tensors := ts.foldl (fun m t => tset m t.2.1 t.2.2) (i.prog.startTensors.map fun e => if (i.prog.desc e.1).state then e else (e.1, tget i.tensors e.1 e.2))
        nextTensors := i.nextTensors.filter fun t => !due t.1, reloading := false, gapWait := i.gapWait || i.gap }).newLoad bay i

/-- The latest linear weights and VRAIL whose window has come take effect (R55, R65). -/
def GovParam.takeLinear (p : GovParam) (dwn : Nat) : GovParam :=
  match (p.nextLinear.filter fun x => x.1 ≤ dwn).getLast? with
  | some (_, codes, vrail) => { p with
      weights := codes.take 2048, s0 := codes.getD 2048 0, sV := codes.getD 2049 0, sT := codes.getD 2050 0, vrail := vrail, linearSet := true
      nextLinear := p.nextLinear.filter fun x => dwn < x.1 }
  | none => p

/-- At window W the new contents replace the old (R169 to R172). Linear weights and VRAIL take effect for both bays at once. -/
def execSwitchWindow (bay : Nat) (s : State) : Host.Outcome State Fault Refusal :=
  .next (let s := (s.easelBay bay).insts.foldl (fun s e => s.switchInst bay e.1 e.2) s
    forUpTo 8 (fun s sl => s.modGovParam sl fun p => p.takeLinear s.dwn) s)

/-- With GAP, the new instance starts once its contents are written (R170). -/
def execGapLoadDone (bay inst : Nat) (s : State) : Host.Outcome State Fault Refusal :=
  .next (match tfind (s.easelBay bay).insts inst with
  | some i =>
    if i.gapWait && i.switchAt ≤ s.dwn then
      (s.modInst bay inst fun i => { i with gapWait := false, gap := false, switchAt := s.dwn + 1 }).newLoad bay i
    else s
  | none => s)

/-- The model contents that the Gleaner reloads from the Loft verify: the poison ends, and the learned model serves from the next window
(R49, R213). -/
def execModelReloadDone (bay inst : Nat) (s : State) : Host.Outcome State Fault Refusal :=
  .next (match tfind (s.easelBay bay).insts inst with
  | some i =>
    if i.reloading then
      (s.modInst bay inst fun i => { i with
        reloading := false
        tensors := i.tensors.map fun t => if (i.prog.desc t.1).init then (t.1, tget i.prog.data t.1 t.2) else t }).modGranary bay fun g =>
          { g with poison := g.poison.filter fun a => !(pageOwner (g.pageEntry a) = 6 && pageTag (g.pageEntry a) = inst) }
    else s
  | none => s)

/-! ### Records -/

/-- A record period of the tray is due in this window (R80). -/
def State.recordDue (s : State) : Bool :=
  let n := s.gov.tray.recordPeriod / 2
  s.serving.isSome && n ≠ 0 && s.gov.tray.recordFrom ≤ s.dwn && s.dwn % n = 0

/-- The Easel record of one instance (R149). -/
def State.easelWords (s : State) (bay n : Nat) (i : Inst) : List Word64 :=
  let v := match (outSlots (s.runEnv bay i)).head? with | some g => (s.slotEntry bay g).vals.getD 0 (0, 0) | none => (0, 0)
  [ pack [(56, 8, 0x38), (51, 5, n), (49, 2, i.prog.cls), (44, 4, i.slot.getD 0xF), (0, 32, i.runWseq.toNat)],
    pack [(32, 32, i.prog.progId), (0, 32, i.prog.rev)], i.status,
    pack [(48, 16, i.panels.foldl (fun a q => a ||| 2 ^ q) 0), (32, 16, s.panelsOut.toNat), (0, 32, i.runs)],
    pack [(32, 32, i.flagged), (0, 32, i.resets)], valueWord v, 0, BitVec.ofNat 64 s.devNow ]

/-- At each record period the owner posts one Easel record for each bound instance (R149). -/
def execEaselRecord (s : State) : Host.Outcome State Fault Refusal :=
  .next (match s.serving with
  | some b => if s.recordDue then (s.easelBay b).insts.foldl (fun s e => s.telemetry 5 (s.easelWords b e.1 e.2)) s else s
  | none => s)

end Sys2Proof.Machine
end

