-- ==== Sys2Proof/Machine/Operands.lean ====
section
/-!
DEFINITION. Operands: registers and register pairs of a hand, effective addresses and the regions a hand may reach (R183, R194), loads,
stores and atomics at a bank (R175, R201, R202, R207 to R209), checkpoints (R186), and the items of SELF (R183).
-/
namespace Sys2Proof.Machine
open Sys2Proof

/-! ### Issue -/

/-- The probe lets a hand issue: it has not halted it, or has stepped it at this instruction (R445). -/
def State.notHalted (s : State) (bay hand : Nat) : Bool :=
  match (s.measure bay).haltedHands.find? fun e => e.1 = hand with
  | some e => e.2 = some (s.hand bay hand).pc
  | none => true

/-- A hand issues: it is READY, its die runs and is not Dormant, and no probe halts it (R173, R179, R445, R478). -/
def State.issues (s : State) (bay hand : Nat) : Bool :=
  (s.hand bay hand).state = .ready && (s.bay bay).alive && !s.sys.dormant && s.notHalted bay hand

/-- An instruction that acts on its own hand alone. -/
def State.issue (s : State) (bay hand : Nat) (f : Hand → Hand) : State := if s.issues bay hand then s.modHand bay hand f else s

/-- The result goes to rd, and the next instruction follows. -/
def Hand.result (h : Hand) (rd : Nat) (v : Word32) : Hand := { h.setReg rd v with pc := h.pc + 4 }

/-- A result of two registers. -/
def aluR (f : Word32 → Word32 → Word32) (h : Hand) (rs1 rs2 : Nat) : Word32 := f (h.reg rs1) (h.reg rs2)

/-- The high 32 bits of the signed product (R183). -/
def mulHigh (a b : Word32) : Word32 := ((a.signExtend 64 * b.signExtend 64) >>> 32).setWidth 32

/-- The high 32 bits of the unsigned product (R183). -/
def mulHighU (a b : Word32) : Word32 := ((a.setWidth 64 * b.setWidth 64) >>> 32).setWidth 32

/-- A 64-bit value in rd, rd + 1, low half in rd; with rd = g0 the low half is discarded (R183). -/
def Hand.setPair (h : Hand) (rd v : Nat) : Hand := (h.setReg rd (BitVec.ofNat 32 v)).setReg (rd + 1) (BitVec.ofNat 32 (v / 2 ^ 32))

/-- The 64-bit value of a register pair (R183). -/
def Hand.pair (h : Hand) (r : Nat) : Nat := (h.reg r).toNat + 2 ^ 32 * (h.reg (r + 1)).toNat

/-- A branch: PC + off times 4 if taken, else the next instruction (R183). -/
def Hand.branch (h : Hand) (taken : Bool) (off : BitVec 18) : Hand :=
  { h with pc := if taken then h.pc + off.signExtend 32 * 4 else h.pc + 4 }

/-! ### Addresses -/

/-- rs1 + imm, the immediate sign-extended (R183). -/
def State.addressOf {w : Nat} (s : State) (bay hand rs1 : Nat) (imm : BitVec w) : Nat :=
  ((s.hand bay hand).reg rs1 + imm.signExtend 32).toNat

/-- n bytes from an address lie in a region. -/
def within (a n base len : Nat) : Bool := base ≤ a && a + n ≤ base + len

/-- Memory exists for n bytes from an address (R194). -/
def mapped (a n : Nat) : Bool := (inGranary a && inGranary (a + n - 1)) || (inPorch a && inPorch (a + n - 1))

/-- The regions granted to a hand (R183, R193): a user hand reaches its code, its data and its shared range; ROM and image hands are
not loaded with HAND_LOAD and reach the whole map (DEDUCED, log entry 22). -/
def Hand.granted (h : Hand) (hand a n : Nat) : Bool :=
  hand < 1024 || within a n h.codeBase h.codeLen || within a n h.dataBase h.dataLen || within a n h.shrBase h.shrLen

/-- An access that raises no address fault: aligned, in memory, and in a region of the hand (R183, R194). -/
def Hand.accessOk (h : Hand) (hand a n : Nat) : Bool := a % n = 0 && mapped a n && h.granted hand a n

/-- A store that raises no address fault: also not into a code region (R183). -/
def Hand.storeOk (h : Hand) (hand a n : Nat) : Bool := h.accessOk hand a n && !within a n h.codeBase h.codeLen

/-- An atomic that raises no address fault: a store, and not at a Porch address (R183, R202). -/
def Hand.atomicOk (h : Hand) (hand a n : Nat) : Bool := h.storeOk hand a n && !inPorch a

/-! ### Accesses -/

/-- What the check bits make of an access: a single-bit error is corrected and queued, an uncorrectable word comes under the
Gleaner's policy (R207). -/
def State.checkWord (s : State) (bay a : Nat) (ecc : Ecc) : State :=
  match ecc with
  | .clean => s
  | .single => if (s.granary bay).poisoned a then s else s.modGranary bay fun g => g.corrected a
  | .double => s.uncorrectable bay a false

/-- A poisoned word makes the access wait while its good copy comes from the other bay, and otherwise restarts the hand with cause
0x3 (R209, R213). -/
def State.poisonedAccess (s : State) (bay hand a : Nat) : State :=
  if wordOf a ∈ (s.granary bay).waitRestore then s.modHand bay hand fun h => { h with state := .wait, wait := some .access }
  else if (s.hand bay hand).state = .ready then s.handFault bay hand 3 else s

/-- A load of n bytes: the value is in rd, or rd and rd + 1, when the access completes (R175, R183, R207, R209). -/
def State.loadInto (s : State) (bay hand n rd a : Nat) (ecc : Ecc) : State :=
  if !s.issues bay hand then s
  else if !(s.hand bay hand).accessOk hand a n then s.handFault bay hand 2
  else
    let s := s.checkWord bay a ecc
    if (s.granary bay).poisoned a then s.poisonedAccess bay hand a
    else
      let v := (s.granary bay).load a n
      s.modHand bay hand fun h =>
        { (if n = 8 then h.setPair rd v else h.setReg rd (BitVec.ofNat 32 v)) with pc := h.pc + 4, state := .wait, wait := some .access }

/-- A store of n bytes (R175, R183, R201). A full 64-bit store reads nothing; a partial store to a poisoned word restarts the hand
(R208, R209). -/
def State.storeFrom (s : State) (bay hand n rs2 a : Nat) (ecc : Ecc) : State :=
  if !s.issues bay hand then s
  else if !(s.hand bay hand).storeOk hand a n then s.handFault bay hand 2
  else
    let s := if n = 8 then s else s.checkWord bay a ecc
    if n < 8 && (s.granary bay).poisoned a then s.poisonedAccess bay hand a
    else
      let h := s.hand bay hand
      let v := if n = 8 then h.pair rs2 else (h.reg rs2).toNat
      (s.modGranary bay fun g => g.store a (leBytes n v)).modHand bay hand fun h =>
        { h with pc := h.pc + 4, state := .wait, wait := some .access }

/-- An atomic on n bytes at the bank, in one bank cycle (R183, R202). -/
def State.atomic (s : State) (bay hand n rd rs2 a : Nat) (f : Nat → Nat → Nat) (ecc : Ecc) : State :=
  if !s.issues bay hand then s
  else if !(s.hand bay hand).atomicOk hand a n then s.handFault bay hand 2
  else
    let s := s.checkWord bay a ecc
    if (s.granary bay).poisoned a then s.poisonedAccess bay hand a
    else
      let old := (s.granary bay).load a n
      let h := s.hand bay hand
      let v := if n = 8 then h.pair rs2 else (h.reg rs2).toNat
      (s.modGranary bay fun g => g.store a (leBytes n (f old v))).modHand bay hand fun h =>
        { (if n = 8 then h.setPair rd old else h.setReg rd (BitVec.ofNat 32 old)) with pc := h.pc + 4, state := .wait, wait := some .access }

/-! ### Checkpoints, SELF, instruction cache -/

/-- The peer takes mirror writes: it is STANDBY and the breezeway works (R186, R230). -/
def State.takesMirror (s : State) (bay : Nat) : Bool := (s.bay (peer bay)).bstate = .standby && s.own.journal.breezeUp

/-- The record that does not hold the newest checkpoint, 0 or 1; record 0 with no checkpoint yet (R186). -/
def Granary.nextRecord (g : Granary) (h : Hand) : Nat := match g.newestCkpt h with | some 0 => 1 | _ => 0

/-- CSEQ one above the newest (R186). -/
def Granary.nextCseq (g : Granary) (h : Hand) : Nat := (match g.newestCkpt h with | some i => g.ckptSeq h i | none => 0) + 1

/-- Write a checkpoint of a hand, with CSEQ one above the newest, into the record that does not hold the newest (R186). A mirrored
checkpoint leaves the hand not ready until the peer acknowledges. -/
def State.checkpoint (s : State) (bay hand : Nat) (mirror : Bool) : State :=
  let h := s.hand bay hand
  let g := s.granary bay
  let rec' := g.nextRecord h
  let cseq := g.nextCseq h
  let h' := { h with pc := h.pc + 4, cseq := cseq, lastCkpt := s.devNow }
  let bytes := ckptBytes cseq h' s.devNow
  let s := s.modGranary bay fun g => g.fill (h.ckptPtr + 128 * rec') bytes
  if mirror && s.takesMirror bay && s.isOwner bay then
    (s.modHand bay hand fun _ => { h' with state := .wait, wait := some (.mirror s.now) }).emit
      (.mirror bay s.own.latch.epoch (h.ckptPtr + 128 * rec') bytes)
  else s.modHand bay hand fun _ => h'

/-- The items of SELF (R183). -/
def State.selfItem (s : State) (bay hand item : Nat) : Word32 :=
  let h := s.hand bay hand
  match item with
  | 0 => BitVec.ofNat 32 hand
  | 1 => BitVec.ofNat 32 (hand / 128)
  | 2 => BitVec.ofNat 32 bay
  | 3 => if s.owner = some bay then 1 else 0
  | 4 => s.own.latch.epoch
  | 5 => BitVec.ofNat 32 h.cause
  | 6 => BitVec.ofNat 32 (h.recentRestarts s.devNow).length
  | _ => h.tseq

/-- A line enters a core's 4-way cache of 256 sets; the oldest of a full set leaves (R192; the line replaced is a DESIGN CHOICE, log
entry 23). -/
def icacheFill (lines : List Nat) (line : Nat) : List Nat :=
  let same := lines.filter fun l => l % 256 = line % 256 && l ≠ line
  let keep := same.drop (same.length - 3)
  (lines.filter fun l => l % 256 ≠ line % 256) ++ keep ++ [line]

end Sys2Proof.Machine
end

