-- ==== Sys2Proof/Machine/TwoWire.lean ====
section
/-!
DEFINITION. The two-wire ports (R409 to R431): queues and arbitration, results to hands and to the host, stuck buses, the port as a
target, Host Notify, the TWI instruction with its shadow (R184, R190), and the commands TW_XFER and TW_CONFIG (R291).
-/
namespace Sys2Proof.Machine
open Sys2Proof

/-! ### Descriptors -/

/-- The descriptor that 16 bytes spell (R184). -/
def twDescAt (bs : List Byte) : TwDesc :=
  let w0 := fieldAt bs 0 8
  { port := field w0 59 5, addr := field w0 52 7, kind := field w0 48 4, wlen := field w0 40 8, rlen := field w0 32 8, buf := field w0 0 32
    tout := fieldAt bs 15 1 }

/-- A descriptor is invalid: nothing is sent, status 0x08 (R417); so is a port that does not exist (DEDUCED, log entry 24). -/
def TwDesc.invalid (d : TwDesc) : Bool :=
  24 ≤ d.port || 3 < d.kind || 32 < d.wlen || 32 < d.rlen || (d.wlen = 0 && (d.kind = 2 || d.kind = 3)) || (d.wlen ≠ 0 && d.kind = 1) ||
  d.buf % 8 ≠ 0 || (0x78 ≤ d.addr && d.addr ≤ 0x7F)

/-- A block read: KIND 0x2 or 0x3 with RLEN 0 (R418). -/
def TwDesc.block (d : TwDesc) : Bool := (d.kind = 2 || d.kind = 3) && d.rlen = 0

/-- TOUT in ns; 0 means 35 ms (R184). -/
def TwDesc.timeout (d : TwDesc) : Nat := (if d.tout = 0 then 35 else d.tout) * 1000000

/-- One bit of CRC-8 with polynomial x^8 + x^2 + x + 1 (R419). -/
def crc8Bit (c : Byte) : Byte := if c.getLsbD 7 then (c <<< 1) ^^^ 0x07#8 else c <<< 1

/-- CRC-8 of a string of bytes, most significant bit first, from 0 (R419). -/
def crc8 (bs : List Byte) : Byte :=
  bs.foldl (fun c b => crc8Bit (crc8Bit (crc8Bit (crc8Bit (crc8Bit (crc8Bit (crc8Bit (crc8Bit (c ^^^ b))))))))) 0

/-- The bytes a transaction with PEC checks: every address and data byte (R419). -/
def TwDesc.pecBytes (d : TwDesc) (read : List Byte) : List Byte :=
  [BitVec.ofNat 8 (d.addr * 2)] ++ d.wdata.take d.wlen ++ [BitVec.ofNat 8 (d.addr * 2 + 1)] ++ read

/-- What the bytes read on the bus give: the status, and the data bytes without the PEC byte (R418, R419). With KIND 0x3 the last byte
is the PEC. A block count above 32 ends KIND 0x3 with 0x05. -/
def TwDesc.result (d : TwDesc) (data : List Byte) : Nat × List Byte :=
  if d.kind = 3 then
    if d.block && 32 < (data.getD 0 0).toNat then (0x05, data.take 33)
    else
      let read := data.dropLast
      (if data.getLast? = some (crc8 (d.pecBytes read)) then 0 else 0x05, read)
  else (0, if d.block then data.take 33 else data)

/-! ### Results -/

/-- The status word of a TWI (R184). -/
def twiWord (status count : Nat) (tseq : Nat) : Word32 := BitVec.ofNat 32 (status * 2 ^ 24 + count % 256 * 2 ^ 16 + tseq % 65536)

/-- A result completes a hand's TWI: rd is written, the bytes read lie at BUF + 32, the hand is READY (R184). -/
def State.completeTwi (s : State) (bay hand rd buf : Nat) (word : Word32) (read : List Byte) : State :=
  (s.modGranary bay fun g => g.fill (buf + 32) read).modHand bay hand fun h => { h.setReg rd word with state := .ready, wait := none }

/-- A shadow hand resynchronises: it discards its held results and waits for the owner's next mirrored checkpoint (R190). -/
def State.resyncHand (s : State) (bay hand : Nat) : State :=
  s.modHand bay hand fun h => { h with resync := true, heldResults := [], state := .wait, wait := none }

/-- Results a shadow hand holds, those of an older TSEQ than its own dropped (R190). -/
def Hand.freshHeld (h : Hand) : List (Nat × Nat × List Byte) := h.heldResults.filter fun r => h.tseq.toNat ≤ r.1

/-- A result reaches a hand on one bay: it completes a TWI that waits for it, is held by a shadow that is not there yet, starts a
resynchronisation when 16 are held, or is discarded when the hand no longer waits (R179, R184, R189, R190). -/
def State.twiToHand (s : State) (bay hand issuer : Nat) (tag : Nat) (word : Word32) (read : List Byte) : State :=
  let h := s.hand bay hand
  if bay = issuer && 0 < h.discardTwi then s.modHand bay hand fun h => { h with discardTwi := h.discardTwi - 1 }
  else match h.state, h.wait with
    | .wait, some (.twoWire rd buf _) =>
      if h.tseq.toNat = tag then s.completeTwi bay hand rd buf word read
      else if bay ≠ issuer && h.shadow then s.resyncHand bay hand else s
    | _, _ =>
      if bay ≠ issuer && h.shadow && (h.state = .ready || h.state = .wait) then
        if 16 ≤ h.freshHeld.length then s.resyncHand bay hand
        else s.modHand bay hand fun h => { h with heldResults := h.freshHeld ++ [(tag, word.toNat, read)] }
      else s

/-- The result of a descriptor reaches its issuer: a hand on both bays (R11, R184), the command that waits (R430), or the owner, which raises
the margin-unapplied event when a VOUT_COMMAND fails (R429). -/
def State.twDeliver (s : State) (d : TwDesc) (status count : Nat) (read : List Byte) : State :=
  match d.issuer with
  | .hand bay hand =>
    let word := twiWord status count d.tag
    (s.twiToHand bay hand bay d.tag word read).twiToHand (peer bay) hand bay d.tag word read
  | .host j =>
    if status = 0 then
      let s := if d.buf = 0 || read.isEmpty then s else s.bufferOut j d.buf read
      s.complete j 0 [count * 2 ^ 16]
    else s.complete j 0x0503 [status]
  | .vout bay trim =>
    if status = 0 then s.modBay bay fun b => { b with voutFailed := false }
    else (s.modBay bay fun b => { b with voutFailed := true }).raise 0x010E [(1, bay), (4, twos 32 trim)]

/-! ### Queues -/

/-- Descriptors in a port's queue (R414). -/
def TwPort.queued (p : TwPort) : Nat := p.romQ.length + p.otherQ.length

/-- A host descriptor that waited enters the queue once there is room (R414). -/
def TwPort.admitWaiting (p : TwPort) : TwPort :=
  match p.waitQ with
  | [] => p
  | d :: r => if p.queued < 64 then { p with otherQ := p.otherQ ++ [d], waitQ := r } else p

/-- A ROM hand's descriptor (R414). -/
def TwDesc.isRom (d : TwDesc) : Bool := match d.issuer with | .hand _ h => h < 256 | .vout .. => true | .host _ => false

/-- Queue a descriptor; the caller knows there is room, but for a host descriptor, which waits for it (R414). -/
def TwPort.enqueue (p : TwPort) (d : TwDesc) : TwPort :=
  if d.isRom then { p with romQ := p.romQ ++ [d] }
  else if p.queued < 64 then { p with otherQ := p.otherQ ++ [d] } else { p with waitQ := p.waitQ ++ [d] }

/-- Every descriptor of a port, the active one first. -/
def TwPort.all (p : TwPort) : List TwDesc := p.active.toList ++ p.romQ ++ p.otherQ ++ p.waitQ

/-- End every queued descriptor of a port with a status: 0x06 when it is disabled (R411), 0x07 when its bus is stuck (R416). -/
def State.twFlush (s : State) (port status : Nat) (withActive : Bool) : State :=
  let p := s.twPort port
  let ds := if withActive then p.all else p.romQ ++ p.otherQ ++ p.waitQ
  let s := s.modTwPort port fun p => { p with
    romQ := [], otherQ := [], waitQ := [], active := if withActive then none else p.active, started := if withActive then false else p.started }
  ds.foldl (fun s d => s.twDeliver d status 0 []) s

/-- A setting reaches the pins at a bus-free moment; a port that is disabled ends its queue (R411). -/
def State.twApplyCfg (s : State) (port : Nat) : State :=
  match (s.twPort port).pendingCfg with
  | none => s
  | some (en, sp, fi, ta) =>
    let s := s.modTwPort port fun p => { p with enable := en, speed := sp, filter := fi, target := ta, pendingCfg := none }
    if en then s else s.twFlush port 0x06 true

/-- The bus of a port is free as far as the port itself is concerned. -/
def TwPort.idleBus (p : TwPort) : Bool := !p.started && !p.busTarget

/-- End the active descriptor of a port. -/
def State.twEnd (s : State) (port status count : Nat) (read : List Byte) : State :=
  match (s.twPort port).active with
  | none => s
  | some d =>
    let s := s.modTwPort port fun p => { p with active := none, started := false, attempts := 0 }.admitWaiting
    (s.twDeliver d status count read).twApplyCfg port

/-- The engine takes the next descriptor: ROM descriptors first, another after 8 of them in a row (R414). Descriptors for the port's
own page are served inside the keeper and are passed over (R424). -/
def TwPort.pick (p : TwPort) : Option (TwDesc × TwPort) :=
  let rom := p.romQ.find? fun d => !d.ownPage
  let other := p.otherQ.find? fun d => !d.ownPage
  match rom, other with
  | some d, none => some (d, { p with romQ := p.romQ.erase d, romRun := p.romRun })
  | some d, some o =>
    if 8 ≤ p.romRun then some (o, { p with otherQ := p.otherQ.erase o, romRun := 0 })
    else some (d, { p with romQ := p.romQ.erase d, romRun := p.romRun + 1 })
  | none, some o => some (o, { p with otherQ := p.otherQ.erase o, romRun := 0 })
  | none, none => none

/-- On a free bus the engine starts the next descriptor, or a further attempt of the one that lost arbitration (R415, R421). -/
def execTwiDescriptorStart (port : Nat) (s : State) : Host.Outcome State Fault Refusal :=
  .next (let s := if (s.twPort port).idleBus then s.twApplyCfg port else s
    let p := s.twPort port
    if !p.enable || p.stuck || !p.idleBus || !s.sys.trimValid then s
    else match p.active with
      | some d => (s.modTwPort port fun p => { p with started := true, attempts := p.attempts + 1 }).emit (.twoWire port d)
      | none =>
        match p.pick with
        | some (d, p') =>
          (s.modTwPort port fun _ => { p'.admitWaiting with active := some d, started := true, attempts := 1, startTime := s.now }).emit (.twoWire port d)
        | none => s)

/-- A transaction ends: a lost arbitration tries again up to 4 attempts, a NACK or another failure ends the descriptor with its status,
and a finished one ends with the status its bytes give (R415, R418, R419). -/
def execTwiResult (port status : Nat) (arbLost : Bool) (count : Nat) (data : List (BitVec 8)) (s : State) : Host.Outcome State Fault Refusal :=
  .next (let p := s.twPort port
    match p.active with
    | none => s
    | some d =>
      if !p.started then s
      else if arbLost then
        if p.attempts < 4 then s.modTwPort port fun p => { p with started := false } else s.twEnd port 0x03 count []
      else if status = 0 then
        let r := d.result data
        s.twEnd port r.1 (d.wlen + r.2.length) (if r.1 = 0 || d.block then r.2 else [])
      else s.twEnd port status count [])

/-- TOUT passes before the stop: the descriptor ends with status 0x04 (R415). -/
def execToutExpiry (port : Nat) (s : State) : Host.Outcome State Fault Refusal :=
  .next (let p := s.twPort port
    match p.active with
    | some d => if s.passed p.startTime d.timeout then s.twEnd port 0x04 0 [] else s
    | none => s)

/-- A line stays low for 35 ms. If the pulses clear SDA the descriptor continues as a new attempt; otherwise the bus is stuck: the
active and every queued descriptor end with 0x07, and the event is raised once (R416). -/
def execBusStuck (port : Nat) (sdaClears : Bool) (s : State) : Host.Outcome State Fault Refusal :=
  .next (let p := s.twPort port
    if p.stuck || !p.enable then s
    else if sdaClears then s.modTwPort port fun p => { p with started := false }
    else
      let s := s.modTwPort port fun p => { p with stuck := true, stuckTime := s.now }
      (s.twFlush port 0x07 true).raise 0x0B02 [(1, port)])

/-- Every second the port tries to recover a stuck bus; on the first success it serves its queue again (R416). -/
def execBusRecoveryRetry (port : Nat) (success : Bool) (s : State) : Host.Outcome State Fault Refusal :=
  .next (let p := s.twPort port
    if p.stuck && s.passed p.stuckTime 1000000000 then
      s.modTwPort port fun p => if success then { p with stuck := false } else { p with stuckTime := s.now }
    else s)

/-! ### The TWI instruction -/

/-- TWI: hand the descriptor at rs1 to the engine and wait for its end (R184). A queue that is full leaves the hand where it is (R414).
A shadow on the standby sends nothing: it completes with the owner's result of the same TSEQ, now or when it comes (R190). -/
def execTwi (bay hand rd rs1 : Nat) (_imm : BitVec 18) (s : State) : Host.Outcome State Fault Refusal :=
  .next (if !s.issues bay hand then s else
    let h := s.hand bay hand
    let a := (h.reg rs1).toNat
    if !(h.accessOk hand a 8 && h.accessOk hand (a + 8) 8) then s.handFault bay hand 2
    else if (s.granary bay).poisoned a || (s.granary bay).poisoned (a + 8) then s.poisonedAccess bay hand a
    else
      let g := s.granary bay
      let d0 := twDescAt (memRead g.mem a 16)
      let tseq := h.tseq + 1
      let d := { d0 with issuer := .hand bay hand, tag := tseq.toNat, wdata := memRead g.mem d0.buf d0.wlen
                         ownPage := d0.addr = (s.twPort d0.port).target && d0.addr ≠ 0 }
      let p := s.twPort d.port
      let issued := fun (s : State) => s.modHand bay hand fun h =>
        { h with tseq := tseq, pc := h.pc + 4, state := .wait, wait := some (.twoWire rd d.buf s.now) }
      if s.isOwner bay || !h.shadow then
        if d.invalid then (issued s).completeTwi bay hand rd d.buf (twiWord 0x08 0 tseq.toNat) []
        else if !p.enable then (issued s).completeTwi bay hand rd d.buf (twiWord 0x06 0 tseq.toNat) []
        else if p.stuck && !d.ownPage then (issued s).completeTwi bay hand rd d.buf (twiWord 0x07 0 tseq.toNat) []
        else if 64 ≤ p.queued then s
        else (issued s).modTwPort d.port fun p => p.enqueue d
      else
        let s := issued s
        match h.heldResults.find? fun r => r.1 = tseq.toNat with
        | some (_, w, read) => (s.completeTwi bay hand rd d.buf (BitVec.ofNat 32 w) read).modHand bay hand fun h => { h with heldResults := h.freshHeld.drop 1 }
        | none => s.modHand bay hand fun h => { h with heldResults := h.freshHeld })

/-- A shadow's TWI has had no result for 10 ms: it resynchronises (R190). -/
def execShadowResultTimeout (bay hand : Nat) (s : State) : Host.Outcome State Fault Refusal :=
  .next (let h := s.hand bay hand
    match h.state, h.wait with
    | .wait, some (.twoWire _ _ since) =>
      if h.shadow && !s.isOwner bay && s.passed since 10000000 then s.resyncHand bay hand else s
    | _, _ => s)

/-! ### The port as a target -/

/-- One byte of a register page; absent bytes are 0 (R422). -/
def TwPort.pageByte (p : TwPort) (i : Nat) : Byte := p.page.getD (i % 256) 0

/-- A register page with one byte set. -/
def setPage (page : List Byte) (i : Nat) (b : Byte) : List Byte :=
  (page ++ List.replicate (256 - page.length) 0).set (i % 256) b

/-- Bytes of a bus write after the pointer byte: stored in 0x80 to 0xFB, otherwise acknowledged, discarded and counted (R422, R423).
Answers the port and whether a byte was stored. -/
def TwPort.busWrite (p : TwPort) (bs : List Byte) : TwPort × Bool :=
  bs.foldl (fun acc b =>
    let q := acc.1
    if 0x80 ≤ q.busPtr && q.busPtr ≤ 0xFB then ({ q with page := setPage q.page q.busPtr b, busPtr := (q.busPtr + 1) % 256 }, true)
    else ({ q with page := setPage q.page 0xFE (BitVec.ofNat 8 (satAdd 8 (q.pageByte 0xFE).toNat 1)), busPtr := (q.busPtr + 1) % 256 }, acc.2))
    (p, false)

/-- n bytes of a page from a pointer, and the pointer after them (R423). -/
def TwPort.pageRead (p : TwPort) (ptr n : Nat) : List Byte := (List.range n).map fun i => p.pageByte (ptr + i)

/-- A transaction addressed to the port's TARGET address: the first byte written sets the pointer, the others are stored, and a read
returns bytes from the pointer (R420, R422, R423). It ends with a stop, or hangs until the port abandons it. -/
def execTargetTransfer (port : Nat) (write : Bool) (data : List (BitVec 8)) (readLen : Nat) (stop : Bool) (s : State) : Host.Outcome State Fault Refusal :=
  .next (let p := s.twPort port
    if !p.enable || p.target = 0 || p.matcher then s else
    let start := if write then match data with | b :: _ => b.toNat | [] => p.busPtr else p.busPtr
    let page0 := p
    let r := if write then { p with busPtr := start }.busWrite (data.drop 1) else (p, false)
    let p1 := if r.2 then { r.1 with page := setPage (setPage r.1.page 0xFC (r.1.pageByte 0xFC + 1)) 0xFD (BitVec.ofNat 8 start) } else r.1
    let bytes := page0.pageRead p1.busPtr readLen
    let s := s.modTwPort port fun _ => { p1 with busPtr := (p1.busPtr + readLen) % 256, lastTarget := s.now, busTarget := !stop }
    let s := if 0 < readLen then s.emit (.twoWireRead port bytes) else s
    if r.2 then s.signalChannel (0x94 + port) else s)

/-- SCL low for 25 ms in a target transfer: the port abandons it; bytes already stored stand (R420). -/
def execTargetAbandon (port : Nat) (s : State) : Host.Outcome State Fault Refusal :=
  .next (if (s.twPort port).busTarget then (s.modTwPort port fun p => { p with busTarget := false }).twApplyCfg port else s)

/-- The oldest queued descriptor for the port's own page. -/
def TwPort.pickLocal (p : TwPort) : Option (TwDesc × TwPort) :=
  match p.romQ.find? (·.ownPage), p.otherQ.find? (·.ownPage) with
  | some d, _ => some (d, { p with romQ := p.romQ.erase d })
  | none, some d => some (d, { p with otherQ := p.otherQ.erase d })
  | none, none => none

/-- A local access: KIND 0x0 sets the local pointer and writes, 0x1 reads, 0x2 and 0x3 set it and read; writes to 0xFC to 0xFF are
ignored (R424). -/
def TwPort.localAccess (p : TwPort) (d : TwDesc) : TwPort × List Byte :=
  let p := if d.kind ≠ 1 then match d.wdata with | b :: _ => { p with locPtr := b.toNat } | [] => p else p
  let p := if d.kind = 0 then (d.wdata.drop 1).foldl (fun p b =>
      { p with page := if p.locPtr < 0xFC then setPage p.page p.locPtr b else p.page, locPtr := (p.locPtr + 1) % 256 }) p else p
  if d.kind = 0 then (p, []) else ({ p with locPtr := (p.locPtr + d.rlen) % 256 }, p.pageRead p.locPtr d.rlen)

/-- The engine serves a descriptor for the port's own page inside the keeper, after any bus transaction to that address (R424). -/
def execTargetLocalAccess (port : Nat) (s : State) : Host.Outcome State Fault Refusal :=
  .next (let p := s.twPort port
    if p.busTarget || !p.enable then s
    else match p.pickLocal with
      | none => s
      | some (d, p') =>
        let r := p'.localAccess d
        (s.modTwPort port fun _ => r.1.admitWaiting).twDeliver d 0 (d.wlen + r.2.length) r.2)

/-- The owner posts every notification a port keeps and frees its place (R425). -/
def State.postNotes (s : State) (port : Nat) : State :=
  if s.serving.isNone then s else
  let ns := (s.twPort port).notes
  let s := ns.foldl (fun s n => s.raise 0x0B01 [(1, port), (1, n.1), (2, n.2)]) s
  s.modTwPort port fun p => { p with notes := [] }

/-- A write to 0x08: three bytes are a Host Notify, kept while one of the 8 places is free and delivered to the owner; any other length
is acknowledged and discarded (R420, R425). -/
def execHostNotify (port : Nat) (data : List (BitVec 8)) (s : State) : Host.Outcome State Fault Refusal :=
  .next (let p := s.twPort port
    if !p.enable || p.matcher || data.length ≠ 3 || 8 ≤ p.notes.length then s
    else (s.modTwPort port fun p => { p with notes := p.notes ++ [((data.getD 0 0).toNat / 2, fieldAt data 1 2)], lastTarget := s.now }).postNotes port)

/-- In Dormant the low-power matcher sees the TARGET address or 0x08: the port clock restarts, and a match of the TARGET address asks
the bays to wake (R118, R426). -/
def execDormantAddressMatch (port addr : Nat) (s : State) : Host.Outcome State Fault Refusal :=
  .next (let p := s.twPort port
    if s.sys.dormant && p.enable && p.matcher && ((addr = p.target && p.target ≠ 0) || addr = 0x08) then
      let s := s.modTwPort port fun p => { p with matcher := false, lastTarget := s.now }
      if addr = 0x08 then s else s.modSys fun y => { y with wakePending := true }
    else s)

/-- A port goes back to its matcher after 100 ms without a transaction addressed to it while the bays are still Dormant (R426). -/
def execMatcherReturn (port : Nat) (s : State) : Host.Outcome State Fault Refusal :=
  .next (let p := s.twPort port
    if s.sys.dormant && p.enable && !p.matcher && s.passed p.lastTarget 100000000 then s.modTwPort port fun p => { p with matcher := true } else s)

/-! ### Commands of group 0x0B -/

/-- TW_XFER's checks (R291, R430). -/
def specTwXfer (_h : CmdHdr) (port _addr _kind wlen rlen _tout buf : Nat) (_wdata : List (BitVec 8)) (_s : State) : CmdSpec :=
  { opcode := 0x0B00, plen := 16 + wlen
    params := [inRange (port < 24) 0, check (buf % 64 = 0 && (buf ≠ 0 || rlen = 0)) 0x0106] }

/-- TW_XFER queues its descriptor as one keeper step; one that is invalid, or that names a disabled port or a stuck bus, ends at once
(R294, R411, R416, R417, R430). -/
def effTwXfer (j : Nat) (port addr kind wlen rlen tout buf : Nat) (wdata : List (BitVec 8)) (s : State) : State :=
  let d : TwDesc := { port := port, addr := addr, kind := kind, wlen := wlen, rlen := rlen, buf := buf, tout := tout, wdata := wdata
                      issuer := .host j, ownPage := addr = (s.twPort port).target && addr ≠ 0 }
  let p := s.twPort port
  if d.invalid then s.complete j 0x0503 [0x08]
  else if !p.enable then s.complete j 0x0503 [0x06]
  else if p.stuck && !d.ownPage then s.complete j 0x0503 [0x07]
  else s.modTwPort port fun p => p.enqueue d

/-- TW_XFER (R291, R430). -/
def execTwXfer (h : CmdHdr) (port addr kind wlen rlen tout buf : Nat) (wdata : List (BitVec 8)) (s : State) : Host.Outcome State Fault Refusal :=
  .next (s.submit (.twXfer h port addr kind wlen rlen tout buf wdata) h (specTwXfer h port addr kind wlen rlen tout buf wdata s))

/-- The largest digital filter of a speed (R412). -/
def maxFilter (speed : Nat) : Nat := match speed with | 0 => 31 | 1 => 12 | _ => 4

/-- A TARGET address inside the range of R431: 0, or 0x09 to 0x77 other than 0x0C and 0x61 (R420). -/
def targetOk (t : Nat) : Bool := t = 0 || (0x09 ≤ t && t ≤ 0x77 && t ≠ 0x0C && t ≠ 0x61)

/-- TW_CONFIG's checks (R412, R420, R431). -/
def specTwConfig (_h : CmdHdr) (port enable speed filter target : Nat) (_s : State) : CmdSpec :=
  { opcode := 0x0B01, plen := 5
    params := [inRange (port < 24) 0, switchOk enable 1, inRange (speed < 3) 2, inRange (filter < 32) 3, inRange (targetOk target) 4,
      joint (filter ≤ maxFilter speed) 3] }

/-- TW_CONFIG: the setting waits for a bus-free moment (R411). -/
def effTwConfig (j : Nat) (port enable speed filter target : Nat) (s : State) : State :=
  let s := (s.modTwPort port fun p => { p with pendingCfg := some (enable = 1, speed, filter, target) }).modEntry j fun e => { e with stepsDue := 1 }
  if (s.twPort port).idleBus then s.twApplyCfg port else s

/-- TW_CONFIG (R291, R411). -/
def execTwConfig (h : CmdHdr) (port enable speed filter target : Nat) (s : State) : Host.Outcome State Fault Refusal :=
  .next (s.submit (.twConfig h port enable speed filter target) h (specTwConfig h port enable speed filter target s))

end Sys2Proof.Machine
end

