-- ==== Sys2Proof/Machine/Branch.lean ====
section
/-!
DEFINITION. A branch or feed gate as the keeper drives it (R364, R366, R368): inrush ramps, commanded openings, what a slot loses when its
branch leaves ON, and the closing of the branches at start (R367, R470).
-/
namespace Sys2Proof.Machine
open Sys2Proof

/-- Keeper channel of a slot's branch (R252, R357). -/
def branchCh (slot : Nat) : Nat := 0x2A + slot

/-- The slot of a branch channel. -/
def slotOfCh (ch : Nat) : Nat := ch - 0x2A

/-- A channel is a branch (R357). -/
def isBranch (ch : Nat) : Bool := 0x2A ≤ ch && ch < 0x32

/-- A channel is a feed (R357). -/
def isFeed (ch : Nat) : Bool := ch = 0x32 || ch = 0x33

/-- The other feed. -/
def otherFeed (ch : Nat) : Nat := if ch = 0x32 then 0x33 else 0x32

/-- The branch of a slot. -/
def State.branch (s : State) (slot : Nat) : Chan := s.chan (branchCh slot)

/-- A slot's branch is ON and no commanded opening of it has begun (R366, R368). -/
def State.branchOn (s : State) (slot : Nat) : Bool := (s.branch slot).cstate = .on && !(s.branch slot).openDue

/-- A feed is ON (R372). -/
def State.feedOn (s : State) : Bool := (s.chan 0x32).cstate = .on || (s.chan 0x33).cstate = .on

/-- The slot is parked, by escalation or by the grid (R77, R119). -/
def State.parked (s : State) (slot : Nat) : Bool := s.gov.esc.escParked.testBit slot || s.gov.esc.gridParked.testBit slot

/-- Set a bit of a mask. -/
def setBit (m n : Nat) (v : Bool) : Nat := if m.testBit n then (if v then m else m - 2 ^ n) else (if v then m + 2 ^ n else m)

/-- Change a power channel; a change of its CSTATE is a change of the keeper channel (R180, R383). -/
def State.setChan (s : State) (ch : Nat) (f : Chan → Chan) : State :=
  let t := s.modChan ch f
  if (t.chan ch).cstate = (s.chan ch).cstate then t else t.signalChannel ch

/-- Complete a command that waits on a journal entry; 0 waits for none. -/
def State.completeIf (s : State) (jseq status : Nat) (res : List Nat) : State := if jseq = 0 then s else s.complete jseq status res

/-- End the commands that wait on a channel: a closing with ABANDONED, a trip reset with its own status (R287, R371). -/
def State.endChanWaits (s : State) (ch : Nat) (resetStatus resetRes : Nat) : State :=
  let c := s.chan ch
  let s := s.modChan ch fun c => { c with closeJseq := [], resetJseq := 0 }
  (c.closeJseq.foldl (fun s j => s.complete j 0x0504 []) s).completeIf c.resetJseq resetStatus [resetRes]

/-- The governor slot of a branch that left ON: it takes no part in the allocation until the next accelerator start (R59, R368). -/
def GovSlot.leave (g : GovSlot) : GovSlot :=
  { g with started := false, recent := [], descend := none, overAllot := false, allot := 0, satSince := none }

/-- A slot's branch leaves ON: it leaves the allocation on both bays; a park of that slot under way is dropped (R75, R368). -/
def State.leaveOn (s : State) (slot : Nat) : State :=
  let s := (s.modGovSlot 0 slot GovSlot.leave).modGovSlot 1 slot GovSlot.leave
  let s := (s.modView slot 0 fun v => { v with seen := false }).modView slot 1 fun v => { v with seen := false }
  if s.gov.esc.state = .parking && s.gov.esc.parkSlot = slot then
    ((s.modEsc fun e => { e with state := .shed, since := s.now }).modGovSlot 0 slot fun g => { g with quiesce := false }).modGovSlot 1 slot
      fun g => { g with quiesce := false }
  else s

/-- Complete the commanded openings that wait for a channel's gate to be pulled (R279, R366). -/
def State.endOpenings (s : State) (ch : Nat) : State :=
  ((s.chan ch).openJseq.foldl (fun s j => s.ok j) s).modChan ch fun c => { c with openJseq := [] }

/-- The gate of a channel is pulled; an accelerator behind a branch loses its power (R366, R369). -/
def State.pullGate (s : State) (ch : Nat) (st : CState) : State :=
  let s := (s.endOpenings ch).setChan ch fun c => { c with gate := false, gateOffTime := s.now, pg := false, openDue := false, limited := false, cstate := st }
  if isBranch ch then s.modAccel (slotOfCh ch) fun _ => {} else s

/-- A commanded opening of a slot's branch: BRn_PG falls now and the gate is pulled 20 us later, at once where BRn_PG has been low that long;
a waiting retry is cancelled, and a closing that waits for an opening under way ends (R366, R379). -/
def State.commandOpen (s : State) (slot : Nat) : State :=
  let ch := branchCh slot
  let c := s.chan ch
  match c.cstate with
  | .inrush | .on =>
    if c.openDue then s.endChanWaits ch 0x0504 0 else
    let s := (s.leaveOn slot).endChanWaits ch 0x0504 0
    let s := s.modChan ch fun c => { c with pg := false, pgLowTime := if c.pg then s.now else c.pgLowTime, openDue := true }
    if !c.pg && s.passed c.pgLowTime 20000 && c.cstate = .on then s.pullGate ch .off else s
  | .tripped => (s.endChanWaits ch 0x0504 0).setChan ch fun c => { c with cstate := .off, retryDue := none }
  | _ => s

/-- Start the inrush ramp of a channel (R364). No gate is driven on before the tray is seated (R363) or in keeper-hold (R17). -/
def State.startInrush (s : State) (ch : Nat) : State :=
  if s.pwr.feed.seated && !s.own.latch.hold then
    let s := s.setChan ch fun c => { c with cstate := .inrush, gate := true, pg := false, rampStart := s.now, limited := false, retryDue := none, openDue := false, readySince := none }
    if isBranch ch then s.modAccel (slotOfCh ch) fun _ => {} else s
  else s

/-- A slot's branch may be closed by the owner: it is OFF, the slot is not parked and no thermal hold stands on it (R366, R367, R395). -/
def State.mayClose (s : State) (slot : Nat) : Bool :=
  (s.branch slot).cstate = .off && !s.parked slot && (s.thermal slot).hold = 0

/-- The closing of the branches at start goes on to the next slot once the branch before has left INRUSH (R367). -/
def State.advanceClosing (s : State) : State :=
  match s.pwr.feed.closing with
  | none => s
  | some n =>
    if 0 < n && (s.branch (n - 1)).cstate = .inrush then s
    else match (List.range 8).find? fun m => n ≤ m && s.mayClose m with
      | some m => (s.startInrush (branchCh m)).modFeed fun f => { f with closing := some (m + 1) }
      | none => s.modFeed fun f => { f with closing := none }

/-- The closing at start begins in the first cycle in which an owner serves, a feed is ON and the rail power-up at start has ended
(R367, R470). -/
def State.startClosing (s : State) : State :=
  if s.serving.isSome && s.feedOn && s.rail.seq.startDone && !s.pwr.feed.closingOn then
    (s.modFeed fun f => { f with closingOn := true, closing := some 0 }).advanceClosing
  else s.advanceClosing

/-! ### Power and energy of the channels -/

/-- Feed energy: the sum of both feeds' counts, uJ (R55, R362). -/
def State.feedEnergy (s : State) : Rat := (s.chan 0x32).energy + (s.chan 0x33).energy

/-- Sum of the eight branch energies, uJ (R55). -/
def State.branchEnergy (s : State) : Rat := ((List.range 8).map fun n => (s.branch n).energy).foldl (· + ·) 0

/-- The samples of a channel over a time up to now. -/
def State.latest (s : State) (ch t : Nat) : List Sample := (s.chan ch).samples.filter fun x => s.now < x.time + t

/-- Tray draw: mean feed power over the latest 100 us, W (R107). -/
def State.trayDraw (s : State) : Rat :=
  ratMean ((s.latest 0x32 100000).map Sample.power) + ratMean ((s.latest 0x33 100000).map Sample.power)

/-- Voltage of a feed as it reads now, mV. -/
def State.feedVolt (s : State) (ch : Nat) : Int := match (s.chan ch).samples with | x :: _ => x.volt | [] => 0

/-- EN_MASK: rails whose ENnn is driven high (R347). -/
def State.enMask (s : State) : Nat := (List.range 64).foldl (fun a n => if (s.rail_ n).en then a + 2 ^ n else a) 0

end Sys2Proof.Machine
end

