-- ==== Sys2Proof/Machine/OpChange.lean ====
section
/-!
DEFINITION. Operating points, droop and margins (R81 to R100): the order of steps, the change states on each bay, droop events and their
bursts, ageing readings, trims, and the commands that set their parameters.
-/
namespace Sys2Proof.Machine
open Sys2Proof

/-! ### Operating points -/

/-- The valid entries of a slot's table: those below the first invalid one (R81). -/
def State.opPoints (s : State) (slot : Nat) : List OpPoint := (s.calSlot slot).opTable.takeWhile (·.valid)

/-- Frequency rises strictly and voltage never falls with the index (R81). -/
def opOrdered (ps : List OpPoint) : Bool :=
  match ps with
  | a :: b :: r => a.fTable < b.fTable && a.vTable ≤ b.vTable && opOrdered (b :: r)
  | _ => true

/-- The governor may change the operating point of a slot: its table is present and in order (R81, R468). -/
def State.opTableOk (s : State) (slot : Nat) : Bool := s.loft.die.calPresent && !(s.opPoints slot).isEmpty && opOrdered (s.opPoints slot)

/-- The trim of a slot's point, in steps of 2.5 mV (R95). -/
def State.trimSteps (s : State) (slot p : Nat) : Int := (s.trimOf slot p).trim

/-- Apply R84 to the state reported: the next step of the change, or IDLE with none left. -/
def State.applyR84 (s : State) (bay slot : Nat) : State :=
  let c := s.chg bay slot
  let t := c.target.getD c.fIndex
  let vt := s.opVolt slot t (s.trimSteps slot t)
  let v := s.opVolt slot c.vIndex c.vTrim
  let ft := (s.opEntry slot t).fTable
  let f := (s.opEntry slot c.fIndex).fTable
  let step (volt : Bool) : State := s.modChg bay slot fun c => { c with
    cst := .stepping, stepVolt := volt, stepPoint := t, stepVgb := s.trimSteps slot t, stepNew := true, highSince := none, zeroSince := none }
  if !s.opTableOk slot then s.modChg bay slot fun c => { c with cst := .idle, target := none, trimDue := false }
  else if v < vt then step true
  else if ft ≠ f then step false
  else if vt < v then step true
  else s.modChg bay slot fun c => { c with cst := .idle, target := none, trimDue := false }

/-- The governor picks a target for a slot on one bay; it is taken up at once in IDLE, else after the step or the freeze (R87). -/
def State.pickTarget (s : State) (bay slot p : Nat) : State :=
  if !s.opTableOk slot then s
  else
    let s := s.modChg bay slot fun c => { c with target := some p, highSince := none, zeroSince := none }
    if (s.chg bay slot).cst = .idle then s.applyR84 bay slot else s

/-- OPC of the next command frame with the state after it (R85, R87, R91, R92): a step's code, 3 in a freeze, 4 once to resume. -/
def Chg.nextOpc (c : Chg) (now : Nat) (k2 : Word32) : Nat × Chg :=
  match c.cst with
  | .idle => (0, c)
  | .stepping =>
    (if c.stepVolt then 1 else 2, if c.stepNew then { c with stepNew := false, stepTime := now, stepFrom := k2 } else c)
  | .frozen =>
    if c.sendResume then (4, { c with cst := .resuming, sendResume := false, resumeTime := now, stepFrom := k2 })
    else (3, { c with lastBurst := c.lastBurst.orElse fun _ => some now })
  | .resuming => (0, c)
  | .halted =>
    if c.sendResume then (4, { c with sendResume := false, holdFrames := false })
    else if c.holdFrames then (3, { c with lastBurst := c.lastBurst.orElse fun _ => some now }) else (0, c)

/-- OP_TARGET of a frame: the point of the step, else the point in effect (R25, R86). -/
def Chg.opTarget (c : Chg) : Nat := if c.cst = .stepping then c.stepPoint else c.fIndex

/-- A counter frame accepted on a bay moves the change (R84, R85, R87, R92): the quantities in effect follow OP_INDEX and OPC_STEP, a
finished step leads to the next, and a new owner that reads OPC_FROZEN enters FROZEN. -/
def State.opcSees (s : State) (bay slot : Nat) (f : CounterFrame) : State :=
  let c := s.chg bay slot
  let fresh := wsAtOrAbove f.wseq c.stepFrom
  let moved (n : Nat) : Bool := f.opcStep.testBit n && !c.stepNew && fresh
  let vDone := moved 0 && c.stepVolt
  let s := s.modChg bay slot fun c => { c with
    vIndex := if moved 0 && (c.cst = .stepping || c.cst = .frozen || c.cst = .resuming) then c.stepPoint else f.opIndex
    fIndex := if moved 1 && (c.cst = .stepping || c.cst = .frozen || c.cst = .resuming) then c.stepPoint else f.opIndex
    vTrim := if vDone && !f.opcBusy then c.stepVgb else c.vTrim }
  match c.cst with
  | .stepping =>
    if !c.stepNew && fresh && !f.opcBusy && (if c.stepVolt then f.opcStep.testBit 0 else f.opcStep.testBit 1) then s.applyR84 bay slot
    else if (s.govSlot bay slot).firstFrame && f.opcFrozen then s.modChg bay slot fun c => { c with cst := .frozen, lastBurst := none }
    else s
  | .resuming => if fresh && !f.opcFrozen && !f.opcBusy then s.applyR84 bay slot else s
  | .idle =>
    if (s.govSlot bay slot).firstFrame && f.opcFrozen then s.modChg bay slot fun c => { c with cst := .frozen, lastBurst := none } else s
  | _ => s

/-- The state of the change at an accelerator start: IDLE, at the floor point (R38, R87). -/
def Chg.started (c : Chg) (index : Nat) : Chg := { bseq := c.bseq, droops := c.droops, lastFlag := c.lastFlag, vIndex := index, fIndex := index }

/-! ### Droop -/

/-- The burst frame of a droop event (R25, R89). -/
def State.burstOf (s : State) (slot : Nat) (bseq : Word32) : BurstFrame :=
  let g := s.govParam slot
  let f : BurstFrame := { slot := slot, dens := g.droopDens, len := g.droopLen, epoch := s.own.latch.epoch, bseq := bseq }
  { f with crc := burstCrc f }

/-- A droop event on a slot, on one bay: a burst frame, which only the owner's open lane carries, the freeze, the resume timer, and a
revocation trigger (R69, R87, R89, R91). -/
def State.droopEvent (s : State) (bay slot : Nat) : State :=
  let g := s.govParam slot
  let c := s.chg bay slot
  let b := s.burstOf slot (c.bseq + 1)
  let s := s.modChg bay slot fun c => { c with
    bseq := c.bseq + 1, lastBurst := some s.now, burstEnd := s.now + g.droopLen * 250, droops := c.droops + 1, sendResume := false
    cst := if c.cst = .halted then .halted else .frozen, holdFrames := c.cst = .halted || c.holdFrames, highSince := none, zeroSince := none }
  let s := s.modGovSlot bay slot fun x => { x with triggers := setBit x.triggers 4 true }
  if s.gateOpen bay then s.emit (.burst b) else s

/-- Two instants lie within 2 us of each other (R88). -/
def near (a b : Nat) : Bool := a ≤ b + 2000 && b ≤ a + 2000

/-- A counter frame accepted with DROOP = 1: the event, unless a flag within 2 us of its SNAP_TIME made it already (R88). -/
def State.droopFrame (s : State) (bay slot snap : Nat) : State :=
  let merged := match (s.chg bay slot).lastFlag with | some t => near t snap | none => false
  let s := s.modChg bay slot fun c => { c with lastFrame := some snap }
  if merged || !s.runs bay then s else s.droopEvent bay slot

/-- The keeper's droop-sense flag for a slot's branch, delivered to both bays (R11, R88). -/
def State.droopFlag (s : State) (slot : Nat) : State :=
  (List.range 2).foldl (fun s bay =>
    let merged := match (s.chg bay slot).lastFrame with | some t => near t s.now | none => false
    let s := s.modChg bay slot fun c => { c with lastFlag := some s.now }
    if merged || !s.runs bay then s else s.droopEvent bay slot) s

/-! ### Timers -/

/-- OPC_TIMEOUT passes in STEPPING or RESUMING: the change is abandoned, HALTED (R85, R87). -/
def execOpcTimeout (bay slot : Nat) (s : State) : Host.Outcome State Fault Refusal :=
  .next (let c := s.chg bay slot
  let t := (s.govParam slot).opcTimeout * 1000
  let hit := (c.cst = .stepping && !c.stepNew && s.passed c.stepTime t) || (c.cst = .resuming && s.passed c.resumeTime t)
  if !(s.runs bay && hit) then s
  else
    let s := s.modChg bay slot fun c => { c with cst := .halted, target := none, trimDue := false, holdFrames := false, sendResume := false }
    if s.isOwner bay then s.raise 0x010B [(1, slot), (1, c.stepPoint), (1, if c.cst = .resuming then 4 else if c.stepVolt then 1 else 2)] else s)

/-- DROOP_RESUME passes since the last burst frame: the next command frame resumes (R87, R91). -/
def execDroopResumeExpiry (bay slot : Nat) (s : State) : Host.Outcome State Fault Refusal :=
  .next (let c := s.chg bay slot
  match c.lastBurst with
  | some t =>
    if s.runs bay && (c.cst = .frozen || (c.cst = .halted && c.holdFrames)) && s.passed t ((s.govParam slot).droopResume * 1000) then
      s.modChg bay slot fun c => { c with sendResume := true }
    else s
  | none => s)

/-- OPDN_T passes with the commanded density at or above OPDN_DENS: one point down, never below the floor point (R78). -/
def execOpdnExpiry (bay slot : Nat) (s : State) : Host.Outcome State Fault Refusal :=
  .next (let c := s.chg bay slot
  match c.highSince with
  | some t =>
    if s.runs bay && c.cst = .idle && 0 < c.fIndex && s.passed t ((s.govParam slot).opdnT * 1000) then s.pickTarget bay slot (c.fIndex - 1) else s
  | none => s)

/-- OPUP_T passes with the commanded density at 0 and margin: one point up, never above the table or into a forbidden point (R78, R98). -/
def execOpupExpiry (bay slot : Nat) (s : State) : Host.Outcome State Fault Refusal :=
  .next (let c := s.chg bay slot
  match c.zeroSince with
  | some t =>
    if s.runs bay && c.cst = .idle && c.fIndex + 1 < (s.opPoints slot).length && !(s.trimOf slot (c.fIndex + 1)).forbidden &&
      s.passed t ((s.govParam slot).opupT * 1000) then s.pickTarget bay slot (c.fIndex + 1) else s
  | none => s)

/-! ### Margins -/

/-- No reading (R93). -/
def noMargin : Int := -32768

/-- The lower of a lowest margin and a reading. -/
def lowerMargin (l : Option Int) (m : Int) : Option Int := some (match l with | none => m | some x => min x m)

/-- One point's reading reaches the owner: the lowest margin follows; below MARGIN_CRIT the margin-critical event is raised and any point
but the floor point is forbidden, and lowered by one at once where the accelerator stands on it (R95, R98). -/
def State.marginRead (s : State) (who p : Nat) (m : Int) : State :=
  if m = noMargin then s
  else
    let t := s.trimOf who p
    let crit := (s.marginParam who).crit
    let was := match t.lowest with | some l => decide (l * 5 < crit) | none => false
    let s := s.modTrimOf who p fun t => { t with lowest := lowerMargin t.lowest m }
    if m * 5 < crit && !was then
      let s := s.raise 0x010D [(1, who), (1, p), (4, twos 32 (m * 5))]
      if p = 0 || 8 ≤ who then s
      else
        let s := s.modTrimOf who p fun t => { t with forbidden := true }
        (List.range 2).foldl (fun s bay => if s.runs bay && (s.chg bay who).fIndex = p then s.pickTarget bay who (p - 1) else s) s
    else s

/-- The owner reads the margin block of a running accelerator: one value a point, in units of 0.5 mV (R93, R95). -/
def execAgeingRead (slot : Nat) (margins : List Int) (s : State) : Host.Outcome State Fault Refusal :=
  .next (if s.serving.isSome && s.branchOn slot && (s.calSlot slot).marginPort.isSome then (margins.take 32).zipIdx.foldl (fun s x => s.marginRead slot x.2 x.1) s else s)

/-- A bay reads its own monitors; the standby's reading goes to the owner over the breezeway. An owner whose margin is critical yields to
a standby whose margin is not below target (R94, R99). -/
def execBayAgeingRead (bay : Nat) (margin : Int) (s : State) : Host.Outcome State Fault Refusal :=
  .next (if !(s.runs bay && s.serving.isSome && (s.isOwner bay || s.own.journal.breezeUp)) then s
  else
    let s := s.modBay bay fun b => if margin = noMargin then b else { b with margin := some margin, marginSeen := true }
    let s := s.marginRead (0x10 + bay) 0 margin
    let p := s.bay (peer bay)
    let ready := p.marginSeen && (match p.margin with | some m => (s.marginParam (0x10 + peer bay)).tgt ≤ m * 5 | none => false)
    if s.isOwner bay && margin ≠ noMargin && margin * 5 < (s.marginParam (0x10 + bay)).crit && ready then s.startHandover 0 none else s)

/-- GB_FACT of a slot's point or of a bay, in steps of 2.5 mV (R81, R95). -/
def State.guardband (s : State) (who p : Nat) : Int := if who < 8 then (s.opEntry who p).gbFact else Config.bayGuardband (who - 0x10)

/-- The trim that an evaluation gives: at most one step, within TRIM_MAX, GB_FLOOR and -320 mV (R96). -/
def State.evaluated (s : State) (who p : Nat) : Int :=
  let t := s.trimOf who p
  let m := s.marginParam who
  match t.lowest with
  | none => t.trim
  | some l =>
    if l * 5 < m.tgt then (if (t.trim + 1) * 25 ≤ m.trimMax then t.trim + 1 else t.trim)
    else if m.tgt + m.band + 25 ≤ l * 5 then
      (if (s.guardband who p + t.trim - 1) * 25 < m.gbFloor || (t.trim - 1) * 25 < -3200 then t.trim else t.trim - 1)
    else t.trim

/-- VOUT_COMMAND's code for a setpoint in units of 0.1 mV, none in a format the owner does not write (R428). -/
def voutCode (mode : Byte) (tenths : Int) : Option Nat :=
  let v : Rat := (tenths : Rat) / 10000
  if mode.toNat / 32 = 0 then some ((v / pow2 (signed 5 (mode.toNat % 32)) + 1 / 2).floor.toNat % 65536)
  else if mode.toNat / 32 = 3 then some (convertFloat 0xB 0 0 { m := .ofRat v }).code
  else none

/-- The owner writes a bay's trim to its supply regulator, clamped to 0.711 to 0.788 V; with no regulator set, or a format it does not
write, it raises the margin-unapplied event (R99, R427, R428, R492). -/
def State.writeVout (s : State) (bay : Nat) (trim : Int) : State :=
  let v := max 7110 (min 7880 (7500 + 25 * trim))
  let unapplied := s.raise 0x010E [(1, bay), (4, twos 32 (25 * trim))]
  match (s.marginParam (0x10 + bay)).regulator with
  | none => unapplied
  | some (port, addr) =>
    match voutCode (Config.regulatorMode bay) v with
    | none => unapplied
    | some c =>
      let data : List Byte := 0x21 :: leBytes 2 c
      let data := if (Config.regulatorCapability bay).getLsbD 7 then data ++ [crc8 (BitVec.ofNat 8 (addr * 2) :: data)] else data
      let d : TwDesc := { port := port, addr := addr, kind := 0, wlen := data.length, wdata := data, issuer := .vout bay (25 * trim) }
      (s.modBay bay fun b => { b with vout := v - 7500 }).modTwPort port fun p => p.enqueue d

/-- A journalled trim takes effect: by a voltage step where the point is in effect, at the first moment the slot is IDLE, or through the
next change to the point (R96, R97); a bay's through its regulator (R99). -/
def State.applyTrim (s : State) (who p : Nat) (trim : Int) : State :=
  let s := s.modTrimOf who p fun t => { t with trim := trim }
  if 8 ≤ who then s.writeVout (who - 0x10) trim
  else (List.range 2).foldl (fun s bay =>
    if (s.chg bay who).fIndex = p then s.modChg bay who fun c => { c with trimDue := true } else s) s

/-- 24 h after a point's last evaluation the owner evaluates it: the trim moves by at most one step, journalled and recorded, and a
forbidden mark clears at a margin at or above target. A bay's write that failed is made again (R96, R98, R99, R429). -/
def execTrimEvaluation (who point : Nat) (s : State) : Host.Outcome State Fault Refusal :=
  .next (let t := s.trimOf who point
  let known := (who < 8 && point < (s.opPoints who).length) || ((who = 0x10 || who = 0x11) && point = 0)
  if !(s.serving.isSome && known && s.passed t.evalTime 86400000000000) then s
  else
    let new := s.evaluated who point
    let good := match t.lowest with | some l => decide ((s.marginParam who).tgt ≤ l * 5) | none => false
    let s := s.modTrimOf who point fun t => { t with evalTime := s.now, lowest := none, forbidden := t.forbidden && !good }
    if new = t.trim then (if 8 ≤ who && (s.bay (who - 0x10)).voutFailed then s.writeVout (who - 0x10) new else s)
    else
      (s.journalChange (.trim who point new)).almanac (baySource s.formingBay) 0x8102
        [(1, who), (1, point), (4, twos 32 (25 * t.trim)), (4, twos 32 (25 * new)), (4, twos 32 (t.lowest.getD 0 * 5))])

/-! ### Commands -/

/-- The slots that a SLOT parameter names: one, or every slot (R275, R276). -/
def slotsOf (slot : Nat) : List Nat := if slot = 0xFE then List.range 8 else [slot]

/-- SLOT names one accelerator or every one (R275). -/
def slotOk (slot : Nat) : Bool := slot < 8 || slot = 0xFE

/-- SLOT of the margin commands: 0 to 7, every slot, or a bay (R284). -/
def whoOk (slot : Nat) : Bool := slotOk slot || slot = 0x10 || slot = 0x11

/-- GOV_SET_OP's checks (R100, R284). -/
def specGovSetOp (_h : CmdHdr) (slot clear timeout : Nat) (_s : State) : CmdSpec :=
  { opcode := 0x010E, plen := 8, params := [inRange (slotOk slot) 0, switchOk clear 1, inRange (20 ≤ timeout && timeout ≤ 5000) 4] }

/-- GOV_SET_OP: OPC_TIMEOUT; CLEAR leaves HALTED (R85, R87). A freeze that still holds goes on in FROZEN. -/
def effGovSetOp (j slot clear timeout : Nat) (s : State) : State :=
  ((slotsOf slot).foldl (fun s sl =>
    let s := s.modGovParam sl fun g => { g with opcTimeout := timeout }
    if clear = 1 then
      (List.range 2).foldl (fun s bay => s.modChg bay sl fun c =>
        if c.cst = .halted then { c with cst := if c.holdFrames || c.sendResume then .frozen else .idle, holdFrames := false } else c) s
    else s) s).ok j

/-- GOV_SET_OP (R85, R284). -/
def execGovSetOp (h : CmdHdr) (slot clear timeout : Nat) (s : State) : Host.Outcome State Fault Refusal :=
  .next (s.submit (.govSetOp h slot clear timeout) h (specGovSetOp h slot clear timeout s))

/-- GOV_SET_DROOP's checks (R100, R284). -/
def specGovSetDroop (_h : CmdHdr) (slot dens len resume di storm : Nat) (_s : State) : CmdSpec :=
  { opcode := 0x010F, plen := 16
    params := [inRange (slotOk slot) 0, inRange (64 ≤ dens && dens ≤ 240) 1, inRange (1 ≤ len && len ≤ 255) 2,
      inRange (10 ≤ resume && resume ≤ 1000) 4, inRange (4 ≤ di && di ≤ 60) 8, inRange (1 ≤ storm && storm ≤ 64) 12] }

/-- GOV_SET_DROOP (R100). -/
def effGovSetDroop (j slot dens len resume di storm : Nat) (s : State) : State :=
  ((slotsOf slot).foldl (fun s sl => s.modGovParam sl fun g => { g with
    droopDens := dens, droopLen := len, droopResume := resume, droopDi := di, droopStorm := storm }) s).ok j

/-- GOV_SET_DROOP (R100, R284). -/
def execGovSetDroop (h : CmdHdr) (slot dens len resume di storm : Nat) (s : State) : Host.Outcome State Fault Refusal :=
  .next (s.submit (.govSetDroop h slot dens len resume di storm) h (specGovSetDroop h slot dens len resume di storm s))

/-- The range of a margin item, in units of 0.1 mV; a regulator is a port and an address, or 0xFFFF (R100, R284). -/
def marginItemOk (item : Nat) (value : BitVec 32) : Bool :=
  let v := value.toInt
  match item with
  | 0 => 50 ≤ v && v ≤ 500
  | 1 => 25 ≤ v && v ≤ 250
  | 2 => 0 ≤ v && v ≤ 200
  | 3 => 50 ≤ v && v ≤ 500
  | 4 => 0 ≤ v && v ≤ 1000
  | 5 => value = 0xFFFF || (value.toNat / 256 < 24 && 0x08 ≤ value.toNat % 256 && value.toNat % 256 ≤ 0x77)
  | _ => true

/-- GOV_SET_MARGIN's checks; the regulator is a bay's only (R100, R284). -/
def specGovSetMargin (_h : CmdHdr) (slot item : Nat) (value : BitVec 32) (_s : State) : CmdSpec :=
  { opcode := 0x0110, plen := 8
    params := [inRange (whoOk slot) 0, inRange (item < 6) 1, inRange (marginItemOk item value) 4,
      joint (!(item = 5 && slotOk slot)) 0] }

/-- GOV_SET_MARGIN (R100). -/
def effGovSetMargin (j slot item : Nat) (value : BitVec 32) (s : State) : State :=
  ((slotsOf slot).foldl (fun s who => s.modMarginParam who fun m =>
    match item with
    | 0 => { m with tgt := value.toInt }
    | 1 => { m with band := value.toInt }
    | 2 => { m with crit := value.toInt }
    | 3 => { m with gbFloor := value.toInt }
    | 4 => { m with trimMax := value.toInt }
    | _ => { m with regulator := if value = 0xFFFF then none else some (value.toNat / 256, value.toNat % 256) }) s).ok j

/-- GOV_SET_MARGIN (R100, R284). -/
def execGovSetMargin (h : CmdHdr) (slot item : Nat) (value : BitVec 32) (s : State) : Host.Outcome State Fault Refusal :=
  .next (s.submit (.govSetMargin h slot item value) h (specGovSetMargin h slot item value s))

/-- GOV_TRIM_RESET's checks. -/
def specGovTrimReset (_h : CmdHdr) (slot : Nat) (_s : State) : CmdSpec := { opcode := 0x0111, plen := 1, params := [inRange (whoOk slot) 0] }

/-- GOV_TRIM_RESET: every trim of the slot or bay is 0, recorded, and the next evaluation comes 24 h later (R99). -/
def effGovTrimReset (j slot : Nat) (s : State) : State :=
  ((slotsOf slot).foldl (fun s who =>
    let n := if who < 8 then 32 else 1
    let s := (List.range n).foldl (fun s p =>
      let s := s.modTrimOf who p fun t => { t with evalTime := s.now }
      if (s.trimOf who p).trim = 0 then s else s.applyTrim who p 0) s
    s.almanac (baySource s.formingBay) 0x8103 [(1, who)]) s).ok j

/-- GOV_TRIM_RESET (R99, R284). -/
def execGovTrimReset (h : CmdHdr) (slot : Nat) (s : State) : Host.Outcome State Fault Refusal :=
  .next (s.submit (.govTrimReset h slot) h (specGovTrimReset h slot s))

end Sys2Proof.Machine
end

