-- ==== Sys2Proof/Machine/Rails.lean ====
section
/-!
DEFINITION. Rail sequencing (R333 to R347): the rail table, levels and dependants, power-up, shutdown, faults, the input-loss shutdown and
its return, and the rail commands and records.
-/
namespace Sys2Proof.Machine
open Sys2Proof

/-! ### The rail table -/

/-- A set of rails as a mask. -/
def railSet (p : Nat → Bool) : BitVec 64 := BitVec.ofNat 64 ((List.range 64).foldl (fun a n => if p n then a + 2 ^ n else a) 0)

/-- Repeat a growing change until it changes nothing. -/
def closure (fuel : Nat) (f : BitVec 64 → BitVec 64) (m : BitVec 64) : BitVec 64 :=
  match fuel with
  | 0 => m
  | n + 1 => if f m = m then m else closure n f (f m)

/-- A rail is used (R333). -/
def Rail.used (r : Rail) : Bool := r.riseTimeout ≠ 0

/-- SHEAF of a rail: its own number until one is set (R333). -/
def Rail.sheafOf (r : Rail) (nn : Nat) : Nat := r.sheaf.getD nn

/-- A rail is on: RISING or UP. -/
def Rail.isOn (r : Rail) : Bool := r.rstate = .rising || r.rstate = .up

/-- The rails of a set that are used. -/
def State.usedRails (s : State) : BitVec 64 := railSet fun n => (s.rail_ n).used

/-- The rails that are on. -/
def State.onRails (s : State) : BitVec 64 := railSet fun n => (s.rail_ n).isOn

/-- The parents of the rails of a set, with the set (R341). -/
def State.withParents (s : State) (m : BitVec 64) : BitVec 64 :=
  closure 64 (fun m => m ||| railSet fun n => (List.range 64).any fun k => m.getLsbD k && (s.rail_ k).used && (s.rail_ k).parents.contains n) m

/-- The sheaf partners of the rails of a set, with the set (R335). -/
def State.withPartners (s : State) (m : BitVec 64) : BitVec 64 :=
  m ||| railSet fun n => (s.rail_ n).used && (List.range 64).any fun k =>
    m.getLsbD k && (s.rail_ k).used && (s.rail_ k).sheafOf k = (s.rail_ n).sheafOf n

/-- The dependants of the rails of a set: every used rail with one of them as parent, to any depth (R335). -/
def State.dependants (s : State) (m : BitVec 64) : BitVec 64 :=
  closure 64 (fun d => d ||| railSet fun n => (s.rail_ n).used && (s.rail_ n).parents.any fun p => (m ||| d).getLsbD p) 0

/-- The level of a rail: 0 without parents, else 1 more than the highest of its parents (R335). -/
def State.level (s : State) (fuel nn : Nat) : Nat :=
  match fuel with
  | 0 => 0
  | f + 1 => match (s.rail_ nn).parents with
    | [] => 0
    | ps => 1 + ps.foldl (fun a p => max a (s.level f p)) 0

/-- The level of a rail's sheaf: the highest among its used members (R335). -/
def State.sheafLevel (s : State) (nn : Nat) : Nat :=
  (List.range 64).foldl (fun a n =>
    if (s.rail_ n).used && (s.rail_ n).sheafOf n = (s.rail_ nn).sheafOf nn then max a (s.level 64 n) else a) (s.level 64 nn)

/-- The safe floor: the park rail set with every parent of its rails (R341). -/
def State.safeFloor (s : State) : BitVec 64 := s.withParents s.grid.parkRails

/-- RSTATE of a rail as its status word codes it (R346). -/
def Rail.code (r : Rail) : Nat :=
  if !r.used then 0 else match r.rstate with
    | .off => 1 | .rising => 2 | .up => 3 | .falling => 4 | .fault => 5

/-! ### Switching -/

/-- Switch a rail on: ENnn high and the rise timer starts; an input that is counted up already makes it UP at once (R336). -/
def State.railOn (s : State) (nn : Nat) : State :=
  (s.modRail_ nn fun r => { r with
    en := true, released := false, cause := 0, stray := false, riseStart := s.now, riseUs := if r.pg then 0 else r.riseUs
    rstate := if r.pg then .up else .rising }).signalChannel (0x54 + nn)

/-- CAUSE that a shutdown of a kind leaves: parent lost where a parent is no longer on (R336, R346). -/
def State.offCause (s : State) (nn : Nat) : Nat :=
  if (s.rail_ nn).parents.any fun p => !(s.rail_ p).isOn then 4
  else match s.rail.seq.kind with | .inputLoss => 5 | .commanded => 6 | _ => 4

/-- Switch a rail off: ENnn low, FALLING (R336). -/
def State.railOff (s : State) (nn : Nat) : State :=
  (s.modRail_ nn fun r => { r with en := false, rstate := .falling, cause := s.offCause nn }).signalChannel (0x54 + nn)

/-- A rail of a set is in a state. -/
def State.anyRail (s : State) (m : BitVec 64) (st : RailState) : Bool := (List.range 64).any fun n => m.getLsbD n && (s.rail_ n).rstate = st

/-- The parents of every member of a rail's sheaf are counted up (R337). -/
def State.sheafReady (s : State) (nn : Nat) : Bool :=
  (List.range 64).all fun k => !((s.rail_ k).used && (s.rail_ k).sheafOf k = (s.rail_ nn).sheafOf nn) ||
    (s.rail_ k).parents.all fun p => (s.rail_ p).rstate = .up

/-- A rail of the set still to be switched on that cannot be: a parent of a member of its sheaf is neither on nor to be switched on
(R338, R340). -/
def State.railBlocked (s : State) (up : BitVec 64) (nn : Nat) : Bool :=
  (List.range 64).any fun k => (s.rail_ k).used && (s.rail_ k).sheafOf k = (s.rail_ nn).sheafOf nn &&
    (s.rail_ k).parents.any fun p => !((s.rail_ p).isOn || up.getLsbD p)

/-- The rails of the set that can still be switched on. -/
def State.unblocked (s : State) (up : BitVec 64) : BitVec 64 := closure 64 (fun m => railSet fun n => m.getLsbD n && !s.railBlocked m n) up

/-- Start a power-up over a set: rails that are off, and faulted ones of a set named (R336, R337). -/
def State.startUp (s : State) (m named : BitVec 64) : State :=
  let set := railSet fun n => m.getLsbD n && (s.rail_ n).used &&
    ((s.rail_ n).rstate = .off || (s.rail_ n).rstate = .falling || ((s.rail_ n).rstate = .fault && named.getLsbD n))
  s.modSeq fun q => { q with kind := .powerUp, upSet := set, seqSet := set }

/-- Start a commanded sequence (R340). -/
def State.startCommanded (s : State) (jseq : Nat) (mask : BitVec 64) (on faulted : Bool) : State :=
  let s := s.modSeq fun q => { q with jseq := jseq, faulted := faulted }
  if on then s.startUp (closure 64 (fun m => s.withParents (s.withPartners m)) (mask &&& s.usedRails)) mask
  else
    let base := s.withPartners (mask &&& s.usedRails)
    let set := (base ||| s.dependants base) &&& s.onRails
    s.modSeq fun q => { q with kind := .commanded, downSet := set, seqSet := set }

/-- A shutdown to the safe floor as a grid park makes it (R341). -/
def State.parkDown (s : State) : State :=
  let set := s.onRails &&& ~~~s.safeFloor
  s.modSeq fun q => { q with kind := .commanded, downSet := set, seqSet := set, jseq := 0, faulted := false, park := true }

/-- A sequence ended: the command that waits completes, with DEVICE_ERROR if a rail of it faulted (R340). -/
def State.endCommand (s : State) : State :=
  let q := s.rail.seq
  let s := s.modSeq fun q => { q with kind := .idle, upSet := 0, downSet := 0, seqSet := 0, jseq := 0, faulted := false, afterLoss := false, park := false }
  if q.faulted then s.completeIf q.jseq 0x0503 [0xFF] else s.completeIf q.jseq 0 []

/-- One move of the sequence under way, none where it waits (R337, R339, R340, R342, R343). -/
def State.railMove (s : State) : Option State :=
  let q := s.rail.seq
  let all : BitVec 64 := BitVec.allOnes 64
  if s.own.latch.hold || (q.kind = .inputLoss && !q.firstDone && q.downSet = 0) then none
  else if s.anyRail all .falling then none
  else if q.downSet &&& s.onRails ≠ 0 then
    let set := q.downSet &&& s.onRails
    let top := (List.range 64).foldl (fun a n => if set.getLsbD n then max a (s.sheafLevel n) else a) 0
    let s := (List.range 64).foldl (fun s n => if set.getLsbD n && s.sheafLevel n = top then s.railOff n else s) s
    some (s.modSeq fun q => { q with downSet := set &&& ~~~(railSet fun n => set.getLsbD n && !(s.rail_ n).isOn), levelTime := s.now })
  else match q.kind with
    | .idle | .safeFloor => match q.waitQ with
      | [] => none
      | (j, m, on, f) :: r => some ((s.modSeq fun q => { q with waitQ := r }).startCommanded j m on f)
    | .faultDown => some s.endCommand
    | .commanded => some (if q.park then s.endCommand.modSeq fun q => { q with kind := .safeFloor } else s.endCommand)
    | .inputLoss =>
      if !q.firstDone then none else
      let s := (s.modSeq fun q => { q with kind := .safeFloor, downSet := 0, floors := satAdd 32 q.floors 1 }).almanac 0 0x8402 [(1, 1), (8, s.enMask)]
      if q.returned then
        some ((s.startUp s.usedRails s.usedRails).modSeq fun q => { q with returned := false, afterLoss := true, shutStart := none, firstDone := false })
      else some s
    | .powerUp =>
      let up := s.unblocked q.upSet
      let ready := railSet fun n => up.getLsbD n && !(s.rail_ n).isOn && s.sheafReady n
      if ready ≠ 0 then
        let s := (List.range 64).foldl (fun s n => if ready.getLsbD n then s.railOn n else s) s
        some (s.modSeq fun q => { q with upSet := up &&& ~~~ready })
      else if up = 0 && !s.anyRail q.seqSet .rising then
        some (if q.startedUp && !q.startDone && q.jseq = 0 then s.endCommand.modSeq fun q => { q with startDone := true } else s.endCommand)
      else if up = q.upSet then none
      else some (s.modSeq fun q => { q with upSet := up })

/-- Run the sequence as far as it goes now. -/
def State.railLoop (fuel : Nat) (s : State) : State :=
  match fuel with
  | 0 => s
  | n + 1 => match s.railMove with
    | none => s
    | some t => State.railLoop n t

/-- The sequence goes on as far as it can, and the closing of the branches with it (R337, R367, R470). -/
def State.railRun (s : State) : State := (State.railLoop 256 s).startClosing

/-- The power-up at start over every used rail begins in the first cycle with a feed ON (R337, R470); a shutdown under way goes to its end
first (R343). -/
def State.startRails (s : State) : State :=
  if s.rail.seq.startedUp || s.own.latch.hold then s
  else
    let s := s.modSeq fun q => { q with startedUp := true, startDone := false }
    if s.rail.seq.kind = .inputLoss then (s.modSeq fun q => { q with returned := true }).railRun
    else (s.startUp s.usedRails s.usedRails).railRun

/-! ### Faults -/

/-- A rail faults: it goes off at once, its dependants still on are shut down in order, those still to be switched on are not; the
rail-fault event and its record name it and the dependants (R336, R338, R339, R340). -/
def State.railFault (s : State) (nn cause : Nat) (release : Bool) : State :=
  let deps := s.dependants (1#64 <<< nn)
  let q := s.rail.seq
  let hit := deps &&& (s.onRails ||| q.upSet)
  let s := (s.modRail_ nn fun r => { r with rstate := .fault, cause := cause, en := false, released := r.released || release
                                            faults := satAdd 8 r.faults 1 }).signalChannel (0x54 + nn)
  let s := s.modSeq fun q => { q with
    upSet := q.upSet &&& ~~~(deps ||| (1#64 <<< nn)), downSet := q.downSet ||| (deps &&& s.onRails)
    faulted := q.faulted || (q.jseq ≠ 0 && q.seqSet.getLsbD nn)
    kind := if q.kind = .idle || q.kind = .safeFloor then .faultDown else q.kind }
  (s.raiseAndRecord 0 0x0405 [(1, nn), (8, hit.toNat)]).railRun

/-- PGnn is counted up: a RISING rail is UP with its rise time; with ENnn low STRAY is set (R336, R337). -/
def execPgCountedUp (rail : Nat) (s : State) : Host.Outcome State Fault Refusal :=
  .next (let r := s.rail_ rail
  if r.pg then s else
  let s := (s.modRail_ rail fun r => { r with
    pg := true, stray := r.stray || !r.en
    rstate := if r.rstate = .rising then .up else r.rstate, riseUs := if r.rstate = .rising then (s.now - r.riseStart) / 1000 else r.riseUs })
  (s.signalChannel (0x54 + rail)).railRun)

/-- PGnn is counted down: an UP rail drops out, a FALLING one is OFF (R336, R339). -/
def execPgCountedDown (rail : Nat) (s : State) : Host.Outcome State Fault Refusal :=
  .next (let r := s.rail_ rail
  if !r.pg then s else
  let s := (s.modRail_ rail fun r => { r with pg := false, rstate := if r.rstate = .falling then .off else r.rstate }).signalChannel (0x54 + rail)
  if r.rstate = .up && !s.own.latch.hold then s.railFault rail 2 false else s.railRun)

/-- RISE_TIMEOUT has passed since ENnn went high (R338). -/
def execRiseTimeoutExpiry (rail : Nat) (s : State) : Host.Outcome State Fault Refusal :=
  .next (let r := s.rail_ rail
  if r.rstate = .rising && s.passed r.riseStart (r.riseTimeout * 1000) && !s.own.latch.hold then s.railFault rail 1 false else s)

/-- 100 us after a level went off its rails are OFF and the next level goes off (R336, R339). -/
def execFallingExpiry (s : State) : Host.Outcome State Fault Refusal :=
  .next (if s.anyRail (BitVec.allOnes 64) .falling && s.passed s.rail.seq.levelTime 100000 then
    ((List.range 64).foldl (fun s n =>
      if (s.rail_ n).rstate = .falling then (s.modRail_ n fun r => { r with rstate := .off }).signalChannel (0x54 + n) else s) s).railRun
  else s)

/-- Three samples in a row of ENnn differ from its drive: the output is released, the rail faults with cause EN fight and its dependants
shut down (R345). -/
def execEnReadbackMismatch (rail : Nat) (s : State) : Host.Outcome State Fault Refusal :=
  .next (let r := s.rail_ rail
  if r.released || s.own.latch.hold then s
  else ((s.raise 0x0E04 [(2, 0x54 + rail)])).railFault rail 3 true)

/-! ### Input lost and returned -/

/-- Start the input-loss shutdown: a commanded sequence under way is pre-empted, and its rails still to be switched wait (R340, R342). -/
def State.startInputLoss (s : State) : State :=
  let q := s.rail.seq
  if q.kind = .inputLoss || s.own.latch.hold then s
  else
    let s := s.modSeq fun q => { q with
      waitQ := if q.jseq = 0 then q.waitQ else (q.jseq, if q.kind = .commanded then q.downSet else q.upSet, decide (q.kind ≠ .commanded), q.faulted) :: q.waitQ
      upSet := if q.jseq = 0 then q.upSet else 0, downSet := if q.kind = .commanded then 0 else q.downSet, jseq := 0, faulted := false
      kind := .inputLoss, shutStart := some s.now, firstDone := false, returned := false }
    s.almanac 0 0x8401 [(1, match s.pwr.feed.inUse with | some 0x33 => 1 | _ => 0), (8, s.enMask)]

/-- 250 us after its start the first level of the shutdown goes off; every branch still ON is opened, and the power-up that follows is
followed by the closing of the branches (R342, R343, R379). -/
def execShutdownFirstStep (s : State) : Host.Outcome State Fault Refusal :=
  .next (match s.rail.seq.kind, s.rail.seq.shutStart with
  | .inputLoss, some t =>
    if s.rail.seq.firstDone || !s.passed t 250000 || s.own.latch.hold then s
    else
      let s := (List.range 8).foldl (fun s n => if (s.branch n).cstate = .on || (s.branch n).cstate = .inrush then s.commandOpen n else s) s
      let s := s.modFeed fun f => { f with closing := none, closingOn := false }
      (s.modSeq fun q => { q with firstDone := true, upSet := 0, startedUp := true, startDone := false
                                  downSet := s.onRails &&& ~~~s.safeFloor }).railRun
  | _, _ => s)

/-- Every BRn_PG of a branch still ON is driven high again (R379). -/
def State.raisePg (s : State) : State :=
  if s.pwr.feed.noFeed then
    ((List.range 8).foldl (fun s n => if s.branchOn n then s.modChan (branchCh n) fun c => { c with pg := true } else s) s).modFeed
      fun f => { f with noFeed := false }
  else s

/-- A feed has stayed above its warning threshold for 50 us: before the decision point the shutdown aborts, after it the shutdown runs on
and a power-up of every used rail follows the safe floor (R343, R379). -/
def execInputReturned (channel : Nat) (s : State) : Host.Outcome State Fault Refusal :=
  .next (let q := s.rail.seq
  let good := isFeed channel && s.pwr.feed.seated && !s.own.latch.hold &&
    (match (s.chan channel).okSince with | some t => s.passed t 50000 | none => false)
  if !good then s
  else if q.kind = .inputLoss && !q.firstDone then
    let s := s.modSeq fun q => { q with
      kind := if q.upSet != 0 || s.anyRail q.seqSet .rising then .powerUp else if q.downSet != 0 then .faultDown else .idle
      shutStart := none, aborts := satAdd 32 q.aborts 1 }
    (s.raisePg.raise 0x0406 [(1, channel - 0x32)]).railRun
  else if q.kind = .inputLoss then s.modSeq fun q => { q with returned := true }
  else if q.kind = .safeFloor && q.shutStart.isSome then
    ((s.startUp s.usedRails s.usedRails).modSeq fun q => { q with afterLoss := true, shutStart := none, firstDone := false }).railRun
  else s)

/-! ### Status, record and commands -/

/-- The rail status word (R346). -/
def State.railWord (s : State) (nn : Nat) : Word64 :=
  let r := s.rail_ nn
  pack [(61, 3, r.code), (58, 3, r.cause), (57, 1, bit r.stray), (56, 1, bit (s.safeFloor.getLsbD nn)), (50, 6, r.sheafOf nn),
    (40, 8, s.level 64 nn), (32, 8, r.faults), (0, 32, r.riseUs)]

/-- SEQ of the rail record (R347). -/
def State.seqCode (s : State) : Nat :=
  match s.rail.seq.kind with
  | .idle => 0
  | .powerUp => if s.rail.seq.downSet ≠ 0 then 3 else 1
  | .commanded => 2 | .faultDown => 3 | .inputLoss => 4 | .safeFloor => 5

/-- A mask over the rails. -/
def State.railMask (s : State) (p : Rail → Bool) : Word64 := railSet fun n => p (s.rail_ n)

/-- The rail record (R347). -/
def State.railRecord (s : State) : List Word64 :=
  [pack [(56, 8, 0x35), (53, 3, s.seqCode)], s.railMask (·.en), s.railMask (·.pg), s.railMask fun r => r.rstate = .fault,
    s.railMask (·.stray), pack [(32, 32, s.rail.seq.aborts), (0, 32, s.rail.seq.floors)], 0, BitVec.ofNat 64 s.devNow]

/-- The rail record is posted every 100 ms and on a change of its masks, on telemetry rings subscribed to rails (R266, R347). -/
def execRailRecord (s : State) : Host.Outcome State Fault Refusal :=
  .next (if s.serving.isSome then s.telemetry 3 s.railRecord else s)

/-- The sheaves that a sheaf depends on through the parents of its members (R334). -/
def sheafReach (rt : Nat → Rail) (m : BitVec 64) : BitVec 64 :=
  railSet fun x => (List.range 64).any fun n => (rt n).used && m.getLsbD ((rt n).sheafOf n) && (rt n).parents.any fun p => (rt p).sheafOf p = x

/-- PWR_SET_RAIL's checks (R333, R334). Where a parent that is unused, the rail itself or in its own sheaf, or a loop, breaks R334 the
offset is that of PARENTS; an entry that makes a used rail's parent unused breaks it at RISE_TIMEOUT. -/
def specPwrSetRail (_h : CmdHdr) (rail sheaf : Nat) (parents : List Nat) (riseTimeout : Nat) (s : State) : CmdSpec :=
  let ps := parents.filter (· < 64)
  let rt := fun n => if n = rail then { s.rail_ rail with sheaf := some sheaf, parents := ps, riseTimeout := riseTimeout } else s.rail_ n
  let r := s.rail_ rail
  { opcode := 0x0403, plen := 16
    params := [inRange (rail < 64) 0, inRange (sheaf < 64) 1, inRange (parents.all fun p => p < 64 || p = 0xFF) 2,
      inRange (riseTimeout = 0 || (10 ≤ riseTimeout && riseTimeout ≤ 1000000)) 8,
      joint (ps.all fun p => (rt p).used && p ≠ rail && (rt p).sheafOf p ≠ sheaf) 2,
      joint (!(riseTimeout ≠ 0 && (closure 64 (fun m => m ||| sheafReach rt m) (sheafReach rt (1#64 <<< sheaf))).getLsbD sheaf)) 2,
      joint (!(riseTimeout = 0 && (List.range 64).any fun n => (rt n).used && (rt n).parents.contains rail)) 8]
    states := [rightState (!(r.isOn && ps.any fun p => !(s.rail_ p).isOn)) r.code] }

/-- PWR_SET_RAIL: the entry governs the next switching of the rail (R334). -/
def effPwrSetRail (j rail sheaf : Nat) (parents : List Nat) (riseTimeout : Nat) (s : State) : State :=
  (s.modRail_ rail fun r => { r with sheaf := some sheaf, parents := parents.filter (· < 64), riseTimeout := riseTimeout }).ok j

/-- PWR_SET_RAIL (R333, R334). -/
def execPwrSetRail (h : CmdHdr) (rail sheaf : Nat) (parents : List Nat) (riseTimeout : Nat) (s : State) : Host.Outcome State Fault Refusal :=
  .next (s.submit (.pwrSetRail h rail sheaf parents riseTimeout) h (specPwrSetRail h rail sheaf parents riseTimeout s))

/-- PWR_RAIL_CTRL's checks: BUSY while an input-loss shutdown or the power-up that follows it is under way (R340). -/
def specPwrRailCtrl (_h : CmdHdr) (_mask : BitVec 64) (on : Nat) (s : State) : CmdSpec :=
  { opcode := 0x0404, plen := 9, params := [switchOk on 8], states := [check (!(s.rail.seq.kind = .inputLoss || s.rail.seq.afterLoss)) 0x0206] }

/-- PWR_RAIL_CTRL: the keeper carries the sequences out one at a time, in JSEQ order (R340). -/
def effPwrRailCtrl (j : Nat) (mask : BitVec 64) (on : Nat) (s : State) : State :=
  (s.modSeq fun q => { q with waitQ := q.waitQ ++ [(j, mask, decide (on = 1), false)] }).railRun

/-- PWR_RAIL_CTRL (R340). -/
def execPwrRailCtrl (h : CmdHdr) (mask : BitVec 64) (on : Nat) (s : State) : Host.Outcome State Fault Refusal :=
  .next (s.submit (.pwrRailCtrl h mask on) h (specPwrRailCtrl h mask on s))

end Sys2Proof.Machine
end

