-- ==== Sys2Proof/Machine/Feeds.lean ====
section
/-!
DEFINITION. Feeds, hot insertion and branch fuses (R357 to R385): samples, ranges and energy, seating, inrush, trips and retries,
switchover, feed warning, status and records, and the power commands.
-/
namespace Sys2Proof.Machine
open Sys2Proof

/-! ### Measurement -/

/-- Full scale of the low range, mA (R359). -/
def lowScale (ch : Nat) : Int := if isFeed ch then 80000 else 10000

/-- The linear conversion limit of the high range, mA (R361). -/
def linearLimit (ch : Nat) : Int := if isFeed ch then 880000 else 110000

/-- A value clipped to a magnitude. -/
def clip (lim x : Int) : Int := max (-lim) (min lim x)

/-- Fill the samples that await interpolation between the last unflagged current and this one (R361): the newest n of the list. -/
def interpolate (n : Nat) (last this : Int) (xs : List Sample) : List Sample :=
  xs.zipIdx.map fun x => if x.2 < n then { x.1 with used := last + (this - last) * ((n - x.2 : Nat) : Int) / ((n : Int) + 1) } else x.1

/-- What feed VS tells: below, at or above the warning threshold, above it by 2.0 V, and validity (R372, R374, R378). -/
def Chan.seesVolt (c : Chan) (now : Nat) (mv : Int) : Chan :=
  let since (p : Bool) (o : Option Nat) : Option Nat := if p then some (o.getD now) else none
  let ok := (c.warn : Int) ≤ mv * 10
  let above := (c.warn : Int) + 20000 ≤ mv * 10
  { c with
    belowSince := since (!ok) c.belowSince, okSince := since ok c.okSince, aboveSince := since above c.aboveSince
    valid := c.valid && above, readySince := if above then c.readySince else none
    cstate := if !above && c.cstate = .ready then .off else c.cstate }

/-- One sample of a channel: its range and flag, the value that power and energy use, the energy count, and the next range (R359 to R362). -/
def Chan.sample (c : Chan) (ch now : Nat) (x : SenseIn) : Chan :=
  let cur := clip (if c.highRange then linearLimit ch else lowScale ch) x.current
  let atLow := !c.highRange && lowScale ch ≤ Int.natAbs cur
  let atHigh := c.highRange && linearLimit ch ≤ Int.natAbs cur
  let wait := atLow || c.rangeChanged
  let smp : Sample := { time := now, current := cur, volt := x.volt, used := cur, flagged := wait || atHigh }
  let old := if wait then c.samples else interpolate c.flagRun (c.lastGood.getD cur) cur c.samples
  let due := if wait then [] else smp :: old.take c.flagRun
  let small := decide ((Int.natAbs cur : Int) * 10 < lowScale ch * 6)
  let toHigh := !c.highRange && decide (lowScale ch * 9 ≤ (Int.natAbs cur : Int) * 10)
  let toLow := c.highRange && small && decide (15 ≤ c.lowRun)
  { c with
    samples := (smp :: old).take 101, flagRun := if wait then c.flagRun + 1 else 0, lastGood := if wait then c.lastGood else some cur
    energy := (due.map Sample.power).foldl (· + ·) c.energy
    highRange := (c.highRange || toHigh) && !toLow, rangeChanged := toHigh || toLow
    lowRun := if c.highRange && small && !toLow then c.lowRun + 1 else 0
    iMax := some (match c.iMax with | some m => max m cur | none => cur), iMin := some (match c.iMin with | some m => min m cur | none => cur) }

/-- The rise of a branch current over the sample 1 us earlier, mA (R88). -/
def Chan.riseMa (c : Chan) : Int :=
  match c.samples with
  | a :: b :: _ => if a.time = b.time + 1000 then a.current - b.current else 0
  | _ => 0

/-- A power channel (R357). -/
def isPower (ch : Nat) : Bool := isBranch ch || isFeed ch

/-- One channel's conversion: measurement, feed validity, and the droop-sense flag of a branch (R88, R359, R372). -/
def State.convert (s : State) (x : SenseIn) : State :=
  let ch := x.channel
  if !isPower ch then s
  else
    let s := s.setChan ch fun c => let c := c.sample ch s.now x; if isFeed ch then c.seesVolt s.now x.volt else c
    if isBranch ch && ((s.govParam (slotOfCh ch)).droopDi : Int) * 1000 ≤ (s.chan ch).riseMa then s.droopFlag (slotOfCh ch) else s

/-- The hold-up store level in % of a sensed voltage in mV (R493). -/
def holdupLevel (mv : Nat) : Nat := min 100 ((mv - 5000) * 100 / 11000)

/-- Every microsecond the keeper converts the current and the voltage of every channel (R359), and it senses the hold-up store (R493). -/
def execSenseSample (samples : List SenseIn) (vh : Option Nat) (s : State) : Host.Outcome State Fault Refusal :=
  .next (if s.sys.trimValid then
      let s := samples.foldl State.convert s
      match vh with
      | some mv => s.modSys fun p => { p with holdup := holdupLevel mv }
      | none => s
    else s)

/-- Every 60 s the keeper writes the ten energy counts to the Loft (R362). -/
def State.writeEnergy (s : State) : State :=
  s.modFeed fun f => { f with loftEnergy := (List.range 10).foldl (fun t n => tset t (0x2A + n) (s.chan (0x2A + n)).energy.floor) f.loftEnergy }

/-- The energy counts are written to the Loft (R362). -/
def execEnergyWriteback (s : State) : Host.Outcome State Fault Refusal := .next (if s.loftLost then s else s.writeEnergy)

/-! ### Feeds -/

/-- A feed whose gate may be driven: READY, and the other gate has read off for 40 us (R372, R373). -/
def State.feedFree (s : State) (ch : Nat) : Bool :=
  (s.chan ch).cstate = .ready && !(s.chan (otherFeed ch)).gate && !(s.chan (otherFeed ch)).gateRead &&
  s.passed (s.chan (otherFeed ch)).gateOffTime 40000

/-- A feed carries or is being turned on. -/
def Chan.busy (c : Chan) : Bool := c.cstate = .on || c.cstate = .inrush

/-- Seated with no feed ON the keeper starts the inrush ramp on feed A if it is READY, and on feed B otherwise (R372). -/
def State.feedAuto (s : State) : State :=
  if !s.pwr.feed.seated || s.own.latch.hold || s.pwr.feed.gateFault || s.pwr.feed.switchTo.isSome || (s.chan 0x32).busy || (s.chan 0x33).busy then s
  else if (s.chan 0x32).cstate = .ready then (if s.feedFree 0x32 then s.startInrush 0x32 else s)
  else if s.feedFree 0x33 then s.startInrush 0x33 else s

/-- No feed is left to carry the tray: every BRn_PG is driven low in this cycle, the branch gates stay (R379). -/
def State.noFeedLeft (s : State) : State :=
  ((List.range 8).foldl (fun s n =>
    if (s.branch n).pg then s.modChan (branchCh n) fun c => { c with pg := false, pgLowTime := s.now } else s) s).modFeed
    fun f => { f with noFeed := true }

/-- Start a switchover to the other feed: the gate of the feed in use is pulled, the other is driven after the both-off interval (R374). -/
def State.startSwitch (s : State) (src dst : Nat) : State :=
  let s := if (s.chan src).gate then s.pullGate src (if (s.chan src).valid then .ready else .off) else s
  let s := s.modChan src fun c => { c with readySince := if c.cstate = .ready then some s.now else none }
  s.modFeed fun f => { f with switchFrom := some src, switchTo := some dst }

/-- 40 us after the other gate read off, the new feed's gate is driven, limited to 95 % of its trip threshold and without a ramp; it
carries the tray from now on (R373, R374). -/
def execBothOffExpiry (s : State) : Host.Outcome State Fault Refusal :=
  .next (match s.pwr.feed.switchTo with
  | none => s.feedAuto
  | some f =>
    if s.own.latch.hold || s.pwr.feed.gateFault then s
    else if (s.chan f).cstate ≠ .ready then
      let s := (s.modFeed fun x => { x with switchTo := none, inUse := none }).noFeedLeft
      if s.pwr.feed.warnPin then s.startInputLoss else s
    else if s.feedFree f then
      let s := s.setChan f fun c => { c with cstate := .inrush, gate := true, limited := true, rampStart := s.now, readySince := none }
      s.modFeed fun x => { x with switchTo := none, switchTime := s.now, inUse := some f }
    else s)

/-- FEED of a payload: 0 feed A, 1 feed B. -/
def feedNo (ch : Nat) : Nat := ch - 0x32

/-- 20 us below the warning threshold FEED_WARN_N asserts, with its event and record; the tray moves to the other feed if it is READY,
else every BRn_PG falls and the input-loss shutdown starts (R342, R374, R378, R379). -/
def State.warnAssert (s : State) (f : Nat) : State :=
  let s := (s.modFeed fun x => { x with warnPin := true }).raiseAndRecord 0 0x0404 [(1, feedNo f), (4, twos 32 (s.feedVolt f * 10))]
  if (s.chan (otherFeed f)).cstate = .ready && (s.chan f).cstate = .on && !s.own.latch.hold then s.startSwitch f (otherFeed f)
  else if (s.chan (otherFeed f)).cstate = .ready then s
  else s.noFeedLeft.startInputLoss

/-- The feed in use has been below its warning threshold for 20 us and FEED_WARN_N is not asserted (R378). -/
def State.warnDue (s : State) : Option Nat :=
  match s.pwr.feed.inUse with
  | some f =>
    match (s.chan f).belowSince with
    | some t => if s.passed t 20000 && !s.pwr.feed.warnPin && (s.chan f).gate then some f else none
    | none => none
  | none => none

/-- FEED_WARN_N deasserts once a feed at or above its threshold has carried the tray for 50 us (R378). -/
def execFeedWarnDeassert (s : State) : Host.Outcome State Fault Refusal :=
  .next (match s.pwr.feed.inUse with
  | some f =>
    let c := s.chan f
    match c.okSince with
    | some t =>
      if s.pwr.feed.warnPin && c.gate && s.passed t 50000 && s.passed c.rampStart 50000 then
        let s := s.modFeed fun x => { x with warnPin := false }
        let s := s.modChan (otherFeed f) fun c => { c with readySince := if c.cstate = .ready then some s.now else c.readySince }
        if s.rail.seq.kind = .inputLoss then s else s.raisePg
      else s
    | none => s
  | none => s)

/-- A tray on feed B returns to feed A once feed A has been READY for 10 s with FEED_WARN_N deasserted (R376). -/
def execReturnToFeedA (s : State) : Host.Outcome State Fault Refusal :=
  .next (let a := s.chan 0x32
  match a.readySince with
  | some t =>
    if s.pwr.feed.inUse = some 0x33 && (s.chan 0x33).cstate = .on && a.cstate = .ready && !s.pwr.feed.warnPin && s.passed t 10000000000 &&
      s.pwr.feed.switchTo.isNone && !s.own.latch.hold && !s.pwr.feed.gateFault then s.startSwitch 0x33 0x32
    else s
  | none => s)

/-- VS has stayed at or above the warning threshold plus 2.0 V for 10 ms: the feed is valid, and READY with its gate off (R372). -/
def execFeedValid (channel : Nat) (s : State) : Host.Outcome State Fault Refusal :=
  .next (let c := s.chan channel
  match c.aboveSince with
  | some t =>
    if isFeed channel && !c.valid && s.passed t 10000000 then
      (s.setChan channel fun c => { c with
        valid := true, cstate := if c.cstate = .off then .ready else c.cstate
        readySince := if c.cstate = .off then some s.now else c.readySince }).feedAuto
    else s
  | none => s)

/-- A feed's gate reads on while it is driven off: GATE_FAULT, and neither gate is driven on afresh until a power cycle (R373). -/
def execGateFault (channel : Nat) (s : State) : Host.Outcome State Fault Refusal :=
  .next (let c := s.chan channel
  if isFeed channel && !c.gate && c.cstate ≠ .gateFault then
    let s := s.setChan channel fun c => { c with cstate := .gateFault, gateRead := true, cause := 4, readySince := none }
    (s.modFeed fun f => { f with gateFault := true, switchTo := none }).raise 0x0E04 [(2, channel)]
  else s)

/-! ### Seating -/

/-- The 100 ms count starts once both pins count as made and trim is valid (R363). -/
def State.seatCount (s : State) : State :=
  s.modFeed fun f => { f with madeTime := if f.seatA && f.seatB && s.sys.trimValid then some (f.madeTime.getD s.now) else none }

/-- A seating pin has been low for 20 us: it counts as made (R363). -/
def execSeatPinMade (pinB : Bool) (s : State) : Host.Outcome State Fault Refusal :=
  .next (((s.modFeed fun f => if pinB then { f with seatB := true } else { f with seatA := true }).signalChannel (0xAC + bit pinB)).seatCount)

/-- Both pins have counted as made for 100 ms: the tray is seated, and the start sequence begins from feed inrush (R363, R372, R382). -/
def execSeated (s : State) : Host.Outcome State Fault Refusal :=
  .next (match s.pwr.feed.madeTime with
  | some t =>
    if !s.pwr.feed.seated && s.passed t 100000000 && s.sys.trimValid then
      let s := s.modFeed fun f => { f with seated := true }
      let ready (s : State) (ch : Nat) : State := s.setChan ch fun c =>
        if c.cstate = .off && c.valid then { c with cstate := .ready, readySince := some s.now } else c
      (ready (ready s 0x32) 0x33).feedAuto
    else s
  | none => s)

/-- A channel when a seating pin breaks: its gate pulled, OFF, TRIPPED and LATCHED cleared; no trip is counted (R382). -/
def State.unseat (s : State) (ch : Nat) : State :=
  let c := s.chan ch
  let s := if isBranch ch && (c.cstate = .on || c.cstate = .inrush) then s.leaveOn (slotOfCh ch) else s
  let s := ((s.endOpenings ch).endChanWaits ch 0x0504 0).setChan ch fun c => { c with
    gate := false, gateOffTime := if c.gate then s.now else c.gateOffTime, pg := false, pgLowTime := if c.pg then s.now else c.pgLowTime
    openDue := false, limited := false, cause := if c.gate then 3 else c.cause, retryDue := none, readySince := none
    retriesLeft := if c.cstate = .latched then c.retries else c.retriesLeft, retryNo := if c.cstate = .latched then 0 else c.retryNo, cstate := .off }
  if isBranch ch then s.modAccel (slotOfCh ch) fun _ => {} else s

/-- A seating pin has been high for 20 us: it counts as broken. With any gate driven, every BRn_PG falls, every gate is pulled, FEED_WARN_N
asserts, every channel is OFF, and the input-loss shutdown runs (R382). -/
def execSeatPinBroken (pinB : Bool) (s : State) : Host.Outcome State Fault Refusal :=
  .next (let s := ((s.modFeed fun f => if pinB then { f with seatB := false, madeTime := none } else { f with seatA := false, madeTime := none }).signalChannel
    (0xAC + bit pinB))
  let driven := (List.range 10).any fun n => (s.chan (0x2A + n)).gate
  if s.own.latch.hold then s
  else if !driven then s.modFeed fun f => { f with seated := false }
  else
    let f := s.pwr.feed.inUse.getD 0x32
    let warned := s.pwr.feed.warnPin
    let s := (List.range 10).foldl (fun s n => s.unseat (0x2A + n)) s
    let s := s.modFeed fun x => { x with
      seated := false, warnPin := true, inUse := none, switchTo := none, closing := none, closingOn := false, noFeed := false }
    let s := s.modSeq fun q => { q with startedUp := false, startDone := false }
    let s := if warned then s else s.raiseAndRecord 0 0x0404 [(1, feedNo f), (4, twos 32 (s.feedVolt f * 10))]
    s.startInputLoss)

/-! ### Gates, trips and retries -/

/-- The feed that has just been turned on is ON and in use; after a switchover its event is raised (R364, R374). -/
def State.feedTurnedOn (s : State) (ch : Nat) (wasLimited : Bool) : State :=
  let from_ := s.pwr.feed.switchFrom.getD (otherFeed ch)
  let s := s.modFeed fun f => { f with inUse := some ch }
  let s := if wasLimited then
      (s.modFeed fun f => { f with switchovers := satAdd 32 f.switchovers 1, lastSw := s.now, switchFrom := none }).raise 0x0403 [(1, feedNo from_), (1, feedNo ch)]
    else s
  let s := if s.rail.seq.kind = .inputLoss then s else s.raisePg
  s.startRails.startClosing

/-- Full enhancement has been read for 100 us: the channel is ON. A branch's BRn_PG goes high and the commands that wait for it complete;
a feed starts the rail power-up, and the closing of the branches goes on (R364, R366, R367, R470). -/
def execGateFullyOn (channel : Nat) (s : State) : Host.Outcome State Fault Refusal :=
  .next (let c := s.chan channel
  if !(isPower channel && c.cstate = .inrush && !c.openDue && s.passed c.rampStart 100000) then s
  else
    let s := s.setChan channel fun c => { c with cstate := .on, pg := isFeed channel || !s.pwr.feed.noFeed, onSince := s.now, limited := false, closeJseq := [] }
    if isFeed channel then s.feedTurnedOn channel c.limited
    else
      let s := s.modAccel (slotOfCh channel) fun _ => { powered := true, safeDensity := 240, lapseDensity := 240, density := 240 }
      (c.closeJseq.foldl (fun s j => if s.pwr.chans.any fun x => x.2.closeJseq.contains j then s else s.ok j) s).advanceClosing)

/-- A feed latches off without a retry (R375). -/
def State.latchFeed (s : State) (ch : Nat) : State :=
  let s := if (s.chan ch).gate then s.pullGate ch .latched else s.setChan ch fun c => { c with cstate := .latched, retryDue := none }
  (s.modChan ch fun c => { c with retriesLeft := 0, readySince := none }).raiseAndRecord 0 0x0402 [(2, ch)]

/-- The feed in use has tripped: within 10 ms of a switchover both feeds latch off; else the tray moves to the other feed if it is READY,
and with none left every BRn_PG falls (R374, R375, R379). -/
def State.feedLost (s : State) (ch : Nat) (wasSwitch : Bool) : State :=
  if wasSwitch then (((s.latchFeed ch).latchFeed (otherFeed ch)).modFeed fun f => { f with inUse := none, switchTo := none }).noFeedLeft
  else if (s.chan (otherFeed ch)).cstate = .ready then s.startSwitch ch (otherFeed ch)
  else (s.modFeed fun f => { f with inUse := none }).noFeedLeft

/-- A trip: the gate is pulled and the trip counted. A trip in a commanded opening ends OFF; with no retries left the channel latches off;
else it waits for its next retry, 2^(k-1) s (R366, R368, R370, R371). -/
def State.trip (s : State) (ch cause current : Nat) : State :=
  let c := s.chan ch
  let s := if isBranch ch then s.leaveOn (slotOfCh ch) else s
  let s := s.endChanWaits ch 0x0503 0xFF
  let st : CState := if c.openDue then .off else if c.retriesLeft = 0 then .latched else .tripped
  let s := (s.pullGate ch st).modChan ch fun c => { c with
    trips := satAdd 16 c.trips 1, cause := cause, readySince := none, pgLowTime := s.now
    retryNo := if st = .tripped then c.retryNo + 1 else c.retryNo
    retryDue := if st = .tripped then some (s.now + 2 ^ c.retryNo * 1000000000) else none }
  let s := if st = .latched then s.raiseAndRecord 0 0x0402 [(2, ch)] else s.raiseAndRecord 0 0x0401 [(2, ch), (4, current), (1, c.retriesLeft)]
  if isBranch ch then s.advanceClosing
  else if s.pwr.feed.inUse = some ch && (c.cstate = .on || c.limited) then s.feedLost ch (s.pwr.feed.switchTime ≠ 0 && s.now < s.pwr.feed.switchTime + 10000000)
  else s.feedAuto

/-- The sense voltage crosses the trip threshold, in either direction: the gate is pulled within 1 us (R369). Until the settings are
loaded the comparators use their defaults. -/
def execFastTrip (channel current : Nat) (s : State) : Host.Outcome State Fault Refusal :=
  .next (let c := s.chan channel
  let thresh := if s.loft.die.loaded then c.thresh else (chanDefault channel).thresh
  if isPower channel && c.gate && (c.cstate = .on || c.cstate = .inrush) && thresh ≤ current then s.trip channel 1 current else s)

/-- The gate is not fully on within INRUSH_TIMEOUT of the start of the ramp: a trip (R364). -/
def execInrushTimeoutExpiry (channel : Nat) (s : State) : Host.Outcome State Fault Refusal :=
  .next (let c := s.chan channel
  if isPower channel && c.cstate = .inrush && !c.limited && !c.openDue && s.passed c.rampStart (c.inrushTimeout * 1000000) && !s.own.latch.hold then
    s.trip channel 2 (Int.natAbs (match c.samples with | x :: _ => x.current | [] => 0) / 1000)
  else s)

/-- A retry interval passes: a branch starts its inrush ramp, a feed is READY again if it is valid (R370, R375). No retry runs in
keeper-hold (R17). -/
def execTripRetry (channel : Nat) (s : State) : Host.Outcome State Fault Refusal :=
  .next (let c := s.chan channel
  match c.retryDue with
  | some t =>
    if c.cstate = .tripped && t ≤ s.now && !s.own.latch.hold then
      let s := s.modChan channel fun c => { c with retriesLeft := c.retriesLeft - 1, retryDue := none }
      if isFeed channel then
        (s.setChan channel fun c => { c with cstate := if c.valid then .ready else .off, readySince := if c.valid then some s.now else none }).feedAuto
      else s.startInrush channel
    else s
  | none => s)

/-- A channel has stayed ON for 60 s without a trip: its retry count is restored and a waiting PWR_RESET_TRIP completes (R370, R371). -/
def execRetryCountRestore (channel : Nat) (s : State) : Host.Outcome State Fault Refusal :=
  .next (let c := s.chan channel
  if isPower channel && c.cstate = .on && s.passed c.onSince 60000000000 then
    (s.modChan channel fun c => { c with retriesLeft := c.retries, retryNo := 0, resetJseq := 0 }).completeIf c.resetJseq 0 []
  else s)

/-- Once no branch is left to open in PARK_FUSES, the rails outside the park rail set shut down and the PARKED transition is journalled:
it takes effect in the window that the lead gives (R115, R235, R341). -/
def State.parkSettled (s : State) : State :=
  if s.grid.state = .parkFuses && (List.range 8).all fun n => (s.branch n).cstate ≠ .on && (s.branch n).cstate ≠ .inrush then
    let s := (s.modGrid fun g => { g with state := .parked, delayEnd := s.countAt (s.applyWindow * 2000) }).raise 0x0204 [(1, 3), (1, 4)]
    s.parkDown.railRun
  else s

/-- A closing that was commanded during an opening starts its inrush ramp once the gate has been pulled (R366). -/
def State.reclose (s : State) (slot : Nat) : State :=
  if (s.branch slot).closeJseq.isEmpty then s
  else
    let t := if s.mayClose slot then s.startInrush (branchCh slot) else s
    if (t.branch slot).cstate = .inrush then t else t.endChanWaits (branchCh slot) 0x0504 0

/-- 20 us after BRn_PG fell for a commanded opening, the gate is pulled (R366), but not in keeper-hold (R17). -/
def execCommandedOpenDelay (slot : Nat) (s : State) : Host.Outcome State Fault Refusal :=
  .next (let c := s.branch slot
  if slot < 8 && c.openDue && s.passed c.pgLowTime 20000 && !s.own.latch.hold then
    (((s.pullGate (branchCh slot) .off).reclose slot).advanceClosing).parkSettled
  else s)

/-! ### Status and records -/

/-- CSTATE's code (R383). -/
def CState.code : CState → Nat
  | .off => 0 | .ready => 1 | .inrush => 2 | .on => 3 | .tripped => 4 | .latched => 5 | .gateFault => 6

/-- The power channel record (R383). -/
def State.chanRecord (s : State) (ch : Nat) : List Word64 :=
  let c := s.chan ch
  let xs := s.latest ch 100000
  let below := isFeed ch && s.feedVolt ch * 10 < (c.warn : Int)
  let ms := match c.retryDue with | some t => (t - s.now + 999999) / 1000000 | none => 0
  [pack [(56, 8, ch), (53, 3, c.cstate.code), (52, 1, bit c.highRange), (51, 1, bit (xs.any (·.flagged))), (50, 1, bit c.pg), (49, 1, bit below),
      (46, 3, c.retriesLeft), (43, 3, c.cause), (0, 32, twos 32 (ratMean (xs.map fun (x : Sample) => (x.used : Rat))).floor)],
    pack [(32, 32, twos 32 (ratMean (xs.map fun (x : Sample) => (x.volt : Rat))).floor), (0, 32, twos 32 (ratMean (xs.map fun x => x.power * 1000)).floor)],
    BitVec.ofInt 64 c.energy.floor,
    pack [(48, 16, c.trips), (32, 16, c.thresh), (0, 32, ms)]]

/-- The tray power summary (R383). -/
def State.powerSummary (s : State) : List Word64 :=
  let f := s.pwr.feed
  [pack [(62, 2, match f.inUse with | some 0x32 => 1 | some _ => 2 | none => 0), (61, 1, bit f.warnPin), (60, 1, bit f.seatA), (59, 1, bit f.seatB),
      (58, 1, bit f.seated), (40, 8, s.sys.holdup), (0, 32, f.switchovers)],
    BitVec.ofNat 64 f.lastSw, BitVec.ofInt 64 (s.feedEnergy - s.branchEnergy).floor, 0, 0, 0, 0, 0]

/-- The 1,024 bytes that PWR_STATUS writes (R346, R383). -/
def State.powerStatus (s : State) : List Byte :=
  wordsBytes (s.chanRecord 0x32 ++ s.chanRecord 0x33 ++ ((List.range 8).flatMap fun n => s.chanRecord (branchCh n)) ++ s.powerSummary ++
    List.replicate 16 0 ++ (List.range 64).map s.railWord)

/-- Every 10 ms, and on a change of CSTATE, a channel's record is posted on telemetry rings subscribed to feeds and branches (R266, R384). -/
def execPowerChannelRecord (channel : Nat) (s : State) : Host.Outcome State Fault Refusal :=
  .next (if !(s.serving.isSome && isPower channel) then s
  else
    let c := s.chan channel
    let s := s.telemetry 2 ([pack [(56, 8, 0x34), (48, 8, channel)]] ++ s.chanRecord channel ++
      [pack [(32, 32, twos 32 (c.iMax.getD 0)), (0, 32, twos 32 (c.iMin.getD 0))], 0, BitVec.ofNat 64 s.devNow])
    s.modChan channel fun c => { c with iMax := none, iMin := none })

/-! ### Commands -/

/-- PWR_SET_TRIP's checks: a branch 80 to 160 A, a feed 600 to 1,000 A, RETRIES 0 to 7 (R287, R385). -/
def specPwrSetTrip (_h : CmdHdr) (channel thresh retries : Nat) (_s : State) : CmdSpec :=
  { opcode := 0x0400, plen := 9
    params := [inRange (if isFeed channel then 600 ≤ thresh && thresh ≤ 1000 else !isBranch channel || (80 ≤ thresh && thresh ≤ 160)) 4, inRange (retries ≤ 7) 8,
      exists' (isPower channel) 0] }

/-- PWR_SET_TRIP: the threshold applies at once; RETRIES below the retries left lowers them, and a channel that waits for a retry it no
longer has latches off (R371). -/
def effPwrSetTrip (j channel thresh retries : Nat) (s : State) : State :=
  let c := s.chan channel
  let s := s.modChan channel fun c => { c with thresh := thresh, retries := retries, retriesLeft := min c.retriesLeft retries }
  let s := if c.cstate = .tripped && min c.retriesLeft retries = 0 then
      (s.setChan channel fun c => { c with cstate := .latched, retryDue := none }).raiseAndRecord 0 0x0402 [(2, channel)]
    else s
  s.ok j

/-- PWR_SET_TRIP (R371). -/
def execPwrSetTrip (h : CmdHdr) (channel thresh retries : Nat) (s : State) : Host.Outcome State Fault Refusal :=
  .next (s.submit (.pwrSetTrip h channel thresh retries) h (specPwrSetTrip h channel thresh retries s))

/-- PWR_RESET_TRIP's checks: WRONG_STATE unless latched off (R287). -/
def specPwrResetTrip (_h : CmdHdr) (channel : Nat) (s : State) : CmdSpec :=
  { opcode := 0x0401, plen := 2, params := [exists' (isPower channel) 0]
    states := [rightState ((s.chan channel).cstate = .latched) (s.chan channel).cstate.code] }

/-- PWR_RESET_TRIP restores the count and starts the inrush ramp; it completes after 60 s ON, or at an earlier trip (R371). A feed's gate is
driven only while the other's is off (R373): else it is READY until it is called for. -/
def effPwrResetTrip (j channel : Nat) (s : State) : State :=
  if (s.chan channel).cstate ≠ .latched then s.complete j 0x0504 []
  else
    let s := s.modChan channel fun c => { c with retriesLeft := c.retries, retryNo := 0, resetJseq := j }
    if isBranch channel then s.startInrush channel
    else
      (s.setChan channel fun c => { c with cstate := if c.valid then .ready else .off, readySince := if c.valid then some s.now else none }).feedAuto

/-- PWR_RESET_TRIP (R371). -/
def execPwrResetTrip (h : CmdHdr) (channel : Nat) (s : State) : Host.Outcome State Fault Refusal :=
  .next (s.submit (.pwrResetTrip h channel) h (specPwrResetTrip h channel s))

/-- PWR_BRANCH's checks: not on a parked slot; on not with the branch TRIPPED or LATCHED or under a thermal hold (R287, R367, R395). -/
def specPwrBranch (_h : CmdHdr) (slot on : Nat) (s : State) : CmdSpec :=
  let c := s.branch slot
  { opcode := 0x0402, plen := 2, params := [inRange (slot < 8) 0, switchOk on 1]
    states := [rightState (!s.parked slot && !(on = 1 && (c.cstate = .tripped || c.cstate = .latched || (s.thermal slot).hold ≠ 0))) c.cstate.code] }

/-- PWR_BRANCH: off makes a commanded opening and completes once the gate is pulled; on starts the inrush ramp, after an opening under way,
and completes when the branch is ON (R279, R287, R366). -/
def effPwrBranch (j slot on : Nat) (s : State) : State :=
  let c := s.branch slot
  if s.own.latch.hold then s.complete j 0x0504 []
  else if on = 0 then
    let t := s.commandOpen slot
    if (t.branch slot).openDue then t.modChan (branchCh slot) fun c => { c with openJseq := c.openJseq ++ [j] } else t.ok j
  else if s.parked slot || (s.thermal slot).hold ≠ 0 then s.complete j 0x0504 []
  else if c.openDue then s.modChan (branchCh slot) fun c => { c with closeJseq := c.closeJseq ++ [j] }
  else match c.cstate with
    | .on => s.ok j
    | .inrush => s.modChan (branchCh slot) fun c => { c with closeJseq := c.closeJseq ++ [j] }
    | .off =>
      let s := s.startInrush (branchCh slot)
      if (s.branch slot).cstate = .inrush then s.modChan (branchCh slot) fun c => { c with closeJseq := c.closeJseq ++ [j] } else s.complete j 0x0504 []
    | _ => s.complete j 0x0504 []

/-- PWR_BRANCH (R287, R366). -/
def execPwrBranch (h : CmdHdr) (slot on : Nat) (s : State) : Host.Outcome State Fault Refusal :=
  .next (s.submit (.pwrBranch h slot on) h (specPwrBranch h slot on s))

/-- PWR_SET_WARN's checks: a feed, 40.0 to 52.0 V (R287, R385). -/
def specPwrSetWarn (_h : CmdHdr) (feed : Nat) (thresh : Int) (_s : State) : CmdSpec :=
  { opcode := 0x0405, plen := 8, params := [inRange (feed < 2) 0, inRange (400000 ≤ thresh && thresh ≤ 520000) 4] }

/-- PWR_SET_WARN (R385). -/
def effPwrSetWarn (j feed : Nat) (thresh : Int) (s : State) : State := (s.modChan (0x32 + feed) fun c => { c with warn := thresh.toNat }).ok j

/-- PWR_SET_WARN (R385). -/
def execPwrSetWarn (h : CmdHdr) (feed : Nat) (thresh : Int) (s : State) : Host.Outcome State Fault Refusal :=
  .next (s.submit (.pwrSetWarn h feed thresh) h (specPwrSetWarn h feed thresh s))

/-- PWR_STATUS's checks. -/
def specPwrStatus (_h : CmdHdr) (buf : Nat) (_s : State) : CmdSpec := { opcode := 0x0406, plen := 16, params := [bufAligned buf] }

/-- PWR_STATUS writes feed, branch, summary and rail records (R346, R383). -/
def effPwrStatus (j buf : Nat) (s : State) : State := (s.bufferOut j buf s.powerStatus).ok j

/-- PWR_STATUS (R383). -/
def execPwrStatus (h : CmdHdr) (buf : Nat) (s : State) : Host.Outcome State Fault Refusal :=
  .next (s.submit (.pwrStatus h buf) h (specPwrStatus h buf s))

end Sys2Proof.Machine
end

