-- ==== Sys2Proof/Machine/Almanac.lean ====
section
/-!
DEFINITION. The Almanac (R348 to R356): the keeper's writing of records to both Loft dies, the collapse of the input, the keeper's start,
and the commands LOG_READ and LOG_STATUS.
-/
namespace Sys2Proof.Machine
open Sys2Proof

/-- Slots of the ring in each die (R348). -/
def almSlots : Nat := 1048576

/-- Slots of an erase block (R348). -/
def almBlock : Nat := 4096

/-- Records that the keeper holds in its own memory (R356). -/
def almMemory : Nat := 1024

/-- A die before the write pointer enters a block: the block is erased (R348). -/
def eraseFor (d : Tbl AlmRec) (aseq : Nat) : Tbl AlmRec :=
  if aseq % almBlock = 0 then d.filter fun e => !(aseq % almSlots ≤ e.1 && e.1 < aseq % almSlots + almBlock) else d

/-- Write one record under the next ASEQ to every die that is not lost; the newest records stay in keeper memory (R349, R352, R356). -/
def State.writeRecord (s : State) (r : AlmRec) : State :=
  s.modAlm fun a =>
    let n := a.nextAseq
    let r := { r with aseq := n, single := s.loft.die.lost0 || s.loft.die.lost1, holdup := r.holdup || s.sys.collapsed }
    { a with
      die0 := if s.loft.die.lost0 then a.die0 else tset (eraseFor a.die0 n) (n % almSlots) r
      die1 := if s.loft.die.lost1 then a.die1 else tset (eraseFor a.die1 n) (n % almSlots) r
      memory := (r :: a.memory).take almMemory, nextAseq := n + 1 }

/-- A record of the keeper's own, formed as it is written. -/
def State.ownRecord (s : State) (code : Nat) (payload : List (Nat × Nat)) : AlmRec :=
  { ftime := s.fabNow, source := 0, code := code, epoch := s.own.latch.epoch, payload := bytesWords 4 (packPayload payload) }

/-- The keeper writes the next queued record to both dies, after a records-dropped record where any were dropped (R352). -/
def State.writeNext (s : State) : State :=
  match s.alm.queue with
  | [] => s
  | r :: q =>
    let s := if s.alm.dropped = 0 then s else
      (s.writeRecord (s.ownRecord 0x8A02 [(4, s.alm.dropped)])).modAlm fun a => { a with dropped := 0 }
    (s.modAlm fun a => { a with queue := q }).writeRecord r

/-- The keeper programs one record, once its start record is written and while it runs (R352, R354, R494). A controller reset that waited
for the hold-up writing takes effect when it ends (R477). -/
def execAlmanacWrite (s : State) : Host.Outcome State Fault Refusal :=
  .next (if s.alm.started && !s.sys.keeperStopped then
      let s := s.writeNext
      if s.sys.resetPending && s.alm.queue.isEmpty then s.resetController else s
    else s)

/-- A record arrives at a full queue: it is dropped and counted outside the queue (R352). -/
def execAlmanacDrop (source code : Nat) (payload : List (BitVec 8)) (s : State) : Host.Outcome State Fault Refusal :=
  .next (if 256 ≤ s.alm.queue.length then s.almanac source code (payload.map fun b => (1, b.toNat)) else s)

/-- The input collapses: the keeper takes no more records from the bays and the photonic die, writes the owner epoch and the energy counts,
and then its queued records while the store lasts (R224, R353, R362, R494). A shutdown that is not at the safe floor is recorded as
unfinished (R344). -/
def execHoldupCollapse (s : State) : Host.Outcome State Fault Refusal :=
  .next (if s.sys.collapsed || !s.sys.suppliesValid then s
  else
    let s := s.modSys fun p => { p with collapsed := true }
    let s := if s.loftLost then s else (s.modUpd fun u => { u with loftEpoch := s.own.latch.epoch }).writeEnergy
    if s.rail.seq.kind = .inputLoss then s.almanac 0 0x8402 [(1, 0), (8, s.enMask)] else s)

/-- The store falls to 5.0 V and the keeper stops; a record still to be written is cut and counts as torn (R353, R494). -/
def execHoldupExhausted (s : State) : Host.Outcome State Fault Refusal :=
  .next (if !s.sys.collapsed || s.sys.keeperStopped then s
  else
    let s := s.modSys fun p => { p with keeperStopped := true, holdup := 0 }
    match s.alm.queue with
    | [] => s.modAlm fun a => { a with prevOnHoldup := true }
    | r :: _ => s.modAlm fun a => { a with
        prevOnHoldup := false, queue := [], die0 := if s.loft.die.lost0 then a.die0 else tset (eraseFor a.die0 a.nextAseq) (a.nextAseq % almSlots) { r with torn := true } })

/-- The record that a slot gives on read-out: die 0, else die 1; a record whose ASEQ does not belong there is not one (R355, R356). -/
def State.almRead (s : State) (aseq : Nat) : Option AlmRec :=
  let good (d : Tbl AlmRec) (lost : Bool) : Option AlmRec :=
    if lost then none else match tfind d (aseq % almSlots) with
      | some r => if !r.torn && r.aseq = aseq then some r else none
      | none => none
  if s.loftLost then s.alm.memory.find? fun r => r.aseq = aseq
  else (good s.alm.die0 s.loft.die.lost0).orElse fun _ => good s.alm.die1 s.loft.die.lost1

/-- The highest ASEQ whose record passes on a die (R354). -/
def newestOf (d : Tbl AlmRec) : Nat := d.foldl (fun a e => if e.2.torn then a else max a e.2.aseq) 0

/-- Slots that hold something and pass on neither die (R354, R355). -/
def tornSlots (d0 d1 : Tbl AlmRec) : Nat :=
  ((d0.filter fun e => e.2.torn && (match tfind d1 e.1 with | some r => r.torn | none => true)).length) +
  ((d1.filter fun e => e.2.torn && (tfind d0 e.1).isNone).length)

/-- At start the keeper finds the newest record that passes; a slot that is not empty is left behind as torn; the first record written is
the keeper-start record (R354). -/
def execKeeperStart (s : State) : Host.Outcome State Fault Refusal :=
  .next (if s.alm.started || !s.sys.trimValid then s
  else
    let d0 := if s.loft.die.lost0 then [] else s.alm.die0
    let d1 := if s.loft.die.lost1 then [] else s.alm.die1
    let n := max (newestOf d0) (newestOf d1) + 1
    let left := ((tfind (eraseFor d0 n) (n % almSlots)).isSome || (tfind (eraseFor d1 n) (n % almSlots)).isSome)
    let t := tornSlots d0 d1
    let s := s.modAlm fun a => { a with nextAseq := if left then n + 1 else n, started := true, torn := t }
    s.writeRecord (s.ownRecord 0x8A01 [(1, bit s.alm.prevOnHoldup), (4, t)]))

/-! ### Commands -/

/-- The oldest ASEQ still in the ring: the newest 1,044,480 at least, back to the last block erased (R348, R356). -/
def State.almOldest (s : State) : Nat :=
  let newest := s.alm.nextAseq - 1
  if s.loftLost then max 1 (s.alm.nextAseq - s.alm.memory.length)
  else max 1 ((newest / almBlock + 1) * almBlock - almSlots)

/-- The 64 bytes of a record (R349). -/
def AlmRec.bytes (r : AlmRec) : List Byte :=
  let head := wordsBytes ([BitVec.ofNat 64 r.aseq, BitVec.ofNat 64 r.ftime, pack [(56, 8, r.source), (32, 16, r.code), (0, 32, r.epoch.toNat)]] ++
    (List.range 4).map fun i => r.payload.getD i 0)
  let tail := leBytes 4 (bit r.single * 2 ^ 31 + bit r.holdup * 2 ^ 30)
  head ++ tail ++ leBytes 4 (crc32c (head ++ tail)).toNat

/-- LOG_READ's checks (R291). -/
def specLogRead (_h : CmdHdr) (_start count buf : Nat) (_s : State) : CmdSpec :=
  { opcode := 0x0A00, plen := 24, params := [inRange (1 ≤ count && count ≤ 16384) 8, bufAligned buf] }

/-- Records from a sequence on, rising, up to a count, with the torn slots skipped and the next sequence to ask for; an
empty slot is not torn (R348, R355). -/
def State.almScan (s : State) (fuel aseq count : Nat) : List AlmRec × Nat × Nat :=
  match fuel with
  | 0 => ([], 0, aseq)
  | n + 1 =>
    if s.alm.nextAseq ≤ aseq || count = 0 then ([], 0, aseq)
    else match s.almRead aseq with
      | some r => let x := s.almScan n (aseq + 1) (count - 1); (r :: x.1, x.2.1, x.2.2)
      | none =>
        let held := !s.loftLost && ((!s.loft.die.lost0 && (tfind s.alm.die0 (aseq % almSlots)).isSome) ||
          (!s.loft.die.lost1 && (tfind s.alm.die1 (aseq % almSlots)).isSome))
        let x := s.almScan n (aseq + 1) count; (x.1, x.2.1 + bit held, x.2.2)

/-- LOG_READ: the records written contiguously; torn slots are skipped, counted, and raise the torn-records event (R355). -/
def effLogRead (j start count buf : Nat) (s : State) : State :=
  let a := max start s.almOldest
  let x := s.almScan (s.alm.nextAseq - a) a count
  let s := s.modAlm fun m => { m with torn := satAdd 32 m.torn x.2.1 }
  let s := if x.1.isEmpty then s else s.bufferOut j buf (x.1.flatMap AlmRec.bytes)
  let s := if x.2.1 = 0 then s else s.raiseSev s.formingBay 0x0A01 1 j [(4, x.2.1)]
  s.complete j 0 [x.1.length, x.2.1, x.2.2]

/-- LOG_READ (R355). -/
def execLogRead (h : CmdHdr) (start count buf : Nat) (s : State) : Host.Outcome State Fault Refusal :=
  .next (s.submit (.logRead h start count buf) h (specLogRead h start count buf s))

/-- LOG_STATUS's checks. -/
def specLogStatus (_h : CmdHdr) (_s : State) : CmdSpec := { opcode := 0x0A01, plen := 0 }

/-- LOG_STATUS: the oldest and the newest ASEQ and the torn slots found since start (R355). -/
def effLogStatus (j : Nat) (s : State) : State := s.complete j 0 [s.almOldest, s.alm.nextAseq - 1, s.alm.torn]

/-- LOG_STATUS (R355). -/
def execLogStatus (h : CmdHdr) (s : State) : Host.Outcome State Fault Refusal :=
  .next (s.submit (.logStatus h) h (specLogStatus h s))

end Sys2Proof.Machine
end

