-- ==== Sys2Proof/Machine/Barn.lean ====
section
/-!
DEFINITION. The Barn's arithmetic, memory and control instructions (R173 to R183, R186): each acts on one READY hand of a bay. The
row of an instruction is its issue; a hand that is not READY, or whose bay does not issue, does not issue it (R173).
-/
namespace Sys2Proof.Machine
open Sys2Proof

/-- ADD: rd = rs1 + rs2 (R183). -/
def execAdd (bay hand rd rs1 rs2 : Nat) (s : State) : Host.Outcome State Fault Refusal :=
  .next (s.issue bay hand fun h => h.result rd (aluR (fun a b => a + b) h rs1 rs2))

/-- SUB: rd = rs1 - rs2 (R183). -/
def execSub (bay hand rd rs1 rs2 : Nat) (s : State) : Host.Outcome State Fault Refusal :=
  .next (s.issue bay hand fun h => h.result rd (aluR (fun a b => a - b) h rs1 rs2))

/-- AND: rd = rs1 and rs2 (R183). -/
def execAnd (bay hand rd rs1 rs2 : Nat) (s : State) : Host.Outcome State Fault Refusal :=
  .next (s.issue bay hand fun h => h.result rd (aluR (fun a b => a &&& b) h rs1 rs2))

/-- OR: rd = rs1 or rs2 (R183). -/
def execOr (bay hand rd rs1 rs2 : Nat) (s : State) : Host.Outcome State Fault Refusal :=
  .next (s.issue bay hand fun h => h.result rd (aluR (fun a b => a ||| b) h rs1 rs2))

/-- XOR: rd = rs1 exclusive or rs2 (R183). -/
def execXor (bay hand rd rs1 rs2 : Nat) (s : State) : Host.Outcome State Fault Refusal :=
  .next (s.issue bay hand fun h => h.result rd (aluR (fun a b => a ^^^ b) h rs1 rs2))

/-- SHL: rd = rs1 shifted left by rs2[4:0] (R183). -/
def execShl (bay hand rd rs1 rs2 : Nat) (s : State) : Host.Outcome State Fault Refusal :=
  .next (s.issue bay hand fun h => h.result rd (aluR (fun a b => a <<< (b.toNat % 32)) h rs1 rs2))

/-- SHR: rd = rs1 shifted right by rs2[4:0] (R183). -/
def execShr (bay hand rd rs1 rs2 : Nat) (s : State) : Host.Outcome State Fault Refusal :=
  .next (s.issue bay hand fun h => h.result rd (aluR (fun a b => a >>> (b.toNat % 32)) h rs1 rs2))

/-- SRA: rd = rs1 shifted right with its sign by rs2[4:0] (R183). -/
def execSra (bay hand rd rs1 rs2 : Nat) (s : State) : Host.Outcome State Fault Refusal :=
  .next (s.issue bay hand fun h => h.result rd (aluR (fun a b => a.sshiftRight (b.toNat % 32)) h rs1 rs2))

/-- SLT: rd = 1 if rs1 < rs2 signed (R183). -/
def execSlt (bay hand rd rs1 rs2 : Nat) (s : State) : Host.Outcome State Fault Refusal :=
  .next (s.issue bay hand fun h => h.result rd (aluR (fun a b => if a.slt b then 1 else 0) h rs1 rs2))

/-- SLTU: rd = 1 if rs1 < rs2 unsigned (R183). -/
def execSltu (bay hand rd rs1 rs2 : Nat) (s : State) : Host.Outcome State Fault Refusal :=
  .next (s.issue bay hand fun h => h.result rd (aluR (fun a b => if a.ult b then 1 else 0) h rs1 rs2))

/-- MUL: rd = the low 32 bits of rs1 times rs2 (R183). -/
def execMul (bay hand rd rs1 rs2 : Nat) (s : State) : Host.Outcome State Fault Refusal :=
  .next (s.issue bay hand fun h => h.result rd (aluR (fun a b => a * b) h rs1 rs2))

/-- MULH: rd = the high 32 bits of the signed product (R183). -/
def execMulh (bay hand rd rs1 rs2 : Nat) (s : State) : Host.Outcome State Fault Refusal :=
  .next (s.issue bay hand fun h => h.result rd (aluR (fun a b => mulHigh a b) h rs1 rs2))

/-- MULHU: rd = the high 32 bits of the unsigned product (R183). -/
def execMulhu (bay hand rd rs1 rs2 : Nat) (s : State) : Host.Outcome State Fault Refusal :=
  .next (s.issue bay hand fun h => h.result rd (aluR (fun a b => mulHighU a b) h rs1 rs2))

/-- MIN: rd = the lesser, signed (R183). -/
def execMin (bay hand rd rs1 rs2 : Nat) (s : State) : Host.Outcome State Fault Refusal :=
  .next (s.issue bay hand fun h => h.result rd (aluR (fun a b => if a.slt b then a else b) h rs1 rs2))

/-- MAX: rd = the greater, signed (R183). -/
def execMax (bay hand rd rs1 rs2 : Nat) (s : State) : Host.Outcome State Fault Refusal :=
  .next (s.issue bay hand fun h => h.result rd (aluR (fun a b => if a.slt b then b else a) h rs1 rs2))

/-- ADDI: rd = rs1 + imm (R183). -/
def execAddi (bay hand rd rs1 : Nat) (imm : BitVec 18) (s : State) : Host.Outcome State Fault Refusal :=
  .next (s.issue bay hand fun h => h.result rd ((fun a : Word32 => (a + imm.signExtend 32 : Word32)) (h.reg rs1)))

/-- ANDI: rd = rs1 and imm, zero-extended (R183). -/
def execAndi (bay hand rd rs1 : Nat) (imm : BitVec 18) (s : State) : Host.Outcome State Fault Refusal :=
  .next (s.issue bay hand fun h => h.result rd ((fun a : Word32 => (a &&& imm.setWidth 32 : Word32)) (h.reg rs1)))

/-- ORI: rd = rs1 or imm, zero-extended (R183). -/
def execOri (bay hand rd rs1 : Nat) (imm : BitVec 18) (s : State) : Host.Outcome State Fault Refusal :=
  .next (s.issue bay hand fun h => h.result rd ((fun a : Word32 => (a ||| imm.setWidth 32 : Word32)) (h.reg rs1)))

/-- XORI: rd = rs1 exclusive or imm, zero-extended (R183). -/
def execXori (bay hand rd rs1 : Nat) (imm : BitVec 18) (s : State) : Host.Outcome State Fault Refusal :=
  .next (s.issue bay hand fun h => h.result rd ((fun a : Word32 => (a ^^^ imm.setWidth 32 : Word32)) (h.reg rs1)))

/-- SHLI: rd = rs1 shifted left by imm[4:0] (R183). -/
def execShli (bay hand rd rs1 : Nat) (imm : BitVec 18) (s : State) : Host.Outcome State Fault Refusal :=
  .next (s.issue bay hand fun h => h.result rd ((fun a : Word32 => (a <<< (imm.toNat % 32) : Word32)) (h.reg rs1)))

/-- SHRI: rd = rs1 shifted right by imm[4:0] (R183). -/
def execShri (bay hand rd rs1 : Nat) (imm : BitVec 18) (s : State) : Host.Outcome State Fault Refusal :=
  .next (s.issue bay hand fun h => h.result rd ((fun a : Word32 => (a >>> (imm.toNat % 32) : Word32)) (h.reg rs1)))

/-- SRAI: rd = rs1 shifted right with its sign by imm[4:0] (R183). -/
def execSrai (bay hand rd rs1 : Nat) (imm : BitVec 18) (s : State) : Host.Outcome State Fault Refusal :=
  .next (s.issue bay hand fun h => h.result rd ((fun a : Word32 => (a.sshiftRight (imm.toNat % 32) : Word32)) (h.reg rs1)))

/-- SLTI: rd = 1 if rs1 < imm signed (R183). -/
def execSlti (bay hand rd rs1 : Nat) (imm : BitVec 18) (s : State) : Host.Outcome State Fault Refusal :=
  .next (s.issue bay hand fun h => h.result rd ((fun a : Word32 => (if a.slt (imm.signExtend 32) then 1 else 0 : Word32)) (h.reg rs1)))

/-- LUI: rd = imm times 2^10 (R183). -/
def execLui (bay hand rd : Nat) (imm : BitVec 22) (s : State) : Host.Outcome State Fault Refusal :=
  .next (s.issue bay hand fun h => h.result rd (imm.setWidth 32 <<< 10))

/-- LW: rd = a 32-bit word at rs1 + imm (R175, R183, R207, R209). -/
def execLw (bay hand rd rs1 : Nat) (imm : BitVec 18) (ecc : Ecc) (s : State) : Host.Outcome State Fault Refusal :=
  .next (s.loadInto bay hand 4 rd (s.addressOf bay hand rs1 imm) ecc)

/-- LHU: rd = a 16-bit halfword, zero-extended at rs1 + imm (R175, R183, R207, R209). -/
def execLhu (bay hand rd rs1 : Nat) (imm : BitVec 18) (ecc : Ecc) (s : State) : Host.Outcome State Fault Refusal :=
  .next (s.loadInto bay hand 2 rd (s.addressOf bay hand rs1 imm) ecc)

/-- LD: rd = a 64-bit word, low half in rd, high half in rd + 1 at rs1 + imm (R175, R183, R207, R209). -/
def execLd (bay hand rd rs1 : Nat) (imm : BitVec 18) (ecc : Ecc) (s : State) : Host.Outcome State Fault Refusal :=
  .next (s.loadInto bay hand 8 rd (s.addressOf bay hand rs1 imm) ecc)

/-- SW: the 32-bit word at rs1 + imm = rs2 (R175, R183, R201, R209). -/
def execSw (bay hand rs2 rs1 : Nat) (imm : BitVec 18) (ecc : Ecc) (s : State) : Host.Outcome State Fault Refusal :=
  .next (s.storeFrom bay hand 4 rs2 (s.addressOf bay hand rs1 imm) ecc)

/-- SH: the 16-bit halfword at rs1 + imm = rs2[15:0] (R175, R183, R201, R209). -/
def execSh (bay hand rs2 rs1 : Nat) (imm : BitVec 18) (ecc : Ecc) (s : State) : Host.Outcome State Fault Refusal :=
  .next (s.storeFrom bay hand 2 rs2 (s.addressOf bay hand rs1 imm) ecc)

/-- SD: the 64-bit word at rs1 + imm = rs2, rs2 + 1 (R175, R183, R201, R209). -/
def execSd (bay hand rs2 rs1 : Nat) (imm : BitVec 18) (ecc : Ecc) (s : State) : Host.Outcome State Fault Refusal :=
  .next (s.storeFrom bay hand 8 rs2 (s.addressOf bay hand rs1 imm) ecc)

/-- AADD: rd = the word at rs1 + imm, which becomes word + rs2 (R175, R183, R202). -/
def execAadd (bay hand rd rs1 rs2 : Nat) (imm : BitVec 14) (ecc : Ecc) (s : State) : Host.Outcome State Fault Refusal :=
  .next (s.atomic bay hand 4 rd rs2 (s.addressOf bay hand rs1 imm) (fun old v => old + v) ecc)

/-- AADD64: rd, rd + 1 = the 64-bit word at rs1 + imm, which becomes word + (rs2, rs2 + 1) (R175, R183, R202). -/
def execAadd64 (bay hand rd rs1 rs2 : Nat) (imm : BitVec 14) (ecc : Ecc) (s : State) : Host.Outcome State Fault Refusal :=
  .next (s.atomic bay hand 8 rd rs2 (s.addressOf bay hand rs1 imm) (fun old v => old + v) ecc)

/-- ASWP: rd = the word at rs1 + imm, which becomes rs2 (R175, R183, R202). -/
def execAswp (bay hand rd rs1 rs2 : Nat) (imm : BitVec 14) (ecc : Ecc) (s : State) : Host.Outcome State Fault Refusal :=
  .next (s.atomic bay hand 4 rd rs2 (s.addressOf bay hand rs1 imm) (fun _ v => v) ecc)

/-- BEQ: PC = PC + off times 4 if rs1 and rs2 compare equal; else the next instruction (R183). -/
def execBeq (bay hand rs1 rs2 : Nat) (off : BitVec 18) (s : State) : Host.Outcome State Fault Refusal :=
  .next (s.issue bay hand fun h => h.branch ((fun a b : Word32 => a == b) (h.reg rs1) (h.reg rs2)) off)

/-- BNE: PC = PC + off times 4 if rs1 and rs2 compare not equal; else the next instruction (R183). -/
def execBne (bay hand rs1 rs2 : Nat) (off : BitVec 18) (s : State) : Host.Outcome State Fault Refusal :=
  .next (s.issue bay hand fun h => h.branch ((fun a b : Word32 => a != b) (h.reg rs1) (h.reg rs2)) off)

/-- BLT: PC = PC + off times 4 if rs1 and rs2 compare less, signed; else the next instruction (R183). -/
def execBlt (bay hand rs1 rs2 : Nat) (off : BitVec 18) (s : State) : Host.Outcome State Fault Refusal :=
  .next (s.issue bay hand fun h => h.branch ((fun a b : Word32 => a.slt b) (h.reg rs1) (h.reg rs2)) off)

/-- BGE: PC = PC + off times 4 if rs1 and rs2 compare at or above, signed; else the next instruction (R183). -/
def execBge (bay hand rs1 rs2 : Nat) (off : BitVec 18) (s : State) : Host.Outcome State Fault Refusal :=
  .next (s.issue bay hand fun h => h.branch ((fun a b : Word32 => !a.slt b) (h.reg rs1) (h.reg rs2)) off)

/-- BLTU: PC = PC + off times 4 if rs1 and rs2 compare less, unsigned; else the next instruction (R183). -/
def execBltu (bay hand rs1 rs2 : Nat) (off : BitVec 18) (s : State) : Host.Outcome State Fault Refusal :=
  .next (s.issue bay hand fun h => h.branch ((fun a b : Word32 => a.ult b) (h.reg rs1) (h.reg rs2)) off)

/-- BGEU: PC = PC + off times 4 if rs1 and rs2 compare at or above, unsigned; else the next instruction (R183). -/
def execBgeu (bay hand rs1 rs2 : Nat) (off : BitVec 18) (s : State) : Host.Outcome State Fault Refusal :=
  .next (s.issue bay hand fun h => h.branch ((fun a b : Word32 => !a.ult b) (h.reg rs1) (h.reg rs2)) off)

/-- JAL: rd = PC + 4; PC = PC + imm times 4 (R183). -/
def execJal (bay hand rd : Nat) (imm : BitVec 22) (s : State) : Host.Outcome State Fault Refusal :=
  .next (s.issue bay hand fun h => { h.setReg rd (h.pc + 4) with pc := h.pc + imm.signExtend 32 * 4 })

/-- JALR: rd = PC + 4; PC = rs1 + imm with bits [1:0] cleared (R183). -/
def execJalr (bay hand rd rs1 : Nat) (imm : BitVec 18) (s : State) : Host.Outcome State Fault Refusal :=
  .next (s.issue bay hand fun h => { h.setReg rd (h.pc + 4) with pc := (h.reg rs1 + imm.signExtend 32) &&& 0xFFFFFFFC#32 })

/-- WAIT: the pending slots of the mask go to rd and are cleared; with none pending the hand waits for one (R181). -/
def execWait (bay hand rd _rs1 : Nat) (imm : BitVec 18) (s : State) : Host.Outcome State Fault Refusal :=
  .next (s.issue bay hand fun h =>
    Hand.wakeOnEvent { h with pc := h.pc + 4, state := .wait, wait := some (.events (imm.setWidth 8) rd) })

/-- EVB: bind slot imm[2:0] to source rs1[15:0] and clear its pending bit (R180, R183). -/
def execEvb (bay hand _rd rs1 : Nat) (imm : BitVec 18) (s : State) : Host.Outcome State Fault Refusal :=
  .next (s.issue bay hand fun h =>
    let i := imm.toNat % 8
    { h with slots := tset h.slots i { tget h.slots i {} with source := (h.reg rs1).toNat % 65536, pending := false }, pc := h.pc + 4 })

/-- SIG: set pending on slot imm[2:0] of hand rs1 of this bay, whatever that slot's binding (R180, R183). -/
def execSig (bay hand _rd rs1 : Nat) (imm : BitVec 18) (s : State) : Host.Outcome State Fault Refusal :=
  .next (if s.issues bay hand then
    let target := ((s.hand bay hand).reg rs1).toNat % 4096
    (s.modHand bay hand fun h => { h with pc := h.pc + 4 }).modHand bay target fun h => h.post (imm.toNat % 8)
  else s)

/-- TSET: arm slot 7 one-shot or periodic with v = rs1 ns, or cancel it; a periodic v is at least 1,000 and any v at least 1 (R182). A
value outside its range is an illegal instruction (DEDUCED, log entry 21). -/
def execTset (bay hand _rd rs1 : Nat) (imm : BitVec 18) (s : State) : Host.Outcome State Fault Refusal :=
  .next (if s.issues bay hand then
    let v := ((s.hand bay hand).reg rs1).toNat
    let mode := imm.toNat % 4
    if mode = 3 || (mode = 0 && v = 0) || (mode = 1 && v < 1000) then s.handFault bay hand 1
    else s.modHand bay hand fun h =>
      if mode = 2 then { h with timerMode := 2, pc := h.pc + 4 }
      else { h with timerMode := mode, timerVal := v, timerDeadline := s.devNow + v, pc := h.pc + 4 }
  else s)

/-- TIME: rd, rd + 1 = device time in ns, read as one value (R183). -/
def execTime (bay hand rd _rs1 : Nat) (_imm : BitVec 18) (s : State) : Host.Outcome State Fault Refusal :=
  .next (s.issue bay hand fun h => { h.setPair rd s.devNow with pc := h.pc + 4 })

/-- YIELD: not ready for 8 times imm[9:0] cycles of 1.2 GHz; with 0, until every other ready hand of the core has issued once
(R183). YIELD_EXPIRY ends it. -/
def execYieldHand (bay hand _rd _rs1 : Nat) (imm : BitVec 18) (s : State) : Host.Outcome State Fault Refusal :=
  .next (s.issue bay hand fun h =>
    { h with pc := h.pc + 4, state := .wait, wait := some (.yielded (s.now + (8 * (imm.toNat % 1024) * 5 + 5) / 6)) })

/-- CKPT: write the record that does not hold the newest checkpoint; with imm[0] = 1 also mirror it, where the peer takes mirror
writes and the hand is not a shadow (R186). -/
def execCkpt (bay hand _rd _rs1 : Nat) (imm : BitVec 18) (s : State) : Host.Outcome State Fault Refusal :=
  .next (if s.issues bay hand then s.checkpoint bay hand (imm.toNat % 2 = 1) else s)

/-- HALT: cancel the timer; state HALTED (R179, R183). -/
def execHalt (bay hand _rd _rs1 : Nat) (_imm : BitVec 18) (s : State) : Host.Outcome State Fault Refusal :=
  .next (s.issue bay hand fun h => { h with timerMode := 2, state := .halted, pc := h.pc + 4 })

/-- SELF: rd = the item that imm[3:0] selects (R183, R223). -/
def execSelf (bay hand rd _rs1 : Nat) (imm : BitVec 18) (s : State) : Host.Outcome State Fault Refusal :=
  .next (s.issue bay hand fun h => h.result rd (s.selfItem bay hand (imm.toNat % 16)))

/-- An encoding that is in no table, or that has a reserved bit set, raises an illegal-instruction fault (R183, R187). A word that
does spell an instruction is that instruction's own row. -/
def execIllegalInstruction (bay hand : Nat) (word : BitVec 32) (s : State) : Host.Outcome State Fault Refusal :=
  .next (if s.issues bay hand && (decodeBarn bay hand word).isNone then s.handFault bay hand 1 else s)

/-- A granted Granary access completes and its hand is READY (R175, R176). -/
def execAccessDone (bay hand : Nat) (s : State) : Host.Outcome State Fault Refusal :=
  .next (if (s.hand bay hand).state = .wait && (s.hand bay hand).wait = some .access then
    s.modHand bay hand fun h => { h with state := .ready, wait := none } else s)

/-- A cache line arrives: it is valid in the hand's core, and a hand that waits for it is READY (R192). -/
def execIcacheLineFill (bay hand line : Nat) (s : State) : Host.Outcome State Fault Refusal :=
  .next (let s := s.modBarn fun b => { b with icache := tset b.icache (bay * 32 + hand / 128) (icacheFill (tget b.icache (bay * 32 + hand / 128) []) line) }
    if (s.hand bay hand).state = .wait && (s.hand bay hand).wait = some (.icache line) then
      s.modHand bay hand fun h => { h with state := .ready, wait := none } else s)

/-- A YIELD's time is over and its hand is READY (R183). -/
def execYieldExpiry (bay hand : Nat) (s : State) : Host.Outcome State Fault Refusal :=
  .next (match (s.hand bay hand).wait with
  | some (.yielded t) =>
    if (s.hand bay hand).state = .wait && t ≤ s.now then s.modHand bay hand fun h => { h with state := .ready, wait := none } else s
  | _ => s)

/-- A timer deadline passes: slot 7 becomes pending; one-shot disarms, periodic moves to the next deadline of its grid, and a deadline
that passes while slot 7 is pending counts an overrun (R180, R182). -/
def execHandTimerExpiry (bay hand : Nat) (s : State) : Host.Outcome State Fault Refusal :=
  .next (let h := s.hand bay hand
    if h.timerMode < 2 && h.timerDeadline ≤ s.devNow && !s.sys.dormant && (h.state = .ready || h.state = .wait) then
      s.modHand bay hand fun h =>
        (if h.timerMode = 0 then { h with timerMode := 2 } else { h with timerDeadline := nextOnGrid h.timerDeadline h.timerVal s.devNow }).post 7
    else s)

/-- CKPT_WD passes without a checkpoint: a restart with cause 0x5 (R187, R188). -/
def execCkptWdExpiry (bay hand : Nat) (s : State) : Host.Outcome State Fault Refusal :=
  .next (let h := s.hand bay hand
    if 0 < h.ckptWd && (h.state = .ready || h.state = .wait) && decide (h.lastCkpt + h.ckptWd * 1000 ≤ s.devNow) then s.handFault bay hand 5 else s)

/-- The peer acknowledges a mirrored checkpoint and the hand is READY (R186). -/
def execMirrorAck (bay hand : Nat) (s : State) : Host.Outcome State Fault Refusal :=
  .next (match (s.hand bay hand).wait with
  | some (.mirror _) =>
    if (s.hand bay hand).state = .wait then s.modHand bay hand fun h => { h with state := .ready, wait := none } else s
  | _ => s)

end Sys2Proof.Machine
end

