-- ==== Sys2Proof/Machine/Drives.lean ====
section
/-!
DEFINITION. What the keeper drives on fan and pump channels: the drive set, the drive on the pin, kicks and stalls (R392, R396 to
R398, R405), and the valves and the leaks that hold them closed (R401, R402).
-/
namespace Sys2Proof.Machine
open Sys2Proof

/-- FORCED of a bay (R223). -/
def Latch.forced (l : Latch) (bay : Nat) : Bool := if bay = 0 then l.forced0 else l.forced1

/-- No bay serves as owner for the Scarecrow: OWNER_VALID is 0, or the owner's FORCED bit is set, or the bays are Dormant (R405, R478). -/
def State.noOwner (s : State) : Bool := !s.own.latch.valid || s.own.latch.forced s.own.latch.owner || s.sys.dormant

/-- Every fan and pump is driven at 100 %: in keeper-hold, or while a remote diode is at or above its trip (R17, R405). -/
def State.fullDrive (s : State) : Bool := s.own.latch.hold || s.cool.hotDiodes ≠ 0

/-- The drive set of a channel, at least 70.0 % while no bay serves as owner (R392, R405). -/
def State.setDrive (s : State) (ch : Nat) : Nat :=
  max (s.drive ch).demand (if s.cool.scarecrow && s.noOwner then 700 else 0)

/-- The drive on the pin of a channel for the drive set (R396, R398, R404). -/
def Drive.pin (d : Drive) (setD : Nat) (full : Bool) : Nat :=
  if full then 1000 else
  match d.dstate with
  | .disabled => 1000
  | .kick => 1000
  | .stalled => 0
  | .tachLost => max d.lastGood setD
  | .off => setD
  | .running => setD

/-- The drive on a pin changes; what was driven over the last 700 ms is kept (R398). -/
def Drive.drives (d : Drive) (now v : Nat) : Drive :=
  if d.drive = v then d else
  { d with drive := v, hist := ((now, v) :: d.hist).takeWhile (fun e => now < e.1 + 700000000) ++
      (d.hist.dropWhile fun e => now < e.1 + 700000000).take 1 }

/-- The drive in effect t ns ago (R398). -/
def Drive.droveAt (d : Drive) (now t : Nat) : Nat :=
  match d.hist.find? fun e => e.1 + t ≤ now with
  | some e => e.2
  | none => d.drive

/-- A channel follows the drive set: set to 0 it is off and is neither kicked nor watched (R396). -/
def State.followDrive (s : State) (ch : Nat) : State :=
  let v := s.setDrive ch
  s.modDrive ch fun d =>
    let d := if v = 0 && (d.dstate = .running || d.dstate = .kick || d.dstate = .stalled) then { d with dstate := .off, isStalled := false } else d
    d.drives s.now (d.pin v s.fullDrive)

/-- Every fan and pump follows the drive set, once the Scarecrow is live or in keeper-hold (R17, R392, R405). -/
def State.followDrives (s : State) : State := if s.cool.scarecrow || s.own.latch.hold then forUpTo 20 State.followDrive s else s

/-- The keeper kicks a channel: 100 % until its tachometer responds (R396). -/
def State.startKick (s : State) (ch : Nat) : State :=
  (s.modDrive ch fun d => { d with dstate := .kick, kickStart := s.now }).followDrive ch

/-- A channel is stalled: drive 0, the stall counted, the event raised (R398). -/
def State.stall (s : State) (ch : Nat) : State :=
  ((s.modDrive ch fun d => { d with dstate := .stalled, isStalled := true, stalls := satAdd 16 d.stalls 1, stallTime := s.now }).followDrive ch).raise
    0x0301 [(2, ch)]

/-- A channel is a fan or a pump (R386). -/
def isDrive (ch : Nat) : Bool := ch < 0x14

/-! ### Inputs, leaks and valves -/

/-- A channel is a leak input (R386). -/
def isLeak (ch : Nat) : Bool := 0x14 ≤ ch && ch < 0x1C

/-- A channel is a flow input (R386). -/
def isFlow (ch : Nat) : Bool := 0x1C ≤ ch && ch < 0x20

/-- A channel is a valve (R386). -/
def isValve (ch : Nat) : Bool := ch = 0x20 || ch = 0x21

/-- A channel is a GPIO (R252). -/
def isGpio (ch : Nat) : Bool := 0x34 ≤ ch && ch < 0x54

/-- A channel is a two-wire alert input (R409). -/
def isAlert (ch : Nat) : Bool := 0x94 ≤ ch && ch < 0xAC

/-- A channel has the settings of COOL_SET_INPUT (R403). -/
def isInput (ch : Nat) : Bool := isLeak ch || isFlow ch || isGpio ch || isAlert ch

/-- An input takes part as active: a leak input that chatters counts as active, a masked one takes no part (R403). -/
def State.counts (s : State) (ch : Nat) : Bool :=
  let x := s.input ch
  !x.masked && (x.active || (isLeak ch && x.chattering))

/-- A leak holds the valves closed (R401). -/
def State.leaking (s : State) : Bool := (List.range 8).any fun n => s.counts (0x14 + n)

/-- A leak input becomes active: both valves close in the same keeper cycle, with the event and its record (R401). -/
def State.leakFound (s : State) (ch : Nat) : State :=
  ((s.modValve 0 fun v => { v with isOpen := false }).modValve 1 fun v => { v with isOpen := false }).raiseAndRecord 0 0x0304 [(2, ch), (1, 3)]

end Sys2Proof.Machine
end

