-- ==== Sys2Proof/Machine/Grid.lean ====
section
/-!
DEFINITION. Following the grid (R101 to R121): sources and the order of targets, commit, the ramps of one window, frequency response,
groups and share tables, park and unpark, the grid record, and the rows that drive them.
-/
namespace Sys2Proof.Machine
open Sys2Proof

/-! ### Allocation (R60) -/

/-- a held between lo and hi. -/
def clampRat (lo hi a : Rat) : Rat := max lo (min hi a)

/-- Sum of a list. -/
def ratSum (l : List Rat) : Rat := l.foldl (· + ·) 0

/-- What level() gives one lower and upper bound at level L (R60). -/
def levelAt (p : Rat × Rat) (lv : Rat) : Rat := max p.1 (min p.2 lv)

/-- The sum level() gives at level L. -/
def levelSum (ps : List (Rat × Rat)) (lv : Rat) : Rat := ratSum (ps.map fun p => levelAt p lv)

/-- The level at which the bounds give sum t: between the bounds nearest to it, where the sum is a line (R60). -/
def levelOf (ps : List (Rat × Rat)) (t : Rat) : Rat :=
  let bs := ps.flatMap fun p => [p.1, p.2]
  let low := (bs.filter fun b => levelSum ps b ≤ t).foldl (fun (a : Option Rat) b => some (match a with | none => b | some x => max x b)) none
  let high := (bs.filter fun b => t < levelSum ps b).foldl (fun (a : Option Rat) b => some (match a with | none => b | some x => min x b)) none
  match low, high with
  | some a, some b => a + (t - levelSum ps a) * (b - a) / (levelSum ps b - levelSum ps a)
  | some a, none => a
  | none, some b => b
  | none, none => 0

/-- level(l, u, S) over pairs of a lower and an upper bound (R60). -/
def level (ps : List (Rat × Rat)) (t : Rat) : List Rat := ps.map fun p => levelAt p (levelOf ps t)

/-- One party to an allocation: want, keep, floor and cap (R59, R60). -/
structure Party where
  want : Rat := 0
  keep : Rat := 0
  flr : Rat := 0
  cap : Rat := 0
  deriving DecidableEq, Repr

/-- The division of a pool among parties (R60). -/
def allocate (pool : Rat) (ps : List Party) : List Rat :=
  let want := ratSum (ps.map fun p => p.want)
  let keep := ratSum (ps.map fun p => p.keep)
  let flr := ratSum (ps.map fun p => p.flr)
  if want ≤ pool then level (ps.map fun p => (p.want, p.cap)) (min pool (ratSum (ps.map fun p => p.cap)))
  else if keep ≤ pool then level (ps.map fun p => (p.keep, p.want)) pool
  else if flr ≤ pool then level (ps.map fun p => (p.flr, p.keep)) pool
  else ps.map fun p => p.flr

/-! ### Sources and series (R102 to R104) -/

/-- The source in force: by membership until governor start has settled it (R104). -/
def State.source (s : State) : GridSource :=
  match s.grid.source with
  | .byMembership => if s.fab.fab.state = .member then .fabric else .host
  | x => x

/-- SOURCE's code (R120). -/
def GridSource.code : GridSource → Nat
  | .byMembership => 2 | .none => 0 | .fabric => 1 | .host => 2 | .either => 3

/-- GSTATE's code (R120). -/
def GridState.code : GridState → Nat
  | .following => 0 | .parkRamp => 1 | .parkDelay => 2 | .parkFuses => 3 | .parked => 4 | .unparkDelay => 5 | .unparking => 6

/-- A source obeys this path: the conductor's or the host's (R104, R110). -/
def GridSource.obeys (g : GridSource) (fab : Bool) : Bool := g = .either || g = (if fab then .fabric else .host)

/-- The grid operation a journal entry carries: whether it is the conductor's, which, and its fields. -/
def Work.gridOp (w : Work) : Option (Bool × GridOp × Target) :=
  match w with
  | .cmd (.gridSetTarget _ q t sl d i) => some (false, .target, { tseq := q, target := t, slope := sl, deadline := d, issueTime := i })
  | .cmd (.gridPark _ q sl d i) => some (false, .park, { tseq := q, slope := sl, deadline := d, issueTime := i })
  | .cmd (.gridUnpark _ q i) => some (false, .unpark, { tseq := q, issueTime := i })
  | .change (.grid op t) => some (true, op, t)
  | _ => none

/-- Grid operations journalled and not yet applied, oldest first. -/
def State.pendingGrid (s : State) : List (Nat × Bool × GridOp × Target) :=
  s.own.journal.entries.filterMap fun e => if e.2.state = 1 && !e.2.applied then e.2.body.gridOp.map fun g => (e.1, g) else none

/-- The last TSEQ of a series: of what is received, else journalled, else committed (R102). -/
def State.lastTseq (s : State) (fab : Bool) (received : List (GridOp × Target)) : Option Word32 :=
  match (if fab then received.getLast? else none), ((s.pendingGrid.filter fun g => g.2.1 = fab).getLast?) with
  | some x, _ => some x.2.tseq
  | none, some g => some g.2.2.2.tseq
  | none, none => if fab then s.grid.tseqFab else s.grid.tseqHost

/-- ISSUE_TIME of the newest target, park or unpark taken from either series (R104). -/
def State.newestIssue (s : State) : Option Nat :=
  (s.pendingGrid.map fun g => g.2.2.2.issueTime).foldl (fun a t => some (match a with | none => t | some x => max x t)) s.grid.newestIssue

/-- What refuses a grid operation: its status and detail (R102 to R104, R115, R281); a duplicate is answered before this is asked. -/
def State.gridRefusal (s : State) (fab : Bool) (op : GridOp) (t : Target) (received : List (GridOp × Target)) : Option (Nat × Nat) :=
  let last := s.lastTseq fab received
  let stale := match last with | some l => !wsAbove t.tseq l | none => false
  let early := s.source = .either && (match s.newestIssue with | some n => t.issueTime ≤ n | none => false)
  if !s.source.obeys fab then some (0x0203, s.source.code)
  else if stale || early then some (0x0201, (last.getD 0).toNat)
  else if t.deadline ≠ 0 && t.deadline < s.fabNow then some (0x0202, s.fabNow)
  else if op = .park && (s.grid.state = .parkFuses || s.grid.state = .parked) then some (0x0204, s.grid.state.code)
  else none

/-- A target refused as late: counted, with a record, and an event where the conductor sent it (R103, R281). -/
def State.lateTarget (s : State) (fab : Bool) (t : Target) : State :=
  let payload := [(4, t.tseq.toNat), (8, t.deadline), (8, s.fabNow)]
  let s := (s.modGrid fun g => { g with late := satAdd 32 g.late 1 }).almanac (baySource (s.owner.getD 0)) 0x0202 payload
  if fab then s.raise 0x0202 payload else s

/-! ### Grid states (R115) -/

/-- Enter a grid state; a change posts its event (R115, R296). -/
def State.setGstate (s : State) (st : GridState) : State :=
  if s.grid.state = st then s
  else (s.modGrid fun g => { g with state := st }).raise 0x0204 [(1, s.grid.state.code), (1, st.code)]

/-- A delay drawn uniformly from 0 to GRID_SPREAD, seeded by the node identifier, ns (R115). -/
def State.drawDelay (s : State) : Nat × State :=
  (Config.nodeDraw s.fab.fab.serial s.sys.freshCount % (s.grid.spread + 1) * 1000, s.modSys fun p => { p with freshCount := p.freshCount + 1 })

/-- Start the spread delay of a park or an unpark (R115). -/
def State.startDelay (s : State) (st : GridState) : State :=
  let d := s.drawDelay
  (d.2.modGrid fun g => { g with delayEnd := s.now + d.1 }).setGstate st

/-- A park takes effect (R115, R119). -/
def State.parkCommit (s : State) (slope : Nat) : State :=
  match s.grid.state with
  | .following | .unparking => (s.modGrid fun g => { g with parkSlope := slope, closeNext := none }).setGstate .parkRamp
  | .unparkDelay => s.setGstate .parked
  | _ => s.modGrid fun g => { g with parkSlope := slope }

/-- An unpark takes effect (R115, R116). -/
def State.unparkCommit (s : State) : State :=
  match s.grid.state with
  | .parked => s.startDelay .unparkDelay
  | .parkRamp | .parkDelay => s.setGstate .following
  | .parkFuses =>
    let s := forUpTo 8 (fun s n => if s.branchOn n then
      (s.modGovSlot 0 n fun g => { g with quiesce := false }).modGovSlot 1 n fun g => { g with quiesce := false } else s) s
    (s.modGrid fun g => { g with closeNext := some 0, closeBase := g.p }).setGstate .following
  | _ => s

/-- A later target or share of the same kind is accepted already: this one never ramps (R105). -/
def State.superseded (s : State) (j : Nat) (op : GridOp) : Bool :=
  s.pendingGrid.any fun g => j < g.1 && g.2.2.1 = op && (s.entry g.1).acked

/-- A grid operation takes effect in the window its entry names (R105, R106, R113, R115). -/
def State.commitGrid (s : State) (j : Nat) (fab : Bool) (op : GridOp) (t : Target) : State :=
  let s := s.modGrid fun g => { g with
    tseqFab := if fab then some t.tseq else g.tseqFab, tseqHost := if fab then g.tseqHost else some t.tseq
    statusFab := if fab then 0 else g.statusFab, newestIssue := some t.issueTime }
  match op with
  | .target => if s.superseded j .target then s else s.modGrid fun g => { g with target := some t }
  | .share => if s.superseded j .share then s else s.modGrid fun g => { g with share := some t, sR := some (g.sR.getD g.tR) }
  | .park => s.parkCommit t.slope
  | .unpark => s.unparkCommit

/-- Keep the completion of a host's grid command for its duplicates (R102, R278). -/
def State.keepAnswer (s : State) (j : Nat) : State :=
  match (s.entry j).completion with
  | w :: r => s.modGrid fun g => { g with lastHost := (w &&& 0xFFFF#64) :: r }
  | [] => s

/-- An operation of the conductor reaches the tray: refused, kept by the photonic die while the tray is parked, or received for the
owner to commit (R103, R105, R118). -/
def State.receiveGrid (s : State) (op : GridOp) (t : Target) : State :=
  let asleep := s.grid.state = .parked || s.grid.state = .unparkDelay
  if s.lastTseq true s.grid.held = some t.tseq then s
  else match s.gridRefusal true op t s.grid.held with
    | some (0x0202, _) => s.lateTarget true t
    | some _ => s
    | none =>
      if asleep && s.serving.isNone then
        let isPark (o : GridOp) : Bool := o = .park || o = .unpark
        let s := s.modGrid fun g => { g with held := (g.held.filter fun h => isPark h.1 ≠ isPark op) ++ [(op, t)] }
        match op, s.grid.state with
        | .unpark, .parked => s.startDelay .unparkDelay
        | .park, .unparkDelay => s.setGstate .parked
        | _, _ => s
      else s.modGrid fun g => { g with held := g.held ++ [(op, t)] }

/-! ### Frequency response (R109 to R111) -/

/-- curve(df): linear between the points, the end values beyond them, 1.000 with no curve (R109). -/
def curveAt (ps : List (Int × Nat)) (df : Int) : Rat :=
  match ps with
  | [] => 1
  | [p] => (p.2 : Rat) / 1000
  | p :: q :: r =>
    if df ≤ p.1 then (p.2 : Rat) / 1000
    else if df < q.1 then ((p.2 : Rat) + (df - p.1 : Int) * ((q.2 : Rat) - p.2) / (q.1 - p.1 : Int)) / 1000
    else curveAt (q :: r) df

/-- f, the fraction that f_r moves towards: 1.000 with source NONE or before any df (R104, R106, R109). -/
def State.fraction (s : State) : Rat :=
  match s.grid.df with
  | none => 1
  | some df => if s.source = .none then 1 else curveAt s.grid.curve df

/-- A df comes into use (R110, R111). -/
def State.useDf (s : State) (df : Int) (issue : Nat) : State := s.modGrid fun g => { g with df := some df, dfIssue := issue }

/-- A df is later than the one in use and the one that waits (R110). -/
def State.dfLater (s : State) (issue : Nat) : Bool :=
  (s.grid.df.isNone || s.grid.dfIssue < issue) && (match s.grid.dfNext with | some n => n.2.1 < issue | none => true)

/-- A conductor frequency frame arrives: its df applies from the first window that opens 4 us after it; a parked tray's photonic die
keeps the newest (R110, R111, R118). -/
def State.frequencyFrame (s : State) (df : Int) (issueTime arrival : Nat) : State :=
  if !s.source.obeys true || !s.dfLater issueTime then s
  else if s.serving.isNone then
    if (match s.grid.heldDf with | some h => decide (h.2 < issueTime) | none => true) then s.modGrid fun g => { g with heldDf := some (df, issueTime) } else s
  else s.modGrid fun g => { g with dfNext := some (df, issueTime, arrival), dfTime := s.now, freqHold := false }

/-- FREQUENCY_FRAME (R110). -/
def execFrequencyFrame (df : Int) (issueTime arrival : Nat) (s : State) : Host.Outcome State Fault Refusal :=
  .next (s.frequencyFrame df issueTime arrival)

/-- No df for FREQ_STALE while a curve is set: f_r holds, with an event and a record (R111). -/
def execFreqStaleExpiry (s : State) : Host.Outcome State Fault Refusal :=
  .next (let g := s.grid
  if s.serving.isSome && !g.curve.isEmpty && s.source ≠ .none && !g.freqHold && s.passed (max g.curveFrom g.dfTime) (g.freqStale * 1000) then
    (s.modGrid fun g => { g with freqHold := true }).raiseAndRecord (baySource (s.owner.getD 0)) 0x0201 [(4, (BitVec.ofInt 32 (g.df.getD 0)).toNat)]
  else s)

/-! ### Sums, reports and share tables (R61, R112, R113) -/

/-- The slots that take part in the allocation on a bay (R59, R368). -/
def State.sharing (s : State) (bay : Nat) : List Nat :=
  (List.range 8).filter fun n => (s.govSlot bay n).started && s.branchOn n && !s.parked n

/-- The bay whose governor the tray's sums are taken from. -/
def State.govBay (s : State) : Nat := s.serving.getD (s.owner.getD 0)

/-- Sum of one quantity over the slots that take part. -/
def State.slotSum (s : State) (f : GovSlot → Rat) : Rat := ratSum ((s.sharing s.govBay).map fun n => f (s.govSlot s.govBay n))

/-- The tray's floor sum: A_plat with every slot's floor (R61, R115). -/
def State.floorSum (s : State) : Rat := s.grid.aPlat + s.slotSum (fun g => g.flr)

/-- The tray's want sum (R61). -/
def State.wantSum (s : State) : Rat := s.grid.aPlat + s.slotSum (fun g => g.want)

/-- The tray's own report: a parked tray reports its parked draw three times (R61, R118). -/
def State.ownReport (s : State) : Party :=
  if s.grid.state = .parked || s.grid.state = .unparkDelay then { want := s.trayDraw, keep := s.trayDraw, flr := s.trayDraw, cap := s.trayDraw }
  else { want := s.wantSum, keep := s.grid.aPlat + s.slotSum (fun g => g.keep), flr := s.floorSum, cap := s.wantSum }

/-- A child as the share table takes it: its want stands for its cap; a stale child's floor sum stands for all three (R112, R113). -/
def Child.party (c : Child) : Party :=
  if c.stale then { want := c.flr, keep := c.flr, flr := c.flr, cap := c.flr } else { want := c.want, keep := c.keep, flr := c.flr, cap := c.want }

/-- The parties of the share table, by entry: the children's ports, and 4 for the tray itself (R112). -/
def State.shareParties (s : State) : List (Nat × Party) := (s.grid.children.map fun c => (c.1, c.2.party)) ++ [(4, s.ownReport)]

/-- The group's report: the sums over the parties (R61, R112). -/
def State.groupReport (s : State) : Nat × Nat × Nat :=
  let ps := s.shareParties.map fun p => p.2
  ((ratSum (ps.map fun p => p.want)).floor.toNat, (ratSum (ps.map fun p => p.keep)).floor.toNat, (ratSum (ps.map fun p => p.flr)).floor.toNat)

/-- Group allotments at which some share changes its slope (R112). -/
def breakpoints (ps : List Party) : List Rat :=
  let low := ps.map fun p => (p.flr, p.keep)
  let high := ps.map fun p => (p.keep, p.want)
  (low.flatMap fun p => [levelSum low p.1, levelSum low p.2]) ++ (high.flatMap fun p => [levelSum high p.1, levelSum high p.2])

/-- A value put in its place in a rising list, once. -/
def insertRat (x : Rat) (l : List Rat) : List Rat :=
  match l with
  | [] => [x]
  | y :: r => if x < y then x :: y :: r else if x = y then y :: r else y :: insertRat x r

/-- The share table: for each entry its share at each breakpoint of the group allotment, in whole W (R112). -/
def shareTable (ps : List (Nat × Party)) : List (Nat × List (Nat × Nat)) :=
  let bs := ((breakpoints (ps.map fun p => p.2)).foldl (fun l x => insertRat x l) []).take 32
  let at_ (b : Rat) : List Rat := allocate b (ps.map fun p => { p.2 with cap := p.2.want })
  ps.zipIdx.map fun e => (e.1.1, bs.map fun b => (b.floor.toNat, ((at_ b).getD e.2 0).floor.toNat))

/-- A share table's value at a group allotment: linear between breakpoints, the end values beyond them (R112). -/
def shareAt (t : List (Nat × Nat)) (x : Nat) : Nat :=
  match t with
  | [] => x
  | [p] => p.2
  | p :: q :: r =>
    if x ≤ p.1 then p.2
    else if x < q.1 then p.2 + (x - p.1) * (q.2 - p.2) / (q.1 - p.1)
    else shareAt (q :: r) x

/-- Each millisecond a node with children builds its share table and loads it into the fabric engine (R112). -/
def execShareTableBuild (s : State) : Host.Outcome State Fault Refusal :=
  .next (if s.serving.isSome && !s.grid.children.isEmpty then
    s.modGrid fun g => { g with
      shares := shareTable s.shareParties
      groupHeadroom := match g.lastGroup with | some a => a - s.groupReport.1 | none => 0 }
  else s)

/-- No report from a child for REPORT_STALE: its last floor sum stands for its want, keep and floor (R113). -/
def execReportStaleExpiry (port : Nat) (s : State) : Host.Outcome State Fault Refusal :=
  .next (match tfind s.grid.children port with
  | some c => if !c.stale && s.passed c.time (s.grid.reportStale * 1000) then s.modGrid fun g => { g with children := tset g.children port { c with stale := true } } else s
  | none => s)

/-! ### One window of the grid (R57, R106, R115, R116) -/

/-- Platform power as a mean over the millisecond that has ended, and the platform allotment (R57). -/
def State.platformStep (s : State) : State :=
  let e := s.feedEnergy - s.branchEnergy
  s.modGrid fun g =>
    let g := if g.platTime + 1000000 ≤ s.now then
        { g with platMean := max 0 ((e - g.platBase) * 1000 / ((s.now - g.platTime : Nat) : Rat)), platBase := e, platTime := s.now }
      else g
    { g with aPlat := g.platMean + s.gov.tray.platMargin }

/-- A df that has waited 4 us, or was kept through a park, comes into use (R110, R118). -/
def State.takeDf (s : State) : State :=
  let s := match s.grid.dfNext with
    | some (df, issue, arrival) =>
      if (arrival : Int) + 4000 ≤ (s.dwn * 2000 : Nat) + s.sys.ftOffset then (s.useDf df issue).modGrid fun g => { g with dfNext := none } else s
    | none => s
  match s.grid.heldDf with
  | some (df, issue) =>
    let s := s.modGrid fun g => { g with heldDf := none }
    if s.source.obeys true && s.dfLater issue then (s.useDf df issue).modGrid fun g => { g with dfTime := s.now, freqHold := false } else s
  | none => s

/-- One step of a ramp of a slope in W per ms towards a goal: at most a 500th of the slope (R106). -/
def rampStep (x goal slope : Rat) : Rat := x + clampRat (-(slope / 500)) (slope / 500) (goal - x)

/-- T_r of the next window (R106, R115). -/
def State.nextTr (s : State) : Rat :=
  let cap : Rat := s.gov.tray.trayCap
  if s.source = .none then cap
  else match s.grid.state with
    | .following => match s.grid.target with | none => cap | some t => rampStep s.grid.tR t.target t.slope
    | .parkRamp => rampStep s.grid.tR s.floorSum s.grid.parkSlope
    | _ => s.grid.tR

/-- The grid grant, the tray allotment and the effective target of one window (R104, R106, R107). -/
def State.grantStep (s : State) : State :=
  let cap : Rat := s.gov.tray.trayCap
  let off := s.source = .none
  let tR := s.nextTr
  let sR := if off then none else match s.grid.share, s.grid.sR with
    | some t, some x => some (rampStep x t.target t.slope)
    | _, _ => none
  let low := min tR (sR.getD tR)
  let q := (s.grid.frSlope : Rat) / 500 / max low 1000
  let fR := if off then 1 else if s.grid.freqHold then s.grid.fR else s.grid.fR + clampRat (-q) q (s.fraction - s.grid.fR)
  let p := if off then cap else fR * low
  let tt : Rat := match s.grid.target with | some t => t.target | none => cap
  let st : Rat := match s.grid.share with | some t => t.target | none => tt
  let e := if off then cap else min cap ((if s.grid.freqHold then fR else s.fraction) * min tt st)
  let draw := s.trayDraw
  let inBand := decide (e * 98 / 100 ≤ draw) && decide (draw ≤ e * 102 / 100)
  s.modGrid fun g => { g with
    tR := tR, sR := sR, share := if off then none else g.share, fR := fR, p := p, aTray := min cap p, fell := decide (min cap p < g.aTray)
    eTarget := e, inBand := inBand, settleTime := if inBand && !g.inBand then s.devNow else g.settleTime }

/-- In an unpark the fuses the park opened close from slot 0 up, one at a time, each when P has risen by its PFLOOR since the one before;
with no target P does not ramp, and each closes once the one before has left INRUSH (R116, R119). The slot's thermal factor starts at
1.000 (R393). -/
def State.closeStep (s : State) : State :=
  match s.grid.closeNext with
  | none => s
  | some n =>
    if (List.range 8).any fun m => (s.branch m).cstate = .inrush then s
    else match (List.range 8).find? fun m => n ≤ m && s.gov.esc.gridParked.testBit m && !s.gov.esc.escParked.testBit m &&
        (s.branch m).cstate = .off && (s.thermal m).hold = 0 with
      | none => (s.modGrid fun g => { g with closeNext := none }).modEsc fun e => { e with gridParked := 0 }
      | some m =>
        if s.grid.target.isNone || s.source = .none || s.grid.closeBase + (s.govParam m).pfloor ≤ s.grid.p then
          (((s.startInrush (branchCh m)).modThermal m fun t => { t with h := 1000 }).modGrid fun g => { g with closeNext := some (m + 1), closeBase := g.p }).modEsc
            fun e => { e with gridParked := setBit e.gridParked m false }
        else s

/-- The grid's work of one window, done once by the first bay whose governor runs in it; a park ramp that reaches the floor sum starts the
spread delay (R106, R115, R116). -/
def State.gridStep (s : State) : State :=
  if s.dwn < s.grid.nextDwn then s
  else
    let s := (s.modGrid fun g => { g with nextDwn := s.dwn + 1 }).platformStep.takeDf.grantStep
    let s := if s.grid.state = .parkRamp && s.grid.tR = s.floorSum then s.startDelay .parkDelay else s
    s.closeStep

/-! ### The rows of the state table (R115 to R119) -/

/-- The park delay ends: QUIESCE on every slot not already parked, a park notice, escalation NONE (R115). -/
def execParkDelayExpiry (s : State) : Host.Outcome State Fault Refusal :=
  .next (if s.serving.isSome && s.grid.state = .parkDelay && s.grid.delayEnd ≤ s.now then
    let slots := (List.range 8).filter fun n => !s.parked n
    let s := slots.foldl (fun s n => (s.modGovSlot 0 n fun g => { g with quiesce := true }).modGovSlot 1 n fun g => { g with quiesce := true }) s
    let s := s.modEsc fun e => { e with state := .none, slots := 0, capUnreach := false, ackPark := 0, noticeTime := s.now }
    let s := s.modGrid fun g => { g with lastOpenSlot := none }
    ((s.raise 0x0108 [(1, slots.foldl (fun m n => m + 2 ^ n) 0), (1, 1)]).setGstate .parkFuses).parkSettled
  else s)

/-- The slot shows QUIESCED in the owner's latest counter frame and its ballast track is at 0 (R75, R116). -/
def State.quiet (s : State) (slot : Nat) : Bool :=
  match s.owner with
  | some b => (s.view slot b).seen && (s.view slot b).frame.quiesced && (s.govSlot b slot).ballast = 0
  | none => false

/-- GOV_PARK_ACK has come for the slot, or PARK_WAIT has passed since the notice (R75, R116). -/
def State.parkAnswered (s : State) (slot : Nat) : Bool :=
  s.gov.esc.ackPark.testBit slot || s.passed s.gov.esc.noticeTime (s.gov.tray.parkWait * 1000)

/-- The next fuse of a park opens, from slot 7 down, once the slot is quiet and answered for, PFLOOR / SLOPE after the one before (R116). -/
def execParkFuseOpen (s : State) : Host.Outcome State Fault Refusal :=
  .next (match s.serving, (List.range 8).reverse.find? fun n => s.branchOn n with
  | some _, some n =>
    let g := s.grid
    let spaced := match g.lastOpenSlot with | some i => g.lastOpen * g.parkSlope + (s.govParam i).pfloor * 1000000 ≤ s.now * g.parkSlope | none => true
    if g.state = .parkFuses && s.quiet n && s.parkAnswered n && spaced && !s.own.latch.hold then
      (((s.modEsc fun e => { e with gridParked := setBit e.gridParked n true }).modGrid fun g =>
        { g with lastOpen := s.now, lastOpenSlot := some n }).commandOpen n).parkSettled
    else s
  | _, _ => s)

/-- The unpark delay ends: the bays wake and the rails come up (R115, R341). -/
def execUnparkDelayExpiry (s : State) : Host.Outcome State Fault Refusal :=
  .next (if s.grid.state = .unparkDelay && s.grid.delayEnd ≤ s.now then
    let s := if s.sys.dormant then s.modSys fun p => { p with wakePending := true } else s
    ((s.startUp s.usedRails 0).setGstate .unparking).railRun
  else s)

/-- The owner serves and the rails are up: T_r ramps from the measured draw and the fuses close from slot 0 up (R115, R116). -/
def execUnparkRailsUp (s : State) : Host.Outcome State Fault Refusal :=
  .next (if s.serving.isSome && s.grid.state = .unparking && s.rail.seq.kind = .idle then
    (s.modGrid fun g => { g with tR := s.trayDraw, p := s.trayDraw, closeNext := some 0, closeBase := s.trayDraw }).setGstate .following
  else s)

/-! ### Record and commands (R120, R121, R285) -/

/-- Headroom: E less the want sum, 0 if negative, W (R120). -/
def State.gridHeadroom (s : State) : Nat := (max 0 (s.grid.eTarget - s.wantSum)).floor.toNat

/-- The TSEQ of the committed tray target or share (R120). -/
def Grid.tseqInForce (g : Grid) : Word32 :=
  match g.target, g.share with
  | some t, none => t.tseq
  | none, some t => t.tseq
  | some a, some b => if a.issueTime < b.issueTime then b.tseq else a.tseq
  | none, none => 0

/-- The grid record (R120). -/
def State.gridRecord (s : State) : List Word64 :=
  let g := s.grid
  [ pack [(56, 8, 0x32), (52, 4, g.state.code), (50, 2, s.source.code), (49, 1, bit g.freqHold), (48, 1, bit g.pathLost),
      (32, 16, (g.fR * 1000).floor.toNat), (0, 32, g.tseqInForce.toNat)],
    pack [(32, 32, g.eTarget.floor.toNat), (0, 32, g.p.floor.toNat)],
    pack [(32, 32, (max 0 s.trayDraw).floor.toNat), (0, 32, s.gridHeadroom)],
    pack [(32, 32, (BitVec.ofInt 32 (g.df.getD 0)).toNat), (0, 32, g.late)],
    BitVec.ofNat 64 g.settleTime, 0, 0, BitVec.ofNat 64 s.devNow ]

/-- The grid record of the record period goes to every telemetry ring subscribed (R120). -/
def execGridRecord (s : State) : Host.Outcome State Fault Refusal := .next (if s.recordDue then s.telemetry 1 s.gridRecord else s)

/-- Step 1 of the checks: a duplicate TSEQ is answered as the earlier command was (R102, R278). -/
def State.gridDuplicate (s : State) (tseq : Word32) : Option Verdict :=
  match (s.pendingGrid.filter fun g => !g.2.1).getLast? with
  | some g => if g.2.2.2.tseq = tseq then some (.duplicate g.1) else none
  | none => if s.grid.tseqHost = some tseq then some (.replay s.grid.lastHost) else none

/-- The refusal of a host's grid operation as a check (R281). -/
def State.gridCheck (s : State) (op : GridOp) (t : Target) : Chk :=
  match s.gridRefusal false op t [] with
  | some (st, r) => { bad := true, status := st, res0 := r }
  | none => { bad := false, status := 0 }

/-- A host's grid operation is fetched: a late one is also counted and recorded (R103). -/
def State.submitGrid (s : State) (i : Instr) (h : CmdHdr) (c : CmdSpec) (t : Target) : State :=
  let late := s.canFetch h.ring c.opcode && (match s.verdict i h c with | .refuse st _ => st = 0x0202 | _ => false)
  (if late then s.lateTarget false t else s).submit i h c

/-- GRID_SET_TARGET's checks (R101, R285). -/
def specGridSetTarget (_h : CmdHdr) (tseq : BitVec 32) (target slope deadline issueTime : Nat) (s : State) : CmdSpec :=
  { opcode := 0x0200, plen := 32, grid := s.gridDuplicate tseq
    params := [inRange (tseq ≠ 0) 0, inRange (target ≤ 40000) 4, inRange (100 ≤ slope && slope ≤ 40000) 8]
    states := [s.gridCheck .target { tseq := tseq, target := target, slope := slope, deadline := deadline, issueTime := issueTime }] }

/-- A host target takes effect (R105, R285). -/
def effGridSetTarget (j : Nat) (tseq : BitVec 32) (target slope deadline issueTime : Nat) (s : State) : State :=
  let s := s.commitGrid j false .target { tseq := tseq, target := target, slope := slope, deadline := deadline, issueTime := issueTime }
  (s.complete j 0 [(s.entry j).applyDwn]).keepAnswer j

/-- GRID_SET_TARGET: a host's tray target (R105). -/
def execGridSetTarget (h : CmdHdr) (tseq : BitVec 32) (target slope deadline issueTime : Nat) (s : State) : Host.Outcome State Fault Refusal :=
  .next (s.submitGrid (.gridSetTarget h tseq target slope deadline issueTime) h (specGridSetTarget h tseq target slope deadline issueTime s)
    { tseq := tseq, target := target, slope := slope, deadline := deadline, issueTime := issueTime })

/-- The points of a curve buffer: df signed, then fraction, 4 bytes each (R285). -/
def curvePoints (bs : List Byte) (n : Nat) : List (Int × Nat) :=
  (List.range n).map fun i => ((BitVec.ofNat 32 (fieldAt bs (8 * i) 4)).toInt, fieldAt bs (8 * i + 4) 4)

/-- df rises from point to point (R109). -/
def dfRises (ps : List (Int × Nat)) : Bool :=
  match ps with
  | a :: b :: r => a.1 < b.1 && dfRises (b :: r)
  | _ => true

/-- GRID_SET_CURVE's checks (R109, R121, R285). -/
def specGridSetCurve (h : CmdHdr) (npoints frSlope freqStale buf : Nat) (_s : State) : CmdSpec :=
  let ps := curvePoints (h.buf.getD []) npoints
  { opcode := 0x0201, plen := 24
    params := [inRange (npoints = 0 || (2 ≤ npoints && npoints ≤ 16)) 0, inRange (100 ≤ frSlope && frSlope ≤ 40000) 4,
      inRange (10000 ≤ freqStale && freqStale ≤ 10000000) 8, bufAligned (if npoints = 0 then 0 else buf)]
    late := if npoints = 0 then [] else
      [bufRead h, inRange (ps.all fun p => -5000 ≤ p.1 && p.1 ≤ 5000 && p.2 ≤ 2000) 16, joint (dfRises ps) 16] }

/-- The curve applies from its window (R109, R111). -/
def effGridSetCurve (j : Nat) (h : CmdHdr) (npoints frSlope freqStale : Nat) (s : State) : State :=
  let s := s.modGrid fun g => { g with
    curve := curvePoints (h.buf.getD []) npoints, frSlope := frSlope, freqStale := freqStale
    curveFrom := s.countAt ((s.entry j).applyDwn * 2000), freqHold := g.freqHold && npoints ≠ 0 }
  s.complete j 0 [(s.entry j).applyDwn]

/-- GRID_SET_CURVE: sets or removes the response curve (R109). -/
def execGridSetCurve (h : CmdHdr) (npoints frSlope freqStale buf : Nat) (s : State) : Host.Outcome State Fault Refusal :=
  .next (s.submit (.gridSetCurve h npoints frSlope freqStale buf) h (specGridSetCurve h npoints frSlope freqStale buf s))

/-- GRID_SET_FREQ's checks (R109, R110, R285). -/
def specGridSetFreq (_h : CmdHdr) (df : Int) (_issueTime : Nat) (s : State) : CmdSpec :=
  { opcode := 0x0202, plen := 16, params := [inRange (-5000 ≤ df && df ≤ 5000) 0]
    states := [check (s.source.obeys false) 0x0203 s.source.code] }

/-- A host df applies; with EITHER only a later one than that in use (R110). -/
def effGridSetFreq (j : Nat) (df : Int) (issueTime : Nat) (s : State) : State :=
  let take := s.source.obeys false && (s.source ≠ .either || s.dfLater issueTime)
  let s := if take then (s.useDf df issueTime).modGrid fun g => { g with dfTime := s.now, freqHold := false } else s
  s.complete j 0 [(s.entry j).applyDwn]

/-- GRID_SET_FREQ: a host frequency deviation (R110). -/
def execGridSetFreq (h : CmdHdr) (df : Int) (issueTime : Nat) (s : State) : Host.Outcome State Fault Refusal :=
  .next (s.submit (.gridSetFreq h df issueTime) h (specGridSetFreq h df issueTime s))

/-- GRID_PARK's checks (R115, R285). -/
def specGridPark (_h : CmdHdr) (tseq : BitVec 32) (slope deadline issueTime : Nat) (s : State) : CmdSpec :=
  { opcode := 0x0203, plen := 24, grid := s.gridDuplicate tseq
    params := [inRange (tseq ≠ 0) 0, inRange (100 ≤ slope && slope ≤ 40000) 4]
    states := [s.gridCheck .park { tseq := tseq, slope := slope, deadline := deadline, issueTime := issueTime }] }

/-- A host park takes effect (R115). -/
def effGridPark (j : Nat) (tseq : BitVec 32) (slope deadline issueTime : Nat) (s : State) : State :=
  ((s.commitGrid j false .park { tseq := tseq, slope := slope, deadline := deadline, issueTime := issueTime }).ok j).keepAnswer j

/-- GRID_PARK: a park, committed and ordered as a target (R115). -/
def execGridPark (h : CmdHdr) (tseq : BitVec 32) (slope deadline issueTime : Nat) (s : State) : Host.Outcome State Fault Refusal :=
  .next (s.submitGrid (.gridPark h tseq slope deadline issueTime) h (specGridPark h tseq slope deadline issueTime s)
    { tseq := tseq, slope := slope, deadline := deadline, issueTime := issueTime })

/-- GRID_UNPARK's checks (R115, R285). -/
def specGridUnpark (_h : CmdHdr) (tseq : BitVec 32) (issueTime : Nat) (s : State) : CmdSpec :=
  { opcode := 0x0204, plen := 16, grid := s.gridDuplicate tseq, params := [inRange (tseq ≠ 0) 0]
    states := [s.gridCheck .unpark { tseq := tseq, issueTime := issueTime }] }

/-- A host unpark takes effect (R115). -/
def effGridUnpark (j : Nat) (tseq : BitVec 32) (issueTime : Nat) (s : State) : State :=
  ((s.commitGrid j false .unpark { tseq := tseq, issueTime := issueTime }).ok j).keepAnswer j

/-- GRID_UNPARK: an unpark, committed as a target (R115). -/
def execGridUnpark (h : CmdHdr) (tseq : BitVec 32) (issueTime : Nat) (s : State) : Host.Outcome State Fault Refusal :=
  .next (s.submitGrid (.gridUnpark h tseq issueTime) h (specGridUnpark h tseq issueTime s) { tseq := tseq, issueTime := issueTime })

/-- GRID_SET_SOURCE's checks (R121, R285). -/
def specGridSetSource (_h : CmdHdr) (source reportStale : Nat) (_s : State) : CmdSpec :=
  { opcode := 0x0205, plen := 8, params := [inRange (source ≤ 3) 0, inRange (2000 ≤ reportStale && reportStale ≤ 100000) 4] }

/-- The source changes; with NONE no share is held (R104, R106). -/
def effGridSetSource (j source reportStale : Nat) (s : State) : State :=
  let src : GridSource := match source with | 0 => .none | 1 => .fabric | 2 => .host | _ => .either
  (s.modGrid fun g => { g with
    source := src, reportStale := reportStale, share := if src = .none then none else g.share, sR := if src = .none then none else g.sR
    freqHold := g.freqHold && src ≠ .none }).ok j

/-- GRID_SET_SOURCE: the sources the tray obeys, and REPORT_STALE (R104). -/
def execGridSetSource (h : CmdHdr) (source reportStale : Nat) (s : State) : Host.Outcome State Fault Refusal :=
  .next (s.submit (.gridSetSource h source reportStale) h (specGridSetSource h source reportStale s))

/-- GRID_SET_PARK's checks (R121, R285). -/
def specGridSetPark (_h : CmdHdr) (_rails : BitVec 64) (spread : Nat) (_s : State) : CmdSpec :=
  { opcode := 0x0206, plen := 12, params := [inRange (spread ≤ 60000000) 8] }

/-- The park rail set and GRID_SPREAD change (R117, R121). -/
def effGridSetPark (j : Nat) (rails : BitVec 64) (spread : Nat) (s : State) : State :=
  (s.modGrid fun g => { g with parkRails := rails, spread := spread }).ok j

/-- GRID_SET_PARK: the park rail set and GRID_SPREAD (R117). -/
def execGridSetPark (h : CmdHdr) (rails : BitVec 64) (spread : Nat) (s : State) : Host.Outcome State Fault Refusal :=
  .next (s.submit (.gridSetPark h rails spread) h (specGridSetPark h rails spread s))

/-- GRID_STATUS's checks (R285). -/
def specGridStatus (_h : CmdHdr) (buf : Nat) (_s : State) : CmdSpec := { opcode := 0x0207, plen := 16, params := [bufAligned buf] }

/-- The grid record goes to the buffer (R285). -/
def effGridStatus (j buf : Nat) (s : State) : State := (s.bufferOut j buf (wordsBytes s.gridRecord)).ok j

/-- GRID_STATUS: the grid record (R285). -/
def execGridStatus (h : CmdHdr) (buf : Nat) (s : State) : Host.Outcome State Fault Refusal :=
  .next (s.submit (.gridStatus h buf) h (specGridStatus h buf s))

end Sys2Proof.Machine
end

