-- ==== Sys2Proof/Machine/Governor.lean ====
section
/-!
DEFINITION. The governor's window (R45 to R74): estimate and upper bound, run-ahead and its revocation, allocation, descent, density,
ballast and the command frame; the escalation of a tray whose cap cannot be met (R75 to R77).
-/
namespace Sys2Proof.Machine
open Sys2Proof

/-! ### Escalation (R75 to R77) -/

/-- ESC's code (R80). -/
def EscState.code : EscState → Nat
  | .none => 0 | .saturate => 1 | .shed => 2 | .parking => 3 | .unreachable => 4

/-- Whole watts, never negative. -/
def watts (x : Rat) : Nat := x.floor.toNat

/-- Set or clear QUIESCE of a slot's frames on both bays (R75, R115). -/
def State.setQuiesce (s : State) (slot : Nat) (q : Bool) : State :=
  (s.modGovSlot 0 slot fun g => { g with quiesce := q }).modGovSlot 1 slot fun g => { g with quiesce := q }

/-- Report cap-not-reachable (R75). -/
def State.reportUnreachable (s : State) : State :=
  (s.modEsc fun e => { e with capUnreach := true, unreachTime := s.now }).raise 0x010A [(4, watts s.gov.esc.shortfall)]

/-- The park of the escalation opens the fuse once the slot is quiet and answered for (R75, R77). -/
def State.escalationPark (s : State) : State :=
  let n := s.gov.esc.parkSlot
  if s.gov.esc.state = .parking && s.quiet n && s.parkAnswered n && !s.own.latch.hold then
    let late := !s.gov.esc.ackPark.testBit n
    let s := s.modEsc fun e => { e with state := .shed, since := s.now, escParked := setBit e.escParked n true }
    ((s.setQuiesce n false).commandOpen n).almanac (baySource (s.owner.getD 0)) 0x8104 [(1, n), (1, bit late)]
  else s

/-- The escalation returns to NONE: QUIESCE clears on a slot whose fuse is still closed (R75). -/
def State.escalationCleared (s : State) : State :=
  let e := s.gov.esc
  let s := if e.state = .parking then s.setQuiesce e.parkSlot false else s
  (s.modEsc fun e => { e with state := .none, slots := 0, shortfall := 0, capUnreach := false }).raise 0x0109 [(1, e.slots)]

/-- What an allocation says of the shortfall moves the escalation (R75). -/
def State.escalate (s : State) (shortfall : Rat) (slots : Nat) : State :=
  let e := s.gov.esc
  if shortfall = 0 then (if e.state = .none then s else s.escalationCleared)
  else
    let changed := watts shortfall ≠ watts e.shortfall
    let s := s.modEsc fun e => { e with
      shortfall := shortfall, slots := slots, state := if e.state = .none then .saturate else e.state
      since := if e.state = .none then s.now else e.since }
    if e.state = .unreachable && changed then s.reportUnreachable else s

/-! ### Estimating power (R47 to R52) -/

/-- Committed grant in use for a window as the governor knows it: the window's own, else the latest before it (R32, R51). -/
def GovSlot.grantFor (g : GovSlot) (k : Word32) : Nat :=
  match g.grantsSent.find? fun x => x.committed && x.gseq = k with
  | some x => x.rise
  | none => match highest (g.grantsSent.filter fun x => x.committed && wsAtOrAbove k x.gseq) with | some x => x.rise | none => 0

/-- RISE of the grant of a window up to k + 3, which the frame formed from window k commits at the latest at the value the frame before it
carried; 0 where there is none (R67). -/
def GovSlot.committedRise (g : GovSlot) (k : Word32) : Nat :=
  match g.grantsSent.find? fun x => x.gseq = k with | some x => x.rise | none => 0

/-- The class 1 instance bound to a slot, if any (R47, R172). -/
def State.learnedInst (s : State) (bay slot : Nat) : Option Inst :=
  ((s.easelBay bay).insts.find? fun e => e.2.prog.cls = 1 && e.2.slot = some slot && e.2.switchAt ≤ s.dwn).map (·.2)

/-- A value of a slot entry with its radius, where both are finite and the radius is within the limit (R47). -/
def finiteValue (v : Word32 × Word32) (limit : Nat) : Option (Rat × Rat) :=
  match decodeFloat 0xD v.1.toNat, decodeFloat 0xD v.2.toNat with
  | .fin _ e, .fin _ r => if 0 ≤ r && r ≤ limit then some (e, r) else none
  | _, _ => none

/-- The learned result of window k, where it may be used (R47, R161). -/
def State.learned (s : State) (bay slot : Nat) (k : Word32) : Option (Rat × Rat) :=
  let e := s.slotEntry bay slot
  if e.written && e.wseq = k && !e.status.getLsbD 25 then finiteValue (e.vals.getD 0 (0, 0x7F800000#32)) (s.govParam slot).radLimit else none

/-- The hottest valid point of the eight latest slices, °C (R48). -/
def FrameView.hottest (v : FrameView) : Option Rat :=
  (v.temps.filter fun t => t.2 ≠ -32768).foldl (fun (a : Option Rat) t =>
    let x : Rat := (t.2 : Rat) / 128
    some (match a with | none => x | some y => max y x)) none

/-- T of the linear estimate: the hottest point, else the last it took, else T_ref (R48). -/
def State.tempFor (s : State) (bay slot : Nat) : Rat :=
  match (s.view slot bay).hottest with
  | some t => t
  | none => (s.govSlot bay slot).lastT.getD (s.calSlot slot).tRef

/-- The linear estimate (R48). -/
def State.linearEst (s : State) (bay slot : Nat) : Rat :=
  let p := s.govParam slot
  let f := (s.view slot bay).frame
  let q (x : Int) : Rat := (x : Rat) / 65536
  let work := (p.weights.zip (f.counters.take f.count)).foldl (fun a x => a + q x.1 * x.2) (0 : Rat)
  work + q p.s0 + q p.sV * ((f.rails.getD p.vrail 0 : Rat) / 10 - (s.calSlot slot).vRef) + q p.sT * (s.tempFor bay slot - (s.calSlot slot).tRef)

/-- The linear radius: LIN_RADIUS with the radius the Easel returns (R48). -/
def State.linearRad (s : State) (slot : Nat) (k : Word32) : Rat :=
  (s.govParam slot).linRadius + (Config.linearRadius slot k.toNat : Rat) / 65536

/-- The measured fallback is in use: lane not UP, no counters, or firmware not running (R52). -/
def State.fallbackDue (s : State) (bay slot : Nat) : Bool :=
  let f := (s.view slot bay).frame
  (s.lane slot bay).lstate ≠ .up || f.count = 0 || !f.fwReady

/-- Evaluate window k of one slot: the estimate, its radius and the upper bound, with the fallbacks counted (R47 to R52). The radius that the
governor record shows in the measured fallback is a free value (log entry 32). -/
def State.evaluate (s : State) (bay slot : Nat) : State :=
  let g := s.govSlot bay slot
  let p := s.govParam slot
  let v := s.view slot bay
  let k := if v.fresh then v.frame.wseq else wsAdd g.k 1
  let raw (c : Rat) : Rat := (c - g.o) / g.g
  if s.fallbackDue bay slot then
    let m := s.meanPower (branchCh slot)
    s.modGovSlot bay slot fun g => { g with
      k := k, measured := true, linUsed := false, corrected := m, pUpper := m + p.laneMargin, est := raw m, radius := (Config.fallbackRadius slot k.toNat : Rat) / 1000
      triggers := setBit (setBit g.triggers 1 (g.triggers.testBit 1 || !v.fresh)) 6 (g.triggers.testBit 6 || !g.measured) }
  else if !v.fresh then
    s.modGovSlot bay slot fun g => { g with
      k := k, measured := false, pUpper := g.pUpper + g.grantFor k, est := raw g.corrected, triggers := setBit g.triggers 1 true }
  else
    let lin := s.linearEst bay slot
    let linR := s.linearRad slot k
    let use := match s.learnedInst bay slot with
      | some i => !p.linear && !g.switchedLinear && !i.reloading
      | none => false
    let res := if use then s.learned bay slot k else none
    let fell := use && res.isNone
    let x := res.getD (lin, linR)
    let suspect := fell && g.failRun = 15
    let shown : SlotEntry :=
      { wseq := k, vals := [(BitVec.ofNat 32 (encodeFloat 0xD (round32 0 0 false lin).1), rad32 (some linR))], written := true }
    let s := s.modEaselBay bay fun e => { e with gslots := tset e.gslots (8 + slot) shown }
    let s := s.modGovSlot bay slot fun g => { g with
      k := k, measured := false, linUsed := res.isNone, est := x.1, radius := x.2, corrected := g.g * x.1 + g.o, pUpper := max 0 (g.g * (x.1 + x.2) + g.o)
      lastT := some (s.tempFor bay slot), failRun := if fell then g.failRun + 1 else 0, fallbacks := satAdd 32 g.fallbacks (bit fell)
      switchedLinear := g.switchedLinear || suspect, triggers := setBit g.triggers 5 (g.triggers.testBit 5 || fell) }
    if suspect && s.isOwner bay then s.raise 0x0104 [(1, slot), (4, (s.govSlot bay slot).fallbacks)] else s

/-! ### Run-ahead (R67 to R72) -/

/-- The predictions made from window k, for windows k + 4 to k + 11; none where any value fails (R67, R68). -/
def State.predicted (s : State) (bay slot : Nat) (k : Word32) : Option (List Rat) :=
  let e := s.slotEntry bay (0x10 + slot)
  if e.written && e.wseq = k && !e.status.getLsbD 25 && e.vals.length = 8 then
    (e.vals.mapM fun v => finiteValue v (s.govParam slot).radLimit).map fun l => l.map fun x => x.1 + x.2
  else none

/-- Q(j), the prediction made from window j - 4 (R67). -/
def GovSlot.final (g : GovSlot) (j : Word32) : Option Rat := (g.preds.find? fun p => p.1 = j).map (·.2)

/-- What a bay knows of a slot when it forms the frame of window k. -/
structure Forming where
  /-- committed bound (R67) -/
  uC : Rat := 0
  /-- P_law (R68) -/
  pLaw : Rat := 0
  /-- the trigger rules govern this frame (R70) -/
  revoke : Bool := false
  /-- Q(k + 3) to Q(k + 10), where run-ahead runs (R65, R67) -/
  ahead : Option (List Rat) := none
  deriving DecidableEq, Repr

/-- Committed bound, P_law and the predictions that speculative grants use (R67, R68, R70, R71). -/
def State.lookAhead (s : State) (bay slot : Nat) : Forming :=
  let g := s.govSlot bay slot
  let p := s.govParam slot
  let k := g.k
  let uC := g.pUpper + g.committedRise (wsAdd k 1) + g.committedRise (wsAdd k 2) + g.committedRise (wsAdd k 3)
  let revoke := g.triggers ≠ 0 || g.firstFrame
  let held := match g.raHeldUntil with | some h => !wsAtOrAbove k h | none => false
  let runs := p.runAhead && !g.measured && !revoke && !held
  match runs, g.final (wsAdd k 3), s.predicted bay slot k with
  | true, some q3, some q => { uC := uC, pLaw := min uC (max q3 (g.pUpper - 3 * (p.fallSlope / 5 : Nat))), ahead := some (q3 :: q.take 7) }
  | _, _, _ => { uC := uC, pLaw := uC, revoke := revoke }

/-- The grants of the frame: the measured one for k + 4 alone, or eight from the predictions (R65, R67, R68, R70). -/
def State.grants (s : State) (bay slot : Nat) (f : Forming) : List GrantEntry :=
  let g := s.govSlot bay slot
  let p := s.govParam slot
  let rise (u : Rat) : Nat := if g.descend.isSome then 0 else min (p.riseSlope / 5) (watts (g.allot - u))
  let entry (n : Nat) (u : Rat) : GrantEntry := { gseq := wsAdd g.k (4 + n), rise := rise u, fall := p.fallSlope / 5 }
  match f.ahead with
  | some qs => qs.zipIdx.map fun q => entry q.2 q.1
  | none => [entry 0 f.uC]

/-- The grants the accelerator holds after this frame, as far as windows still ahead use them (R31, R67, R70). -/
def GovSlot.heldAfter (g : GovSlot) (es : List GrantEntry) : List Grant :=
  let commit := wsAdd g.k 3
  let old := (g.grantsSent.filter fun x => wsAtOrAbove commit x.gseq).map fun x => { x with committed := true }
  let past := highest (old.filter fun x => wsAbove g.k x.gseq)
  let keep := old.filter fun x => wsAtOrAbove x.gseq g.k
  past.toList ++ keep ++ es.map fun e => { gseq := e.gseq, rise := e.rise, fall := e.fall, committed := false }

/-! ### Allocation and descent (R59, R60, R73, R74, R394) -/

/-- The cap in force: the accelerator cap by its thermal factor, 0 under a thermal hold (R394, R395). -/
def State.capNow (s : State) (slot : Nat) : Rat :=
  if (s.thermal slot).hold ≠ 0 then 0 else ((s.govParam slot).cap : Rat) * (s.thermal slot).h / 1000

/-- Want, floor and keep of a slot from its latest bounds (R59). -/
def State.wants (s : State) (bay slot : Nat) : State :=
  let p := s.govParam slot
  let cap := s.capNow slot
  s.modGovSlot bay slot fun g =>
    let recent := (g.pUpper :: g.recent).take 8
    let want := min cap (recent.foldl max g.pUpper + p.headroom)
    let flr := min cap (min p.pfloor want)
    { g with recent := recent, want := want, flr := flr, keep := if p.critical then want else flr }

/-- One slot's new allotment: a cut below the draw starts the descent, which falls by FALL in each later window (R69, R73, R74). -/
def GovSlot.allotted (g : GovSlot) (a : Rat) (fall : Nat) (trayFell : Bool) : GovSlot :=
  let cut := decide (a < g.allot)
  let d := match g.descend with
    | some d => if d ≤ a then none else if d - fall ≤ a then none else some (d - fall)
    | none => if cut && a < g.pUpper then some g.pUpper else none
  let overNow := if g.descend.isNone && cut && a < g.pUpper then true else g.overAllot && a < g.pUpper
  { g with allot := a, descend := d, overAllot := overNow, triggers := setBit g.triggers 2 (g.triggers.testBit 2 || cut || trayFell) }

/-- The tray's allotment is divided among the slots that take part (R60). -/
def State.allocateTray (s : State) (bay : Nat) : State :=
  let ns := s.sharing bay
  let ps := ns.map fun n => let g := s.govSlot bay n; ({ want := g.want, keep := g.keep, flr := g.flr, cap := s.capNow n } : Party)
  let as := allocate (s.grid.aTray - s.grid.aPlat) ps
  (ns.zip as).foldl (fun s x => s.modGovSlot bay x.1 fun g => g.allotted x.2 ((s.govParam x.1).fallSlope / 5) s.grid.fell) s

/-! ### Density, ballast and the frame (R62 to R67) -/

/-- The density law (R62). -/
def densityLaw (kp pLaw a pMax : Rat) : Nat := min 240 (256 * kp * max 0 (pLaw - a) / pMax).ceil.toNat

/-- The ceiling that a ballast floor sets (R63). -/
def ballastCap (d b : Nat) (pMax : Rat) : Nat := if b = 0 then d else min d (256 * (pMax - b) / pMax).floor.toNat

/-- The density of the frame: the push hold, then the escalation, then the law (R40, R62, R63, R75). -/
def State.frameDensity (s : State) (slot law b : Nat) : Nat :=
  let e := s.gov.esc
  if (s.pushJob slot).hold240 then 240
  else ballastCap (if e.state ≠ .none && e.slots.testBit slot then 240 else law) b (s.calSlot slot).pMax

/-- The counts of R78 on the commanded density. -/
def State.densityCounts (s : State) (bay slot dens : Nat) (uC : Rat) : State :=
  let g := s.govSlot bay slot
  let p := s.govParam slot
  s.modChg bay slot fun c =>
    let d := if s.now < c.burstEnd then max dens p.droopDens else dens
    let since (ok : Bool) (t : Option Nat) : Option Nat := if ok && c.cst = .idle then t.orElse fun _ => some s.now else none
    { c with highSince := since (decide (p.opdnDens ≤ d)) c.highSince
             zeroSince := since (decide (d = 0) && decide (uC ≤ g.allot - p.opupMargin)) c.zeroSince }

/-- One rollback record for a trigger window (R70, R351). -/
def State.rollbackRecord (s : State) (bay slot : Nat) : State :=
  let g := s.govSlot bay slot
  let first := ((List.range 7).find? fun n => g.triggers.testBit n).getD 0
  let s := s.modGovSlot bay slot fun g => { g with rollbacks := satAdd 16 g.rollbacks 1 }
  if s.isOwner bay then
    s.almanac (baySource bay) 0x8101 [(1, slot), (1, first), (1, g.triggers), (4, g.k.toNat), (4, watts ((g.final g.k).getD 0)), (4, watts g.pUpper)]
  else s

/-- Form a slot's command frame from window k and, on the owner's open lane, send it (R14, R25, R45, R67, R70, R72). -/
def State.formFrame (s : State) (bay slot : Nat) : State :=
  let p := s.govParam slot
  let pMax := (s.calSlot slot).pMax
  let fall := p.fallSlope / 5
  let g := s.govSlot bay slot
  let miss := match g.final g.k with | some q => decide (q + p.missTol < g.pUpper) | none => false
  let s := s.modGovSlot bay slot fun g => { g with triggers := setBit g.triggers 0 miss }
  let g := s.govSlot bay slot
  let f := s.lookAhead bay slot
  let law := densityLaw ((p.kp : Rat) / 1000) f.pLaw (g.descend.getD g.allot) pMax
  let b := if g.quiesce then max 0 (g.ballast - fall) else max 0 (max (g.ballast - fall) (g.corrected - fall))
  let bw := min 3600 (watts b)
  let dens := s.frameDensity slot law bw
  let es := s.grants bay slot f
  let c0 := s.chg bay slot
  let s := if c0.cst = .idle && (c0.target.isSome || c0.trimDue) then s.applyR84 bay slot else s
  let o := (s.chg bay slot).nextOpc s.now (wsAdd g.k 2)
  let cf : CommandFrame := {
    slot := slot, cseq := g.cseq + 1, epoch := s.own.latch.epoch, devTime := s.devNow, density := dens, safeDensity := p.safeDensity, ballastW := bw
    quiesce := g.quiesce, gseqCommit := wsAdd g.k 3, revoke := f.revoke, grants := es, opTarget := (s.chg bay slot).opTarget, opc := o.1
    vgb := if (s.chg bay slot).cst = .stepping then (s.chg bay slot).stepVgb else (s.chg bay slot).vTrim }
  let cf := { cf with crc := commandCrc cf }
  let s := (s.modChg bay slot fun _ => o.2).densityCounts bay slot dens f.uC
  let s := if g.triggers ≠ 0 && !g.firstFrame then s.rollbackRecord bay slot else s
  let newQ := (s.predicted bay slot g.k).bind List.head?
  let sat := decide (law = 240) && (s.view slot bay).frame.opIndex = 0 && decide (g.allot < g.pUpper)
  let s := s.modGovSlot bay slot fun g => { g with
    ballast := b, density := dens, uC := f.uC, cseq := g.cseq + 1, firstFrame := false, frameCrc := shadowCrc cf, frameOk := (s.view slot bay).fresh
    raHeldUntil := if f.revoke then some (wsAdd g.k p.raHold) else g.raHeldUntil
    grantsSent := g.heldAfter es, triggers := 0
    preds := (match newQ with | some q => [(wsAdd g.k 4, q)] | none => []) ++ g.preds.filter fun x => wsAbove x.1 g.k
    satSince := if sat then g.satSince.orElse fun _ => some s.now else none
    energy := g.energy + 2 * g.corrected, eSum := g.eSum + g.est * 2 / 1000000 }
  let s := s.modView slot bay fun v => { v with fresh := false }
  if s.gateOpen bay then (s.emit (.command cf)).sendBlocks slot else s

/-! ### The window (R45) -/

/-- Slots saturated at the floor point for ESC_SAT: the second escalation case (R75). -/
def State.saturated (s : State) (bay : Nat) : List Nat :=
  (s.sharing bay).filter fun n => match (s.govSlot bay n).satSince with
    | some t => s.passed t (s.gov.tray.escSat * 1000) && decide ((s.govSlot bay n).allot < (s.govSlot bay n).pUpper)
    | none => false

/-- The shortfall of the allocation just made and the slots it concerns (R75). -/
def State.judgeShortfall (s : State) (bay : Nat) : State :=
  let ns := s.sharing bay
  let first := max 0 (ratSum (ns.map fun n => (s.govSlot bay n).flr) - (s.grid.aTray - s.grid.aPlat))
  let sat := s.saturated bay
  let second := ratSum (sat.map fun n => (s.govSlot bay n).pUpper - (s.govSlot bay n).allot)
  let floored := ns.filter fun n => (s.govSlot bay n).allot = (s.govSlot bay n).flr
  s.escalate (max first second) ((List.range 8).foldl (fun m n => if floored.contains n || sat.contains n then m + 2 ^ n else m) 0)

/-- One governor window of one bay (R45): the grid's step, every slot's evaluation, the allocation, the escalation, and one frame to each
accelerator. A bay that is neither owner nor standby runs no governor (R13). -/
def execGovernorWindow (bay : Nat) (s : State) : Host.Outcome State Fault Refusal :=
  .next (if !s.runs bay || s.sys.dormant then s
  else
    let s := s.gridStep
    let ns := (List.range 8).filter fun n => (s.govSlot bay n).started && s.branchOn n
    let s := ns.foldl (fun s n => (s.evaluate bay n).wants bay n) s
    let s := s.allocateTray bay
    let s := if s.isOwner bay && s.grid.state ≠ .parkFuses then s.judgeShortfall bay else s
    let s := ns.foldl (fun s n => s.formFrame bay n) s
    let s := s.modGov fun g => { g with windowDone := tset g.windowDone bay s.dwn }
    if s.isOwner bay then s.escalationPark else s)

/-! ### The escalation's timers -/

/-- The condition has held for ESC_SAT since SATURATE: a shed request (R75). -/
def execEscSatExpiry (s : State) : Host.Outcome State Fault Refusal :=
  .next (let e := s.gov.esc
  if s.serving.isSome && e.state = .saturate && s.passed e.since (s.gov.tray.escSat * 1000) then
    (s.modEsc fun e => { e with state := .shed, since := s.now }).raise 0x0107 [(1, e.slots), (4, watts e.shortfall)]
  else s)

/-- The slot to park: unmarked before marked, the highest number first (R76). -/
def State.parkChoice (s : State) (bay : Nat) : Option Nat :=
  let ns := (s.sharing bay).reverse
  (ns.find? fun n => !(s.govParam n).critical).orElse fun _ => if s.gov.tray.parkMarked then ns.head? else none

/-- SHED_WAIT has passed and the shortfall stands: park a slot, or report that the cap cannot be reached (R75, R76). -/
def execShedWaitExpiry (s : State) : Host.Outcome State Fault Refusal :=
  .next (let e := s.gov.esc
  match s.serving with
  | some b =>
    if e.state = .shed && s.passed e.since (s.gov.tray.shedWait * 1000) && decide (0 < e.shortfall) then
      match s.parkChoice b with
      | some n =>
        let s := s.modEsc fun e => { e with
          state := .parking, since := s.now, parkSlot := n, noticeTime := s.now, ackPark := setBit e.ackPark n false }
        (s.setQuiesce n true).raise 0x0108 [(1, 2 ^ n), (1, 0)]
      | none => (s.modEsc fun e => { e with state := .unreachable, since := s.now }).reportUnreachable
    else s
  | none => s)

/-- PARK_WAIT passes without acknowledgement: the park is taken on timeout once the slot is quiet (R77). -/
def execParkWaitExpiry (s : State) : Host.Outcome State Fault Refusal :=
  .next (let e := s.gov.esc
  if s.serving.isSome && e.state = .parking && s.passed e.noticeTime (s.gov.tray.parkWait * 1000) then
    s.escalationPark
  else s)

/-- Cap-not-reachable is reported again every 100 ms (R75). -/
def execUnreachableRepeat (s : State) : Host.Outcome State Fault Refusal :=
  .next (if s.serving.isSome && s.gov.esc.state = .unreachable && s.passed s.gov.esc.unreachTime 100000000 then s.reportUnreachable else s)

end Sys2Proof.Machine
end

