-- ==== Sys2Proof/Machine/GovRows.lean ====
section
/-!
DEFINITION. The governor's other rows: a counter frame arriving on a lane (R30, R39, R42), the millisecond fusion pass (R53, R54) and the
PMBus reads that it uses (R427 to R429), the governor record (R80), and the governor's commands (R79, R284).
-/
namespace Sys2Proof.Machine
open Sys2Proof

/-! ### Counter frames (R30, R39, R42) -/

/-- A slot's governor state at an accelerator start on one bay: it takes part from now on (R39, R59). -/
def GovSlot.atStart (g : GovSlot) : GovSlot :=
  { g with started := true, k := 0, recent := [], descend := none, overAllot := false, allot := 0, ballast := 0, preds := [], grantsSent := []
           raHeldUntil := none, lastT := none, satSince := none, triggers := 0, measured := false, pUpper := 0, corrected := 0, uC := 0, density := 240 }

/-- An accelerator start as one bay sees it; the owner starts the firmware push (R30, R39). The other bay takes the slot up too, where it has not. -/
def State.acceleratorStart (s : State) (bay slot index : Nat) : State :=
  let start (s : State) (b : Nat) : State := (s.modGovSlot b slot GovSlot.atStart).modChg b slot fun c => c.started index
  let s := start s bay
  let s := if (s.govSlot (peer bay) slot).started then s else start s (peer bay)
  if s.isOwner bay then s.startPush slot else s

/-- A counter frame is placed: its fields, and its slice of temperature points (R24, R45, R387). -/
def FrameView.place (v : FrameView) (f : CounterFrame) (now : Nat) : FrameView :=
  { v with frame := f, seen := true, fresh := true, tempTime := tset v.tempTime f.tslice now
           temps := forUpTo 64 (fun t i => tset t (64 * f.tslice + i) (f.temps.getD i (-32768))) v.temps }

/-- A valid frame trains a lane: the fourth in a row brings it UP (R42). -/
def State.trainLane (s : State) (slot bay : Nat) : State :=
  let l := s.lane slot bay
  let s := s.modLane slot bay fun l => { l with lastValid := s.now, blockLock := true, goodFrames := if l.lstate = .train then l.goodFrames + 1 else 0 }
  if l.lstate = .train && 3 ≤ l.goodFrames then
    ((s.modLane slot bay fun l => { l with lstate := .up, goodFrames := 0, failedAttempts := 0, failed := false }).reportLane slot bay 0).noteLanes
  else s

/-- What an accepted counter frame tells the bay: an accelerator start, the push, the change of operating point, a droop (R30, R39, R84, R88). -/
def State.frameSays (s : State) (bay slot : Nat) (f : CounterFrame) : State :=
  let s := if f.wseq = 0 && s.branchOn slot then s.acceleratorStart bay slot f.opIndex else s
  if !s.runs bay then s
  else
    let s := if s.isOwner bay then s.pushSees slot f else s
    let s := s.opcSees bay slot f
    if f.droop then s.droopFrame bay slot f.snapTime else s

/-- A counter frame arrives on a bay's lane of a stalk (R30, R42). -/
def execCounterFrame (bay stalk : Nat) (frame : CounterFrame) (s : State) : Host.Outcome State Fault Refusal :=
  .next (if !s.laneLives bay || (s.lane stalk bay).lstate = .down then s
  else if frame.crc ≠ counterCrc frame then s.modLane stalk bay fun l => { l with crcErr := satAdd 32 l.crcErr 1, goodFrames := 0 }
  else if frame.slot ≠ stalk then (s.modLane stalk bay fun l => { l with goodFrames := 0 }).raise 0x0101 [(1, stalk), (1, frame.slot)]
  else
    let s := s.trainLane stalk bay
    let newer := match (s.lane stalk bay).lastWseq with | some w => wsAbove frame.wseq w | none => true
    if frame.wseq ≠ 0 && !newer then s
    else
      let s := s.modLane stalk bay fun l => { l with lastWseq := some frame.wseq }
      (s.modView stalk bay fun v => v.place frame s.now).frameSays bay stalk frame)

/-! ### Fusion (R53, R54, R92) -/

/-- A PMBus power or current word as LINEAR11 or binary16 (R428). -/
def pmbusValue (w : BitVec 16) (binary16 : Bool) : Option Rat :=
  if binary16 then (match decodeFloat 0xB w.toNat with | .fin _ q => some q | _ => none)
  else some ((signed 11 (w.toNat % 2048) : Rat) * pow2 (signed 5 (w.toNat / 2048)))

/-- READ_PIN of a slot's regulators: their sum enters the pass; a missed sample takes the regulator's last good value (R54, R427 to R429). -/
def execReadPin (slot : Nat) (words : List (Option (BitVec 16 × Bool))) (s : State) : Host.Outcome State Fault Refusal :=
  .next (if s.serving.isNone || 8 ≤ slot then s
  else (List.range 2).foldl (fun s bay => s.modGovSlot bay slot fun g =>
    let vals := words.zipIdx.map fun w => match w.1.bind fun x => pmbusValue x.1 x.2 with
      | some v => v
      | none => g.lastPin.getD w.2 0
    { g with lastPin := vals, pmbusSum := g.pmbusSum + ratSum vals / 1000 }) s)

/-- Gain by least squares over the pairs, o over 1 ms in J (R53). -/
def fitGain (ps : List (Rat × Rat)) : Rat :=
  let n : Rat := ps.length
  let sx := ratSum (ps.map fun p => p.1)
  let sy := ratSum (ps.map fun p => p.2)
  (n * ratSum (ps.map fun p => p.1 * p.2) - sx * sy) / (n * ratSum (ps.map fun p => p.1 * p.1) - sx * sx)

/-- One slot's fusion pass with the reference energy of the pass, J (R53). -/
def GovSlot.fuse (g : GovSlot) (pMax eRef : Rat) : GovSlot :=
  let ps := ((g.eSum, eRef) :: g.pairs).take 16
  let n : Rat := ps.length
  let xs := ps.map fun p => p.1
  let spread := xs.foldl max g.eSum - xs.foldl min g.eSum
  let g1 := if pMax / 20 / 1000 ≤ spread then clampRat (8 / 10) (125 / 100) (g.g + clampRat (-1 / 100) (1 / 100) (fitGain ps - g.g)) else g.g
  let oFit := (ratSum (ps.map fun p => p.2) - g1 * ratSum xs) * 1000 / n
  let o1 := clampRat (-(pMax / 10)) (pMax / 10) (g.o + clampRat (-20) 20 (oFit - g.o))
  { g with pairs := ps, g := g1, o := o1, residual := g.residual + eRef - (g1 * g.eSum + o1 / 1000), eSum := 0 }

/-- The fusion pass of one slot: gain and offset, then the conditions on the senses and the residual, each raised when it begins to hold (R53,
R54). -/
def State.fuseSlot (s : State) (bay slot : Nat) : State :=
  let g := s.govSlot bay slot
  let pMax := ((s.calSlot slot).pMax : Rat)
  let branchNow := (s.branch slot).energy
  let branchE := (branchNow - g.branchSum) / 1000000
  let diffs := ((g.pmbusSum - branchE) :: g.senseDiffs).take 16
  let h := g.fuse pMax (if g.senseOn then g.pmbusSum else branchE)
  let mean := ratMean diffs
  let limit := pMax / 20 / 1000
  let sense := decide (diffs.length = 16) && (decide (limit < mean) || decide (mean < -limit))
  let rLimit := pMax / 200
  let resid := decide (rLimit < h.residual) || decide (h.residual < -rLimit)
  let s := s.modGovSlot bay slot fun _ => { h with branchSum := branchNow, pmbusSum := 0, senseDiffs := diffs, senseOn := sense, residOn := resid }
  if s.isOwner bay then
    let s := if sense && !g.senseOn then s.raise 0x0105 [(1, slot), (8, watts (g.pmbusSum * 1000000)), (8, watts (branchE * 1000000))] else s
    if resid && !g.residOn then s.raise 0x0106 [(1, slot), (4, twos 32 (h.residual * 1000).floor)] else s
  else s

/-- Once per millisecond each bay corrects its estimates against measured energy, and the owner reports droop storms (R53, R54, R92). -/
def execFusionPass (bay : Nat) (s : State) : Host.Outcome State Fault Refusal :=
  .next (if !s.runs bay || s.sys.dormant || !s.passed (tget s.gov.passTime bay 0) 1000000 then s
  else
    let s := s.modGov fun g => { g with passTime := tset g.passTime bay s.now }
    forUpTo 8 (fun s n =>
      let s := if (s.govSlot bay n).started && !s.parked n then s.fuseSlot bay n
        else s.modGovSlot bay n fun g => { g with eSum := 0, pmbusSum := 0, branchSum := (s.branch n).energy }
      let d := (s.chg bay n).droops
      let s := if s.isOwner bay && (s.govParam n).droopStorm < d then s.raise 0x010C [(1, n), (4, d)] else s
      s.modChg bay n fun c => { c with droops := 0 }) s)

/-! ### The governor record (R80) -/

/-- Milliwatts, rounded down, never negative. -/
def milliwatts (x : Rat) : Nat := (x * 1000).floor.toNat

/-- The governor record of one slot (R80). -/
def State.govRecord (s : State) (bay slot : Nat) : List Word64 :=
  let g := s.govSlot bay slot
  let p := s.govParam slot
  let held := !p.runAhead || g.measured || (match g.raHeldUntil with | some h => !wsAtOrAbove g.k h | none => false)
  [ pack [(56, 8, 0x31), (52, 4, slot), (48, 4, s.gov.esc.state.code), (47, 1, bit g.overAllot), (46, 1, bit s.gov.esc.capUnreach),
      (45, 1, bit p.critical), (44, 1, bit (s.parked slot)), (43, 1, bit g.linUsed), (42, 1, bit g.measured), (41, 1, bit held), (0, 32, g.k.toNat)],
    pack [(32, 32, milliwatts g.allot), (0, 32, milliwatts g.pUpper)],
    pack [(32, 32, milliwatts g.corrected), (0, 32, milliwatts g.radius)],
    pack [(32, 32, (g.g * 65536).floor.toNat), (0, 32, twos 32 (g.o * 1000).floor)],
    BitVec.ofNat 64 (watts g.energy),
    pack [(32, 32, twos 32 (g.residual * 1000).floor), (16, 16, g.rollbacks), (8, 8, g.density), (0, 5, (s.view slot bay).frame.opIndex)],
    pack [(32, 32, milliwatts s.gov.esc.shortfall), (0, 32, g.fallbacks)], BitVec.ofNat 64 s.devNow ]

/-- Each record period the governor posts one record per accelerator (R80). -/
def execGovernorRecord (s : State) : Host.Outcome State Fault Refusal :=
  .next (match s.serving with
  | some b => if s.recordDue then forUpTo 8 (fun s n => s.telemetry 0 (s.govRecord b n)) s else s
  | none => s)

/-! ### Commands (R79, R284) -/

/-- A figure of R79 scaled to an accelerator's P_max, to the nearest W. -/
def State.scaled (s : State) (slot x : Nat) : Nat := (2 * x * (s.calSlot slot).pMax + 3600) / 7200

/-- A value lies in a range for every slot named (R276). -/
def State.everySlot (s : State) (slot : Nat) (f : State → Nat → Bool) : Bool := (slotsOf slot).all fun n => f s n

/-- Change the parameters of every slot named. -/
def State.modSlots (s : State) (slot : Nat) (f : GovParam → GovParam) : State := (slotsOf slot).foldl (fun s n => s.modGovParam n f) s

/-- The figures of the joint rule of R58: accelerator caps, tray cap, OSF, PLAT_MARGIN. -/
structure CapSet where
  caps : List Nat := []
  tray : Nat := 0
  osf : Nat := 0
  margin : Nat := 0
  deriving DecidableEq, Repr

/-- The joint rule of R58. -/
def CapSet.ok (c : CapSet) : Bool := (c.caps.sum + c.margin) * 1000 ≤ c.osf * c.tray

/-- The figures once a command has taken effect. -/
def CapSet.after (c : CapSet) (i : Instr) : CapSet :=
  match i with
  | .govSetCap _ slot cap => if slot = 0xFF then { c with tray := cap } else { c with caps := (slotsOf slot).foldl (fun l n => l.set n cap) c.caps }
  | .govSetOversub _ osf => { c with osf := osf }
  | .govSetLimits _ _ 0 value => { c with margin := value }
  | _ => c

/-- The figures as every accepted command leaves them (R58, R237). -/
def State.capSet (s : State) : CapSet :=
  let now : CapSet := {
    caps := (List.range 8).map fun n => (s.govParam n).cap, tray := s.gov.tray.trayCap, osf := s.gov.tray.osf, margin := s.gov.tray.platMargin }
  s.own.journal.entries.foldl (fun c e => match e.2.body with
    | .cmd i => if e.2.state = 1 && !e.2.applied then c.after i else c
    | _ => c) now

/-- GOV_SET_CAP's checks (R58, R79, R284). -/
def specGovSetCap (h : CmdHdr) (slot cap : Nat) (s : State) : CmdSpec :=
  { opcode := 0x0100, plen := 8
    params := [inRange (slotOk slot || slot = 0xFF) 0,
      inRange (if slot = 0xFF then cap ≤ 40000 else s.everySlot slot fun s n => cap ≤ (s.calSlot n).pMax) 4,
      joint (s.capSet.after (.govSetCap h slot cap)).ok 4] }

/-- The cap of an accelerator, of every one, or of the tray (R58). -/
def effGovSetCap (j slot cap : Nat) (s : State) : State :=
  (if slot = 0xFF then s.modTrayParam fun t => { t with trayCap := cap } else s.modSlots slot fun p => { p with cap := cap }).ok j

/-- GOV_SET_CAP (R58). -/
def execGovSetCap (h : CmdHdr) (slot cap : Nat) (s : State) : Host.Outcome State Fault Refusal :=
  .next (s.submit (.govSetCap h slot cap) h (specGovSetCap h slot cap s))

/-- GOV_SET_SLOPE's checks (R79, R284). -/
def specGovSetSlope (_h : CmdHdr) (slot rise fall : Nat) (_s : State) : CmdSpec :=
  let ok (v : Nat) : Bool := 50 ≤ v && v ≤ 20000
  { opcode := 0x0101, plen := 12, params := [inRange (slotOk slot) 0, inRange (ok rise) 4, inRange (ok fall) 8] }

/-- The slopes; a lowering of either is a revocation trigger (R64, R69). -/
def effGovSetSlope (j slot rise fall : Nat) (s : State) : State :=
  ((slotsOf slot).foldl (fun s n =>
    let p := s.govParam n
    let s := if rise < p.riseSlope || fall < p.fallSlope then
        (s.modGovSlot 0 n fun g => { g with triggers := setBit g.triggers 3 true }).modGovSlot 1 n fun g => { g with triggers := setBit g.triggers 3 true }
      else s
    s.modGovParam n fun p => { p with riseSlope := rise, fallSlope := fall }) s).ok j

/-- GOV_SET_SLOPE (R64). -/
def execGovSetSlope (h : CmdHdr) (slot rise fall : Nat) (s : State) : Host.Outcome State Fault Refusal :=
  .next (s.submit (.govSetSlope h slot rise fall) h (specGovSetSlope h slot rise fall s))

/-- GOV_SET_PRIORITY's checks (R284). -/
def specGovSetPriority (_h : CmdHdr) (slot crit : Nat) (_s : State) : CmdSpec :=
  { opcode := 0x0102, plen := 2, params := [inRange (slotOk slot) 0, switchOk crit 1] }

/-- The critical mark (R59). -/
def effGovSetPriority (j slot crit : Nat) (s : State) : State := (s.modSlots slot fun p => { p with critical := crit = 1 }).ok j

/-- GOV_SET_PRIORITY (R59). -/
def execGovSetPriority (h : CmdHdr) (slot crit : Nat) (s : State) : Host.Outcome State Fault Refusal :=
  .next (s.submit (.govSetPriority h slot crit) h (specGovSetPriority h slot crit s))

/-- GOV_SET_GAIN's checks (R79, R284). -/
def specGovSetGain (_h : CmdHdr) (slot kp : Nat) (_s : State) : CmdSpec :=
  { opcode := 0x0103, plen := 8, params := [inRange (slotOk slot) 0, inRange (250 ≤ kp && kp ≤ 8000) 4] }

/-- Kp (R62, R79). -/
def effGovSetGain (j slot kp : Nat) (s : State) : State := (s.modSlots slot fun p => { p with kp := kp }).ok j

/-- GOV_SET_GAIN (R79). -/
def execGovSetGain (h : CmdHdr) (slot kp : Nat) (s : State) : Host.Outcome State Fault Refusal :=
  .next (s.submit (.govSetGain h slot kp) h (specGovSetGain h slot kp s))

/-- GOV_SET_MODEL's checks (R284). -/
def specGovSetModel (_h : CmdHdr) (slot model : Nat) (_s : State) : CmdSpec :=
  { opcode := 0x0104, plen := 2, params := [inRange (slotOk slot) 0, inRange (model ≤ 1) 1] }

/-- The model: GOV_SET_MODEL with learned also returns a slot that R49 switched (R49). -/
def effGovSetModel (j slot model : Nat) (s : State) : State :=
  ((slotsOf slot).foldl (fun s n =>
    let back (g : GovSlot) : GovSlot := if model = 0 then { g with switchedLinear := false, failRun := 0 } else g
    ((s.modGovSlot 0 n back).modGovSlot 1 n back).modGovParam n fun p => { p with linear := model = 1 }) s).ok j

/-- GOV_SET_MODEL (R49). -/
def execGovSetModel (h : CmdHdr) (slot model : Nat) (s : State) : Host.Outcome State Fault Refusal :=
  .next (s.submit (.govSetModel h slot model) h (specGovSetModel h slot model s))

/-- The descriptor that GOV_LOAD_WEIGHTS names in a slot's class 1 instance: an INIT tensor (R171). -/
def State.namedTensor (s : State) (slot tensor : Nat) : Option (Nat × Desc) :=
  let bay := s.serving.getD 0
  match s.instOf bay 1 slot with
  | some n =>
    let d := (s.inst bay n).prog.desc tensor
    if tensor < (s.inst bay n).prog.descs.length && d.init then some (n, d) else none
  | none => none

/-- The new contents fit beside the old in the panel stores of the instance (R170). -/
def State.tensorFits (s : State) (slot : Nat) (d : Desc) : Bool :=
  match s.instOf (s.serving.getD 0) 1 slot with
  | some n => (s.inst (s.serving.getD 0) n).panels.all fun q => storeUsed (s.placedAll none) q + (d.bytes + 63) / 64 * 64 ≤ 0x78000
  | none => true

/-- GOV_LOAD_WEIGHTS's checks: WHAT 0 takes a linear buffer of 8,204 bytes; WHAT 1 an INIT tensor of the slot's class 1 instance and its
contents (R79, R170, R171, R284). -/
def specGovLoadWeights (h : CmdHdr) (slot what vrail tensor buf blen _delta : Nat) (s : State) : CmdSpec :=
  let named := (slotsOf slot).map fun n => (n, s.namedTensor n tensor)
  { opcode := 0x0105, plen := 24, optMask := 1
    params := [inRange (slotOk slot) 0, inRange (what ≤ 1) 1, inRange (vrail ≤ 31) 2, bufAligned buf,
      exists' (what = 0 || named.all fun x => x.2.isSome) 4,
      check (if what = 0 then blen = 8204 else named.all fun x => match x.2 with | some (_, d) => blen = d.bytes | none => true) 0x0102]
    late := [bufRead h,
      check (h.opt.getLsbD 0 || what = 0 || named.all fun x => match x.2 with | some (_, d) => s.tensorFits x.1 d | none => true) 0x0301] }

/-- Signed 32-bit codes of a linear buffer (R48, R284). -/
def linearCodes (bs : List Byte) : List Int := (List.range 2051).map fun i => (BitVec.ofNat 32 (fieldAt bs (4 * i) 4)).toInt

/-- GOV_LOAD_WEIGHTS: the new weights serve from the switch window (R169 to R171). -/
def effGovLoadWeights (j : Nat) (h : CmdHdr) (slot what vrail tensor blen delta : Nat) (s : State) : State :=
  let w := s.switchFor j
  let bs := (h.buf.getD []).take blen
  let s := (slotsOf slot).foldl (fun s n =>
    if what = 0 then s.modGovParam n fun p => { p with nextLinear := p.nextLinear ++ [(w, linearCodes bs, vrail)] }
    else match s.namedTensor n tensor with
      | some (i, d) =>
        let t : Tensor := { tensorOf d bs with delta := BitVec.ofNat 32 delta }
        s.modInsts i fun x => { x with nextTensors := x.nextTensors ++ [(w, tensor, t)], gap := x.gap || (h.opt.getLsbD 0 && !s.tensorFits n d) }
      | none => s) s
  s.complete j 0 [w]

/-- GOV_LOAD_WEIGHTS (R171). -/
def execGovLoadWeights (h : CmdHdr) (slot what vrail tensor buf blen delta : Nat) (s : State) : Host.Outcome State Fault Refusal :=
  .next (s.submit (.govLoadWeights h slot what vrail tensor buf blen delta) h (specGovLoadWeights h slot what vrail tensor buf blen delta s))

/-- GOV_SET_SAFE_DENSITY's checks (R26, R284). -/
def specGovSetSafeDensity (_h : CmdHdr) (slot dens : Nat) (_s : State) : CmdSpec :=
  { opcode := 0x0106, plen := 2, params := [inRange (slotOk slot) 0, inRange (64 ≤ dens && dens ≤ 240) 1] }

/-- SAFE_DENSITY (R26). -/
def effGovSetSafeDensity (j slot dens : Nat) (s : State) : State := (s.modSlots slot fun p => { p with safeDensity := dens }).ok j

/-- GOV_SET_SAFE_DENSITY (R26). -/
def execGovSetSafeDensity (h : CmdHdr) (slot dens : Nat) (s : State) : Host.Outcome State Fault Refusal :=
  .next (s.submit (.govSetSafeDensity h slot dens) h (specGovSetSafeDensity h slot dens s))

/-- GOV_SET_OVERSUB's checks (R58, R79, R284). -/
def specGovSetOversub (h : CmdHdr) (osf : Nat) (s : State) : CmdSpec :=
  { opcode := 0x0107, plen := 8, params := [inRange (1000 ≤ osf && osf ≤ 2000) 4, joint (s.capSet.after (.govSetOversub h osf)).ok 4] }

/-- OSF (R58). -/
def effGovSetOversub (j osf : Nat) (s : State) : State := (s.modTrayParam fun t => { t with osf := osf }).ok j

/-- GOV_SET_OVERSUB (R58). -/
def execGovSetOversub (h : CmdHdr) (osf : Nat) (s : State) : Host.Outcome State Fault Refusal :=
  .next (s.submit (.govSetOversub h osf) h (specGovSetOversub h osf s))

/-- The range of one item of GOV_SET_LIMITS for a slot (R79). -/
def State.limitOk (s : State) (slot item v : Nat) : Bool :=
  match item with
  | 0 => v ≤ 2000
  | 1 => v ≤ s.scaled slot 1000
  | 2 => v ≤ (s.calSlot slot).pMax
  | 3 => v ≤ s.scaled slot 720
  | 4 => s.scaled slot 36 ≤ v && v ≤ s.scaled slot 900
  | 5 => v ≤ s.scaled slot 3600
  | 6 => 32 ≤ v && v ≤ 240
  | 7 => 100 ≤ v && v ≤ 100000
  | 8 => v ≤ s.scaled slot 3600
  | _ => 1000 ≤ v && v ≤ 1000000

/-- GOV_SET_LIMITS's checks (R79, R284). -/
def specGovSetLimits (_h : CmdHdr) (slot item value : Nat) (s : State) : CmdSpec :=
  { opcode := 0x0108, plen := 8
    params := [inRange (if item = 0 then slot = 0xFF else slotOk slot) 0, inRange (item ≤ 9) 1,
      inRange (if item = 0 then s.limitOk 0 0 value else s.everySlot slot fun s n => s.limitOk n item value) 4] }

/-- One limit of a slot (R79). -/
def GovParam.setLimit (p : GovParam) (item v : Nat) : GovParam :=
  match item with
  | 1 => { p with headroom := v }
  | 2 => { p with pfloor := v, pfloorSet := true }
  | 3 => { p with linRadius := v }
  | 4 => { p with radLimit := v }
  | 5 => { p with laneMargin := v }
  | 6 => { p with opdnDens := v }
  | 7 => { p with opdnT := v }
  | 8 => { p with opupMargin := v }
  | _ => { p with opupT := v }

/-- The limit named (R79). -/
def effGovSetLimits (j slot item value : Nat) (s : State) : State :=
  (if item = 0 then s.modTrayParam fun t => { t with platMargin := value } else s.modSlots slot fun p => p.setLimit item value).ok j

/-- GOV_SET_LIMITS (R79). -/
def execGovSetLimits (h : CmdHdr) (slot item value : Nat) (s : State) : Host.Outcome State Fault Refusal :=
  .next (s.submit (.govSetLimits h slot item value) h (specGovSetLimits h slot item value s))

/-- GOV_SET_RUNAHEAD's checks (R79, R284). -/
def specGovSetRunahead (_h : CmdHdr) (slot on missTol raHold : Nat) (s : State) : CmdSpec :=
  { opcode := 0x0109, plen := 12
    params := [inRange (slotOk slot) 0, switchOk on 1, inRange (s.everySlot slot fun s n => missTol ≤ s.scaled n 360) 4, inRange (raHold ≤ 1024) 8] }

/-- Run-ahead, MISS_TOL and RA_HOLD (R68, R69, R71). -/
def effGovSetRunahead (j slot on missTol raHold : Nat) (s : State) : State :=
  (s.modSlots slot fun p => { p with runAhead := on = 1, missTol := missTol, raHold := raHold }).ok j

/-- GOV_SET_RUNAHEAD (R68). -/
def execGovSetRunahead (h : CmdHdr) (slot on missTol raHold : Nat) (s : State) : Host.Outcome State Fault Refusal :=
  .next (s.submit (.govSetRunahead h slot on missTol raHold) h (specGovSetRunahead h slot on missTol raHold s))

/-- GOV_SET_ESCALATION's checks (R79, R284). -/
def specGovSetEscalation (_h : CmdHdr) (escSat shedWait parkWait marked : Nat) (_s : State) : CmdSpec :=
  { opcode := 0x010A, plen := 17
    params := [inRange (10 ≤ escSat && escSat ≤ 10000) 4, inRange (1000 ≤ shedWait && shedWait ≤ 1000000) 8,
      inRange (5000 ≤ parkWait && parkWait ≤ 500000) 12, inRange (marked ≤ 1) 16] }

/-- ESC_SAT, SHED_WAIT, PARK_WAIT and whether marked slots may be parked (R75, R76). -/
def effGovSetEscalation (j escSat shedWait parkWait marked : Nat) (s : State) : State :=
  (s.modTrayParam fun t => { t with escSat := escSat, shedWait := shedWait, parkWait := parkWait, parkMarked := marked = 0 }).ok j

/-- GOV_SET_ESCALATION (R76). -/
def execGovSetEscalation (h : CmdHdr) (escSat shedWait parkWait marked : Nat) (s : State) : Host.Outcome State Fault Refusal :=
  .next (s.submit (.govSetEscalation h escSat shedWait parkWait marked) h (specGovSetEscalation h escSat shedWait parkWait marked s))

/-- GOV_PARK_ACK's checks: QUIESCE is set on every slot named (R284). -/
def specGovParkAck (_h : CmdHdr) (slot : Nat) (s : State) : CmdSpec :=
  { opcode := 0x010B, plen := 1, params := [inRange (slotOk slot) 0]
    states := [rightState (s.everySlot slot fun s n => (s.govSlot s.govBay n).quiesce) s.gov.esc.state.code] }

/-- The host has drained the slots (R75, R116). -/
def effGovParkAck (j slot : Nat) (s : State) : State :=
  ((s.modEsc fun e => { e with ackPark := (slotsOf slot).foldl (fun m n => setBit m n true) e.ackPark }).escalationPark).ok j

/-- GOV_PARK_ACK (R75). -/
def execGovParkAck (h : CmdHdr) (slot : Nat) (s : State) : Host.Outcome State Fault Refusal :=
  .next (s.submit (.govParkAck h slot) h (specGovParkAck h slot s))

/-- GOV_UNPARK's checks: every slot named is parked by the escalation (R77, R284). -/
def specGovUnpark (_h : CmdHdr) (slot : Nat) (s : State) : CmdSpec :=
  { opcode := 0x010C, plen := 1, params := [inRange (slotOk slot) 0]
    states := [rightState (s.everySlot slot fun s n => s.gov.esc.escParked.testBit n) (s.branch (slot % 8)).cstate.code] }

/-- GOV_UNPARK: the slot's fuse closes by an inrush ramp and its thermal factor starts at 1.000; the command completes once every fuse it
closes has closed (R77, R119, R393). A slot that a grid park or a thermal hold keeps open is no longer parked by the escalation, and the
command ends ABANDONED. -/
def effGovUnpark (j slot : Nat) (s : State) : State :=
  let s := (slotsOf slot).foldl (fun s n =>
    ((s.modEsc fun e => { e with escParked := setBit e.escParked n false }).modThermal n fun t => { t with h := 1000 }).modEsc fun e =>
      { e with ackPark := setBit e.ackPark n false }) s
  let t := (slotsOf slot).foldl (fun s n => if s.mayClose n then s.startInrush (branchCh n) else s) s
  if (slotsOf slot).all fun n => (t.branch n).cstate = .inrush then
    (slotsOf slot).foldl (fun s n => s.modChan (branchCh n) fun c => { c with closeJseq := c.closeJseq ++ [j] }) t
  else t.complete j 0x0504 []

/-- GOV_UNPARK (R77). -/
def execGovUnpark (h : CmdHdr) (slot : Nat) (s : State) : Host.Outcome State Fault Refusal :=
  .next (s.submit (.govUnpark h slot) h (specGovUnpark h slot s))

/-- GOV_SET_TELEMETRY's checks (R79, R284). -/
def specGovSetTelemetry (_h : CmdHdr) (period : Nat) (_s : State) : CmdSpec :=
  { opcode := 0x010D, plen := 8, params := [inRange (100 ≤ period && period ≤ 1000000) 4] }

/-- The record period of the tray, counted from its window (R80). -/
def effGovSetTelemetry (j period : Nat) (s : State) : State :=
  (s.modTrayParam fun t => { t with recordPeriod := period, recordFrom := (s.entry j).applyDwn }).ok j

/-- GOV_SET_TELEMETRY (R80). -/
def execGovSetTelemetry (h : CmdHdr) (period : Nat) (s : State) : Host.Outcome State Fault Refusal :=
  .next (s.submit (.govSetTelemetry h period) h (specGovSetTelemetry h period s))

/-- GOV_STATUS's checks: one slot, a buffer (R284). -/
def specGovStatus (_h : CmdHdr) (slot buf : Nat) (_s : State) : CmdSpec :=
  { opcode := 0x0112, plen := 16, params := [inRange (slot < 8) 0, bufAligned buf] }

/-- The governor record of the slot's latest window goes to the buffer (R284). -/
def effGovStatus (j slot buf : Nat) (s : State) : State := (s.bufferOut j buf (wordsBytes (s.govRecord s.govBay slot))).ok j

/-- GOV_STATUS (R284). -/
def execGovStatus (h : CmdHdr) (slot buf : Nat) (s : State) : Host.Outcome State Fault Refusal :=
  .next (s.submit (.govStatus h slot buf) h (specGovStatus h slot buf s))

end Sys2Proof.Machine
end

