-- ==== Sys2Proof/Machine/Bays.lean ====
section
/-!
DEFINITION. Two bays, one owner (R223 to R246): heartbeats and the bay watchdogs, claims and yields, what each bay does when the owner
changes, the mirror and the shadow compare, acknowledgements of the journal, the planned handover, joining, the bay record, and the
failures of R16 and R17 that act on the bays.
-/
namespace Sys2Proof.Machine
open Sys2Proof

/-! ### The latch -/

/-- The YIELD bit of a bay (R223). -/
def Latch.yields (l : Latch) (bay : Nat) : Bool := if bay = 0 then l.yield0 else l.yield1

/-- Set or clear a bay's FORCED bit. -/
def Latch.setForced (l : Latch) (bay : Nat) (v : Bool) : Latch := if bay = 0 then { l with forced0 := v } else { l with forced1 := v }

/-- Set or clear a bay's YIELD bit. -/
def Latch.setYield (l : Latch) (bay : Nat) (v : Bool) : Latch := if bay = 0 then { l with yield0 := v } else { l with yield1 := v }

/-- A bay's FORCED bit is set or its HB_AGE has reached 5 ms (R227, R230). -/
def State.silent (s : State) (bay : Nat) : Bool := s.own.latch.forced bay || 50 ≤ s.hbAge bay

/-- The latch accepts a claim of a bay for an epoch (R227). -/
def State.claimAdmitted (s : State) (bay : Nat) (epoch : Word32) : Bool :=
  let l := s.own.latch
  !l.hold && epoch == l.epoch + 1 && (!l.valid || (l.owner = peer bay && (l.yields (peer bay) || s.silent (peer bay))))

/-! ### A bay's part when the owner changes -/

/-- The hands of a bay with SHADOW 0 that run enter HELD; timer and wait are cancelled (R179, R191). -/
def State.holdHands (s : State) (bay : Nat) : State :=
  s.modBarn fun b => { b with hands := b.hands.map fun e =>
    if e.1 / 4096 = bay && !e.2.shadow && (e.2.state = .ready || e.2.state = .wait) then
      (e.1, { e.2 with state := .held, wait := none, timerMode := 2 }) else e }

/-- The HELD hands of a bay restart from their newest mirrored checkpoint with cause 0x7 (R187, R191). A shadow that waits on the owner's
two-wire result issues its TWI again, on the new owner's bus (R191). -/
def State.resumeHands (s : State) (bay : Nat) : State :=
  s.modBarn fun b => { b with hands := b.hands.map fun e =>
    if e.1 / 4096 != bay then e
    else match e.2.state, e.2.wait with
      | .held, _ => (e.1, e.2.restart (s.granary bay) 7 s.devNow)
      | .wait, some (.twoWire ..) =>
        if e.2.shadow then (e.1, { e.2 with state := .ready, wait := none, pc := e.2.pc - 4, tseq := e.2.tseq - 1 }) else e
      | _, _ => e }

/-- A bay becomes JOINING: it discards its shadow state; a BAY_RESTART that waits for this completes (R230, R293). -/
def State.toJoining (s : State) (bay : Nat) : State :=
  let j := (s.bay bay).restartJseq
  let s := s.modBay bay fun b => { b with
    bstate := .joining, shadowMiss := [], easelReady := false, guardStart := none, restartAt := none, restartJseq := 0 }
  s.completeIf j 0 []

/-- The standby, or a bay that joins, is out of step: it becomes JOINING and the owner runs in single-copy mode (R230, R235, R239). -/
def State.outOfStep (s : State) (bay : Nat) : State :=
  if (s.bay bay).bstate = .standby || (s.bay bay).bstate = .joining then (s.toJoining bay).goSingle else s

/-- A bay reads the latch: where it names the other bay with a newer epoch, a bay that acted as owner stops. It becomes STANDBY if its own
YIELD bit was set at the swap, and otherwise JOINING (R230). -/
def State.readLatch (s : State) (bay : Nat) : State :=
  let l := s.own.latch
  let was := s.bay bay
  let s := s.modBay bay fun b => { b with readEpoch := l.epoch }
  if l.valid && l.owner ≠ bay && was.bstate = .owner then
    let s := s.holdHands bay
    if was.swapYield then s.modBay bay fun b => { b with bstate := .standby, shadowMiss := [] } else s.toJoining bay
  else s

/-- An entry of the former owner that the new owner does not hold is discarded; the ring it came from stands where it stood before it
(R230, R236, R241, R263). -/
def State.discardEntry (s : State) (j : Nat) : State :=
  let e := s.entry j
  let s := s.modJournal fun jn => { jn with entries := tdel jn.entries j }
  if e.kind = 0 then s.modRing e.ring fun r => { r with
    ctrlIdx := e.prevIdx, lastSeq := e.prevSeq, fetchedOpen := if e.posted then r.fetchedOpen else r.fetchedOpen - 1 }
  else s

/-- A new owner goes on from the highest whole entry it holds (R234): entries above it are discarded, the newest first. -/
def State.keepHeld (s : State) (bay : Nat) : State :=
  let held := (s.bay bay).held
  let gone := (s.own.journal.entries.filter fun e => held < e.1).map (·.1)
  (gone.reverse.foldl (fun s j => s.discardEntry j) s).modJournal fun j => { j with nextJseq := held + 1 }

/-- A governor starts on a bay: the grid source that the membership gives is fixed (R104), the fusion pass begins, and the next frame of
each slot is the first of this owner (R72). -/
def State.startGovernor (s : State) (bay : Nat) : State :=
  let s := s.modGrid fun g => { g with source := s.source }
  let s := s.modGov fun g => { g with passTime := if tget g.passTime bay 0 = 0 then tset g.passTime bay s.now else g.passTime }
  forUpTo 8 (fun s n => s.modGovSlot bay n fun g => { g with firstFrame := true }) s

/-- The latch accepts a claim: epoch, owner and cleared bits in one cycle; the gates move; source 0x0003 reaches both bays, and a live former
owner reads the latch (R180, R223, R224, R227, R230). The new owner takes up the journal, the hands, the rails' branches and the
notifications, reports a gap where it has one, and ends a planned handover; a claim that its yield did not bring ends BAY_HANDOVER with
ABANDONED (R191, R239, R242, R281, R293, R367, R425). -/
def State.acceptClaim (s : State) (bay : Nat) (epoch : Word32) : State :=
  let old := s.own.latch
  let first := !old.valid
  let me := s.bay bay
  let s := s.modLatch fun l => { l with
    epoch := epoch, valid := true, owner := bay, yield0 := false, yield1 := false, forced0 := false, forced1 := false }
  let s := if s.loftLost then s else s.modUpd fun u => { u with loftEpoch := epoch }
  let s := if first then s else (s.keepHeld bay).modBay (peer bay) fun b => { b with swapYield := old.yields (peer bay) }
  let s := s.modBay bay fun b => { b with
    bstate := .owner, readEpoch := epoch, guardStart := none, shadowMiss := [], fewLanes := none }
  let s := s.signal 0x0003
  let s := (if (s.bay (peer bay)).alive then s.readLatch (peer bay) else s).noteLanes
  let s := if (s.bay (peer bay)).bstate = .standby then s else s.goSingle
  let s := (s.resumeHands bay).startGovernor bay
  let s := s.raise 0x0D01 [(1, bay), (4, old.epoch.toNat), (4, epoch.toNat)]
  let s := s.raiseWaiting
  let s := if me.bstate = .joining && me.held < me.announced then s.raise 0x0002 [(8, me.held + 1), (8, me.announced)] else s
  let s := (forUpTo 24 (fun s p => s.postNotes p) s).startClosing
  let hj := s.own.journal.handoverJseq
  let restart := s.own.journal.restartAfter
  let s := s.modJournal fun j => { j with handover := .none, handoverJseq := 0, restartAfter := none }
  match restart with
  | some b =>
    let s := s.resetBay b
    if hj = 0 then s else s.modBay b fun x => { x with restartAt := some s.now, restartJseq := hj }
  | none => if old.yields (peer bay) then s.completeIf hj 0 [epoch.toNat] else s.completeIf hj 0x0504 []

/-- A bay that can reach the latch: its die runs, its ROM hands are started, and it is not Dormant (R223, R441). -/
def State.canClaim (s : State) (bay : Nat) : Bool :=
  let b := s.bay bay
  b.alive && !s.sys.dormant && (b.bstate = .joining || b.bstate = .standby || b.bstate = .owner || (b.bstate = .down && b.releasedAt.isSome))

/-- A claim reaches the latch: accepted, or counted in REFUSED, and the claimant reads the latch (R227). -/
def State.claim (s : State) (bay : Nat) (epoch : Word32) : State :=
  if s.claimAdmitted bay epoch then (s.acceptClaim bay epoch).followDrives
  else (s.modLatch fun l => { l with refused := satAdd 8 l.refused 1 }).readLatch bay

/-- A bay is released after push boot: with no owner since start it claims, and becomes JOINING if refused; with an owner it asks to join
(R230, R441). -/
def State.bayReleased (s : State) (bay : Nat) : State :=
  let s := s.modBay bay fun b => { b with releasedAt := some s.now }
  if s.own.latch.valid then s.toJoining bay
  else
    let s := s.claim bay (s.own.latch.epoch + 1)
    if (s.bay bay).bstate = .down then s.toJoining bay else s

/-! ### Heartbeats, watchdogs and claims -/

/-- A bay's ROM hands run and beat: released, not Dormant; where it runs a governor, the governor has completed the windows up to now
(R225). -/
def State.beats (s : State) (bay : Nat) : Bool :=
  let b := s.bay bay
  !s.sys.dormant && (b.bstate = .joining || b.bstate = .standby || b.bstate = .owner) &&
  (!s.runs bay || s.dwn ≤ tget s.gov.windowDone bay 0 + 1)

/-- A heartbeat: HB_AGE starts again, FORCED clears, the watchdog is armed, a claim guard that ran on this bay's silence ends, and the bay reads
the latch (R223, R225, R226, R230). After a wake the count starts 1 ms after it (R479). -/
def execHeartbeat (bay : Nat) (s : State) : Host.Outcome State Fault Refusal :=
  .next (if !s.beats bay then s else
    let t := match s.sys.wakeTime with | some w => max s.now (w + 1000000) | none => s.now
    let s := s.modBay bay fun b => { b with hbTime := some t, hbFrozen := none, wdArmed := true, wakeWd := false, alive := true }
    let s := s.modLatch fun l => l.setForced bay false
    let s := s.modBay (peer bay) fun b => { b with guardStart := none }
    (s.readLatch bay).followDrives)

/-- The other bay's claim guard starts where a silent bay is the owner and the other is STANDBY or JOINING (R230). -/
def State.startGuard (s : State) (bay : Nat) : State :=
  let p := s.bay (peer bay)
  if s.owner = some bay && s.silent bay && (p.bstate = .standby || p.bstate = .joining) && p.guardStart.isNone then
    s.modBay (peer bay) fun b => { b with guardStart := some s.now }
  else s

/-- The bay watchdog: HB_AGE reaches WD_TIMEOUT while it is armed, the keeper sets FORCED and disarms it, and raises the bay-forced event
(R226). A bay that failed to leave Dormant is reset (R481). -/
def execWdTimeoutExpiry (bay : Nat) (s : State) : Host.Outcome State Fault Refusal :=
  .next (match (s.bay bay).hbTime with
  | some t =>
    if (s.bay bay).wdArmed && (s.bay bay).hbFrozen.isNone && s.passed t (s.own.param.wdTimeout * 1000) then
      let s := (s.modBay bay fun b => { b with wdArmed := false }).modLatch fun l => l.setForced bay true
      let wake := (s.bay bay).wakeWd
      let s := ((s.raiseLater 0x0D03 [(1, bay)]).startGuard bay).followDrives
      if wake then (s.refuseRunning bay).resetBay bay else s
    else s
  | none => s)

/-- The owner's HB_AGE reaches 5 ms, which admits a claim: the other bay's guard starts (R227, R230). -/
def execOwnerHbAge5ms (s : State) : Host.Outcome State Fault Refusal :=
  .next (match s.owner with
  | some b => if s.sys.dormant then s else s.startGuard b
  | none => s)

/-- CLAIM_GUARD ends with the owner still silent: the standby or joining bay claims (R230). -/
def execClaimGuardExpiry (bay : Nat) (s : State) : Host.Outcome State Fault Refusal :=
  .next (match (s.bay bay).guardStart with
  | some t =>
    if s.passed t (s.own.param.claimGuard * 1000) && s.owner = some (peer bay) && s.silent (peer bay) && s.canClaim bay &&
       ((s.bay bay).bstate = .standby || (s.bay bay).bstate = .joining) then
      (s.modBay bay fun b => { b with guardStart := none }).claim bay (s.own.latch.epoch + 1)
    else s
  | none => s)

/-- A bay writes a claim for an epoch to the latch port (R227, R228). -/
def execOwnershipClaim (bay : Nat) (epoch : BitVec 32) (s : State) : Host.Outcome State Fault Refusal :=
  .next (if s.canClaim bay then s.claim bay epoch else s)

/-- An owner sets or clears its YIELD bit; in keeper-hold the bit keeps its value (R17, R229). -/
def execOwnershipYield (bay : Nat) (on : Bool) (s : State) : Host.Outcome State Fault Refusal :=
  .next (if s.serving = some bay && !s.own.latch.hold then s.modLatch fun l => l.setYield bay on else s)

/-! ### The mirror and the shadow -/

/-- A mirror write reaches a bay over the breezeway: refused where its epoch is older than the latch, and its sender reads the latch (R230,
R231); a bay that is DOWN takes none (R186). -/
def execMirrorWrite (bay : Nat) (epoch : BitVec 32) (addr : Nat) (data : List (BitVec 8)) (s : State) : Host.Outcome State Fault Refusal :=
  .next (if !s.own.journal.breezeUp || !(s.bay bay).alive || (s.bay bay).bstate = .down then s
  else if epoch.toNat < s.own.latch.epoch.toNat then (s.emit (.mirrorRefused (peer bay))).readLatch (peer bay)
  else if mapped addr data.length && data ≠ [] then s.modGranary bay fun g => g.fill addr data
  else s)

/-- No acknowledgement of a mirrored checkpoint within 2 us: the hand is READY, the write counts as missed, and the peer becomes JOINING
(R186). -/
def execMirrorAckTimeout (bay hand : Nat) (s : State) : Host.Outcome State Fault Refusal :=
  .next (match (s.hand bay hand).state, (s.hand bay hand).wait with
  | .wait, some (.mirror since) =>
    if s.passed since 2000 then
      (s.modHand bay hand fun h => { h with state := .ready, wait := none, missedMirror := satAdd 16 h.missedMirror 1 }).outOfStep (peer bay)
    else s
  | _, _ => s)

/-- The owner's CRC of a window's command frame reaches the standby: it is compared where both bays accepted the counter frame of the window;
SHADOW_MISMATCH differing windows in a row on a slot are a divergence (R233; counted slot by slot, DEDUCED, log entry 60). -/
def execShadowCompare (slot : Nat) (crc : BitVec 32) (s : State) : Host.Outcome State Fault Refusal :=
  .next (match s.serving, s.standby with
  | some o, some b =>
    let mine := s.govSlot b slot
    let its := s.govSlot o slot
    if s.own.journal.breezeUp && mine.frameOk && its.frameOk && mine.k = its.k then
      let n := if mine.frameCrc = crc then 0 else tget (s.bay b).shadowMiss slot 0 + 1
      let s := s.modBay b fun x => { x with shadowMiss := tset x.shadowMiss slot n }
      if s.own.param.shadowMismatch ≤ n then
        (s.raiseSev b 0x0D02 (eventSev 0x0D02) 0 [(1, slot), (4, s.dwn)]).outOfStep b
      else s
    else s
  | _, _ => s)

/-! ### The journal -/

/-- The owner journals an internal change (R234, R235). -/
def execJournalWrite (change : Change) (s : State) : Host.Outcome State Fault Refusal :=
  .next (if s.serving.isSome && s.own.journal.handover = .none then s.journalChange change else s)

/-- The other bay acknowledges a whole entry: the owner posts acceptance; a handover that waits for the last acknowledgement goes on (R235,
R239, R242). -/
def execJournalAck (jseq : Nat) (s : State) : Host.Outcome State Fault Refusal :=
  .next (match s.serving with
  | some b =>
    let e := s.entry jseq
    let p := (s.bay (peer b)).bstate
    if e.state = 1 && !e.acked && !s.own.journal.single && s.own.journal.breezeUp && (p = .standby || p = .joining) then
      ((s.modBay (peer b) fun x => { x with held := max x.held jseq }).acknowledge jseq).handoverAdvance
    else s
  | none => s)

/-- No acknowledgement within 10 us: the other bay is out of step, and the owner goes on in single-copy mode (R235, R239). -/
def execJournalAckTimeout (jseq : Nat) (s : State) : Host.Outcome State Fault Refusal :=
  .next (match s.serving with
  | some b =>
    let e := s.entry jseq
    if e.state = 1 && !e.acked && s.passed e.written 10000 then ((s.outOfStep (peer b)).goSingle).handoverAdvance else s
  | none => s)

/-- RETAIN_MIN has passed since an entry was consumed, or took effect with its steps done: it is released (R236). -/
def execRetainExpiry (jseq : Nat) (s : State) : Host.Outcome State Fault Refusal :=
  .next (let e := s.entry jseq
    match e.doneTime with
    | some t =>
      if e.state = 2 && e.owed = 0 && (e.kind ≠ 0 || (e.posted && e.compIdx.isNone)) && s.passed t (s.own.param.retainMin * 1000) then
        s.modJournal fun j => { j with entries := tdel j.entries jseq }
      else s
    | none => s)

/-! ### Planned handover and joining -/

/-- Window H opens: the owner sets YIELD (R242). -/
def execHandoverWindow (s : State) : Host.Outcome State Fault Refusal :=
  .next (match s.serving with
  | some b =>
    if s.own.journal.handover = .journalled && s.own.journal.handoverAt ≤ s.dwn && !s.own.latch.hold then
      (s.modLatch fun l => l.setYield b true).modJournal fun j => { j with handover := .yielded, handoverStart := s.now }
    else s
  | none => s)

/-- No claim within HANDOVER_WAIT: the owner clears YIELD and resumes, and BAY_HANDOVER completes with TIMEOUT (R242). -/
def execHandoverWaitExpiry (s : State) : Host.Outcome State Fault Refusal :=
  .next (if s.own.journal.handover = .yielded && s.passed s.own.journal.handoverStart (s.own.param.handoverWait * 1000) && !s.own.latch.hold
    then s.handoverFail else s)

/-- The hand of a joining bay that stands for the owner's: its configuration, and the state that R191 gives it on the standby. A hand
with SHADOW 1 that runs starts from the mirrored checkpoint (R190, R193, R244). -/
def joinHand (g : Granary) (now : Nat) (h : Hand) : Hand :=
  if h.state = .ready || h.state = .wait || h.state = .held then
    let h' := { h with wait := none, heldResults := [], resync := false, discardTwi := 0 }
    if h.shadow then h'.restart g 6 now else { h' with state := .held, timerMode := 2 }
  else h

/-- The two checkpoint records of every user hand of the owner, copied to the joining bay (R186, R244). -/
def State.copyCheckpoints (s : State) (src dst : Nat) : State :=
  (s.barn.hands.filter fun e => e.1 / 4096 = src && 1024 ≤ e.1 % 4096 && e.2.ckptPtr ≠ 0).foldl (fun s e =>
    s.modGranary dst fun g => g.fill e.2.ckptPtr (memRead (s.granary src).mem e.2.ckptPtr 256)) s

/-- The user hands of a joining bay follow those of the owner (R191, R193, R244). -/
def State.copyHands (s : State) (src dst : Nat) : State :=
  (s.barn.hands.filter fun e => e.1 / 4096 = src && 1024 ≤ e.1 % 4096).foldl (fun s e =>
    s.modHand dst (e.1 % 4096) fun _ => joinHand (s.granary dst) s.devNow e.2) s

/-- Governor state, operating-point changes and placed frames of the joining bay follow the owner's (R244). -/
def State.copyGovernor (s : State) (src dst : Nat) : State :=
  let s := forUpTo 8 (fun s n =>
    let s := s.modGovSlot dst n fun _ => s.govSlot src n
    let s := s.modChg dst n fun _ => s.chg src n
    if (s.view n dst).seen then s else s.modView n dst fun v => { v with seen := (s.view n src).seen }) s
  s.modGov fun g => { g with passTime := tset g.passTime dst (tget g.passTime src 0), windowDone := tset g.windowDone dst (tget g.windowDone src 0) }

/-- Page map, code and data of the joining bay follow the owner's, where the joining bay's page is free (R193, R210, R244). -/
def State.copyPages (s : State) (src dst : Nat) : State :=
  ((s.granary src).pageMap.filter fun e => pageOwner e.2 = 7 || pageOwner e.2 = 8).foldl (fun s e =>
    if pageOwner (tget (s.granary dst).pageMap e.1 0) = 0 then
      let base := if e.1 < 6144 then e.1 * 4096 else 0x02000000 + (e.1 - 6144) * 4096
      s.modGranary dst fun g => { g.fill base (memRead (s.granary src).mem base 4096) with pageMap := tset g.pageMap e.1 e.2 }
    else s) s

/-- Copy complete and mirror in step: journal, page map, checkpoints, governor and Easel state have reached the joining bay; from now on
acceptance waits for its acknowledgement, and the owner journals a JOIN entry (R125, R172, R244). -/
def execJoinCopyDone (bay : Nat) (s : State) : Host.Outcome State Fault Refusal :=
  .next (if s.serving = some (peer bay) && (s.bay bay).bstate = .joining && (s.bay bay).alive && s.own.journal.breezeUp &&
      s.own.journal.single && s.own.journal.handover = .none && s.journalFree then
    let o := peer bay
    let s := (((s.copyPages o bay).copyCheckpoints o bay).copyHands o bay).copyGovernor o bay
    let s := s.modEaselBay bay fun e => { s.easelBay o with panelsOut := e.panelsOut, kacReturn := e.kacReturn }
    let n := s.own.journal.nextJseq - 1
    let s := s.modBay bay fun b => { b with held := n, announced := n }
    (s.modJournal fun j => { j with single := false }).journalChange (.join bay)
  else s)

/-- The JOIN entry takes effect: the bay becomes STANDBY with its Easel state in step, and its lanes count against the owner's from now
on (R43, R125, R230, R244). -/
def State.applyJoin (s : State) (bay : Nat) : State :=
  if (s.bay bay).bstate = .joining && !s.own.journal.single then
    ((s.modBay (peer bay) fun b => { b with fewLanes := none }).modBay bay fun b => { b with
      bstate := .standby, easelReady := true, shadowMiss := [], guardStart := none }).noteLanes
  else s

/-! ### Links and failures -/

/-- The breezeway fails or returns: without it the standby becomes JOINING and the owner runs alone; the bay rejoins on its return (R230,
R239). -/
def execBreezewayLinkChange (up : Bool) (s : State) : Host.Outcome State Fault Refusal :=
  .next (let s := s.modJournal fun j => { j with breezeUp := up }
    if up then s else match s.serving with
      | some b => ((s.outOfStep (peer b)).goSingle).handoverAdvance
      | none => match s.standby with | some b => s.toJoining b | none => s)

/-- The photonic die stops: the tray is cut from the root and fabric time is device time (R114, R319). -/
def State.fabricStops (s : State) : State :=
  ((s.modFabric fun f => { f with alive := false }).modSys fun p => { p with ftOffset := 0, photHb := s.now }).modGrid fun g =>
    { g with pathLost := g.pathLost || s.fab.fab.mepoch != 0 }

/-- A die fails or stalls: Bay 0, Bay 1 or the photonic die (2). Its heartbeats and outputs stop; the loss of the standby leaves the owner in
single-copy mode (R16, R239). -/
def execDieFailure (die : Nat) (s : State) : Host.Outcome State Fault Refusal :=
  .next (if die < 2 then
    let was := (s.bay die).bstate
    let s := (s.refuseRunning die).modBay die fun b => { b with alive := false }
    if was = .standby || was = .joining then s.outOfStep die else s
  else s.fabricStops)

/-- Both bays are gated and no gate or rail moves any more, until a power cycle; every running bay posts the keeper-hold event (R17). An open push
window closes (R437). -/
def State.enterHold (s : State) (pair : Nat) (running : Bool) : State :=
  if s.own.latch.hold then s else
  let s := s.modLatch fun l => { l with hold := true }
  let s := forUpTo 2 (fun s b => match (s.push b).state with
    | .opened => s.modPush b fun p => { p with state := .held }
    | .pushing => s.modPush b fun p => { p with state := .held }
    | .verifying => s.modPush b fun p => { p with state := .held }
    | _ => s) s
  let s := s.followDrives
  (if running then s.raise 0x0E01 [(1, pair)] else s).almanac 0 0x0E01 [(1, pair)]

/-- A keeper lockstep pair miscompares (R17). -/
def execKeeperHold (pair : Nat) (s : State) : Host.Outcome State Fault Refusal := .next (s.enterHold pair true)

/-- No crystal edge for 2 us: the keeper moves to its internal oscillator, the bay and photonic PLLs stop, and the keeper enters keeper-hold
with no event posted (R484). -/
def execCrystalLoss (s : State) : Host.Outcome State Fault Refusal :=
  .next (let s := s.modSys fun p => { p with internalOsc := true }
    let s := s.fabricStops
    (forUpTo 2 (fun s b => s.modBay b fun x => { x with alive := false }) s).enterHold 0xFF false)

/-- Every 10 ms the keeper reads every die's junction sensor and delivers the readings to both bays (R246). -/
def execJunctionSensorRead (bay0 bay1 keeper photonic loft : Int) (s : State) : Host.Outcome State Fault Refusal :=
  .next (((s.modBay 0 fun b => { b with tj := bay0 }).modBay 1 fun b => { b with tj := bay1 }).modSys fun p =>
    { p with tjKeeper := keeper, tjPhotonic := photonic, tjLoft := loft })

/-! ### The bay record -/

/-- Banks of a bay retired (R221). -/
def Granary.retired (g : Granary) : Nat := bit g.spareG.isSome + bit g.spareP.isSome

/-- The bay record of one bay (R246). A bay that is DOWN sends nothing: its own values are 0. -/
def State.bayRecord (s : State) (bay : Nat) : List Word64 :=
  let b := s.bay bay
  let sent := b.bstate ≠ .down && b.alive && (s.serving = some bay || s.own.journal.breezeUp)
  let own (n : Nat) : Nat := if sent then n else 0
  [ pack [(56, 8, 0x39), (55, 1, bay), (52, 3, own b.bstate.code), (51, 1, bit (s.owner = some bay)), (0, 32, own s.health)],
    s.latchWord,
    pack [(48, 16, if sent then twos 16 b.tj else 0x8000), (32, 16, twos 16 s.sys.tjKeeper), (16, 16, twos 16 s.sys.tjPhotonic), (0, 16, twos 16 s.sys.tjLoft)],
    pack [(48, 16, own (s.barn.hands.filter fun e => e.1 / 4096 = bay && e.2.state = .faulted).length),
      (32, 16, own ((List.range 16).filter fun n => (s.easelBay bay).panelsOut.getLsbD n).length),
      (16, 16, own (s.granary bay).retired), (0, 16, own (s.granary bay).ueCount)],
    pack [(32, 32, own (twos 32 ((b.margin.getD 0) * 5))), (0, 32, twos 32 ((s.trimOf (0x10 + bay) 0).trim * 25))],
    BitVec.ofNat 64 (own b.held),
    pack [(32, 32, own s.own.journal.entries.length), (0, 32, s.host.rings.eseq.toNat)],
    BitVec.ofNat 64 s.devNow ]

/-- Each bay record period the owner posts one record for each bay (R246, R266). -/
def execBayRecord (s : State) : Host.Outcome State Fault Refusal :=
  .next (if s.serving.isSome && s.passed s.own.recordTime (s.own.param.recordPeriod * 1000) then
    let s := s.modOwn fun o => { o with recordTime := s.now }
    let r0 := s.bayRecord 0
    let r1 := s.bayRecord 1
    (s.telemetry 7 r0).telemetry 7 r1
  else s)

/-! ### Commands of group 0x0D -/

/-- BAY_STATUS's checks. -/
def specBayStatus (_h : CmdHdr) (_s : State) : CmdSpec := { opcode := 0x0D00, plen := 0 }

/-- BAY_STATUS returns the latch and both BAY_INFO words (R250, R291). -/
def effBayStatus (j : Nat) (s : State) : State := s.complete j 0 [s.latchWord.toNat, (s.bayInfo 0).toNat, (s.bayInfo 1).toNat]

/-- BAY_STATUS (R291). -/
def execBayStatus (h : CmdHdr) (s : State) : Host.Outcome State Fault Refusal := .next (s.submit (.bayStatus h) h (specBayStatus h s))

/-- BAY_HANDOVER's checks: HANDOVER_WAIT 10 to 1,000 us; the peer is STANDBY (R242, R245, R291). -/
def specBayHandover (_h : CmdHdr) (waitUs : Nat) (s : State) : CmdSpec :=
  let p := match s.serving with | some b => (s.bay (peer b)).bstate | none => .down
  { opcode := 0x0D01, plen := 8, params := [inRange (10 ≤ waitUs && waitUs ≤ 1000) 4], states := [rightState (p = .standby) p.code] }

/-- BAY_HANDOVER sets HANDOVER_WAIT and starts the handover; it completes with the new owner's epoch (R242, R245, R291). -/
def effBayHandover (j waitUs : Nat) (s : State) : State :=
  if s.handoverOk then (s.modOwnParam fun p => { p with handoverWait := waitUs }).startHandover j none else s.complete j 0x0504 []

/-- BAY_HANDOVER (R242, R291). -/
def execBayHandover (h : CmdHdr) (waitUs : Nat) (s : State) : Host.Outcome State Fault Refusal :=
  .next (s.submit (.bayHandover h waitUs) h (specBayHandover h waitUs s))

/-- Range of a BAY_CONFIG item: durations in us, counts of windows as they are (R245, R275, R291). -/
def bayItemOk (item v : Nat) : Bool :=
  match item with
  | 0 => 20 ≤ v && v ≤ 250
  | 1 => 500 ≤ v && v ≤ 2000
  | 2 => decide (v ≤ 900)
  | 3 => 6 ≤ v && v ≤ 64
  | 4 => 10000 ≤ v && v ≤ 10000000
  | 5 => 1 ≤ v && v ≤ 1024
  | _ => 1000 ≤ v && v ≤ 10000000

/-- BAY_CONFIG's checks (R245, R291). -/
def specBayConfig (_h : CmdHdr) (item value : Nat) (_s : State) : CmdSpec :=
  { opcode := 0x0D02, plen := 8, params := [inRange (item < 7) 0, inRange (bayItemOk item value) 4] }

/-- The ownership parameters with one item set (R245). -/
def OwnParam.set (p : OwnParam) (item v : Nat) : OwnParam :=
  match item with
  | 0 => { p with hbPeriod := v }
  | 1 => { p with wdTimeout := v }
  | 2 => { p with claimGuard := v }
  | 3 => { p with applyLead := v }
  | 4 => { p with retainMin := v }
  | 5 => { p with shadowMismatch := v }
  | _ => { p with recordPeriod := v }

/-- BAY_CONFIG sets one parameter (R245). -/
def effBayConfig (j item value : Nat) (s : State) : State := (s.modOwnParam fun p => p.set item value).ok j

/-- BAY_CONFIG (R245, R291). -/
def execBayConfig (h : CmdHdr) (item value : Nat) (s : State) : Host.Outcome State Fault Refusal :=
  .next (s.submit (.bayConfig h item value) h (specBayConfig h item value s))

/-- BAY_RESTART's checks: naming the owner it needs a STANDBY peer; the other bay is named in any state (R291, R293). -/
def specBayRestart (_h : CmdHdr) (bay : Nat) (s : State) : CmdSpec :=
  let p := match s.serving with | some b => (s.bay (peer b)).bstate | none => .down
  { opcode := 0x0D03, plen := 1, params := [inRange (bay < 2) 0], states := [rightState (s.serving ≠ some bay || p = .standby) p.code] }

/-- BAY_RESTART of the owner first hands over; the other bay is reset at once. It completes when the bay reaches JOINING (R293). -/
def effBayRestart (j bay : Nat) (s : State) : State :=
  if s.serving = some bay then
    if s.handoverOk then s.startHandover j (some bay) else s.complete j 0x0504 []
  else (s.resetBay bay).modBay bay fun b => { b with restartAt := some s.now, restartJseq := j }

/-- BAY_RESTART (R291, R293). -/
def execBayRestart (h : CmdHdr) (bay : Nat) (s : State) : Host.Outcome State Fault Refusal :=
  .next (s.submit (.bayRestart h bay) h (specBayRestart h bay s))

/-- The restarted bay has not reached JOINING within 1 s of its reset: BAY_RESTART completes with TIMEOUT (R293). -/
def execBayRestartTimeout (bay : Nat) (s : State) : Host.Outcome State Fault Refusal :=
  .next (match (s.bay bay).restartAt with
  | some t =>
    if s.passed t 1000000000 then
      let j := (s.bay bay).restartJseq
      (s.modBay bay fun b => { b with restartAt := none, restartJseq := 0 }).completeIf j 0x0502 []
    else s
  | none => s)

end Sys2Proof.Machine
end

