-- ==== Sys2Proof/Machine/HandRows.lean ====
section
/-!
DEFINITION. The commands of the Barn (R179, R193, R290), the mailbox of a hand and the replies that complete an LSEND (R185, R316).
-/
namespace Sys2Proof.Machine
open Sys2Proof

/-! ### Mailboxes -/

/-- Address of slot i of a hand's mailbox: the last 256 bytes of its data region hold 4 messages of 64 bytes (R185; the place is a
DESIGN CHOICE, log entry 61). -/
def Hand.mailSlot (h : Hand) (i : Nat) : Nat := h.dataBase + h.dataLen - 256 + 64 * i

/-- A hand has a mailbox: it is loaded and its data region has the space (R185). -/
def Hand.hasMailbox (h : Hand) : Bool := h.state != .free && 256 ≤ h.dataLen

/-- The lowest mailbox slot that holds no message: one whose 64 bytes are all 0 (DESIGN CHOICE, log entry 61). -/
def State.freeMailSlot (s : State) (bay hand : Nat) : Option Nat :=
  let h := s.hand bay hand
  (List.range 4).find? fun i => (memRead (s.granary bay).mem (h.mailSlot i) 64).all fun b => b = 0

/-- A message arrives at a hand's mailbox: 0x00 delivered with event source 0x0004 to that hand, 0x01 full, 0x02 no such mailbox (R180,
R185). -/
def State.deliverMail (s : State) (bay hand : Nat) (msg : List Byte) : State × Nat :=
  if !(s.hand bay hand).hasMailbox then (s, 2)
  else match s.freeMailSlot bay hand with
    | none => (s, 1)
    | some i =>
      ((s.modGranary bay fun g => g.fill ((s.hand bay hand).mailSlot i) msg).modHand bay hand fun h => h.deliver 0x0004, 0)

/-- MAILBOX_MESSAGE: a 64-byte message arrives at a hand's mailbox (R185). -/
def execMailboxMessage (bay hand : Nat) (msg : List (BitVec 8)) (s : State) : Host.Outcome State Fault Refusal :=
  .next (if (s.bay bay).bstate = .down || s.sys.dormant then s else (s.deliverMail bay hand msg).1)

/-- The LSEND of a hand that waits ends with a status in rd[31:24] (R185). -/
def State.endSend (s : State) (bay hand status : Nat) (reply : List Byte) : State :=
  let h := s.hand bay hand
  match h.state, h.wait with
  | .wait, some (.reply rd buf _) =>
    (if reply.isEmpty then s else s.modGranary bay fun g => g.fill buf reply).modHand bay hand fun h =>
      { h.setReg rd (BitVec.ofNat 32 (status * 2 ^ 24)) with state := .ready, wait := none }
  | _, _ => s

/-- A reply overwrites the message and completes the waiting LSEND with status 0x00 (R185, R316). -/
def execLsendReply (bay hand : Nat) (msg : List (BitVec 8)) (s : State) : Host.Outcome State Fault Refusal :=
  .next (if s.sys.dormant then s else s.endSend bay hand 0 msg)

/-- No reply within 1 ms: status 0x03 (R185). -/
def execLsendReplyTimeout (bay hand : Nat) (s : State) : Host.Outcome State Fault Refusal :=
  .next (match (s.hand bay hand).wait with
  | some (.reply _ _ since) => if s.passed since 1000000 && !s.sys.dormant then s.endSend bay hand 3 [] else s
  | _ => s)

/-! ### Code containers -/

/-- The fields of a code container (R193). -/
structure CodeHeader where
  magic : Nat
  version : Nat
  progId : Nat
  rev : Nat
  entry : Nat
  codeLen : Nat
  dataLen : Nat
  dataMin : Nat
  zeros : Bool
  hash : Nat
  deriving DecidableEq, Repr

/-- The header of a container's bytes (R193). -/
def codeHeader (bs : List Byte) : CodeHeader :=
  { magic := fieldAt bs 0x00 4, version := fieldAt bs 0x04 2, progId := fieldAt bs 0x08 4, rev := fieldAt bs 0x0C 4, entry := fieldAt bs 0x10 4
    codeLen := fieldAt bs 0x14 4, dataLen := fieldAt bs 0x18 4, dataMin := fieldAt bs 0x1C 4
    zeros := fieldAt bs 0x06 2 = 0 && fieldAt bs 0x20 12 = 0 && fieldAt bs 0x2D 3 = 0 && fieldAt bs 0xC0 64 = 0
    hash := ofBeBytes ((bs.drop 0x30).take 48) }

/-- Bytes of code in the body, with the gap up to the data at the next multiple of 64 (R193). -/
def CodeHeader.dataAt (c : CodeHeader) : Nat := (c.codeLen + 63) / 64 * 64

/-- Every field is in its range and the parts lie in the container (R163, R193). -/
def CodeHeader.ok (c : CodeHeader) (len : Nat) : Bool :=
  c.magic = 0xBA4EC0DE && c.version = 1 && c.zeros && c.entry % 4 = 0 && c.entry < c.codeLen && 4 ≤ c.codeLen && c.codeLen ≤ 524288 &&
  c.codeLen % 4 = 0 && c.dataLen ≤ 4194304 && c.dataLen ≤ c.dataMin &&
  0x100 + (if c.dataLen = 0 then c.codeLen else c.dataAt + c.dataLen) ≤ len

/-- The first check of R163 that a code container fails: 1 signature, 2 revision, 3 layout (R193). -/
def State.codeFault (s : State) (bs : List Byte) (allowOlder : Bool) : Option Nat :=
  let c := codeHeader bs
  if !s.containerSigned bs then some 1
  else if !allowOlder && s.barn.images.any (fun q => q.progId = c.progId && c.rev < q.rev) then some 2
  else if bs.length < 0x100 || !c.ok bs.length then some 3 else none

/-- First page of the checkpoint areas of the user hands, 256 bytes each by hand number (R186; the place is a DESIGN CHOICE, log entry
62). -/
def ckptBase : Nat := 0x01740000

/-- The checkpoint pointer of a user hand. -/
def ckptPtrOf (hand : Nat) : Nat := ckptBase + 256 * (hand - 1024)

/-- Pages of n bytes. -/
def pagesOf (n : Nat) : Nat := (n + 4095) / 4096

/-- A page can take code or data on both bays: it is free and not BAD, below the checkpoint areas (R210). -/
def State.pageFree (s : State) (p : Nat) : Bool :=
  p < ckptBase / 4096 && (List.range 2).all fun b =>
    let e := tget (s.granary b).pageMap p 0
    pageOwner e = 0 && !e.getLsbD 27

/-- The lowest run of n pages free on both bays (R193; which run is a DESIGN CHOICE, log entry 62). -/
def State.freeRun (s : State) (n : Nat) : Option Nat :=
  (List.range (ckptBase / 4096)).find? fun p => (List.range n).all fun i => s.pageFree (p + i)

/-- Mark a run of pages with an owner and a tag (R210). -/
def Granary.mark (g : Granary) (page n owner tag : Nat) : Granary :=
  { g with pageMap := forUpTo n (fun m i => tset m (page + i) (BitVec.ofNat 32 (owner * 2 ^ 28 + tag))) g.pageMap }

/-- A run of pages is free again. -/
def Granary.release (g : Granary) (page n : Nat) : Granary := { g with pageMap := forUpTo n (fun m i => tdel m (page + i)) g.pageMap }

/-- Invalidate the cache lines of a region in every core of both bays (R192). -/
def State.dropLines (s : State) (base len : Nat) : State :=
  s.modBarn fun b => { b with icache := b.icache.map fun e => (e.1, e.2.filter fun l => !(base ≤ l * 64 + 63 && l * 64 < base + len)) }

/-- Hands first to first + count - 1. -/
def handRange (first count : Nat) : List Nat := (List.range count).map (first + ·)

/-- A hand can be loaded (R179). -/
def loadable (h : Hand) : Bool := h.state = .free || h.state = .stopped || h.state = .halted || h.state = .faulted

/-- Bay whose hands a command's checks look at. -/
def State.handBay (s : State) : Nat := s.serving.getD 0

/-- State code of a hand (R290). -/
def HandState.code : HandState → Nat
  | .free => 0 | .loaded => 1 | .ready => 2 | .wait => 3 | .stopped => 4 | .halted => 5 | .faulted => 6 | .held => 7

/-- Pages that a load takes: the code, then a data region for each hand (R193). -/
def loadPages (codeLen count data : Nat) : Nat := pagesOf codeLen + count * pagesOf data

/-- HAND_LOAD's checks (R163, R178, R179, R193, R290). -/
def specHandLoad (h : CmdHdr) (first count data buf blen shrBase shrLen : Nat) (s : State) : CmdSpec :=
  let bs := (h.buf.getD []).take blen
  let c := codeHeader bs
  let bad := (handRange first count).find? fun n => !loadable (s.hand s.handBay n)
  { opcode := 0x0600, plen := 32, optMask := 1
    params := [inRange (1 ≤ count) 2, bufAligned buf, inRange (shrLen = 0 || (shrBase + shrLen ≤ 2 ^ 32 && mapped shrBase shrLen)) 24,
      exists' (1024 ≤ first && first + count ≤ 4096) 0]
    states := [match bad with | some n => rightState false (s.hand s.handBay n).state.code | none => rightState true 0]
    late := [bufRead h,
      match s.codeFault bs (h.opt.getLsbD 0) with
      | some f => check false 0x0401 (f + 0xFFFF * 65536)
      | none => check true 0x0401,
      joint (c.dataMin ≤ data) 4, check (s.containerRoom blen && (s.freeRun (loadPages c.codeLen count data)).isSome) 0x0301] }

/-- HAND_LOAD: the owner writes the container to the Loft (R193). -/
def effHandLoad (j : Nat) (s : State) : State := s.modEntry j fun e => { e with stepsDue := 1 }

/-- Regions that a hand loaded before gives back: its data, and its code where no other hand has it. -/
def State.unplace (s : State) (hand : Nat) : State :=
  let old := s.hand s.handBay hand
  let free (b : Nat) (base len : Nat) (s : State) : State := s.modGranary b fun g => g.release (base / 4096) (pagesOf len)
  let s := if old.dataLen = 0 then s else free 1 old.dataBase old.dataLen (free 0 old.dataBase old.dataLen s)
  let shared := s.barn.hands.any fun e => e.1 % 4096 ≠ hand && e.2.codeBase = old.codeBase && e.2.codeLen ≠ 0
  if old.codeLen = 0 || shared then s else free 1 old.codeBase old.codeLen (free 0 old.codeBase old.codeLen s)

/-- One hand enters LOADED on a bay: entry, checkpoint pointer, regions and configuration set, registers and slots cleared (R179, R193). -/
def loadHand (old : Hand) (hand codeBase codeLen entry dataBase dataLen shrBase shrLen : Nat) : Hand :=
  { state := .loaded, entry := BitVec.ofNat 32 (codeBase + entry), pc := BitVec.ofNat 32 (codeBase + entry), ckptPtr := ckptPtrOf hand
    codeBase := codeBase, codeLen := codeLen, dataBase := dataBase, dataLen := dataLen, shrBase := shrBase, shrLen := shrLen
    discardTwi := old.discardTwi }

/-- Code, data and checkpoint areas of a load reach one bay's Granary (R193, R210). -/
def Granary.placeCode (g : Granary) (first count base data : Nat) (code init : List Byte) : Granary :=
  let cp := pagesOf code.length
  let g := { g with mem := memWrite g.mem base code }.mark (base / 4096) cp 7 first
  let g := forUpTo count (fun g i =>
    let d := base + 4096 * (cp + i * pagesOf data)
    ({ g with mem := memWrite g.mem d (init ++ List.replicate (data - init.length) 0) }.mark (d / 4096) (pagesOf data) 8 (first + i))) g
  forUpTo count (fun g i =>
    let p := ckptPtrOf (first + i)
    { g with mem := memWrite g.mem p (List.replicate 256 0)
             pageMap := tset g.pageMap (p / 4096) (BitVec.ofNat 32 (5 * 2 ^ 28 + (1024 + (p - ckptBase) / 4096 * 16))) }) g

/-- The Loft holds the container: each bay places the code, its lines are invalid in every core, the hands enter LOADED on both bays, and the
container is measured (R192, R193, R443). -/
def finishHandLoad (j : Nat) (h : CmdHdr) (first count data blen shrBase shrLen : Nat) (s : State) : State :=
  let bs := (h.buf.getD []).take blen
  let c := codeHeader bs
  let code := (bs.drop 0x100).take c.codeLen
  let init := (bs.drop (0x100 + c.dataAt)).take c.dataLen
  let hs := handRange first count
  let s := hs.foldl (fun s n => s.unplace n) s
  match s.freeRun (loadPages c.codeLen count data) with
  | none => s.complete j 0x0504 []
  | some p =>
    let base := 4096 * p
    let s := forUpTo 2 (fun s b =>
      if (s.bay b).bstate = .down || (s.bay b).bstate = .fallow then s
      else
        let s := s.modGranary b fun g => g.placeCode first count base data code init
        (hs.zipIdx).foldl (fun s n => s.modHand b n.1 fun old =>
          loadHand old n.1 base c.codeLen c.entry (base + 4096 * (pagesOf c.codeLen + n.2 * pagesOf data)) data shrBase shrLen) s) s
    let s := (s.dropLines base c.codeLen).measureContainer c.hash
    (s.modBarn fun b => { b with images := (b.images.filter fun q => !(q.progId = c.progId && q.rev = c.rev)) ++
      [{ progId := c.progId, rev := c.rev, first := first, count := count, code := code, data := init, entryOff := c.entry, hash := c.hash, size := blen }] }).ok j

/-- HAND_LOAD (R193, R290). -/
def execHandLoad (h : CmdHdr) (first count data buf blen shrBase shrLen : Nat) (s : State) : Host.Outcome State Fault Refusal :=
  .next (s.submit (.handLoad h first count data buf blen shrBase shrLen) h (specHandLoad h first count data buf blen shrBase shrLen s))

/-! ### Starting, stopping, configuring -/

/-- A user hand (R178). -/
def userHand (hand : Nat) : Bool := 1024 ≤ hand && hand < 4096

/-- Change one hand on both bays: HAND_ commands act on the owner and the standby alike (R193, R232). -/
def State.modHands (s : State) (hand : Nat) (f : Nat → Hand → Hand) : State := (s.modHand 0 hand (f 0)).modHand 1 hand (f 1)

/-- HAND_START is allowed in these states (R179). -/
def startable (h : Hand) : Bool := h.state = .loaded || h.state = .stopped || h.state = .halted || h.state = .faulted

/-- HAND_START's checks (R178, R179, R290). -/
def specHandStart (_h : CmdHdr) (hand : Nat) (_regs : List (BitVec 32)) (s : State) : CmdSpec :=
  let x := s.hand s.handBay hand
  { opcode := 0x0601, plen := 32, optMask := 1, params := [exists' (userHand hand) 0], states := [rightState (startable x) x.state.code] }

/-- A hand starts: g1 to g7 from the command, the others 0, TSEQ 0, at entry or at its newest checkpoint; on a bay that is not owner a hand
with SHADOW 0 is HELD (R179, R187, R191). -/
def Hand.start (h : Hand) (g : Granary) (regs : List Word32) (newest runs : Bool) (now : Nat) : Hand :=
  let h := { h.clearSlots with startRegs := regs, state := .ready, wait := none, lastCkpt := now, restarts := [], timerMode := 2 }
  let h := match (if newest then g.newestCkpt h else none) with
    | some i => (h.fromCkpt (g.ckptRecord h i)).rearm now
    | none => h.fromEntry
  if runs || h.shadow then h else { h with state := .held, timerMode := 2 }

/-- HAND_START (R179): the hand starts on both bays. -/
def effHandStart (j : Nat) (h : CmdHdr) (hand : Nat) (regs : List (BitVec 32)) (s : State) : State :=
  if startable (s.hand s.handBay hand) then
    (s.modHands hand fun b x => if x.state = .free then x else x.start (s.granary b) regs (h.opt.getLsbD 0) (s.isOwner b) s.devNow).ok j
  else s.complete j 0x0504 []

/-- HAND_START (R179, R290). -/
def execHandStart (h : CmdHdr) (hand : Nat) (regs : List (BitVec 32)) (s : State) : Host.Outcome State Fault Refusal :=
  .next (s.submit (.handStart h hand regs) h (specHandStart h hand regs s))

/-- HAND_STOP's checks: any state but FREE (R178, R179). -/
def specHandStop (_h : CmdHdr) (hand : Nat) (s : State) : CmdSpec :=
  let x := s.hand s.handBay hand
  { opcode := 0x0602, plen := 2, params := [exists' (userHand hand) 0], states := [rightState (x.state ≠ .free) x.state.code] }

/-- A hand stops: timer and wait cancelled, a two-wire result still due is discarded (R179). -/
def Hand.stop (h : Hand) : Hand :=
  if h.state = .free then h else
  let due := match h.state, h.wait with | .wait, some (.twoWire ..) => 1 | _, _ => 0
  { h with state := .stopped, wait := none, timerMode := 2, resync := false, heldResults := [], discardTwi := h.discardTwi + due }

/-- HAND_STOP stops the hand on both bays (R179). -/
def effHandStop (j hand : Nat) (s : State) : State := (s.modHands hand fun _ x => x.stop).ok j

/-- HAND_STOP (R179, R290). -/
def execHandStop (h : CmdHdr) (hand : Nat) (s : State) : Host.Outcome State Fault Refusal :=
  .next (s.submit (.handStop h hand) h (specHandStop h hand s))

/-- HAND_CONFIG's checks: SHADOW a switch, RESTART_MAX 0 to 15, RESTART_WINDOW 0.1 to 60 s, CKPT_WD 0 or 10 us to 10 s (R193, R290). -/
def specHandConfig (_h : CmdHdr) (hand shadow restartMax restartWindow ckptWd : Nat) (_s : State) : CmdSpec :=
  { opcode := 0x0603, plen := 12
    params := [switchOk shadow 2, inRange (restartMax ≤ 15) 3, inRange (100000 ≤ restartWindow && restartWindow ≤ 60000000) 4,
      inRange (ckptWd = 0 || (10 ≤ ckptWd && ckptWd ≤ 10000000)) 8, exists' (userHand hand) 0] }

/-- HAND_CONFIG sets the four parameters on both bays; a hand whose SHADOW changes while it runs follows it on the standby (R190, R191,
R193). -/
def effHandConfig (j hand shadow restartMax restartWindow ckptWd : Nat) (s : State) : State :=
  (s.modHands hand fun b x =>
    let x := { x with shadow := shadow = 1, restartMax := restartMax, restartWindow := restartWindow, ckptWd := ckptWd, lastCkpt := s.devNow }
    if s.isOwner b then x
    else if x.shadow && x.state = .held then { x with state := .wait, wait := none, resync := true }
    else if !x.shadow && (x.state = .ready || x.state = .wait) then { x with state := .held, wait := none, timerMode := 2, resync := false }
    else x).ok j

/-- HAND_CONFIG (R193, R290). -/
def execHandConfig (h : CmdHdr) (hand shadow restartMax restartWindow ckptWd : Nat) (s : State) : Host.Outcome State Fault Refusal :=
  .next (s.submit (.handConfig h hand shadow restartMax restartWindow ckptWd) h (specHandConfig h hand shadow restartMax restartWindow ckptWd s))

/-- HAND_STATUS's checks: a hand of any class on either bay (R290). -/
def specHandStatus (_h : CmdHdr) (hand bay : Nat) (_s : State) : CmdSpec :=
  { opcode := 0x0604, plen := 3, params := [inRange (bay < 2) 2, exists' (hand < 4096) 0] }

/-- HAND_STATUS: state, last cause and restarts in the window; PC; newest CSEQ (R290). -/
def effHandStatus (j hand bay : Nat) (s : State) : State :=
  let h := s.hand bay hand
  s.complete j 0 [h.state.code + h.cause * 2 ^ 8 + (h.recentRestarts s.devNow).length * 2 ^ 12, h.pc.toNat, h.cseq]

/-- HAND_STATUS (R290). -/
def execHandStatus (h : CmdHdr) (hand bay : Nat) (s : State) : Host.Outcome State Fault Refusal :=
  .next (s.submit (.handStatus h hand bay) h (specHandStatus h hand bay s))

end Sys2Proof.Machine
end

