-- ==== Sys2Proof/Machine/Rings.lean ====
section
/-!
DEFINITION. Rings and endpoints (R247 to R271): doorbells, the choice of the ring to fetch, status blocks and interrupts, link and
MSI-X registers, the host direct window, and the admin commands (R283).
-/
namespace Sys2Proof.Machine
open Sys2Proof

/-! ### Keys of rings -/

/-- The key of ring n as a command of a ring names it: a bay in Fallow mode has rings of its own (R461, R463). -/
def ringKey (from' n : Nat) : Nat := from' / 0x10000 * 0x10000 + n

/-- The ring number of a key. -/
def ringNo (key : Nat) : Nat := key % 0x10000

/-- A descriptor keeps R258: address alignment, KIND, LOG2SIZE, VECTOR, and PEER 0 but for a command ring. Answers the PARAM offset
of the word that breaks it (the descriptor stands at offset 8). -/
def descBadAt (d : RingDesc) : Option Nat :=
  if d.base.toNat % 4096 ≠ 0 then some 8
  else if d.sblk.toNat % 64 ≠ 0 then some 16
  else if 3 < d.kind || d.log2size < 6 || 16 < d.log2size || 63 < d.vector || (d.kind ≠ 0 && d.peer ≠ 0) then some 24
  else none

/-- The 32 bytes of a ring descriptor (R258). -/
def descBytes (d : RingDesc) : List Byte :=
  wordsBytes [d.base, d.sblk,
    pack [(61, 3, d.kind), (56, 5, d.log2size), (41, 15, ringNo d.peer), (38, 3, d.prio), (36, 2, d.minSev), (35, 1, bit d.irqEn),
      (16, 8, d.vector), (8, 8, d.coalN), (0, 8, d.coalUs)],
    pack [(32, 32, d.subs.toNat)]]

/-- A ring comes up: indices to 0, last journalled SEQ 0, status block written (R254, R259, R260). -/
def State.createRing (s : State) (key : Nat) (d : RingDesc) : State :=
  let s := s.modRing key fun _ => { desc := { d with peer := if d.kind = 0 then ringKey key d.peer else 0 }, state := .active }
  let s := if d.kind = 0 then s.modRing (ringKey key d.peer) fun r => { r with serves := key } else s
  s.writeStatus key

/-- A completion ring serves a command ring that is not DISABLED (R253, R260). -/
def State.servesOne (s : State) (key : Nat) : Bool :=
  s.host.rings.rings.any fun e => e.2.desc.kind = 0 && e.2.state != .disabled && e.2.desc.peer = key

/-- Events held for an event ring are written as it gets room (R268). -/
def State.flushHeld (s : State) (key : Nat) : State :=
  forUpTo 256 (fun s _ => match (s.ring key).heldEv with
    | [] => s
    | w :: rest => if s.ringRoom key then (s.ringWrite key w).modRing key fun r => { r with heldEv := rest } else s) s

/-- Ring traffic can move again: every status block is written and held events follow (R256, R262, R268). -/
def State.resumeRings (s : State) : State :=
  s.host.rings.rings.foldl (fun s e => if e.2.state = .disabled then s else (s.writeStatus e.1).flushHeld e.1) s

/-! ### Doorbells -/

/-- HOST_IDX of a completion ring passed some completions: they are consumed, and RETAIN_MIN runs from now (R236, R264). -/
def State.consume (s : State) (key : Nat) (value : Word32) : State :=
  s.modJournal fun j => { j with entries := j.entries.map fun e =>
    match e.2.compIdx with
    | some i => if e.2.posted && (s.ring e.2.ring).desc.peer = key && seqNewer value i then
        (e.1, { e.2 with compIdx := none, doneTime := some s.now }) else e
    | none => e }

/-- A doorbell's value reaches the owner (R255). -/
def State.applyDoorbell (s : State) (endpoint key : Nat) (value : Word32) : State :=
  let r := s.ring key
  let d := value - r.hostIdx
  if r.state = .disabled then s.modEndpoint endpoint fun e => { e with dbBad := satAdd 16 e.dbBad 1, dbLast := ringNo key }
  else if d = 0 then s
  else if 2 ^ 31 ≤ d.toNat then s.modEndpoint endpoint fun e => { e with dbStale := satAdd 16 e.dbStale 1, dbLast := ringNo key }
  else if (if r.desc.kind = 0 then decide (r.size < (value - r.ctrlIdx).toNat) else decide ((r.ctrlIdx - r.hostIdx).toNat < d.toNat)) then
    s.stopRing key 1
  else
    let s := s.modRing key fun r => { r with hostIdx := value, arrivals := if r.desc.kind = 0 then r.arrivals ++ [(value, s.now)] else r.arrivals }
    let s := if r.desc.kind = 1 then s.consume key value else s
    let s := (s.writeStatus key).signal (0x8000 + ringNo key)
    if r.desc.kind = 3 then s.flushHeld key else s

/-- A host write reaches an endpoint's registers: its link is up and its bay has not failed. -/
def State.hostReaches (s : State) (e : Nat) : Bool := (s.endpoint e).linkUp && (s.bay e).alive

/-- A doorbell write: malformed ones are counted; a bay in Fallow mode serves its own rings, and none while its peer serves; in Dormant it
waits, and ring 0 wakes the bays; on the standby's endpoint it waits to be forwarded (R118, R255, R262, R269, R461, R462). -/
def execDoorbell (endpoint ring size : Nat) (value : BitVec 64) (s : State) : Host.Outcome State Fault Refusal :=
  .next (if !s.hostReaches endpoint || (s.bay endpoint).bstate = .down then s
  else if (size ≠ 4 && size ≠ 8) || 2 ^ 32 ≤ value.toNat then
    s.modEndpoint endpoint fun e => { e with dbBad := satAdd 16 e.dbBad 1, dbLast := ring }
  else
    let v := value.setWidth 32
    if (s.bay endpoint).bstate = .fallow then
      if s.fallowServes endpoint then s.applyDoorbell endpoint (fallowRing endpoint ring) v else s
    else if s.sys.dormant then
      let s := s.modEndpoint endpoint fun e => { e with heldDoorbells := e.heldDoorbells ++ [(ring, v)] }
      if ring = 0 then s.modSys fun y => { y with wakePending := true } else s
    else if s.serving = some endpoint then s.applyDoorbell endpoint ring v
    else s.modEndpoint endpoint fun e => { e with fwdDoorbells := e.fwdDoorbells ++ [(ring, v)] })

/-- Doorbells that an endpoint holds reach the owner, oldest first. -/
def State.deliverDoorbells (s : State) (e : Nat) : State :=
  let ds := (s.endpoint e).fwdDoorbells
  let s := s.modEndpoint e fun ep => { ep with fwdDoorbells := [] }
  ds.foldl (fun s d => s.applyDoorbell e d.1 d.2) s

/-- Doorbells on the standby's endpoint go to the owner over the breezeway (R262). -/
def execDoorbellForward (s : State) : Host.Outcome State Fault Refusal :=
  .next (match s.serving with
  | none => s
  | some b => if s.own.journal.breezeUp then (s.deliverDoorbells b).deliverDoorbells (peer b) else s.deliverDoorbells b)

/-- The bays serve again after Dormant: the doorbells held meanwhile are applied (R269). -/
def State.releaseDoorbells (s : State) : State :=
  forUpTo 2 (fun s e =>
    let ds := (s.endpoint e).heldDoorbells
    let s := s.modEndpoint e fun ep => { ep with heldDoorbells := [] }
    ds.foldl (fun s d => s.applyDoorbell e d.1 d.2) s) s

/-! ### Choice of the ring to fetch -/

/-- Command rings that the owner can fetch now, in rising order (R260, R261). -/
def State.fetchable (s : State) : List Nat :=
  (s.host.rings.rings.filter fun e => e.1 < 0x10000 && s.canFetch e.1 0x0D01).map (·.1)

/-- Device time the oldest pending entry of a ring has waited from (R261). -/
def State.oldestWait (s : State) (key : Nat) : Nat :=
  match (s.ring key).arrivals with
  | [] => s.now
  | a :: _ => a.2

/-- The ring that waited longest. -/
def State.longest (s : State) (ks : List Nat) : Option Nat :=
  ks.foldl (fun b k => match b with
    | none => some k
    | some x => if s.oldestWait k < s.oldestWait x then some k else b) none

/-- The next ring in round robin among those of the highest PRIO (R261). -/
def State.roundRobin (s : State) (ks : List Nat) : Option Nat :=
  let top := ks.foldl (fun m k => max m (s.ring k).desc.prio) 0
  let same := ks.filter fun k => (s.ring k).desc.prio = top
  let last := tget s.host.rings.lastFetched top 0
  match same.find? fun k => last < k with
  | some k => some k
  | none => same.head?

/-- The ring the owner fetches from next: ring 0 first; every 16th fetch of the others takes the ring that waited longest, and the rest
take the highest PRIO in round robin (R261; that fetches from ring 0 do not count is DEDUCED, log entry 25). -/
def State.fetchChoice (s : State) : Option Nat :=
  let ks := s.fetchable
  if 0 ∈ ks then some 0 else if s.host.rings.fetchCount = 15 then s.longest ks else s.roundRobin ks

/-- Record a fetch from a ring: the count to 16, the place of the round robin, and the arrivals it passed (R261). -/
def State.noteFetch (s : State) (key : Nat) : State :=
  let s := if key = 0 then s else s.modRings fun r => { r with
    fetchCount := (r.fetchCount + 1) % 16
    lastFetched := if r.fetchCount = 15 then r.lastFetched else tset r.lastFetched (s.ring key).desc.prio key }
  s.modRing key fun r => { r with arrivals := r.arrivals.dropWhile fun a => !seqNewer a.1 r.ctrlIdx }

/-! ### Completions, interrupts and errors -/

/-- The owner posts a finished entry's completion (R264, R277). -/
def execCompletionPost (jseq : Nat) (bufOk : Bool) (s : State) : Host.Outcome State Fault Refusal := .next (s.postCompletion jseq bufOk)

/-- COAL_US has passed since the first entry not yet signalled: the vector is sent (R269). -/
def execCoalUsExpiry (ring : Nat) (s : State) : Host.Outcome State Fault Refusal :=
  .next (let r := s.ring ring
  if r.desc.irqEn && r.desc.kind ≠ 0 && 0 < r.unsignalled && s.passed r.firstUnsig (r.desc.coalUs * 1000) then
    (s.sendVector ring r.desc.vector).modRing ring fun r => { r with unsignalled := 0 }
  else s)

/-- A command entry was read poisoned: two reads in a row stop the ring with RERR 0x03 (R260). -/
def State.poisonedRead (s : State) (key : Nat) : State :=
  if 1 ≤ (s.ring key).poisonReads then (s.modRing key fun r => { r with poisonReads := 0 }).stopRing key 3
  else s.modRing key fun r => { r with poisonReads := r.poisonReads + 1 }

/-- A completer abort, an unsupported request or a completion timeout on the ring's DMA stops it with RERR 0x02; a poisoned entry counts
towards RERR 0x03 (R260). -/
def execRingDmaError (ring : Nat) (poisoned : Bool) (s : State) : Host.Outcome State Fault Refusal :=
  .next (if poisoned then (if (s.ring ring).state = .active && (s.ring ring).desc.kind = 0 then s.poisonedRead ring else s) else s.stopRing ring 2)

/-- Codes of the table of R296. -/
def eventCodes : List Nat :=
  [0x0001, 0x0002, 0x0003, 0x0004, 0x0101, 0x0102, 0x0103, 0x0104, 0x0105, 0x0106, 0x0107, 0x0108, 0x0109, 0x010A, 0x010B, 0x010C, 0x010D,
    0x010E, 0x0201, 0x0202, 0x0203, 0x0204, 0x0301, 0x0302, 0x0303, 0x0304, 0x0305, 0x0306, 0x0401, 0x0402, 0x0403, 0x0404, 0x0405, 0x0406,
    0x0501, 0x0502, 0x0503, 0x0601, 0x0701, 0x0702, 0x0703, 0x0704, 0x0801, 0x0802, 0x0803, 0x0901, 0x0902, 0x0A01, 0x0B01, 0x0B02, 0x0C01,
    0x0D01, 0x0D02, 0x0D03, 0x0E01, 0x0E02, 0x0E03, 0x0E04, 0x0F01, 0x0F02]

/-- Severity of an event with its payload: a lane event carries 0 for up and 2 for lost or failed (R296). -/
def eventSevOf (code : Nat) (payload : List Byte) : Nat :=
  if code = 0x0102 then (if (payload.getD 2 0) = 0 then 0 else 2) else eventSev code

/-- An event of the table is formed by a bay and posted; a code that the table does not list is never posted (R268, R296). -/
def execEventPost (bay code : Nat) (payload : List (BitVec 8)) (s : State) : Host.Outcome State Fault Refusal :=
  .next (if code ∈ eventCodes && payload.length ≤ 32 && s.runs bay then
    s.raiseSev bay code (eventSevOf code payload) 0 (payload.map fun b => (1, b.toNat))
  else s)

/-! ### Registers -/

/-- A word of a ring descriptor written through the link registers (R250, R258). -/
def descSetWord (d : RingDesc) (k : Nat) (v : Word64) : RingDesc :=
  let e := ringDescAt (leBytes 8 (if k = 0 then v else d.base).toNat ++ leBytes 8 (if k = 1 then v else d.sblk).toNat ++
    (if k = 2 then leBytes 8 v.toNat else ((descBytes d).drop 16).take 8) ++ (if k = 3 then leBytes 8 v.toNat else (descBytes d).drop 24)) 0
  e

/-- The admin registers that an endpoint shows: the mirrored set, or its own in Fallow mode (R250, R461). -/
def State.adminOf (s : State) (e : Nat) : Admin := if (s.bay e).bstate = .fallow then (s.endpoint e).fadm else s.host.admin

/-- Change the admin registers that an endpoint shows. -/
def State.modAdminAt (s : State) (e : Nat) (f : Admin → Admin) : State :=
  if (s.bay e).bstate = .fallow then s.modEndpoint e fun ep => { ep with fadm := f ep.fadm } else s.modAdmin f

/-- Descriptors with which the admin rings can start: both keep R258, ring 0 a command ring with PEER 1, ring 1 a completion ring. -/
def Admin.descsOk (a : Admin) : Bool :=
  (descBadAt a.desc0).isNone && (descBadAt a.desc1).isNone && a.desc0.kind = 0 && a.desc0.peer = 1 && a.desc1.kind = 1

/-- Both admin rings become ACTIVE (R260). With descriptors that break R258 they stay DISABLED (DESIGN CHOICE, log entry 26). -/
def State.adminStart (s : State) (base : Nat) (a : Admin) : State :=
  let s := if a.descsOk then (s.createRing (base + 1) a.desc1).createRing base a.desc0 else s.modAdminOf base fun a => { a with enable := false }
  s.modAdminOf base fun a => { a with busy := false }

/-- The admin rings drain: ring 0 fetches nothing more, and ring 1 follows it once it is DISABLED (R260). -/
def State.adminStop (s : State) (base : Nat) : State :=
  if (s.ring base).state = .active || (s.ring base).state = .stopped then
    (((s.modRing base fun r => { r with state := .draining }).writeStatus base).drainRing base)
  else s.modAdminOf base fun a => { a with busy := false }

/-- Writing ENABLE starts or drains the admin rings: a journalled internal change, or at once in Fallow mode; ignored while BUSY
(R260, R461). -/
def execAdmCtrlWrite (endpoint : Nat) (value : BitVec 32) (s : State) : Host.Outcome State Fault Refusal :=
  .next (if !s.hostReaches endpoint then s
  else
    let a := s.adminOf endpoint
    let on := value.getLsbD 0
    if a.busy || a.enable = on then s
    else if (s.bay endpoint).bstate = .fallow then
      if s.fallowServes endpoint then
        let s := s.modAdminAt endpoint fun a => { a with enable := on, busy := true }
        if on then s.adminStart (fallowRing endpoint 0) (s.adminOf endpoint) else s.adminStop (fallowRing endpoint 0)
      else s
    else if s.serving.isSome && s.journalFree then
      (s.modAdmin fun a => { a with enable := on, busy := true }).journalChange (if on then .adminEnable else .adminDrain)
    else s)

/-- An MSI-X table entry with its word written; clearing its mask bit sends a pending vector (R249, R269; the mask is bit 0 of the last
word of an entry, PRESUMED from PCI Express, log entry 27). -/
def State.msixWrite (s : State) (endpoint off : Nat) (value : Word64) : State :=
  let v := (off - 0x2000) / 16
  let old := tget (s.endpoint endpoint).msix v 0
  let new : BitVec 128 := if off % 16 < 8 then (old &&& (0xFFFFFFFFFFFFFFFF#128 <<< 64)) ||| value.setWidth 128
    else (old &&& 0xFFFFFFFFFFFFFFFF#128) ||| (value.setWidth 128 <<< 64)
  let s := s.modEndpoint endpoint fun e => { e with msix := tset e.msix v new }
  if (s.endpoint endpoint).msixPend.getLsbD v && !new.getLsbD 96 then
    (s.modEndpoint endpoint fun e => { e with msixPend := e.msixPend &&& ~~~(1#64 <<< v) }).emit (.msix endpoint v)
  else s

/-- A write to a register without behaviour of its own: the admin descriptors store it while ENABLE is 0, the MSI-X table stores it, and
read-only and reserved ranges ignore it (R7, R8, R249, R250). -/
def execRegisterWrite (endpoint offset : Nat) (value : BitVec 64) (s : State) : Host.Outcome State Fault Refusal :=
  .next (if !s.hostReaches endpoint then s
  else if 0x1040 ≤ offset && offset < 0x1080 then
    if (s.adminOf endpoint).enable then s
    else s.modAdminAt endpoint fun a =>
      if offset < 0x1060 then { a with desc0 := descSetWord a.desc0 ((offset - 0x1040) / 8) value }
      else { a with desc1 := descSetWord a.desc1 ((offset - 0x1060) / 8) value }
  else if 0x2000 ≤ offset && offset < 0x2400 then s.msixWrite endpoint offset value
  else s)

/-- Writing WIN_STATUS: a 1 clears BUSY, POISON or OVER (R7, R9, R206). -/
def execWinStatusWrite (endpoint : Nat) (value : BitVec 32) (s : State) : Host.Outcome State Fault Refusal :=
  .next (if s.hostReaches endpoint then s.modGranary endpoint fun g => { g with winStatus := winClear g.winStatus value } else s)

/-! ### Host direct window -/

/-- Data of a denied or poisoned window read: all ones of the access's size (R209, R270, R271). -/
def allOnes (size : Nat) : Word64 := BitVec.ofNat 64 (2 ^ (8 * size) - 1)

/-- Data of a host read of the window. -/
def State.windowAnswer (s : State) (endpoint : Nat) (write : Bool) (v : Word64) : State :=
  if write then s else (s.modEndpoint endpoint fun e => { e with readData := v }).emit (.readData endpoint v)

/-- A host access that the window does not carry: counted in WIN_DENY, a read returns all ones (R270, R271). -/
def State.windowDeny (s : State) (endpoint : Nat) (write : Bool) (offset size : Nat) : State :=
  (s.modEndpoint endpoint fun e => e.deny offset).windowAnswer endpoint write (allOnes size)

/-- A host access that reaches the Porch through port B: warned on a same-word collision with port A or on poison, else done (R204, R206,
R207, R209). `collide` says that port A writes the same word in the same cycle, which loses a host write and makes a host read undefined. -/
def State.windowAccess (s : State) (endpoint : Nat) (write : Bool) (offset size : Nat) (value : Word64) (ecc : Ecc) (collide : Bool) : State :=
  let a := 0x02000000 + offset
  let warn := fun (s : State) (n : Nat) => s.modGranary endpoint fun g => { g with winStatus := winWarn g.winStatus n offset }
  if write then
    if collide then warn s 31
    else
      let s := if size = 8 then s else match ecc with
        | .clean => s
        | .single => s.modGranary endpoint fun g => g.corrected a
        | .double => s.uncorrectable endpoint a false
      s.modGranary endpoint fun g => g.store a (leBytes size value.toNat)
  else if collide then
    let d := s.drawFree
    (warn d.2 31).windowAnswer endpoint false (d.1 &&& allOnes size)
  else
    let s := match ecc with
      | .clean => s
      | .single => if (s.granary endpoint).poisoned a then s else s.modGranary endpoint fun g => g.corrected a
      | .double => s.uncorrectable endpoint a false
    if (s.granary endpoint).poisoned a then (warn s 30).windowAnswer endpoint false (allOnes size)
    else s.windowAnswer endpoint false (BitVec.ofNat 64 ((s.granary endpoint).load a size))

/-- The probe reads the debug port's status, which clears DBG_BUSY (R205). -/
def execDebugStatusRead (bay : Nat) (s : State) : Host.Outcome State Fault Refusal :=
  .next ((s.modGranary bay fun g => { g with dbgBusy := false }).emit (.debugData bay (BitVec.ofNat 64 (bit (s.granary bay).dbgBusy))))

/-! ### Endpoints -/

/-- An endpoint's link or bus mastering changes: ring traffic moves to whichever endpoint can carry it, and a change of the link raises
its event (R262, R296). -/
def State.setLink (s : State) (e : Nat) (up busMaster : Bool) (width speed : Nat) : State :=
  let before := s.carrier
  let was := (s.endpoint e).linkUp
  let s := s.modEndpoint e fun ep => { ep with linkUp := up, busMaster := busMaster, width := width, speed := speed }
  let s := if was = up then s else s.raise 0x0F01 [(1, e), (1, bit up), (1, width), (1, speed)]
  if before.isNone && s.carrier.isSome then s.resumeRings else s

/-- ENDPOINT_LINK_CHANGE (R262). -/
def execEndpointLinkChange (endpoint : Nat) (up busMaster : Bool) (width speed : Nat) (s : State) : Host.Outcome State Fault Refusal :=
  .next (s.setLink endpoint up (up && busMaster) width speed)

/-- A Function Level Reset: configuration and MSI-X state of one endpoint; its ring DMA moves (R248). -/
def execFunctionLevelReset (endpoint : Nat) (s : State) : Host.Outcome State Fault Refusal := .next (s.resetEndpoint endpoint)

/-- HOSTn_PERST_N low: the endpoint's link, configuration space and MSI-X state (R475). -/
def execPerst (endpoint : Nat) (s : State) : Host.Outcome State Fault Refusal :=
  .next ((s.resetEndpoint endpoint).setLink endpoint false false 0 0)

/-! ### Admin commands -/

/-- A ring number exists (R253). -/
def ringExists (ring : Nat) : Chk := exists' (ring < 32768) 0

/-- A ring may be created, deleted or reset by number: not an admin ring (R259; of R260 DEDUCED, log entry 28). -/
def ringNamed (ring : Nat) : Chk := exists' (2 ≤ ring && ring < 32768) 0

/-- ADM_NOP's checks. -/
def specAdmNop (_h : CmdHdr) (_s : State) : CmdSpec := { opcode := 0x0000, plen := 0 }

/-- ADM_NOP does nothing. -/
def effAdmNop (j : Nat) (s : State) : State := s.ok j

/-- ADM_NOP (R283). -/
def execAdmNop (h : CmdHdr) (s : State) : Host.Outcome State Fault Refusal := .next (s.submit (.admNop h) h (specAdmNop h s))

/-- The free completion ring that a command ring names as PEER (R253, R259). -/
def State.peerFree (s : State) (key : Nat) : Bool := (s.ring key).state = .active && (s.ring key).desc.kind = 1 && !s.servesOne key

/-- ADM_RING_CREATE's checks (R258, R259). -/
def specAdmRingCreate (h : CmdHdr) (ring : Nat) (desc : RingDesc) (s : State) : CmdSpec :=
  { opcode := 0x0001, plen := 40
    params := [inRange (descBadAt desc).isNone ((descBadAt desc).getD 8), ringNamed ring, joint (desc.kind ≠ 0 || s.peerFree (ringKey h.ring desc.peer)) 24]
    states := [rightState ((s.ring (ringKey h.ring ring)).state = .disabled) (s.ring (ringKey h.ring ring)).state.code] }

/-- ADM_RING_CREATE: the ring becomes ACTIVE (R259, R260). A ring or a peer that an earlier command took meanwhile ends it with
ABANDONED. -/
def effAdmRingCreate (j : Nat) (h : CmdHdr) (ring : Nat) (desc : RingDesc) (s : State) : State :=
  let key := ringKey h.ring ring
  if (s.ring key).state = .disabled && (desc.kind ≠ 0 || s.peerFree (ringKey h.ring desc.peer)) then (s.createRing key desc).ok j
  else s.complete j 0x0504 []

/-- ADM_RING_CREATE (R259). -/
def execAdmRingCreate (h : CmdHdr) (ring : Nat) (desc : RingDesc) (s : State) : Host.Outcome State Fault Refusal :=
  .next (s.submit (.admRingCreate h ring desc) h (specAdmRingCreate h ring desc s))

/-- A ring that ADM_RING_DELETE can drain: ACTIVE or STOPPED, and no completion ring of a command ring that is not DISABLED (R260). -/
def State.deletable (s : State) (key : Nat) : Bool :=
  ((s.ring key).state = .active || (s.ring key).state = .stopped) && !((s.ring key).desc.kind = 1 && s.servesOne key)

/-- ADM_RING_DELETE's checks (R260). -/
def specAdmRingDelete (h : CmdHdr) (ring : Nat) (s : State) : CmdSpec :=
  { opcode := 0x0002, plen := 2, params := [ringNamed ring]
    states := [rightState (s.deletable (ringKey h.ring ring)) (s.ring (ringKey h.ring ring)).state.code] }

/-- ADM_RING_DELETE: the ring is DRAINING, and its completion waits for DISABLED (R260). -/
def effAdmRingDelete (j : Nat) (h : CmdHdr) (ring : Nat) (s : State) : State :=
  let key := ringKey h.ring ring
  if s.deletable key then
    ((s.modRing key fun r => { r with state := .draining, deleteJseq := j }).writeStatus key).drainRing key
  else s.complete j 0x0504 []

/-- ADM_RING_DELETE (R260). -/
def execAdmRingDelete (h : CmdHdr) (ring : Nat) (s : State) : Host.Outcome State Fault Refusal :=
  .next (s.submit (.admRingDelete h ring) h (specAdmRingDelete h ring s))

/-- ADM_RING_RESET's checks: WRONG_STATE unless STOPPED (R260, R283). -/
def specAdmRingReset (h : CmdHdr) (ring : Nat) (s : State) : CmdSpec :=
  { opcode := 0x0003, plen := 2, params := [ringExists ring]
    states := [rightState ((s.ring (ringKey h.ring ring)).state = .stopped) (s.ring (ringKey h.ring ring)).state.code] }

/-- ADM_RING_RESET: ACTIVE again, indices 0, RERR 0; a command ring keeps its last journalled SEQ (R260). -/
def effAdmRingReset (j : Nat) (h : CmdHdr) (ring : Nat) (s : State) : State :=
  let key := ringKey h.ring ring
  if (s.ring key).state = .stopped then
    ((s.modRing key fun r => { r with state := .active, rerr := 0, hostIdx := 0, ctrlIdx := 0, arrivals := [], poisonReads := 0, unsignalled := 0 }).writeStatus key).ok j
  else s.complete j 0x0504 []

/-- ADM_RING_RESET (R260). -/
def execAdmRingReset (h : CmdHdr) (ring : Nat) (s : State) : Host.Outcome State Fault Refusal :=
  .next (s.submit (.admRingReset h ring) h (specAdmRingReset h ring s))

/-- ADM_RING_QUERY's checks. -/
def specAdmRingQuery (_h : CmdHdr) (ring buf : Nat) (_s : State) : CmdSpec :=
  { opcode := 0x0004, plen := 16, params := [bufAligned buf, ringExists ring] }

/-- ADM_RING_QUERY writes 96 bytes: the descriptor, then the status block (R256, R258, R283). -/
def effAdmRingQuery (j : Nat) (h : CmdHdr) (ring buf : Nat) (s : State) : State :=
  let key := ringKey h.ring ring
  (s.bufferOut j buf (descBytes (s.ring key).desc ++ wordsBytes (s.statusWords key))).ok j

/-- ADM_RING_QUERY (R283). -/
def execAdmRingQuery (h : CmdHdr) (ring buf : Nat) (s : State) : Host.Outcome State Fault Refusal :=
  .next (s.submit (.admRingQuery h ring buf) h (specAdmRingQuery h ring buf s))

/-- ADM_RING_SUBSCRIBE's checks: MIN_SEV 0 to 3 (R283). -/
def specAdmRingSubscribe (_h : CmdHdr) (ring _subs minSev : Nat) (_s : State) : CmdSpec :=
  { opcode := 0x0005, plen := 9, params := [inRange (minSev < 4) 8, ringExists ring] }

/-- ADM_RING_SUBSCRIBE changes SUBS and MIN_SEV (R266). -/
def effAdmRingSubscribe (j : Nat) (h : CmdHdr) (ring subs minSev : Nat) (s : State) : State :=
  (s.modRing (ringKey h.ring ring) fun r => { r with desc := { r.desc with subs := BitVec.ofNat 32 subs, minSev := minSev } }).ok j

/-- ADM_RING_SUBSCRIBE (R266). -/
def execAdmRingSubscribe (h : CmdHdr) (ring subs minSev : Nat) (s : State) : Host.Outcome State Fault Refusal :=
  .next (s.submit (.admRingSubscribe h ring subs minSev) h (specAdmRingSubscribe h ring subs minSev s))

/-- ADM_HEALTH's checks. -/
def specAdmHealth (_h : CmdHdr) (_s : State) : CmdSpec := { opcode := 0x0006, plen := 0 }

/-- ADM_HEALTH: the health flags, the ownership latch and device time (R283). -/
def effAdmHealth (j : Nat) (s : State) : State := s.complete j 0 [s.health, s.latchWord.toNat, s.devNow]

/-- ADM_HEALTH (R283). -/
def execAdmHealth (h : CmdHdr) (s : State) : Host.Outcome State Fault Refusal := .next (s.submit (.admHealth h) h (specAdmHealth h s))

/-- ADM_ENTROPY's checks: 1 to 24 bytes (R283). -/
def specAdmEntropy (_h : CmdHdr) (bytes : Nat) (_s : State) : CmdSpec :=
  { opcode := 0x0007, plen := 1, params := [inRange (1 ≤ bytes && bytes ≤ 24) 0] }

/-- ADM_ENTROPY: conditioned entropy, low bytes first, unused bytes 0 (R283, R447). The bytes are free values. -/
def effAdmEntropy (j : Nat) (bytes : Nat) (s : State) : State :=
  let d := s.boot.entropy.draws
  let bs := (List.range bytes).map fun i => Config.entropyByte d i
  (s.modEntropy fun e => { e with draws := e.draws + 1 }).complete j 0 [fieldAt bs 0 8, fieldAt bs 8 8, fieldAt bs 16 8]

/-- ADM_ENTROPY (R283, R447). -/
def execAdmEntropy (h : CmdHdr) (bytes : Nat) (s : State) : Host.Outcome State Fault Refusal :=
  .next (s.submit (.admEntropy h bytes) h (specAdmEntropy h bytes s))

end Sys2Proof.Machine
end

