-- ==== Sys2Proof/Machine/Boot.lean ====
section
/-!
DEFINITION. Push boot of a bay: the window and its control block (R432 to R435), claims (R436, R437), release and the checks of a pushed
image (R438 to R442), the choice of the image (R456, R457) and the measurements (R443).
-/
namespace Sys2Proof.Machine
open Sys2Proof

/-! ### Places -/

/-- First byte of the image area (R433). -/
def imageBase : Nat := 0x00800000

/-- Largest image, 8 MiB (R433). -/
def imageMax : Nat := 8388608

/-- First byte of an aperture half (R433). -/
def halfBase (half : Nat) : Nat := 0x02000000 + half * 0x7F000

/-- Porch address of the push control block and of the measurement page (R433, R443). -/
def controlBase : Nat := 0x020FF000

/-- Bytes of the image area of a bay. -/
def State.imageBytes (s : State) (bay off n : Nat) : List Byte := memRead (s.granary bay).mem (imageBase + off) n

/-- DONE_TO: every page below it has been copied good; pages are kept rising (R433). -/
def Push.doneTo (p : Push) : Nat := 4096 * p.good.foldl (fun n i => if i = n then n + 1 else n) 0

/-- The window is open (R432, R438, R439). -/
def Push.isOpen (p : Push) : Bool := p.state = .opened || p.state = .pushing || p.state = .verifying

/-! ### The image a bay must boot -/

/-- Image length that a header gives (R450). -/
def imgLen (bs : List Byte) : Nat := fieldAt bs 0x008 4

/-- Image bytes of a Loft slot. -/
def Slot.bytes (x : Slot) : List Byte := x.bytesAt 0 x.len

/-- The image hash of a slot, 0 for none (R451). -/
def State.slotHash (s : State) (n : Option Nat) : Nat := match n with | some n => (s.slot n).hash | none => 0

/-- WANT_HASH of a bay's window: the first row that applies (R456); 0 with both Loft dies lost (R18). The image a peer runs, if it is V, and
otherwise V, is V in either case. -/
def State.wantFor (s : State) (bay : Nat) : Nat :=
  if s.loftLost then 0
  else if s.serving = some (peer bay) then (if s.slotU.isSome then s.slotHash s.slotU else s.slotHash s.slotV)
  else if (match s.slotU with | some n => (s.slot n).fallowFlag | none => false) then s.slotHash s.slotU
  else if s.slotV.isSome then s.slotHash s.slotV
  else s.slotHash s.slotU

/-- The Loft slot that holds a committed field image with a hash (R436, R438). -/
def State.slotOfHash (s : State) (h : Nat) : Option Nat :=
  if h = 0 || s.loftLost then none else s.fieldSlot fun x => 2 ≤ x.state && x.hash = h

/-! ### Measurements -/

/-- The bytes of the measurement page but for NONCE and QREQ, which the host writes (R443). -/
def State.measureBytes (s : State) (bay : Nat) : List Byte × List Byte × List Byte :=
  let m := s.measure bay
  ((List.range 8).flatMap (fun n => beBytes 48 (tget m.tally n 0)),
   leBytes 4 s.own.latch.epoch.toNat ++ [BitVec.ofNat 8 s.boot.fuse.lifeCycle, BitVec.ofNat 8 m.dbg, BitVec.ofNat 8 s.boot.fuse.counter, BitVec.ofNat 8 m.imgEpoch] ++
     leBytes 8 m.qtime ++ leBytes 8 s.fab.fab.serial ++ leBytes 4 s.boot.entropy.failCount ++ List.replicate 12 0,
   beBytes 96 m.quote ++ (List.range 192).map (fun i => Config.attestation bay i))

/-- The measurement page is brought up to date in the Porch (R443). -/
def State.showMeasures (s : State) (bay : Nat) : State :=
  if (s.bay bay).releasedAt.isNone then s
  else
    let b := s.measureBytes bay
    s.modGranary bay fun g => ((g.fill controlBase b.1).fill (controlBase + 0x1B0) b.2.1).fill (controlBase + 0x1E0) b.2.2

/-- QREQ in the measurement page (R443). -/
def State.qreq (s : State) (bay : Nat) : Word64 := BitVec.ofNat 64 ((s.granary bay).load (controlBase + 0x1D8) 8)

/-- Stage 0's measurements: TALLY0 to TALLY3 and TALLY7, as an image passes (R443). The identity of the pusher is one byte, or a neighbour's
eight. -/
def State.measureStage0 (s : State) (bay : Nat) (img : List Byte) : State :=
  let p := s.push bay
  let who := match p.agent with
    | 1 => [BitVec.ofNat 8 (peer bay)]
    | 2 => [BitVec.ofNat 8 bay]
    | 3 => leBytes 8 p.pusher.toNat
    | _ => [BitVec.ofNat 8 ((s.slotOfHash (hashOf img)).getD 0)]
  let s1 := fieldAt img 0x1C 4
  let s := (s.extendTally bay 0 (beBytes 48 Config.romDigest.toNat)).extendTally bay 0
    ((List.range 4).flatMap fun i => beBytes 48 (tget s.boot.fuse.keyHashes i 0))
  let s := (s.extendTally bay 1 (img.take 0x60 ++ img.drop 0xF0)).extendTally bay 1 [img.getD 0xD 0]
  let s := s.extendTally bay 2 ((img.drop s1).take (fieldAt img 0x20 4))
  let s := s.extendTally bay 3 [BitVec.ofNat 8 s.boot.fuse.lifeCycle, BitVec.ofNat 8 (s.measure bay).dbg, BitVec.ofNat 8 s.boot.fuse.counter, img.getD 0xC 0]
  (s.extendTally bay 7 [BitVec.ofNat 8 p.agent]).extendTally bay 7 who

/-! ### The debug port as stage 0 leaves it -/

/-- DBG of a life-cycle state: open, authenticated and closed, or closed (R444, R445). -/
def dbgOf (lifeCycle : Nat) : Nat := if lifeCycle ≤ 1 then 0 else if lifeCycle = 2 then 1 else 3

/-- Stage 0 fixes the access point before release and before Fallow entry (R445). DBG_BUSY is low while it is closed (R205). -/
def State.fixDebug (s : State) (bay : Nat) : State :=
  let d := dbgOf s.boot.fuse.lifeCycle
  let s := s.modMeasure bay fun m => { m with dbg := d, challenge := none, challengeDue := false, haltedHands := [] }
  if d = 0 then s else s.modGranary bay fun g => { g with dbgBusy := false }

/-! ### Opening the window, and Fallow mode -/

/-- Fallow mode: lane 0 of cores 0 and 1 at the ROM Fallow entry, cores 2 to 31 held, the window closed, and no ring active yet (R438,
R461). -/
def State.enterFallow (s : State) (bay : Nat) : State :=
  let s := s.fixDebug bay
  let s := (s.modPush bay fun p => { p with state := .fallow, agent := 0, copy := none }).modBay bay fun b => { b with bstate := .fallow }
  let start : Hand → Hand := fun _ => { state := .ready, pc := Config.romEntry true 0, entry := Config.romEntry true 0, lastCkpt := s.devNow }
  (s.modHand bay 0 start).modHand bay 128 start

/-- The keeper may open a window: trim is loaded, the repairs of the Loft and the fuses are written, the bay is in reset, and no hold stands
(R17, R432, R474). -/
def State.mayOpen (s : State) (bay : Nat) : Bool :=
  s.sys.trimValid && s.loft.die.loaded && !s.own.latch.hold && (s.push bay).state = .held && (s.bay bay).bstate = .down && (s.bay bay).alive &&
  (s.bay bay).releasedAt.isNone

/-- The keeper opens a held bay's push window with WANT_HASH, or the bay enters Fallow mode with FALLOW_N low (R432, R438, R456). -/
def execPushWindowOpen (bay : Nat) (s : State) : Host.Outcome State Fault Refusal :=
  .next (if !s.mayOpen bay then s
  else if !s.sys.fallowN then s.enterFallow bay
  else s.modPush bay fun _ => { state := .opened, wantHash := s.wantFor bay, openTime := s.now, progressTime := s.now })

/-- 250 ms after opening, with no claim standing and no image the streamer could push, the bay enters Fallow mode (R438). -/
def execFallowEntry (bay : Nat) (s : State) : Host.Outcome State Fault Refusal :=
  .next (let p := s.push bay
  if p.state = .opened && s.passed p.openTime 250000000 && (s.slotOfHash p.wantHash).isNone then s.enterFallow bay else s)

/-! ### Claims and pushers -/

/-- Host claims are allowed: 10 ms after opening, or at once when the peer does not serve (R436). -/
def State.hostMayClaim (s : State) (bay : Nat) : Bool := s.passed (s.push bay).openTime 10000000 || s.serving ≠ some (peer bay)

/-- An agent may claim the window: 1 peer bay, 2 host, 3 fabric neighbour, 4 Loft streamer (R436). -/
def State.mayClaim (s : State) (bay agent : Nat) : Bool :=
  let p := s.push bay
  match agent with
  | 1 => s.serving = some (peer bay)
  | 2 => s.hostMayClaim bay && s.hostReaches bay
  | 3 => s.hostMayClaim bay && s.fab.fab.alive && s.fab.fab.pushReqBay = some bay && s.fab.fab.offerTaken.isSome
  | 4 => (s.passed p.openTime 250000000 || 0 < p.attempt) && (s.slotOfHash p.wantHash).isSome
  | _ => false

/-- A claim: the first accepted makes the window PUSHING and fixes AGENT; of claims in one keeper cycle the agent nearest the top of the
table wins; any other claim while PUSHING is ignored (R436). -/
def State.claimWindow (s : State) (bay agent : Nat) : State :=
  let p := s.push bay
  if s.mayClaim bay agent && (p.state = .opened || (p.state = .pushing && p.claimTime = s.now && agent < p.agent)) then
    s.modPush bay fun p => { p with state := .pushing, agent := agent, claimTime := s.now, progressTime := s.now }
  else s

/-- CLAIM_WRITE (R436). -/
def execClaimWrite (bay agent : Nat) (s : State) : Host.Outcome State Fault Refusal := .next (s.claimWindow bay agent)

/-- Pages of the image area become good (R434, R435). -/
def Push.markGood (p : Push) (page n now : Nat) : Push :=
  let g := forUpTo n (fun l i => insertAddr (page + i) l) p.good
  { p with good := g, progressTime := if g = p.good then p.progressTime else now }

/-- The image the peer bay pushes: its own Granary copy if its hash equals WANT_HASH, otherwise the Loft image of that hash (R436). -/
def State.peerImage (s : State) (bay : Nat) : Option (List Byte) :=
  let want := (s.push bay).wantHash
  let n := imgLen (s.imageBytes (peer bay) 0 16)
  let own := s.imageBytes (peer bay) 0 (min n imageMax)
  if n ≤ imageMax && hashOf own = want then some own
  else match s.slotOfHash want with
    | some k => some (s.slot k).bytes
    | none => none

/-- The peer bay fills one half with the next pages and writes words 8, 9 and 12 before its GO (R433, R435, R436). -/
def State.peerFills (s : State) (bay : Nat) : State :=
  match s.peerImage bay with
  | none => s
  | some img =>
    let p := s.push bay
    let part := (img.drop p.doneTo).take 520192
    let half := 1 - p.half
    if part.isEmpty then s
    else (s.modGranary bay fun g => g.fill (halfBase half) part).modPush bay fun p =>
      { p with imgOff := p.doneTo, len := part.length, crc := crc32c part, half := half, imgLen := img.length }

/-- GO: the copy of one half starts with the words as they stand; out of range nothing is copied, and a GO while copying is ignored
(R434, R435). A LEN or IMG_OFF that its field does not allow counts as out of range (DEDUCED). -/
def State.goCopy (s : State) (bay agent : Nat) : State :=
  let p := s.push bay
  if p.state ≠ .pushing || p.agent ≠ agent || p.xstat = 1 then s
  else
    let s := if agent = 1 then s.peerFills bay else s
    s.modPush bay fun p =>
      if imageMax < p.imgOff + p.len || p.imgOff % 4096 ≠ 0 || p.len % 4096 ≠ 0 || p.len < 4096 || 520192 < p.len then
        { p with xstat := 4, progressTime := if p.xstat = 4 then p.progressTime else s.now }
      else { p with xstat := 1, copy := some (p.imgOff, p.len, p.crc, p.half), progressTime := s.now }

/-- GO (R434). -/
def execGo (bay agent : Nat) (s : State) : Host.Outcome State Fault Refusal := .next (s.goCopy bay agent)

/-- A copy ends: its pages are good if the CRC matches (R434). -/
def execApertureCopyDone (bay : Nat) (s : State) : Host.Outcome State Fault Refusal :=
  .next (let p := s.push bay
  match p.copy with
  | some (off, len, crc, half) =>
    if p.state ≠ .pushing || p.xstat ≠ 1 then s
    else
      let bs := memRead (s.granary bay).mem (halfBase half) len
      if crc32c bs = crc then
        (s.modGranary bay fun g => g.fill (imageBase + off) bs).modPush bay fun p =>
          { p.markGood (off / 4096) (len / 4096) s.now with xstat := 2, copy := none, progressTime := s.now }
      else s.modPush bay fun p => { p with xstat := 3, copy := none, progressTime := s.now }
  | none => s)

/-- 20 ms without progress while PUSHING: the window is OPEN again and ATTEMPT rises; the image area is kept (R437). A neighbour's offer is
given up with it (R329). -/
def execPushAbandonExpiry (bay : Nat) (s : State) : Host.Outcome State Fault Refusal :=
  .next (let p := s.push bay
  if p.state = .pushing && s.passed p.progressTime 20000000 then
    let s := if p.agent = 3 then s.modFabric fun f => { f with offerTaken := none, firstOffer := none, pushReqBay := none } else s
    s.modPush bay fun p => { p with state := .opened, agent := 0, attempt := satAdd 4 p.attempt 1, copy := none, xstat := if p.xstat = 1 then 0 else p.xstat }
  else s)

/-- The streamer writes every page of an image that is not yet good (R435, R436). -/
def State.streamImage (s : State) (bay : Nat) (img : List Byte) : State :=
  (s.modGranary bay fun g => g.fill imageBase img).modPush bay fun p => p.markGood 0 (img.length / 4096) s.now

/-- The Loft streamer claims and pushes WANT_HASH's image, into both image areas where both windows wait for the same image (R436). -/
def execStreamerClaim (bay : Nat) (s : State) : Host.Outcome State Fault Refusal :=
  .next (let want := (s.push bay).wantHash
  if (s.push bay).state ≠ .opened || !s.mayClaim bay 4 then s
  else match s.slotOfHash want with
    | none => s
    | some n =>
      [bay, peer bay].foldl (fun s b =>
        if (s.push b).state = .opened && (s.push b).wantHash = want && s.mayClaim b 4 then (s.claimWindow b 4).streamImage b (s.slot n).bytes else s) s)

/-! ### Release and the checks -/

/-- RELEASE: refused with XSTAT 0x05 while DONE_TO lies below the image's length; otherwise stage 0 runs its checks (R439). -/
def State.releaseWindow (s : State) (bay agent : Nat) : State :=
  let p := s.push bay
  if p.state ≠ .pushing || p.agent ≠ agent then s
  else
    let need := if agent ≤ 2 then p.imgLen else imgLen (s.imageBytes bay 0 16)
    if p.doneTo < need then s.modPush bay fun p => { p with xstat := 5, progressTime := if p.xstat = 5 then p.progressTime else s.now }
    else s.modPush bay fun p => { p with state := .verifying, copy := none }

/-- RELEASE (R439). -/
def execRelease (bay agent : Nat) (s : State) : Host.Outcome State Fault Refusal := .next (s.releaseWindow bay agent)

/-- Parts of an image: stage 1 and the sections, as offset and length (R450, R451). -/
def imageParts (img : List Byte) : List (Nat × Nat) :=
  (fieldAt img 0x1C 4, fieldAt img 0x20 4) :: (List.range (fieldAt img 0x00E 2)).map fun i => (fieldAt img (0x120 + 64 * i) 4, fieldAt img (0x124 + 64 * i) 4)

/-- Every byte of a range of the image is 0. -/
def zeros (img : List Byte) (off n : Nat) : Bool := ((img.drop off).take n).all fun b => b = 0

/-- No two parts overlap. -/
def apart (l : List (Nat × Nat)) : Bool :=
  match l with
  | [] => true
  | a :: r => r.all (fun b => a.1 + a.2 ≤ b.1 || b.1 + b.2 ≤ a.1) && apart r

/-- Check 2: MAGIC, HVER, reserved bytes, parts inside the image and apart, S1_ENTRY inside stage 1 (R440, R451). -/
def layoutOk (img : List Byte) : Bool :=
  let n := fieldAt img 0x00E 2
  let s1 := fieldAt img 0x1C 4
  let e := fieldAt img 0x24 4
  fieldAt img 0 4 = 0xF1E1D001 && fieldAt img 4 2 = 1 && zeros img 0x006 2 && zeros img 0x01A 2 && zeros img 0x028 8 && zeros img 0x0F0 48 &&
  n ≤ 16 && zeros img (0x120 + 64 * n) (1024 - 64 * n) && zeros img 0x520 2784 &&
  (List.range n).all (fun i => zeros img (0x12C + 64 * i) 4 && fieldAt img (0x128 + 64 * i) 2 ≤ 2) &&
  (imageParts img).all (fun p => 0x1000 ≤ p.1 && p.1 + p.2 ≤ img.length) && apart (imageParts img) &&
  s1 ≤ e && e < s1 + fieldAt img 0x20 4

/-- HASH of the signed region (R451). -/
def signedRegionHash (img : List Byte) : Nat := hashOf (img.take 0x60 ++ img.drop 0xF0)

/-- The first of checks 1 to 7 that a pushed image fails (R440). -/
def State.stage0Check (s : State) (bay : Nat) : Option Nat :=
  let p := s.push bay
  let n := imgLen (s.imageBytes bay 0 16)
  if imageMax < n || p.doneTo < n then some 1
  else
    let img := s.imageBytes bay 0 n
    let h := ofBeBytes ((img.drop 0x60).take 48)
    if !layoutOk img then some 2
    else if signedRegionHash img ≠ h then some 3
    else if !s.signedBy false (fieldAt img 0x00D 1) h ((img.drop 0x90).take 96) then some 4
    else if p.wantHash ≠ 0 && p.wantHash ≠ hashOf img then some 5
    else if fieldAt img 0x00C 1 < s.boot.fuse.counter then some 6
    else if hashOf ((img.drop (fieldAt img 0x1C 4)).take (fieldAt img 0x20 4)) ≠ ofBeBytes ((img.drop 0x30).take 48) then some 7
    else none

/-- Check 8: every stage 2 section has the hash the header gives it (R440). -/
def sectionsOk (img : List Byte) : Bool :=
  (List.range (fieldAt img 0x00E 2)).all fun i =>
    hashOf ((img.drop (fieldAt img (0x120 + 64 * i) 4)).take (fieldAt img (0x124 + 64 * i) 4)) = ofBeBytes ((img.drop (0x130 + 64 * i)).take 48)

/-- A failed check ends the attempt: U is refused, V falls back to P where P can boot, the record and the event go out, and the window
reopens with the image area cleared, or the third failure enters Fallow mode (R442, R456, R457). The event names the slot of the image,
0xFF for an image of no slot. -/
def State.attemptFailed (s : State) (bay : Nat) (p : Push) (check : Nat) (img : Nat) : State :=
  let n := s.slotOfHash img
  let s := if n.isSome && n = s.slotU then s.refuseSlot (n.getD 0) bay check
    else (s.almanac 0 0x0902 [(1, n.getD 0xFF), (1, bay), (2, check)]).raiseLater 0x0902 [(1, n.getD 0xFF), (1, bay), (2, check)]
  let onV := s.slotV.isSome && p.wantHash = s.slotHash s.slotV
  let want := match s.slotP with
    | some k => if onV && s.boot.fuse.counter ≤ (s.slot k).epoch then (s.slot k).hash else p.wantHash
    | none => p.wantHash
  let s := s.modGranary bay fun g => { g with mem := g.mem.filter fun (c : Host.Cell) => !(imageBase ≤ c.1 && c.1 < imageBase + imageMax) }
  let s := if p.agent = 3 then s.modFabric fun f => { f with offerTaken := none, firstOffer := none, pushReqBay := none } else s
  let s := s.modPush bay fun _ => {
    state := .opened
    attempt := satAdd 4 p.attempt 1
    failed := p.failed + 1
    check := check
    wantHash := if n.isSome && n = s.slotU then s.wantFor bay else want
    openTime := p.openTime
    progressTime := s.now }
  if 3 ≤ p.failed + 1 then s.enterFallow bay else s

/-- Stage 0 ends: the cores are released at the stage 1 entry, or the attempt fails (R439, R440, R443, R445). -/
def execStage0Done (bay : Nat) (s : State) : Host.Outcome State Fault Refusal :=
  .next (let p := s.push bay
  if p.state ≠ .verifying then s
  else
    let img := s.imageBytes bay 0 (min (imgLen (s.imageBytes bay 0 16)) imageMax)
    match s.stage0Check bay with
    | some c => s.attemptFailed bay { p with check := c } c (hashOf img)
    | none =>
      let s := (s.fixDebug bay).measureStage0 bay img
      let entry := BitVec.ofNat 32 (imageBase + fieldAt img 0x24 4)
      let s := forUpTo 32 (fun s c => s.modHand bay (128 * c) fun _ => { state := .ready, pc := entry, entry := entry, lastCkpt := s.devNow }) s
      (s.modPush bay fun p => { p with state := .released, stage1 := true, check := 0 }).modMeasure bay fun m => { m with imgEpoch := fieldAt img 0x00C 1 })

/-! ### Stage 1 -/

/-- The page map that stage 1 builds: hand contexts, journal, ring states, the page map itself and the measurement page (R210, R441; the
places are a DESIGN CHOICE, log entry 20). -/
def Granary.bootPages (g : Granary) : Granary :=
  let g := forUpTo 64 (fun g i => g.mark (0x1700 + i) 1 4 (64 * i)) g
  let g := g.mark 0x1500 512 1 0
  let g := forUpTo 512 (fun g i => g.mark (0x1300 + i) 1 2 (64 * i)) g
  let g := g.mark 0x12F9 7 3 0
  g.mark (pageOf controlBase) 1 9 0

/-- A section of an image: offset, length, SKIND, FIRST_HAND (R450). -/
def sectionsOf (img : List Byte) : List (Nat × Nat × Nat × Nat) :=
  (List.range (fieldAt img 0x00E 2)).map fun i =>
    let a := 0x120 + 64 * i
    (fieldAt img a 4, fieldAt img (a + 4) 4, fieldAt img (a + 8) 2, fieldAt img (a + 10) 2)

/-- Image hands of a code section: from its FIRST_HAND up to the next code section's, or to 1,023 (R178, R450; DESIGN CHOICE). -/
def sectionHands (secs : List (Nat × Nat × Nat × Nat)) (first : Nat) : List Nat :=
  let next := secs.foldl (fun m x => if x.2.2.1 = 0 && first < x.2.2.2 then min m x.2.2.2 else m) 1024
  if 256 ≤ first then handRange first (next - first) else []

/-- Stage 1 places the stage 2 sections where they lie in the image area, starts the image hands at their code, and adds the Easel programs
(R441, R450; the places are a DESIGN CHOICE). -/
def State.placeSections (s : State) (bay : Nat) (img : List Byte) : State :=
  let secs := sectionsOf img
  secs.foldl (fun s x =>
    let base := imageBase + x.1
    match x.2.2.1 with
    | 0 =>
      let s := s.modGranary bay fun g => g.mark (base / 4096) (pagesOf x.2.1) 7 x.2.2.2
      (sectionHands secs x.2.2.2).foldl (fun s n => s.modHand bay n fun _ =>
        { state := .ready, pc := BitVec.ofNat 32 base, entry := BitVec.ofNat 32 base, codeBase := base, codeLen := x.2.1, shadow := true, lastCkpt := s.devNow }) s
    | 1 => s.modGranary bay fun g => g.mark (base / 4096) (pagesOf x.2.1) 8 0
    | _ =>
      let bs := (img.drop x.1).take x.2.1
      let q := parseProgram bs
      if (s.program q.progId q.rev).isSome || (s.loadFault bs true).isSome then s
      else s.modEasel fun e => { e with cfg := { e.cfg with programs := e.cfg.programs ++ [q] } }) s

/-- Code, data and checkpoint area of one user hand reach a bay from the Loft, and the hand is LOADED (R193). -/
def State.placeHand (s : State) (bay hand : Nat) (h : Hand) : State :=
  match s.barn.images.find? fun q => q.first ≤ hand && hand < q.first + q.count with
  | none => s
  | some q => (s.modGranary bay fun g =>
      let g := { g with mem := memWrite (memWrite (memWrite g.mem h.codeBase q.code) h.dataBase (q.data ++ List.replicate (h.dataLen - q.data.length) 0)) h.ckptPtr (List.replicate 256 0) }
      let g := (g.mark (h.codeBase / 4096) (pagesOf h.codeLen) 7 q.first).mark (h.dataBase / 4096) (pagesOf h.dataLen) 8 hand
      g.mark (h.ckptPtr / 4096) 1 5 (1024 + (h.ckptPtr - ckptBase) / 4096 * 16)).modHand bay hand fun _ => h

/-- A bound instance at a bay start: the contents that INIT gave it, its recurrent state and counts afresh, unseeded where it draws (R137,
R149, R169, R172). -/
def Inst.atStart (i : Inst) : Inst :=
  { slot := i.slot, offset := i.offset, order := i.order, panels := i.panels, switchAt := 0, prog := i.prog
    tensors := i.prog.startTensors.map fun e => if (i.prog.desc e.1).state then e else (e.1, tget i.tensors e.1 e.2)
    seeded := !i.prog.stochastic }

/-- The bay takes loaded containers, hand configurations and bound instances from the Loft (R172, R193). -/
def State.loadFromLoft (s : State) (bay : Nat) : State :=
  let s := s.loft.upd.loftHands.foldl (fun s e => s.placeHand bay e.1 e.2) s
  let s := s.modEaselBay bay fun e => { e with insts := s.loft.upd.loftBinds.map fun x => (x.1, x.2.atStart) }
  if s.loft.upd.loftBinds.any fun x => x.2.prog.stochastic then s.modEasel fun e => { e with cfg := { e.cfg with reseedDue := true } } else s

/-- A bay is released on an image: the slot's state counts the bays that run it, and from the first release on a U of another settings
format the two settings copies part (R457, R459). -/
def State.runsImage (s : State) (bay : Nat) (hash : Nat) : State :=
  let n := s.slotOfHash hash
  let s := s.modBay bay fun b => { b with runsSlot := n }
  match n with
  | none => s
  | some k =>
    if s.slotU = some k then
      let other := s.bay (peer bay)
      let s := s.setSlot k (if other.releasedAt.isSome && other.runsSlot = some k then 4 else max 3 (s.slot k).state)
      match s.slotV with
      | some v => s.modUpd fun u => { u with settingsX := (s.slot v).sfmt, settingsY := (s.slot k).sfmt }
      | none => s.modUpd fun u => { u with settingsX := (s.slot k).sfmt, settingsY := (s.slot k).sfmt }
    else s.modUpd fun u => { u with settingsX := (s.slot k).sfmt, settingsY := if s.slotU.isSome then u.settingsY else (s.slot k).sfmt }

/-- Stage 1 ends: the page map stands, sections are placed, ROM and image hands run, and the bay enters its states; or check 8 fails, the bay
is reset, and its window goes on as for any failed check (R441, R443). -/
def execStage1Done (bay : Nat) (s : State) : Host.Outcome State Fault Refusal :=
  .next (let p := s.push bay
  if p.state ≠ .released || !p.stage1 || !(s.bay bay).alive then s
  else
    let img := s.imageBytes bay 0 (min (imgLen (s.imageBytes bay 0 16)) imageMax)
    if !sectionsOk img then (s.resetBay bay).attemptFailed bay p 8 (hashOf img)
    else
      let s := (sectionsOf img).foldl (fun s x => s.extendTally bay 4 ((img.drop x.1).take x.2.1)) s
      let s := s.extendTally bay 5 (memRead s.loft.die.cal 0 131072 ++ Config.settingsBytes s.sys.freshCount)
      let s := s.modSys fun y => { y with freshCount := y.freshCount + 1 }
      let s := s.modBarn fun b => { b with hands := b.hands.filter fun e => e.1 / 4096 != bay }
      let s := (s.modGranary bay Granary.bootPages).placeSections bay img
      let s := forUpTo 256 (fun s n => s.modHand bay n fun _ =>
        { state := .ready, pc := Config.romEntry false n, entry := Config.romEntry false n, shadow := true, lastCkpt := s.devNow }) s
      let s := (s.loadFromLoft bay).modPush bay fun p => { p with stage1 := false }
      let s := (s.runsImage bay (hashOf img)).freshGovernor bay
      (s.bayReleased bay).showMeasures bay)

end Sys2Proof.Machine
end

