-- ==== Sys2Proof/Machine/Cooling.lean ====
section
/-!
DEFINITION. Temperature, fans, pumps and leaks (R386 to R408): temperature points and their neighbour checks, zones and demand, thermal
throttling and trips, kicks and stalls, flow, leaks, inputs that never settle, outputs that fight, records and the COOL commands.
-/
namespace Sys2Proof.Machine
open Sys2Proof

/-! ### Temperature points (R387 to R389) -/

/-- A 16-bit number names a temperature point: an accelerator's or a remote diode's (R387). -/
def pointExists (p : Nat) : Bool := p < 0x1000 || (0x1000 ≤ p && p < 0x1008)

/-- The reading of a point as one bay has it, 1/128 degC: the latest slice that carries it, none where it reads 0x8000, the bay's lane is not
UP or no such slice has come for 64 us; or the diode's latest conversion (R387, R388). -/
def State.reading (s : State) (bay p : Nat) : Option Int :=
  if 0x1000 ≤ p then (s.diode (p - 0x1000)).temp
  else
    let v := s.view (p / 512) bay
    match tfind v.tempTime (p % 512 / 64) with
    | some t =>
      let x := tget v.temps (p % 512) (-32768)
      if (s.lane (p / 512) bay).lstate = .up && !s.passed t 64000 && x ≠ -32768 then some x else none
    | none => none

/-- A bay holds the point suspect (R389). -/
def State.isSuspect (s : State) (bay p : Nat) : Bool := tget (s.point p).suspect bay false

/-- The value of a point: its reading, or the neighbour estimate while it is suspect (R389). -/
def State.pointValue (s : State) (bay p : Nat) : Option Rat :=
  if s.isSuspect bay p then tfind (s.point p).estimate bay else (s.reading bay p).map fun (x : Int) => (x : Rat)

/-- A reading put in its place in a rising list. -/
def insertInt (x : Int) (l : List Int) : List Int :=
  match l with
  | [] => [x]
  | y :: r => if x ≤ y then x :: y :: r else y :: insertInt x r

/-- The median: the mean of the two middle values for an even number (R389). -/
def median (l : List Int) : Option Rat :=
  let m := l.foldl (fun a x => insertInt x a) []
  let n := m.length
  if n = 0 then none
  else if n % 2 = 1 then some (m.getD (n / 2) 0 : Int)
  else some (((m.getD (n / 2 - 1) 0 + m.getD (n / 2) 0 : Int) : Rat) / 2)

/-- The median of a point's neighbours that have a reading and are not suspect (R389). -/
def State.neighbourMedian (s : State) (bay p : Nat) : Option Rat :=
  median ((s.point p).neighbours.filterMap fun q => if s.isSuspect bay q then none else s.reading bay q)

/-- A point becomes suspect on one bay; the owner raises the event (R389). -/
def State.becomesSuspect (s : State) (bay p : Nat) (est : Rat) : State :=
  let r := s.reading bay p
  let s := s.modPoint p fun x => { x with suspect := tset x.suspect bay true, bad := tset x.bad bay 0, good := tset x.good bay 0 }
  if s.isOwner bay then s.raise 0x0305 [(2, p), (4, match r with | some v => twos 32 v | none => 0x8000), (4, twos 32 est.floor)] else s

/-- One check of one point on one bay; a point without a valid neighbour is not checked (R389). -/
def State.checkPoint (s : State) (bay p : Nat) : State :=
  match s.neighbourMedian bay p with
  | none => s.modPoint p fun x => { x with estimate := tdel x.estimate bay }
  | some m =>
    let s := s.modPoint p fun x => { x with estimate := tset x.estimate bay m }
    let x := s.point p
    match s.reading bay p with
    | none =>
      if s.isSuspect bay p then s.modPoint p fun x => { x with good := tset x.good bay 0 } else s.becomesSuspect bay p m
    | some r =>
      let near := decide (max ((r : Rat) - m) (m - r) ≤ x.thresh)
      if s.isSuspect bay p then
        let g := if near then tget x.good bay 0 + 1 else 0
        if x.n ≤ g then s.modPoint p fun x => { x with suspect := tset x.suspect bay false, good := tset x.good bay 0, bad := tset x.bad bay 0 }
        else s.modPoint p fun x => { x with good := tset x.good bay g }
      else
        let b := if near then 0 else tget x.bad bay 0 + 1
        if x.n ≤ b then s.becomesSuspect bay p m else s.modPoint p fun x => { x with bad := tset x.bad bay b }

/-- The millisecond of device time, plus one. -/
def State.tick (s : State) : Nat := s.now / 1000000 + 1

/-- Once per millisecond a running bay checks its points against their neighbours (R389). -/
def execSensorCheck (bay : Nat) (s : State) : Host.Outcome State Fault Refusal :=
  .next (if !s.runs bay || s.sys.dormant || tget s.cool.checkTick bay 0 = s.tick then s
  else
    let s := s.modCool fun c => { c with checkTick := tset c.checkTick bay s.tick }
    s.cool.points.foldl (fun s p => if p.2.neighbours.isEmpty then s else s.checkPoint bay p.1) s)

/-- Every 10 ms the keeper converts each remote diode; one at or above its trip on two conversions in a row drives every fan and pump at
100 %, opens the branches of the slots of its zone and sets their thermal hold (R388, R395, R405). -/
def State.diodeTrip (s : State) (n : Nat) : State :=
  let z := if s.loft.die.loaded then (tfind s.cool.points (0x1000 + n)).map fun p => p.zone else none
  let trip := match z with | some z => (s.zone z).trip | none => 13440
  let hot := match (s.diode n).temp with | some t => if trip ≤ t then min 2 ((s.diode n).hot + 1) else 0 | none => 0
  let before := s.cool.hotDiodes.testBit n
  let s := (s.modDiode n fun d => { d with hot := hot }).modCool fun c => { c with hotDiodes := setBit c.hotDiodes n (hot = 2) }
  if hot = 2 && !before then
    let mask := match z with | some z => (s.zone z).slots | none => 0
    let s := forUpTo 8 (fun s i => if mask.testBit i then
        (if s.own.latch.hold then s else s.commandOpen i).modThermal i fun t => { t with hold := setBit t.hold (z.getD 0) true }
      else s) s
    s.raiseLater 0x0306 [(1, z.getD 0xFF), (1, mask), (4, twos 32 (-1000))]
  else s

/-- DIODE_CONVERSION (R388, R405). -/
def execDiodeConversion (readings : List (Option Int)) (s : State) : Host.Outcome State Fault Refusal :=
  .next (if (match s.cool.diodeTime with | some t => !s.passed t 10000000 | none => false) || !s.cool.scarecrow then s
  else
    let s := s.modCool fun c => { c with diodeTime := some s.now }
    let s := forUpTo 8 (fun s n =>
      let r := readings.getD n none
      if (s.diode n).temp = r then s else (s.modDiode n fun d => { d with temp := r }).signalChannel (0x22 + n)) s
    (forUpTo 8 State.diodeTrip s).followDrives)

/-! ### Zones and demand (R390 to R392, R395) -/

/-- A zone whose masks are all 0 is unused (R390). -/
def Zone.used (z : Zone) : Bool := z.pumps ≠ 0 || z.fans ≠ 0 || z.slots ≠ 0

/-- A thermal hold from this zone stands (R395, R406). -/
def State.zoneHolds (s : State) (z : Nat) : Bool := (List.range 8).any fun i => (s.thermal i).hold.testBit z

/-- The points of a zone. -/
def State.zonePoints (s : State) (z : Nat) : List Nat := (s.cool.points.filter fun p => p.2.zone = z).map fun p => p.1

/-- The highest value among the points of a zone and the point that gives it (R390). -/
def State.hottest (s : State) (bay z : Nat) : Option (Rat × Nat) :=
  (s.zonePoints z).foldl (fun a p =>
    match s.pointValue bay p, a with
    | some v, some (m, _) => if m < v then some (v, p) else a
    | some v, none => some (v, p)
    | none, _ => a) none

/-- Demand D of a zone at a temperature, 0.1 %, rounded up (R391). -/
def demandAt (target : Int) (t : Rat) : Nat :=
  if t ≤ target - 1280 then 300 else if target < t then 1000 else (300 + 700 * (t - (target - 1280)) / 1280 : Rat).ceil.toNat

/-- A zone's temperature reaches TRIP: every slot it lists loses its branch by a commanded opening and takes the thermal hold (R395). -/
def State.zoneTrip (s : State) (z : Nat) : State :=
  let mask := (s.zone z).slots
  let s := forUpTo 8 (fun s i => if mask.testBit i then
      (if s.own.latch.hold then s else s.commandOpen i).modThermal i fun t => { t with hold := setBit t.hold z true }
    else s) s
  s.raise 0x0306 [(1, z), (1, mask), (4, twos 32 (-1000))]

/-- One zone's temperature, trip and demand (R390, R391, R395). -/
def State.formZone (s : State) (bay z : Nat) : State :=
  if !(s.zone z).used then s else
  let h := s.hottest bay z
  let x := s.zone z
  let above := match h with | some (t, _) => decide ((x.target : Rat) < t) | none => false
  let trips := match h with | some (t, _) => decide ((x.trip : Rat) ≤ t) | none => false
  let held := (List.range 8).all fun i => !x.slots.testBit i || (s.thermal i).hold.testBit z
  let s := s.modZone z fun x => { x with
    temp := h.map fun t => t.1, hottest := match h with | some (_, p) => p | none => 0xFFFF, isOver := above, atTrip := trips
    okSince := if h.isSome && !above then some (x.okSince.getD s.now) else none
    blankSince := if h.isNone then some (x.blankSince.getD s.now) else none }
  let s := if trips && (!x.atTrip || !held) then s.zoneTrip z else s
  s.modZone z fun x => { x with demand := if s.zoneHolds z then 1000 else match h with | some (t, _) => demandAt x.target t | none => 1000 }

/-- A zone serves a fan or pump channel (R390). -/
def Zone.serves (z : Zone) (ch : Nat) : Bool := if ch < 0x10 then z.fans.testBit ch else z.pumps.testBit (ch - 0x10)

/-- A zone's demand compensated for its stalled channels of one kind, 0.1 %, rounded up (R392). -/
def State.compensated (s : State) (z ch : Nat) : Nat :=
  let mine := (List.range 20).filter fun c => (s.zone z).serves c && decide (c < 0x10) = decide (ch < 0x10)
  let live := (mine.filter fun c => !(s.drive c).isStalled).length
  if live = 0 then 1000 else min 1000 (((s.zone z).demand * mine.length + live - 1) / live)

/-- The drive the owner writes to a channel (R392). -/
def State.channelDemand (s : State) (ch : Nat) : Nat :=
  let zs := (List.range 16).filter fun z => (s.zone z).serves ch
  if (s.drive ch).mode1 then (if zs.any s.zoneHolds then 1000 else (s.drive ch).fixed)
  else if zs.isEmpty then 700
  else zs.foldl (fun m z => max m (s.compensated z ch)) 0

/-- The owner writes a drive through the keeper's gate (R14, R392). -/
def State.writeDrive (s : State) (ch : Nat) : State :=
  if s.own.latch.hold then s else (s.modDrive ch fun d => { d with demand := s.channelDemand ch }).followDrive ch

/-- Every millisecond the owner forms each zone's demand and writes the drives (R391, R392, R395). -/
def execZoneDemand (s : State) : Host.Outcome State Fault Refusal :=
  .next (match s.serving with
  | none => s
  | some bay =>
    if s.cool.demandTick = s.tick then s
    else
      let s := s.modCool fun c => { c with demandTick := s.tick }
      forUpTo 20 State.writeDrive (forUpTo 16 (fun s z => s.formZone bay z) s))

/-! ### Thermal throttling (R393, R394) -/

/-- The next thermal factor of a slot (R393). -/
def State.nextFactor (s : State) (i : Nat) : Nat :=
  let zs := (List.range 16).filter fun z => (s.zone z).slots.testBit i
  let h := (s.thermal i).h
  if zs.any fun z => (s.zone z).isOver then max 100 (h - 20)
  else if zs.all fun z => match (s.zone z).temp with | some t => decide (t ≤ (s.zone z).target - 64) | none => true then min 1000 (h + 10)
  else h

/-- The zone a thermal step names: the lowest above TARGET, else the lowest that lists the slot (DESIGN CHOICE). -/
def State.stepZone (s : State) (i : Nat) : Nat :=
  let zs := (List.range 16).filter fun z => (s.zone z).slots.testBit i
  match zs.find? fun z => (s.zone z).isOver with
  | some z => z
  | none => zs.headD 0xFF

/-- Every 10 ms, at a DWN that is a multiple of 5,000, each slot's thermal factor steps and is journalled (R393). -/
def execThermalStep (s : State) : Host.Outcome State Fault Refusal :=
  .next (if s.serving.isNone || s.dwn % 5000 ≠ 0 || s.cool.stepWindow = s.dwn + 1 then s
  else
    let s := s.modCool fun c => { c with stepWindow := s.dwn + 1 }
    forUpTo 8 (fun s i =>
      let h := s.nextFactor i
      if h = (s.thermal i).h || !s.journalFree then s
      else (s.journalChange (.thermal i h)).raise 0x0306 [(1, s.stepZone i), (1, 2 ^ i), (4, twos 32 ((h : Int) - (s.thermal i).h))]) s)

/-- A thermal hold clears once every zone listing the slot has stayed at or below TARGET for 10 s, or has had no reading for 60 s (R395). -/
def execThermalHoldRelease (slot : Nat) (s : State) : Host.Outcome State Fault Refusal :=
  .next (if s.serving.isSome && (s.thermal slot).hold ≠ 0 && (List.range 16).all fun z => !(s.zone z).slots.testBit slot ||
      (match (s.zone z).okSince with | some t => s.passed t 10000000000 | none => false) ||
      (match (s.zone z).blankSince with | some t => s.passed t 60000000000 | none => false) then
    s.modThermal slot fun t => { t with hold := 0 }
  else s)

/-! ### Kicks, stalls and broken tachometers (R396 to R399) -/

/-- The keeper kicks a channel whose drive has risen from 0 (R396). -/
def execKick (channel : Nat) (s : State) : Host.Outcome State Fault Refusal :=
  .next (if isDrive channel && s.cool.scarecrow && (s.drive channel).dstate = .off && 0 < s.setDrive channel then s.startKick channel else s)

/-- Two edges within 100 ms end a kick: the channel takes its set drive (R396). -/
def execKickResponse (channel : Nat) (s : State) : Host.Outcome State Fault Refusal :=
  .next (if isDrive channel && (s.drive channel).dstate = .kick then
    ((s.modDrive channel fun d => { d with dstate := .running, isStalled := false, lastEdge := s.now }).followDrive channel).signalChannel channel
  else s)

/-- No response in 2 s: the channel is stalled (R396, R398). -/
def execKickExpiry (channel : Nat) (s : State) : Host.Outcome State Fault Refusal :=
  .next (if isDrive channel && (s.drive channel).dstate = .kick && s.passed (s.drive channel).kickStart 2000000000 then s.stall channel else s)

/-- The channel has a current monitor that answers (R397, R429). -/
def Drive.monitored (d : Drive) : Bool := d.monitor.isSome && d.misses < 10

/-- A silent channel is judged by its supply current: stalled at or above I_LOCK, at or below I_OPEN or with no monitor, and otherwise
tach-lost, its drive held (R397, R398). -/
def State.judgeSilent (s : State) (ch : Nat) : State :=
  let d := s.drive ch
  let normal := d.monitored && match d.current with
    | some i => !(match d.iLock with | some l => decide (l ≤ i) | none => false) && !(match d.iOpen with | some o => decide (i ≤ o) | none => false)
    | none => false
  if !normal then s.stall ch
  else if d.dstate = .tachLost then s
  else
    let good := d.droveAt s.now 500000000
    (((s.modDrive ch fun d => { d with dstate := .tachLost, lastGood := good }).followDrive ch).signalChannel ch).raise 0x0302 [(2, ch), (4, good)]

/-- No edge for 500 ms at a drive of 20.0 % or more (R397). -/
def execTachSilence (channel : Nat) (s : State) : Host.Outcome State Fault Refusal :=
  .next (let d := s.drive channel
  if isDrive channel && d.dstate = .running && 200 ≤ d.drive && s.passed d.lastEdge 500000000 then s.judgeSilent channel else s)

/-- READ_IOUT of a channel's current monitor, every 100 ms; a miss leaves the judgement, ten in a row count as no monitor (R397, R427 to
R429). -/
def execReadIout (channel : Nat) (word : Option (BitVec 16)) (binary16 : Bool) (s : State) : Host.Outcome State Fault Refusal :=
  .next (let d := s.drive channel
  if s.serving.isNone || !isDrive channel || d.monitor.isNone || (match d.readTime with | some t => !s.passed t 100000000 | none => false) then s
  else
    let v := word.bind fun w => pmbusValue w binary16
    let s := s.modDrive channel fun d => match v with
      | some a => { d with readTime := some s.now, misses := 0, current := some (min 65534 (a * 1000).floor.toNat) }
      | none => { d with readTime := some s.now, misses := min 15 (d.misses + 1) }
    if d.dstate = .tachLost && (v.isSome || 10 ≤ (s.drive channel).misses) then s.judgeSilent channel else s)

/-- Every 60 s a stalled channel is kicked again (R398). -/
def execStallRetry (channel : Nat) (s : State) : Host.Outcome State Fault Refusal :=
  .next (if isDrive channel && (s.drive channel).dstate = .stalled && s.passed (s.drive channel).stallTime 60000000000 then s.startKick channel else s)

/-- Two edges within 100 ms on a tach-lost channel: it takes its set drive again (R398). -/
def execTachEdgesReturn (channel : Nat) (s : State) : Host.Outcome State Fault Refusal :=
  .next (if isDrive channel && (s.drive channel).dstate = .tachLost then
    ((s.modDrive channel fun d => { d with dstate := .running, isStalled := false, lastEdge := s.now }).followDrive channel).signalChannel channel
  else s)

/-- An index pulse: the tachometer pulses since the one before are compared with PPR; the event comes at most once per second (R399). -/
def execPumpIndexPulse (channel count : Nat) (s : State) : Host.Outcome State Fault Refusal :=
  .next (let d := s.drive channel
  if !(0x10 ≤ channel && isDrive channel) || count = d.ppr then s
  else
    let due := match d.idxEventTime with | some t => s.passed t 1000000000 | none => true
    let n := satAdd 32 d.idxFaults 1
    let s := s.modDrive channel fun d => { d with idxFaults := n, idxEventTime := if due then some s.now else d.idxEventTime }
    if due then s.raise 0x0303 [(2, channel), (4, n)] else s)

/-! ### Flow, inputs and outputs (R400 to R404) -/

/-- A flow gate ends: the pulse rate, or chatter above CHATTER (R400). -/
def execFlowGate (channel pulses : Nat) (s : State) : Host.Outcome State Fault Refusal :=
  .next (let x := s.input channel
  if !isFlow channel || (match x.gateTime with | some t => !s.passed t (x.filter * 1000) | none => false) then s
  else
    let bad := decide (x.chatter * x.filter < pulses * 1000000)
    let flow := if bad then none else some (pulses * 60000000000 / (x.filter * x.kFactor))
    let s := if flow = x.flow then s else s.signalChannel channel
    let s := s.modInput channel fun x => { x with
      gateTime := some s.now, flow := flow, chattering := x.chattering || bad, calmSince := if bad then s.now else x.calmSince }
    if bad && !x.chattering then s.raise 0x0E03 [(2, channel), (4, pulses * 1000000 / x.filter)] else s)

/-- The filtered state of an input becomes what FILTER has seen; a chattering alert or GPIO input follows at most once per second (R403). -/
def State.filtered (s : State) (ch : Nat) (active : Bool) : State :=
  let x := s.input ch
  if x.active = active || (x.chattering && !isLeak ch && !s.passed (max x.activeSince x.inactiveSince) 1000000000) then s
  else
    let was := s.counts ch
    let s := (s.modInput ch fun x => { x with
      active := active, level := active, activeSince := if active then s.now else x.activeSince
      inactiveSince := if active then x.inactiveSince else s.now }).signalChannel ch
    if isLeak ch && !was && s.counts ch then s.leakFound ch else s

/-- A leak input becomes active after its filter (R401). -/
def execLeak (channel : Nat) (s : State) : Host.Outcome State Fault Refusal := .next (if isLeak channel then s.filtered channel true else s)

/-- A leak, alert or GPIO input changes its filtered state (R403). -/
def execInputFilteredChange (channel : Nat) (active : Bool) (s : State) : Host.Outcome State Fault Refusal :=
  .next (if isLeak channel || isGpio channel || isAlert channel then s.filtered channel active else s)

/-- An input active for STUCK without a break is masked (R403). -/
def execInputStuck (channel : Nat) (s : State) : Host.Outcome State Fault Refusal :=
  .next (let x := s.input channel
  if isInput channel && !isFlow channel && x.active && !x.masked && s.passed x.activeSince (x.stuck * 1000) then
    ((s.modInput channel fun x => { x with masked := true }).signalChannel channel).raise 0x0E02 [(2, channel)]
  else s)

/-- A masked input inactive for 1 s takes part again (R403). -/
def execStuckMaskClear (channel : Nat) (s : State) : Host.Outcome State Fault Refusal :=
  .next (let x := s.input channel
  if isInput channel && x.masked && !x.active && s.passed x.inactiveSince 1000000000 then
    (s.modInput channel fun x => { x with masked := false }).signalChannel channel
  else s)

/-- More than CHATTER transitions within 1 s: the input chatters; a chattering leak input counts as active (R403). -/
def execInputChatter (channel transitions : Nat) (s : State) : Host.Outcome State Fault Refusal :=
  .next (let x := s.input channel
  if !isInput channel || transitions ≤ x.chatter then s
  else
    let was := s.counts channel
    let s := s.modInput channel fun x => { x with chattering := true, calmSince := s.now, flow := if isFlow channel then none else x.flow }
    let s := if x.chattering then s else s.raise 0x0E03 [(2, channel), (4, transitions)]
    if isLeak channel && !was && s.counts channel then s.leakFound channel else s)

/-- Chatter ends after 10 s at or below CHATTER (R403). -/
def execChatterEnd (channel : Nat) (s : State) : Host.Outcome State Fault Refusal :=
  .next (let x := s.input channel
  if isInput channel && x.chattering && s.passed x.calmSince 10000000000 then s.modInput channel fun x => { x with chattering := false } else s)

/-- Three periods of readback mismatch release a fan, pump, valve or GPIO output (R398, R404). -/
def execOutputFight (channel : Nat) (s : State) : Host.Outcome State Fault Refusal :=
  .next (let event (s : State) : State := (s.signalChannel channel).raise 0x0E04 [(2, channel)]
  if isDrive channel then
    if (s.drive channel).dstate = .disabled then s
    else event ((s.modDrive channel fun d => { d with dstate := .disabled, isStalled := false }).followDrive channel)
  else if isValve channel then
    if (s.valve (channel - 0x20)).released then s
    else event (s.modValve (channel - 0x20) fun v => { v with released := true, isOpen := false })
  else if isGpio channel && (tfind s.cool.gpio (channel - 0x34)).isSome && !s.cool.released.testBit (channel - 0x34) then
    event (s.modCool fun c => { c with released := setBit c.released (channel - 0x34) true })
  else s)

/-! ### Records (R406, R407) -/

/-- DSTATE as a drive channel record codes it (R406). -/
def DState.code : DState → Nat
  | .off => 0 | .kick => 1 | .running => 2 | .stalled => 3 | .tachLost => 4 | .disabled => 5

/-- A drive channel record; its speed is what the tachometer measures outside the model, a free value (R406). -/
def State.driveRecord (s : State) (ch : Nat) : List Word64 :=
  let d := s.drive ch
  [ pack [(56, 8, ch), (53, 3, d.dstate.code), (52, 1, bit d.mode1), (42, 10, d.drive), (32, 10, d.demand), (0, 32, s.rpm ch)],
    pack [(32, 32, d.idxFaults), (16, 16, d.stalls), (0, 16, if d.monitored then d.current.getD 0xFFFF else 0xFFFF)] ]

/-- A zone record (R406). -/
def State.zoneRecord (s : State) (z : Nat) : List Word64 :=
  let x := s.zone z
  [ pack [(56, 8, z), (55, 1, bit x.isOver), (54, 1, bit (s.zoneHolds z)), (53, 1, bit x.temp.isNone), (32, 10, x.demand),
      (0, 32, match x.temp with | some t => twos 32 t.floor | none => 0)],
    pack [(48, 16, x.fans), (40, 8, x.slots), (36, 4, x.pumps), (16, 16, x.hottest),
      (0, 16, ((s.zonePoints z).filter fun p => s.isSuspect s.govBay p).length)] ]

/-- A slot record (R406). -/
def State.coolSlotRecord (s : State) (i : Nat) : Word64 :=
  let t := s.thermal i
  pack [(54, 10, t.h), (53, 1, bit (t.hold ≠ 0)), (0, 32, (s.govParam i).cap * t.h / 1000)]

/-- An input record (R406). -/
def State.inputRecord (s : State) (ch : Nat) : Word64 :=
  let rec_ (st lv v : Nat) : Word64 := pack [(56, 8, ch), (53, 3, st), (52, 1, lv), (0, 32, v)]
  if isValve ch then
    let v := s.valve (ch - 0x20)
    rec_ (if v.released then 4 else bit v.isOpen) (bit v.isOpen) (bit v.isOpen)
  else if 0x22 ≤ ch && ch < 0x2A then
    match (s.diode (ch - 0x22)).temp with
    | some t => rec_ 0 0 (twos 32 t)
    | none => rec_ 5 0 0
  else
    let x := s.input ch
    let st := if isGpio ch && s.cool.released.testBit (ch - 0x34) then 4 else if x.chattering then 3 else if x.masked then 2
      else if isFlow ch then (if x.flow.isNone then 5 else 0) else bit x.active
    rec_ st (bit (x.level || tget s.cool.gpio (ch - 0x34) false && isGpio ch)) (x.flow.getD 0)

/-- The 4,096 bytes that COOL_STATUS writes (R406). -/
def State.coolStatusBytes (s : State) : List Byte :=
  let words := (List.range 20).flatMap s.driveRecord ++ (List.range 16).flatMap s.zoneRecord ++
    (List.range 8).map s.coolSlotRecord ++ (List.range 22).map (fun n => s.inputRecord (0x14 + n)) ++
    (List.range 32).map (fun n => s.inputRecord (0x34 + n)) ++ (List.range 24).map fun n => s.inputRecord (0x94 + n)
  let sus := ((s.cool.points.filter fun p => s.isSuspect s.govBay p.1).map fun p => p.1).take 1023
  let first := wordsBytes words ++ List.replicate (2048 - 8 * words.length) 0
  let last := (sus ++ [0xFFFF]).flatMap fun p => leBytes 2 p
  first ++ last ++ List.replicate (2048 - last.length) 0

/-- A cooling record of one zone (R407). -/
def State.coolingRecord (s : State) (z : Nat) : List Word64 :=
  [pack [(56, 8, 0x37)]] ++ s.zoneRecord z ++ [0, 0, 0, 0, BitVec.ofNat 64 s.devNow]

/-- OVER and TRIP of a zone now. -/
def State.zoneFlags (s : State) (z : Nat) : Nat := bit (s.zone z).isOver + 2 * bit (s.zoneHolds z)

/-- Every 100 ms a record of each used zone, and a zone's record at a change of its OVER or TRIP (R407). -/
def execCoolingRecord (s : State) : Host.Outcome State Fault Refusal :=
  .next (if s.serving.isNone then s
  else
    let all := match s.cool.recordTime with | some t => s.passed t 100000000 | none => true
    let s := if all then s.modCool fun c => { c with recordTime := some s.now } else s
    forUpTo 16 (fun s z =>
      if (s.zone z).used && (all || (s.zone z).posted ≠ s.zoneFlags z) then
        (s.telemetry 4 (s.coolingRecord z)).modZone z fun x => { x with posted := s.zoneFlags z }
      else s) s)

/-! ### Commands (R287) -/

/-- COOL_SET_ZONE's checks (R287, R408). -/
def specCoolSetZone (_h : CmdHdr) (zone pumps : Nat) (target trip : Int) (_s : State) : CmdSpec :=
  { opcode := 0x0300, plen := 16
    params := [inRange (zone < 16) 0, inRange (pumps < 16) 1, inRange (2560 ≤ target && target ≤ 14080) 8,
      inRange (target < trip && trip ≤ 16000) 12] }

/-- A zone's fans, pumps, slots, TARGET and TRIP; a zone with no mask left is unused and has no reading (R390). -/
def effCoolSetZone (j zone pumps fans slots : Nat) (target trip : Int) (s : State) : State :=
  let s := s.modZone zone fun z => { z with pumps := pumps, fans := fans, slots := slots, target := target, trip := trip }
  (if (s.zone zone).used then s
   else s.modZone zone fun z => { z with temp := none, hottest := 0xFFFF, demand := 0, isOver := false, atTrip := false, okSince := none, blankSince := none }).ok j

/-- COOL_SET_ZONE (R390). -/
def execCoolSetZone (h : CmdHdr) (zone pumps fans slots : Nat) (target trip : Int) (s : State) : Host.Outcome State Fault Refusal :=
  .next (s.submit (.coolSetZone h zone pumps fans slots target trip) h (specCoolSetZone h zone pumps target trip s))

/-- The neighbour point numbers of the buffer (R287). -/
def neighbourPoints (bs : List Byte) (blen : Nat) : List Nat := (List.range (blen / 2)).map fun i => ofLeBytes ((bs.drop (2 * i)).take 2)

/-- COOL_SET_SENSOR's checks (R287, R387, R408). -/
def specCoolSetSensor (h : CmdHdr) (point zone n : Nat) (thresh : Int) (buf blen : Nat) (_s : State) : CmdSpec :=
  { opcode := 0x0301, plen := 32
    params := [inRange (zone < 16) 2, inRange (1 ≤ n && n ≤ 255) 3, inRange (64 ≤ thresh && thresh ≤ 6400) 4, bufAligned buf,
      check (2 ≤ blen && blen ≤ 32 && blen % 2 = 0) 0x0102, exists' (pointExists point) 0]
    late := [bufRead h, exists' ((neighbourPoints (h.buf.getD []) blen).all pointExists) 8] }

/-- A point's neighbours, threshold, count and zone (R389). -/
def effCoolSetSensor (j : Nat) (h : CmdHdr) (point zone n : Nat) (thresh : Int) (blen : Nat) (s : State) : State :=
  (s.modPoint point fun p => { p with neighbours := neighbourPoints (h.buf.getD []) blen, thresh := thresh, n := n, zone := zone }).ok j

/-- COOL_SET_SENSOR (R389). -/
def execCoolSetSensor (h : CmdHdr) (point zone n : Nat) (thresh : Int) (buf blen : Nat) (s : State) : Host.Outcome State Fault Refusal :=
  .next (s.submit (.coolSetSensor h point zone n thresh buf blen) h (specCoolSetSensor h point zone n thresh buf blen s))

/-- COOL_SET_DRIVE's checks (R287). -/
def specCoolSetDrive (_h : CmdHdr) (channel mode drive : Nat) (_s : State) : CmdSpec :=
  { opcode := 0x0302, plen := 8, params := [inRange (mode ≤ 1) 2, inRange (drive ≤ 1000) 4, exists' (isDrive channel) 0] }

/-- MODE and DRIVE of a channel; a released output is driven again (R392, R398, R404). -/
def effCoolSetDrive (j channel mode drive : Nat) (s : State) : State :=
  ((s.modDrive channel fun d => { d with
    mode1 := mode = 1, fixed := drive, dstate := if d.dstate = .disabled then .running else d.dstate
    lastEdge := if d.dstate = .disabled then s.now else d.lastEdge }).writeDrive channel).ok j

/-- COOL_SET_DRIVE (R392). -/
def execCoolSetDrive (h : CmdHdr) (channel mode drive : Nat) (s : State) : Host.Outcome State Fault Refusal :=
  .next (s.submit (.coolSetDrive h channel mode drive) h (specCoolSetDrive h channel mode drive s))

/-- COOL_SET_VALVE's checks: no opening while a leak holds the valves closed (R287, R402). -/
def specCoolSetValve (_h : CmdHdr) (channel on : Nat) (s : State) : CmdSpec :=
  { opcode := 0x0303, plen := 3, params := [switchOk on 2, exists' (isValve channel) 0]
    states := [rightState (!(on = 1 && s.leaking)) (if (s.valve (channel - 0x20)).released then 4 else bit (s.valve (channel - 0x20)).isOpen)] }

/-- The valve opens or closes; a leak wins; a released output is driven again (R402, R404). -/
def effCoolSetValve (j channel on : Nat) (s : State) : State :=
  if (on = 1 && s.leaking) || s.own.latch.hold then s.complete j 0x0504 []
  else
    let t := s.modValve (channel - 0x20) fun v => { v with isOpen := on = 1, released := false }
    (if t.valve (channel - 0x20) = s.valve (channel - 0x20) then t else t.signalChannel channel).ok j

/-- COOL_SET_VALVE (R402). -/
def execCoolSetValve (h : CmdHdr) (channel on : Nat) (s : State) : Host.Outcome State Fault Refusal :=
  .next (s.submit (.coolSetValve h channel on) h (specCoolSetValve h channel on s))

/-- COOL_SET_INPUT's checks: the limits of each kind of input (R287, R408); STUCK has no effect on a flow input (R400). -/
def specCoolSetInput (_h : CmdHdr) (channel filter stuck chatter : Nat) (_s : State) : CmdSpec :=
  { opcode := 0x0304, plen := 16
    params :=
      [ inRange (if isLeak channel then 100 ≤ filter && filter ≤ 1000000 else if isFlow channel then 10000 ≤ filter && filter ≤ 1000000
          else !isInput channel || (1 ≤ filter && filter ≤ 100000)) 4,
        inRange (if isLeak channel then 1000000 ≤ stuck && stuck ≤ 86400000000 else if isFlow channel then true
          else !isInput channel || (10000 ≤ stuck && stuck ≤ 86400000000)) 8,
        inRange (if isLeak channel then 1 ≤ chatter && chatter ≤ 1000 else if isFlow channel then 10 ≤ chatter && chatter ≤ 10000
          else !isInput channel || (1 ≤ chatter && chatter ≤ 100000)) 12,
        exists' (isInput channel) 0 ] }

/-- FILTER, STUCK and CHATTER of an input (R403). -/
def effCoolSetInput (j channel filter stuck chatter : Nat) (s : State) : State :=
  (s.modInput channel fun x => { x with filter := filter, stuck := stuck, chatter := chatter }).ok j

/-- COOL_SET_INPUT (R403). -/
def execCoolSetInput (h : CmdHdr) (channel filter stuck chatter : Nat) (s : State) : Host.Outcome State Fault Refusal :=
  .next (s.submit (.coolSetInput h channel filter stuck chatter) h (specCoolSetInput h channel filter stuck chatter s))

/-- COOL_STATUS's checks. -/
def specCoolStatus (_h : CmdHdr) (buf : Nat) (_s : State) : CmdSpec := { opcode := 0x0305, plen := 16, params := [bufAligned buf] }

/-- The cooling records go to the buffer (R406). -/
def effCoolStatus (j buf : Nat) (s : State) : State :=
  (s.bufferOut j buf s.coolStatusBytes).ok j

/-- COOL_STATUS (R406). -/
def execCoolStatus (h : CmdHdr) (buf : Nat) (s : State) : Host.Outcome State Fault Refusal :=
  .next (s.submit (.coolStatus h buf) h (specCoolStatus h buf s))

end Sys2Proof.Machine
end

