-- ==== Sys2Proof/Machine/Fabric.lean ====
section
/-!
DEFINITION. The Azhadin fabric (R297 to R319): ports, the acceptance of frames, root choice, membership, roles, fabric time, messages and
reports.
-/
namespace Sys2Proof.Machine
open Sys2Proof

/-! ### This node, its ports and its table -/

/-- Node identifier: PRIORITY in force and the serial number (R303). -/
def State.nodeId (s : State) : Word64 := BitVec.ofNat 64 (s.fab.fab.prioInForce * 2 ^ 48 + s.fab.fab.serial)

/-- Compare identifiers as numbers (R304, R311). -/
def idAbove (a b : Word64) : Bool := decide (b.toNat < a.toNat)

/-- PORT_MASK in force enables a port (R332). -/
def State.portEnabled (s : State) (p : Nat) : Bool := s.fab.fab.maskInForce.testBit p

/-- A port is UP (R299). -/
def State.portUp (s : State) (p : Nat) : Bool := (s.port p).pstate = .up

/-- This node is a member (R306). -/
def State.isMember (s : State) : Bool := s.fab.fab.state = .member

/-- This node is the root (R305). -/
def State.isRoot (s : State) : Bool := s.isMember && s.fab.fab.roles.testBit 3

/-- A member-table entry (R307). -/
def State.memberEntry (s : State) (id : Word64) : Option Member := s.fab.fab.members.find? fun m => m.node = id

/-- A port whose neighbour has taken this node as its parent (R305). -/
def State.isDown (s : State) (p : Nat) : Bool := s.portUp p && (s.port p).nbParent = s.nodeId && (s.port p).neighbour ≠ 0

/-- USE of a port: 0 none, 1 up, 2 down, 3 side (R305, R331). -/
def State.portUse (s : State) (p : Nat) : Nat :=
  if !s.portUp p || !(s.fab.fab.state = .member || s.fab.fab.state = .reattaching) then 0
  else if s.fab.fab.upPort = some p then 1 else if s.isDown p then 2 else 3

/-- Down ports (R305). -/
def State.downPorts (s : State) : List Nat := (List.range 4).filter s.isDown

/-- The children the member table lists for this node (R324). -/
def State.children (s : State) : List Member := s.fab.fab.members.filter fun m => m.parent = s.nodeId && m.node ≠ s.nodeId

/-- The child of this node on a member's chain of parents, if the member lies below this node. -/
def State.childToward (s : State) (fuel : Nat) (id : Word64) : Option Word64 :=
  match fuel with
  | 0 => none
  | n + 1 => match s.memberEntry id with
    | none => none
    | some m => if id = s.nodeId then none else if m.parent = s.nodeId then some id else if m.parent = 0 then none else s.childToward n m.parent

/-- Depth of a member in the table. -/
def State.depthOf (s : State) (fuel : Nat) (id : Word64) : Nat :=
  match fuel with
  | 0 => 0
  | n + 1 => match s.memberEntry id with
    | none => 0
    | some m => if m.parent = 0 then 0 else s.depthOf n m.parent + 1

/-- The UP port whose neighbour is a node. -/
def State.portOf (s : State) (id : Word64) : Option Nat := (List.range 4).find? fun p => s.portUp p && (s.port p).neighbour = id && id ≠ 0

/-- The port on which a frame for a node leaves: the neighbour itself, the child on its chain of parents, or the up port. -/
def State.portToward (s : State) (id : Word64) : Option Nat :=
  match s.portOf id with
  | some p => some p
  | none => match s.childToward 11 id with
    | some c => s.portOf c
    | none => s.fab.fab.upPort

/-! ### Sending and accepting frames (R300, R301) -/

/-- Originate a frame on a port (R300). -/
def State.originate (s : State) (port drole : Nat) (dst : Word64) (repoch : Word32) (body : FabBody) : State :=
  if (s.port port).pstate = .down || !s.fab.fab.alive then s else
  let f := s.fab.fab.fseq + 1
  let hdr : FabHdr := { drole := drole, mepoch := s.fab.fab.mepoch, src := s.nodeId, dst := dst, ownerEpoch := s.own.latch.epoch, repoch := repoch, fseq := f }
  ((s.modFabric fun x => { x with fseq := f }).modPort port fun p => { p with txFrames := p.txFrames + 1 }).emit (.fabric port { hdr := hdr, body := body })

/-- Relay a frame on a port, one hop further (R300). -/
def State.relay (s : State) (port : Nat) (hdr : FabHdr) (body : FabBody) : State :=
  if (s.port port).pstate = .down || !s.fab.fab.alive then s else
  (s.modPort port fun p => { p with txFrames := p.txFrames + 1 }).emit (.fabric port { hdr := { hdr with hops := hdr.hops + 1 }, body := body })

/-- Relay a routed frame toward its destination. -/
def State.route (s : State) (hdr : FabHdr) (body : FabBody) : State :=
  match s.portToward hdr.dst with
  | some p => s.relay p hdr body
  | none => s

/-- Discard a frame (R301). -/
def State.discard (s : State) : State := s.modFabric fun f => { f with dropped := satAdd 32 f.dropped 1 }

/-- Change the member table's entry of a node. -/
def State.modMember (s : State) (id : Word64) (f : Member → Member) : State :=
  s.modFabric fun x => { x with members := x.members.map fun m => if m.node = id then f m else m }

/-- Answer a source that is not in the table with a rejoin NAK, at most once per millisecond (R301). -/
def State.rejoinNak (s : State) (port : Nat) (src : Word64) : State :=
  match tfind (s.port port).nakTime src.toNat with
  | some t => if s.passed t 1000000 then send else s
  | none => send
where
  send : State :=
    (s.modPort port fun p => { p with nakTime := tset p.nakTime src.toNat s.now }).originate port 0 src 0
      (.nak 2 (BitVec.ofNat 4 s.fab.fab.roles) s.fab.fab.roleEpoch)

/-- Accept a frame on a port, or discard it (R301). `needs`: its source must be a member; `epochs`: its owner epoch is checked;
`answer`: it is an ADMIT or a NAK. -/
def State.accept (s : State) (port : Nat) (hdr : FabHdr) (needs epochs answer : Bool) : State × Bool :=
  if !s.fab.fab.alive || (s.port port).pstate = .down then (s, false)
  else if !hdr.crcOk then ((s.modPort port fun p => { p with crcErr := satAdd 32 p.crcErr 1, good := 0 }).discard, false)
  else if hdr.ver ≠ 1 || hdr.src = 0 then ((s.modPort port fun p => { p with good := 0 }).discard, false)
  else
    let m := s.fab.fab.members.find? fun m => m.node = hdr.src && m.mepoch = hdr.mepoch
    if needs && m.isNone then (s.discard.rejoinNak port hdr.src, false)
    else if answer && !s.isMember && (hdr.dst ≠ s.nodeId || s.fab.fab.joinPort ≠ some port) then (s.discard, false)
    else if needs && epochs && (match m with | some m => decide (hdr.ownerEpoch.toNat < m.ownerEpoch.toNat) | none => false) then (s.discard, false)
    else
      let s := s.modPort port fun p => { p with lastValid := s.now, lost := false, rxFrames := p.rxFrames + 1 }
      (if needs && epochs then s.modMember hdr.src fun m => { m with ownerEpoch := if m.ownerEpoch.toNat < hdr.ownerEpoch.toNat then hdr.ownerEpoch else m.ownerEpoch }
       else s, true)

/-- A role-addressed frame reaches its destination: the role set lacks DROLE or the role epoch differs (R315). -/
def State.roleRefused (s : State) (hdr : FabHdr) : Bool :=
  hdr.drole ≠ 0 && !(hdr.drole ≤ 4 && s.fab.fab.roles.testBit (4 - hdr.drole) && hdr.repoch = s.fab.fab.roleEpoch)

/-- Answer a refused frame with a NAK (R300, R315). -/
def State.sendNak (s : State) (port : Nat) (dst : Word64) (reason : Nat) : State :=
  s.originate port 0 dst 0 (.nak reason (BitVec.ofNat 4 s.fab.fab.roles) s.fab.fab.roleEpoch)

/-! ### Roles (R313, R314) -/

/-- This node takes the roles and role epoch of its entry; a change raises the event (R313). -/
def State.takeRoles (s : State) (m : Member) : State :=
  let s' := s.modFabric fun f => { f with roles := m.roles.toNat, roleEpoch := m.roleEpoch }
  if m.roles.toNat = s.fab.fab.roles then s' else s'.raise 0x0802 [(1, m.roles.toNat), (4, m.roleEpoch.toNat)]

/-- The member that holds the proxy role: the highest PROXY_PRIO above 0, the higher identifier breaking a tie (R314). -/
def proxyOf (ms : List Member) : Word64 :=
  (ms.foldl (fun (a : Nat × Word64) m =>
    if m.proxyPrio = 0 then a
    else if a.1 < m.proxyPrio || (a.1 = m.proxyPrio && idAbove m.node a.2) then (m.proxyPrio, m.node) else a) (0, 0)).2

/-- The role set of a member (R313, R314). -/
def rolesOf (ms : List Member) (root : Word64) (m : Member) : BitVec 4 :=
  (if m.node = root then 8 else if ms.any fun c => c.parent = m.node then 4 else 2) ||| (if proxyOf ms = m.node && m.node ≠ 0 then 1 else 0)

/-- Send member-table changes on every down port, 16 to a frame (R300, R307). -/
def State.floodChanges (s : State) (fuel : Nat) (cs : List MemberChange) : State :=
  match fuel with
  | 0 => s
  | n + 1 => if cs.isEmpty then s else
    (s.downPorts.foldl (fun s p => s.originate p 0 0 0 (.member (cs.take 16))) s).floodChanges n (cs.drop 16)

/-- Keep the reports of children that the table still lists (R112, R113). -/
def State.pruneChildren (s : State) : State :=
  s.modGrid fun g => { g with children := g.children.filter fun c => s.children.any fun m => m.node = (s.port c.1).neighbour }

/-- The root sets the member table: roles follow it, and every change goes to the whole fabric (R307, R313, R314). -/
def State.setTable (s : State) (ms : List Member) : State :=
  let roled := ms.map fun m =>
    let r := rolesOf ms s.nodeId m
    if r = m.roles then m else { m with roles := r, roleEpoch := m.roleEpoch + 1 }
  let gone := s.fab.fab.members.filter fun m => !roled.any fun x => x.node = m.node
  let changed := roled.filter fun m => !s.fab.fab.members.contains m
  let s := (s.modFabric fun f => { f with members := roled }).pruneChildren
  let s := match roled.find? fun m => m.node = s.nodeId with | some m => s.takeRoles m | none => s
  s.floodChanges (roled.length + gone.length + 1) (gone.map (fun m => .remove m.node) ++ changed.map .put)

/-- The root removes a member; the members below it stay (R308). -/
def State.removeMember (s : State) (id : Word64) : State := s.setTable (s.fab.fab.members.filter fun m => m.node ≠ id)

/-! ### Joining, claiming and losing the path (R304 to R312) -/

/-- The UP port whose BEACON names a root with the smallest depth, the higher neighbour breaking a tie (R305). -/
def State.bestPort (s : State) (ok : Nat → Bool) : Option Nat :=
  (List.range 4).foldl (fun a p =>
    if !ok p then a else match a with
    | none => some p
    | some q =>
      if (s.port p).nbDepth < (s.port q).nbDepth || ((s.port p).nbDepth = (s.port q).nbDepth && idAbove (s.port p).neighbour (s.port q).neighbour)
      then some p else a) none

/-- A port's BEACON names a root whose RTICK has advanced within ROOT_TIMEOUT, above the deepest level (R305, R309). -/
def State.offersRoot (s : State) (p : Nat) (root : Word64) : Bool :=
  let x := s.port p
  s.portUp p && !x.lost && x.nbRoot = root && root ≠ 0 && s.now < x.nbTickTime + s.fab.param.rootTimeout * 1000 && x.nbDepth < 10 && x.nbParent ≠ s.nodeId

/-- Take a port as the up port and send a JOIN to its root (R305). -/
def State.joinVia (s : State) (p : Nat) (st : FState) : State :=
  let x := s.port p
  (s.modFabric fun f => { f with
    state := st, rootId := x.nbRoot, upPort := some p, depth := x.nbDepth + 1, joinPort := some p, backoffEnd := none, claimStart := none }).originate
    p 0 x.nbRoot 0 (.join s.fab.fab.maxMepoch x.neighbour)

/-- Drop the membership: MEPOCH, roles and the member table (R306, R311, R327). -/
def State.dropMembership (s : State) : State :=
  (s.modFabric fun f => { f with mepoch := 0, roles := 0, members := [], becameRoot := none, reattached := [], upPort := none, depth := 0 }).modGrid
    fun g => { g with pathLost := g.pathLost || s.fab.fab.mepoch != 0, children := [] }

/-- A time from now on drawn from 0 to 255 us by a generator seeded with the node identifier (R304). -/
def State.drawBackoff (s : State) (after : Nat) : State :=
  (s.modFabric fun f => { f with backoffEnd := some (s.now + after + Config.nodeDraw s.nodeId.toNat s.sys.freshCount % 256 * 1000) }).modSys
    fun p => { p with freshCount := p.freshCount + 1 }

/-- Listen for one BEACON_PERIOD, then for the backoff (R304). -/
def State.listen (s : State) : State :=
  (s.modFabric fun f => { f with state := .isolated, claimStart := none, joinPort := none }).drawBackoff
    (s.fab.param.beaconPeriod * 1000)

/-- Re-attach through the best side port, if there is one (R309). -/
def State.seekSide (s : State) : State :=
  let ok (p : Nat) : Bool := s.offersRoot p s.fab.fab.rootId && s.fab.fab.maskInForce.testBit (4 + p) && !(s.port p).nbAncestors.contains s.nodeId
  match s.bestPort ok with
  | some p => s.joinVia p .reattaching
  | none => s

/-- A member has lost its up path: it re-attaches through a side port (R306, R309); the path counts as lost from now on (R114). -/
def State.lostUp (s : State) : State :=
  ((s.modFabric fun f => { f with state := .reattaching, upPort := none, joinPort := none, reattachStart := s.now }).modGrid
    fun g => { g with pathLost := true }).seekSide

/-- A node floods its CLAIM (R304). -/
def State.floodClaim (s : State) : State :=
  let s := s.modFabric fun f => { f with
    state := .claiming, backoffEnd := none, claimStart := some s.now, elections := satAdd 32 f.elections 1
    claimSeen := if idAbove s.nodeId f.claimSeen then s.nodeId else f.claimSeen }
  ((List.range 4).filter s.portUp).foldl (fun s p => s.originate p 0 0 0 .claim) s

/-- The claimant becomes root: it admits itself above the highest MEPOCH seen and keeps the member table it holds (R304, R310). -/
def State.becomeRoot (s : State) : State :=
  let me := s.nodeId
  let ep := s.fab.fab.maxMepoch + 1
  let others := s.fab.fab.members.filter fun m => m.node ≠ me
  let s := (s.modFabric fun f => { f with
    state := .member, mepoch := ep, maxMepoch := ep, rootId := me, depth := 0, upPort := none, joinPort := none, claimStart := none, claimSeen := 0
    rtick := 0, reattached := [], becameRoot := if others.isEmpty then none else some s.now }).modGrid fun g => { g with pathLost := false }
  (s.setTable ({ node := me, mepoch := ep, roleEpoch := s.fab.fab.roleEpoch, ownerEpoch := s.own.latch.epoch, proxyPrio := s.fab.param.proxyPrio } :: others)).raise
    0x0801 [(8, me.toNat), (4, ep.toNat)]

/-! ### Ports (R299) -/

/-- Light and block lock on both lanes: the port trains (R299). -/
def execPortLightLock (port : Nat) (s : State) : Host.Outcome State Fault Refusal :=
  .next (if port < 4 && s.fab.fab.alive && s.portEnabled port && (s.port port).pstate = .down then
    s.modPort port fun p => { p with pstate := .train, good := 0, trainStart := s.now }
  else s)

/-- 1 ms in TRAIN without four valid BEACON frames in a row: a failed attempt (R299). -/
def execPortTrainTimeout (port : Nat) (s : State) : Host.Outcome State Fault Refusal :=
  .next (if s.fab.fab.alive && (s.port port).pstate = .train && s.passed (s.port port).trainStart 1000000 then
    s.modPort port fun p => { p with good := 0, trainStart := s.now, attempts := satAdd 16 p.attempts 1 }
  else s)

/-- Loss of light on either lane: the port is DOWN; with every port DOWN the node is ISOLATED and keeps its member table (R299, R306). -/
def execPortLossOfLight (port : Nat) (s : State) : Host.Outcome State Fault Refusal :=
  .next (if s.fab.fab.alive && (s.port port).pstate ≠ .down then
    let s := s.modPort port fun p => { p with pstate := .down, good := 0 }
    if (List.range 4).all fun p => (s.port p).pstate = .down then
      (s.modFabric fun f => { f with state := .isolated, upPort := none, joinPort := none, claimStart := none, backoffEnd := none }).modGrid
        fun g => { g with pathLost := g.pathLost || s.fab.fab.mepoch != 0 }
    else s
  else s)

/-- No valid frame for DEAD_TIMEOUT: the neighbour is lost. A lost child is reported to the root, a lost parent is the up path lost (R299,
R308, R309). -/
def execDeadTimeoutExpiry (port : Nat) (s : State) : Host.Outcome State Fault Refusal :=
  .next (let x := s.port port
  if !s.fab.fab.alive || x.lost || !s.passed x.lastValid (s.fab.param.deadTimeout * 1000) then s
  else
    let child := s.isMember && s.children.any fun m => m.node = x.neighbour
    let s := s.modPort port fun p => { p with lost := true, neighbour := 0, nbRoot := 0, nbParent := 0, nbAncestors := [], nbMepoch := 0, nbRoleEpoch := 0 }
    if child then
      if s.isRoot then s.removeMember x.neighbour
      else match s.fab.fab.upPort with
        | some up => s.originate up 1 s.fab.fab.rootId s.fab.fab.rootRoleEpoch (.gup (.removal x.neighbour))
        | none => s
    else if s.isMember && s.fab.fab.upPort = some port then s.lostUp
    else s)

/-! ### BEACON, CLAIM, JOIN, ADMIT and MEMBER (R300, R304 to R313) -/

/-- The BEACON this node sends (R300): it names a root only as a member of its fabric. -/
def State.beaconBody (s : State) : BeaconBody :=
  let f := s.fab.fab
  let inside := f.state = .member || f.state = .reattaching
  let up := match f.upPort with | some p => some (s.port p) | none => none
  { root := if inside then f.rootId else 0, rootRoleEpoch := if s.isRoot then f.roleEpoch else f.rootRoleEpoch, rtick := f.rtick
    depth := f.depth, parent := if inside then (match up with | some p => p.neighbour | none => 0) else 0
    roles := BitVec.ofNat 4 f.roles, roleEpoch := f.roleEpoch, maxMepoch := f.maxMepoch
    ancestors := if inside then (match up with | some p => (p.nbAncestors ++ [p.neighbour]).take 10 | none => []) else [] }

/-- Every BEACON_PERIOD a BEACON goes out on every port not DOWN; the root's RTICK advances (R300, R309). -/
def execBeaconSend (s : State) : Host.Outcome State Fault Refusal :=
  .next (if !s.fab.fab.alive || (match s.fab.fab.beaconTime with | some t => !s.passed t (s.fab.param.beaconPeriod * 1000) | none => false) then s
  else
    let s := s.modFabric fun f => { f with beaconTime := some s.now, rtick := if s.isRoot then f.rtick + 1 else f.rtick }
    ((List.range 4).filter fun p => (s.port p).pstate ≠ .down).foldl (fun s p => s.originate p 0 0 0 (.beacon s.beaconBody)) s)

/-- What a BEACON tells of the neighbour (R300, R331). -/
def State.noteBeacon (s : State) (port : Nat) (hdr : FabHdr) (b : BeaconBody) : State :=
  let tick := (s.port port).nbRoot ≠ b.root || (s.port port).nbTick ≠ b.rtick || (s.port port).neighbour ≠ hdr.src
  (s.modPort port fun p => { p with
    neighbour := hdr.src, nbMepoch := hdr.mepoch, nbRoleEpoch := b.roleEpoch, nbRoot := b.root, nbDepth := b.depth, nbParent := b.parent
    nbTick := b.rtick, nbTickTime := if tick then s.now else p.nbTickTime, nbAncestors := b.ancestors }).modFabric fun f =>
      { f with maxMepoch := if f.maxMepoch.toNat < b.maxMepoch.toNat then b.maxMepoch else f.maxMepoch }

/-- A valid BEACON in TRAIN: the fourth in a row brings the port UP, and a node without a root listens (R299, R304). -/
def State.trainPort (s : State) (port : Nat) : State :=
  if (s.port port).pstate = .train then
    if 3 ≤ (s.port port).good then
      let s := s.modPort port fun p => { p with pstate := .up, good := 0 }
      if s.fab.fab.state = .isolated && s.fab.fab.backoffEnd.isNone then s.listen else s
    else s.modPort port fun p => { p with good := p.good + 1 }
  else s

/-- A member follows the BEACON of its up port; one too deep has lost its path (R305, R309). -/
def State.followBeacon (s : State) (port : Nat) (b : BeaconBody) : State :=
  if s.fab.fab.upPort ≠ some port || b.root ≠ s.fab.fab.rootId then s
  else
    let s := s.modFabric fun f => { f with depth := b.depth + 1, rtick := b.rtick, rootRoleEpoch := b.rootRoleEpoch }
    if 10 < b.depth + 1 then s.lostUp else s

/-- A BEACON: it trains the port, sets root, depth and parent, lets a node join, and a higher root absorbs the fabric (R304, R305, R311). -/
def execBeacon (port : Nat) (hdr : FabHdr) (body : BeaconBody) (s : State) : Host.Outcome State Fault Refusal :=
  .next (let a := s.accept port hdr false false false
  if !a.2 then a.1
  else
    let s := ((a.1.noteBeacon port hdr body).trainPort port)
    if !s.portUp port || body.root = 0 then s
    else match s.fab.fab.state with
      | .isolated | .claiming =>
        (match s.bestPort fun p => s.offersRoot p body.root with
         | some p => (s.joinVia p .joining).modFabric fun f => { f with rootRoleEpoch := body.rootRoleEpoch }
         | none => s)
      | .joining =>
        if idAbove body.root s.fab.fab.rootId && s.offersRoot port body.root then s.dropMembership.joinVia port .joining else s.followBeacon port body
      | .member =>
        if idAbove body.root s.fab.fab.rootId && s.offersRoot port body.root then s.dropMembership.joinVia port .joining else s.followBeacon port body
      | .reattaching =>
        if idAbove body.root s.fab.fab.rootId && s.offersRoot port body.root then s.dropMembership.joinVia port .joining
        else if s.fab.fab.joinPort.isNone then s.seekSide else s.followBeacon port body)

/-- A CLAIM: forwarded on every other UP port if it is higher than every claim seen, else dropped; a claimant that sees a higher one
defers (R304). -/
def execClaim (port : Nat) (hdr : FabHdr) (s : State) : Host.Outcome State Fault Refusal :=
  .next (let a := s.accept port hdr false false false
  if !a.2 || !idAbove hdr.src a.1.fab.fab.claimSeen then a.1
  else
    let s := a.1.modFabric fun f => { f with claimSeen := hdr.src, claimStart := none }
    ((List.range 4).filter fun p => s.portUp p && p ≠ port).foldl (fun s p => s.relay p hdr .claim) s)

/-- The backoff ends with no root named: the node claims (R304). -/
def execClaimBackoffExpiry (s : State) : Host.Outcome State Fault Refusal :=
  .next (match s.fab.fab.backoffEnd with
  | some t =>
    if s.fab.fab.alive && t ≤ s.now && (s.fab.fab.state = .isolated || s.fab.fab.state = .claiming) && (List.range 4).any s.portUp then s.floodClaim else s
  | none => s)

/-- No higher claim for CLAIM_SETTLE: the claimant becomes root (R304, R306). -/
def execClaimSettleExpiry (s : State) : Host.Outcome State Fault Refusal :=
  .next (match s.fab.fab.claimStart with
  | some t =>
    if s.fab.fab.alive && s.fab.fab.state = .claiming && s.passed t (s.fab.param.claimSettle * 1000) && s.fab.fab.claimSeen = s.nodeId then s.becomeRoot else s
  | none => s)

/-- RTICK has not advanced for ROOT_TIMEOUT: the up path is lost; a member that has not re-attached in ROOT_TIMEOUT claims (R309, R310). -/
def execRootTimeoutExpiry (s : State) : Host.Outcome State Fault Refusal :=
  .next (let rt := s.fab.param.rootTimeout * 1000
  if !s.fab.fab.alive then s
  else match s.fab.fab.state, s.fab.fab.upPort with
    | .member, some p => if (s.port p).nbRoot ≠ s.fab.fab.rootId || s.passed (s.port p).nbTickTime rt then s.lostUp else s
    | .reattaching, _ =>
      if s.passed s.fab.fab.reattachStart rt then
        (s.modFabric fun f => { f with state := .claiming, upPort := none, joinPort := none, claimSeen := 0 }).drawBackoff 0
      else s
    | _, _ => s)

/-- Two ROOT_TIMEOUT after it became root by a claim, the root removes every member that has not re-attached; its role epoch has risen (R310). -/
def execStaleMemberRemoval (s : State) : Host.Outcome State Fault Refusal :=
  .next (match s.fab.fab.becameRoot with
  | some t =>
    if s.isRoot && s.fab.fab.alive && s.passed t (2 * s.fab.param.rootTimeout * 1000) then
      let s := s.modFabric fun f => { f with becameRoot := none }
      (s.setTable (s.fab.fab.members.filter fun m => m.node = s.nodeId || s.fab.fab.reattached.contains m.node)).modFabric fun f => { f with reattached := [] }
    else s
  | none => s)

/-- A JOIN: relayed up, or answered by the root: a re-attachment keeps its MEPOCH, an unknown MEPOCH must rejoin, and a joiner gets a new
MEPOCH above every one seen, unless the fabric is full (R305, R306, R309). -/
def execJoin (port : Nat) (hdr : FabHdr) (maxMepoch : BitVec 32) (parent : BitVec 64) (s : State) : Host.Outcome State Fault Refusal :=
  .next (let a := s.accept port hdr false false false
  let s := a.1
  if !a.2 || !s.isMember then s
  else if !s.isRoot then (match s.fab.fab.upPort with | some up => s.relay up hdr (.join maxMepoch parent) | none => s)
  else
    let f := s.fab.fab
    let top := if f.maxMepoch.toNat < maxMepoch.toNat then maxMepoch else f.maxMepoch
    let held := f.members.find? fun m => m.node = hdr.src
    if hdr.mepoch ≠ 0 then
      match held with
      | some m =>
        if m.mepoch = hdr.mepoch then
          let ms := f.members.map fun m => if m.node = hdr.src then { m with parent := parent } else m
          let s := (s.modFabric fun f => { f with maxMepoch := top, reattached := hdr.src :: f.reattached }).setTable ms
          s.originate port 0 hdr.src 0 (.admitted hdr.mepoch s.fab.fab.members)
        else s.sendNak port hdr.src 2
      | none => s.sendNak port hdr.src 2
    else if 59049 ≤ f.members.length && held.isNone then s.sendNak port hdr.src 4
    else
      let ep := top + 1
      let m : Member := { node := hdr.src, mepoch := ep, parent := parent, ownerEpoch := hdr.ownerEpoch, proxyPrio := Config.proxyPrio hdr.src }
      let s := (s.modFabric fun f => { f with maxMepoch := ep, reattached := hdr.src :: f.reattached }).setTable
        (f.members.filter (fun m => m.node ≠ hdr.src) ++ [m])
      s.originate port 0 hdr.src 0 (.admitted ep s.fab.fab.members))

/-- An ADMIT: relayed down, or the node's own: it becomes a member with the MEPOCH assigned and the whole table; the first admission steps
device time if no bay serves yet (R306, R307, R313, R318). -/
def execAdmitFrame (port : Nat) (hdr : FabHdr) (mepoch : BitVec 32) (table : List Member) (s : State) : Host.Outcome State Fault Refusal :=
  .next (let a := s.accept port hdr false false true
  let s := a.1
  if !a.2 then s
  else if s.isMember then (if hdr.dst = s.nodeId then s else s.route hdr (.admitted mepoch table))
  else if s.fab.fab.state ≠ .joining && s.fab.fab.state ≠ .reattaching then s
  else
    let was := s.fab.fab.state
    let s := (s.modFabric fun f => { f with
      state := .member, mepoch := mepoch, members := table, joinPort := none, claimSeen := 0, becameRoot := none
      maxMepoch := if f.maxMepoch.toNat < mepoch.toNat then mepoch else f.maxMepoch
      stepDue := !f.admitted && s.owner.isNone, admitted := true }).modGrid fun g => { g with pathLost := false }
    let s := match table.find? fun m => m.node = s.nodeId with | some m => s.takeRoles m | none => s
    if was = .joining then s.raise 0x0801 [(8, s.nodeId.toNat), (4, mepoch.toNat)] else s)

/-- A table with one change applied. -/
def MemberChange.apply (c : MemberChange) (ms : List Member) : List Member :=
  match c with
  | .put m => if ms.any fun x => x.node = m.node then ms.map fun x => if x.node = m.node then m else x else ms ++ [m]
  | .remove id => ms.filter fun m => m.node ≠ id

/-- MEMBER changes: applied, with the node's own role change, and sent on down (R307, R313). -/
def execMemberFrame (port : Nat) (hdr : FabHdr) (changes : List MemberChange) (s : State) : Host.Outcome State Fault Refusal :=
  .next (let a := s.accept port hdr true false false
  let s := a.1
  if !a.2 || s.fab.fab.upPort ≠ some port then s
  else
    let s := (s.modFabric fun f => { f with members := changes.foldl (fun ms c => MemberChange.apply c ms) f.members }).pruneChildren
    let s := match changes.filterMap (fun c => match c with | .put m => if m.node = s.nodeId then some m else none | .remove _ => none) with
      | m :: _ => s.takeRoles m
      | [] => s
    s.downPorts.foldl (fun s p => s.relay p hdr (.member changes)) s)

/-! ### Fabric time (R317 to R319) -/

/-- Every 125 us a member sends TIME to its parent (R317). -/
def execTimeExchangeSend (s : State) : Host.Outcome State Fault Refusal :=
  .next (match s.fab.fab.upPort with
  | some p =>
    if s.fab.fab.alive && s.isMember && (match s.fab.fab.exchangeTime with | some t => s.passed t 125000 | none => true) then
      (s.modFabric fun f => { f with exchangeTime := some s.now }).originate p 0 0 0 (.time { t1 := s.devNow })
    else s
  | none => s)

/-- A parent's answer: the offset under equal delays; fabric time is correct at once, and device time is slewed towards it by at most 200 ppm,
25 ns in the 125 us of an exchange; eight offsets in a row beyond ALIGN_TOL lose the alignment (R317 to R319). -/
def State.align (s : State) (port : Nat) (x : Stamps) : State :=
  let offset := ((x.t2 - x.t1) + (x.t3 - x.t4)) / 2
  let delay := ((x.t4 - x.t1) - (x.t3 - x.t2)) / 2
  let s := s.modPort port fun p => { p with delay := delay.toNat }
  if s.fab.fab.stepDue && s.owner.isNone then
    (s.modFabric fun f => { f with stepDue := false, alignErr := 0 }).modSys fun p => { p with timeBase := p.timeBase + offset, ftOffset := 0 }
  else
    let err := offset - s.sys.ftOffset
    let slew := max (-25) (min 25 offset)
    let s := s.modSys fun p => { p with timeBase := p.timeBase + slew, ftOffset := offset - slew }
    let bad := decide ((s.fab.param.alignTol : Int) < err) || decide (err < -(s.fab.param.alignTol : Int))
    let n := if bad then min 8 (s.fab.fab.alignBad + 1) else 0
    let lost := s.fab.fab.alignLost
    let s := s.modFabric fun f => { f with stepDue := false, alignErr := err, alignBad := n, alignLost := bad && (f.alignLost || n = 8) }
    if n = 8 && !lost then s.raise 0x0803 [(1, port)] else s

/-- A TIME frame: a child's request is stamped and answered, a parent's answer aligns this node (R317). -/
def execTimeFrame (port : Nat) (hdr : FabHdr) (stamps : Stamps) (s : State) : Host.Outcome State Fault Refusal :=
  .next (let a := s.accept port hdr false false false
  let s := a.1
  if !a.2 || !s.isMember then s
  else if s.fab.fab.upPort = some port then s.align port stamps
  else if s.isDown port then s.originate port 0 0 0 (.time { stamps with t2 := s.fabNow, t3 := s.fabNow })
  else s)

/-! ### Reports (R112, R118) -/

/-- A child's sums (R112). -/
def execReport (port : Nat) (hdr : FabHdr) (want keep flr : Nat) (s : State) : Host.Outcome State Fault Refusal :=
  .next (let a := s.accept port hdr true true false
  if a.2 && a.1.isDown port then
    a.1.modGrid fun g => { g with children := tset g.children port { want := want, keep := keep, flr := flr, time := a.1.now } }
  else a.1)

/-- Every millisecond a node reports its group's sums to its parent (R112). -/
def execReportSend (s : State) : Host.Outcome State Fault Refusal :=
  .next (match s.fab.fab.upPort with
  | some p =>
    if s.fab.fab.alive && s.isMember && (match s.fab.fab.reportTime with | some t => s.passed t 1000000 | none => true) then
      let r := s.groupReport
      (s.modFabric fun f => { f with reportTime := some s.now }).originate p 0 0 0 (.report r.1 r.2.1 r.2.2)
    else s
  | none => s)

/-! ### Messages (R315, R316) -/

/-- Where a frame with a DROLE goes: the present holder of root or proxy, or the node named while it holds relay or leaf; its node and role
epoch (R315). -/
def State.resolve (s : State) (drole : Nat) (dst : Word64) : Option (Word64 × Word32) :=
  let holder := if drole = 0 then s.memberEntry dst
    else if drole = 1 || drole = 4 then s.fab.fab.members.find? fun m => m.roles.getLsbD (4 - drole)
    else if drole ≤ 4 then (match s.memberEntry dst with | some m => if m.roles.getLsbD (4 - drole) then some m else none | none => none)
    else none
  holder.map fun m => (m.node, if drole = 0 then 0 else m.roleEpoch)

/-- Originate a routed frame and keep a role-addressed one for a role NAK (R315); none where no port leads to it. -/
def State.sendRouted (s : State) (drole : Nat) (to_ : Word64 × Word32) (body : FabBody) (tries : Nat) (waiter : Option (Nat × Nat)) : Option State :=
  match s.portToward to_.1 with
  | none => none
  | some p =>
    let s' := s.originate p drole to_.1 to_.2 body
    some (if drole = 0 then s' else s'.modFabric fun f => { f with
      msgRetry := (f.msgRetry ++ [({ frame := { hdr := { drole := drole, dst := to_.1 }, body := body }, tries := tries, waiter := waiter } : MsgTry)]).drop
        (f.msgRetry.length + 1 - 16) })

/-- The feed warning message of a tray, written as it stands on the event rings of class 4 (R381). -/
def State.warningArrives (s : State) (msg : List Byte) : State :=
  s.host.rings.rings.foldl (fun s e =>
    if (s.ring e.1).desc.kind = 3 && (s.ring e.1).state = .active && (s.ring e.1).desc.subs.getLsbD 4 && s.ringRoom e.1 then s.ringWrite e.1 (bytesWords 8 msg) else s) s

/-- A message is a feed warning from its source (R381). -/
def isWarning (hdr : FabHdr) (msg : List Byte) : Bool := hdr.drole = 4 && fieldAt msg 7 1 = 0x36 && fieldAt msg 8 8 = hdr.src.toNat

/-- A message that has reached its node: a feed warning, a reply to a waiting LSEND, or a message for a hand's mailbox with its source in bytes
0 to 7 (R316, R381). -/
def State.messageArrives (s : State) (hdr : FabHdr) (msg : List Byte) (reply : Bool) (hand : Nat) : State :=
  match s.serving with
  | none => s
  | some bay =>
    if isWarning hdr msg then s.warningArrives msg
    else
      let m := leBytes 8 hdr.src.toNat ++ msg.drop 8
      if reply then s.endSend bay hand 0 m else (s.deliverMail bay hand m).1

/-- A fabric message: relayed, refused by role, or delivered (R315, R316). -/
def execMsg (port : Nat) (hdr : FabHdr) (msg : List (BitVec 8)) (reply : Bool) (hand : Nat) (s : State) : Host.Outcome State Fault Refusal :=
  .next (let a := s.accept port hdr true true false
  let s := a.1
  if !a.2 then s
  else if hdr.dst ≠ s.nodeId then s.route hdr (.msg msg reply hand)
  else if s.roleRefused hdr then s.sendNak port hdr.src 1
  else s.messageArrives hdr msg reply hand)

end Sys2Proof.Machine
end

