-- ==== Sys2Proof/Machine/FabOps.lean ====
section
/-!
DEFINITION. Global operations of the fabric (R315, R320 to R328), NAKs, the conductor's operations as the tray commits them (R103, R105),
the feed warning (R378, R381), fabric records (R331) and the FAB commands (R290, R332).
-/
namespace Sys2Proof.Machine
open Sys2Proof

/-! ### Scope and shares (R323, R324, R328) -/

/-- A member lies in the group of another: itself, or below it by the parents of the table. -/
def State.within (s : State) (fuel : Nat) (id top : Word64) : Bool :=
  match fuel with
  | 0 => false
  | n + 1 => id = top || (match s.memberEntry id with | some m => m.parent ≠ 0 && s.within n m.parent top | none => false)

/-- A node lies in the scope of a descriptor (R323). -/
def State.nodeInScope (s : State) (d : GDesc) (id : Word64) : Bool :=
  match d.scope with
  | 0 => id = d.scopeNode
  | 1 => s.within 11 id d.scopeNode
  | _ => true

/-- This node lies in the scope. -/
def State.inScope (s : State) (d : GDesc) : Bool := s.nodeInScope d s.nodeId

/-- Ports on which a GDOWN goes on: every down port below a group root or the hall, the port towards SCOPE_NODE above it (R323). -/
def State.downTargets (s : State) (d : GDesc) : List Nat :=
  if s.inScope d then (if d.scope = 0 then [] else s.downPorts)
  else match s.childToward 11 d.scopeNode with
    | some c => (match s.portOf c with | some p => [p] | none => [])
    | none => []

/-- The share table in force (R112). -/
def State.sharesNow (s : State) : List (Nat × List (Nat × Nat)) :=
  if s.grid.shares.isEmpty then shareTable s.shareParties else s.grid.shares

/-- The share of one entry of the table for a group allotment: a child's port, or 4 for the tray itself (R112, R328). -/
def State.shareOf (s : State) (entry x : Nat) : Nat :=
  match s.sharesNow.find? fun e => e.1 = entry with
  | some e => shareAt e.2 x
  | none => 0

/-- A group target carries SHARE (R328). -/
def GDesc.shares (d : GDesc) : Bool := d.op = 0x10 && d.scope ≠ 0

/-- A descriptor as this node acts on it: the group root, or the root for the hall, sets SHARE (R328). -/
def State.withShare (s : State) (d : GDesc) : GDesc :=
  if GDesc.shares d && ((d.scope = 1 && d.scopeNode = s.nodeId) || (d.scope = 2 && s.isRoot)) then { d with share := d.value0.toNat } else d

/-- The contents of a conductor's grid operation (R101, R328). -/
def GDesc.asTarget (d : GDesc) (target : Nat) : Target :=
  { tseq := d.tseq, target := target, slope := d.value1.toNat, deadline := d.atTime, issueTime := d.issueTime }

/-- An operation that combines contributions (R324). -/
def GDesc.combines (d : GDesc) : Bool := d.op = 2 || d.op = 3 || d.op = 4

/-! ### Completion at the proxy (R320, R322) -/

/-- A waiting FAB_GLOBAL completes with its results (R322). -/
def State.completeWait (s : State) (d : GDesc) (status res1 res2 : Nat) : State :=
  match s.fab.fab.waits.find? fun w => w.desc.op = d.op && w.desc.tseq = d.tseq with
  | some w => (s.modFabric fun f => { f with waits := f.waits.filter fun x => x ≠ w }).complete w.jseq status
      (if status = 0 then [d.issueTime, res1, res2] else [])
  | none => s

/-- The root tells the node that asked for an operation: at once when it is that node, and otherwise by a GDOWN for it alone that carries
the descriptor with the results in SHARE and VALUE0, VALUE1 (DESIGN CHOICE: the manual names no frame for it). -/
def State.tellProxy (s : State) (d : GDesc) (requester : Word64) (res1 res2 : Nat) : State :=
  if requester = s.nodeId then s.completeWait d 0 res1 res2
  else match s.portToward requester with
    | some p => s.originate p 0 requester 0 (.gdown { d with
        share := res1, value0 := BitVec.ofNat 32 (res2 / 2 ^ 32), value1 := BitVec.ofNat 32 res2 } [])
    | none => s

/-! ### Combining operations (R324 to R326) -/

/-- Children whose contributions an operation awaits (R324). -/
def State.awaited (s : State) (d : GDesc) : List Word64 :=
  if s.inScope d then (if d.scope = 0 then [] else s.children.map fun m => m.node)
  else match s.childToward 11 d.scopeNode with | some c => [c] | none => []

/-- A tray has arrived at a barrier: it has committed or refused every grid operation received before it, or its photonic die keeps them
while the bays are Dormant (R326). -/
def State.arrived (s : State) (o : GlobalOp) : Bool :=
  s.serving.isNone && s.sys.dormant ||
  o.awaits.all fun a => !s.grid.held.contains a && !(s.pendingGrid.any fun g => g.2.2.1 = a.1 && g.2.2.2 = a.2 && !(s.entry g.1).acked)

/-- This node's own contribution to an operation, with a barrier's once it has arrived. -/
def State.ownNow (s : State) (o : GlobalOp) : Option Contribution :=
  if o.desc.op = 3 && o.own.isNone && s.inScope o.desc && s.arrived o then some { value := 1, contributors := 1 } else o.own

/-- Two contributions combined under FUNC (R321, R324). -/
def combine (func : Nat) (a b : Contribution) : Contribution :=
  { value := if func = 1 then min a.value b.value else if func = 2 then max a.value b.value else a.value + b.value
    contributors := a.contributors + b.contributors, notAligned := a.notAligned + b.notAligned }

/-- The combined contribution, once everything awaited is there (R324). -/
def State.combined (s : State) (o : GlobalOp) : Option Contribution :=
  let own := s.ownNow o
  let kids := (s.awaited o.desc).map fun c => (s.portOf c).bind fun p => tfind o.contrib p
  if (s.inScope o.desc && own.isNone) || kids.any Option.isNone then none
  else
    match (match own with | some c => [c] | none => []) ++ kids.filterMap id with
    | [] => some {}
    | c :: r => some (r.foldl (combine (if o.desc.op = 2 then o.desc.func else 0)) c)

/-- Results RES1 and RES2 of a combining operation at the root (R322). -/
def State.opResult (s : State) (d : GDesc) (c : Contribution) : Nat × Nat :=
  match d.op with
  | 2 => (twos 64 c.value, c.contributors)
  | 3 => (c.contributors, s.fabNow)
  | _ => (twos 64 c.value, c.contributors * 2 ^ 32 + c.notAligned)

/-- Send on, or answer at the root, every operation whose contributions are complete (R324). -/
def State.progressOps (s : State) : State :=
  s.fab.fab.ops.foldl (fun s o =>
    match s.combined o with
    | none => s
    | some c =>
      let s := s.modFabric fun f => { f with ops := f.ops.filter fun x => x ≠ o }
      match o.upPort with
      | some p => s.originate p 0 0 0 (.gup (.contribution o.desc.tseq c))
      | none => let r := s.opResult o.desc c; s.tellProxy o.desc o.requester r.1 r.2) s

/-! ### Global frames (R320 to R328) -/

/-- This node acts on an operation whose scope holds it (R322, R326 to R328). -/
def State.actGlobal (s : State) (d : GDesc) (body : List Byte) (src : Word64) : State :=
  match d.op with
  | 0x01 =>
    match s.serving with
    | some bay => (s.deliverMail bay (d.value1.toNat % 4096) (leBytes 8 src.toNat ++ List.replicate 8 0 ++ body.take 48)).1
    | none => s
  | 0x05 => s.modFabric fun f => { f with
      hallResetAt := some d.atTime, waits := f.waits.map fun w => if w.desc.op = 5 && w.desc.tseq = d.tseq then { w with desc := d } else w }
  | 0x10 =>
    if d.scope = 0 then s.receiveGrid .target (GDesc.asTarget d d.value0.toNat)
    else (s.modGrid fun g => { g with lastGroup := some d.share }).receiveGrid .share (GDesc.asTarget d (s.shareOf 4 d.share))
  | 0x11 => s.frequencyFrame (signed 32 d.value0.toNat) d.issueTime s.fabNow
  | 0x12 => s.receiveGrid .park (GDesc.asTarget d 0)
  | 0x13 => s.receiveGrid .unpark (GDesc.asTarget d 0)
  | _ => s

/-- A global frame at this node: sent on with each child's share, acted on in its scope, and kept where contributions are awaited (R323 to
R328). -/
def State.descend (s : State) (d0 : GDesc) (body : List Byte) (upPort : Option Nat) (src requester : Word64) : State :=
  let d := s.withShare d0
  let s := (s.downTargets d).foldl (fun s p =>
    s.originate p 0 0 0 (.gdown (if GDesc.shares d && s.inScope d then { d with share := s.shareOf p d.share } else d) body)) s
  let s := if s.inScope d then s.actGlobal d body src else s
  if GDesc.combines d then
    (s.modFabric fun f => { f with ops := f.ops ++ [({
      desc := d, upPort := upPort, requester := requester, start := s.now, awaits := if d.op = 3 then s.grid.held else [] } : GlobalOp)] }).progressOps
  else s

/-- Broadcast time of a scope: a hop for each level down to the deepest member in it (R323 to R325). -/
def State.broadcastTime (s : State) (d : GDesc) : Nat :=
  Config.hopTime * (s.fab.fab.members.filter fun m => s.nodeInScope d m.node).foldl (fun a m => max a (s.depthOf 11 m.node)) 0

/-- The root starts an operation: ISSUE_TIME and the earliest AT set; an unknown scope is refused with a NAK, and a seventeenth combining
operation is not started (R320, R323 to R325, R327). -/
def State.startOp (s : State) (d : GDesc) (body : List Byte) (requester : Word64) (port : Option Nat) : State :=
  if d.scope ≠ 2 && (s.memberEntry d.scopeNode).isNone then
    match port with
    | some p => s.sendNak p requester 3
    | none => s.completeWait d 0x0502 0 0
  else if GDesc.combines d && 16 ≤ (s.fab.fab.ops.filter fun o => o.upPort.isNone).length then s
  else
    let issue := if d.issueTime = 0 then s.fabNow else d.issueTime
    let lead := s.broadcastTime d * (if d.op = 4 || d.op = 5 then 2 else 1)
    let at_ := if d.op = 2 || d.op = 4 || d.op = 5 then max d.atTime (s.fabNow + lead) else d.atTime
    let d := { d with issueTime := issue, atTime := at_ }
    let s := s.descend d body none s.nodeId requester
    if GDesc.combines d || d.op = 5 then s
    else s.tellProxy d requester (if d.op = 0x10 || d.op = 0x12 || d.op = 0x13 then d.tseq.toNat else 0) 0

/-- A global frame from the parent: sent on down, acted on and kept (R323). One for this node alone is the root's answer to its FAB_GLOBAL. -/
def execGdown (port : Nat) (hdr : FabHdr) (desc : GDesc) (body : List (BitVec 8)) (s : State) : Host.Outcome State Fault Refusal :=
  .next (let a := s.accept port hdr true false false
  let s := a.1
  if !a.2 then s
  else if hdr.dst ≠ 0 && hdr.dst ≠ s.nodeId then s.route hdr (.gdown desc body)
  else if s.roleRefused hdr then s.sendNak port hdr.src 1
  else if hdr.dst = s.nodeId then s.completeWait desc 0 desc.share (desc.value0.toNat * 2 ^ 32 + desc.value1.toNat)
  else if s.fab.fab.upPort = some port then s.descend desc body (some port) hdr.src 0
  else s)

/-- A frame up: a request or a removal for the root, or a child's contribution (R308, R320, R324). -/
def execGup (port : Nat) (hdr : FabHdr) (body : GupBody) (s : State) : Host.Outcome State Fault Refusal :=
  .next (let a := s.accept port hdr true true false
  let s := a.1
  if !a.2 then s
  else match body with
    | .contribution opNo c =>
      if s.isDown port then
        (s.modFabric fun f => { f with ops := f.ops.map fun o => if o.desc.tseq = opNo then { o with contrib := tset o.contrib port c } else o }).progressOps
      else s
    | .request d b =>
      if hdr.dst ≠ s.nodeId then s.route hdr (.gup body)
      else if s.roleRefused hdr || !s.isRoot then s.sendNak port hdr.src 1
      else s.startOp d b hdr.src (some port)
    | .removal id =>
      if hdr.dst ≠ s.nodeId then s.route hdr (.gup body)
      else if s.roleRefused hdr || !s.isRoot then s.sendNak port hdr.src 1
      else match s.memberEntry id with
        | some m => if m.parent = hdr.src then (s.removeMember id).progressOps else s
        | none => s)

/-! ### NAK (R301, R306, R309, R312, R315, R320) -/

/-- A frame that no role holder takes fails: its LSEND with status 0x02, its FAB_GLOBAL with TIMEOUT (R315, R316, R320). -/
def State.sendFails (s : State) (t : MsgTry) : State :=
  match t.frame.body, t.waiter with
  | .gup (.request d _), _ => s.completeWait d 0x0502 0 0
  | _, some (bay, hand) => s.endSend bay hand 2 []
  | _, none => s

/-- A role NAK: the refuser's roles are noted, the destination is resolved afresh and the frame sent again; the third NAK fails it (R315). -/
def State.roleNak (s : State) (src : Word64) (roles : Nat) (roleEpoch : Word32) : State :=
  let s := (s.modFabric fun f => { f with roleNaks := satAdd 16 f.roleNaks 1 }).modMember src fun m => { m with roles := BitVec.ofNat 4 roles, roleEpoch := roleEpoch }
  match s.fab.fab.msgRetry.find? fun t => t.frame.hdr.dst = src with
  | none => s
  | some t =>
    let s := s.modFabric fun f => { f with msgRetry := f.msgRetry.filter fun x => x ≠ t }
    if 3 ≤ t.tries then s.sendFails t
    else match s.resolve t.frame.hdr.drole t.frame.hdr.dst with
      | none => s.sendFails t
      | some to_ => (s.sendRouted t.frame.hdr.drole to_ t.frame.body (t.tries + 1) t.waiter).getD (s.sendFails t)

/-- A rejoin NAK: the node drops its MEPOCH and joins as a new member (R306, R309, R312). -/
def State.rejoin (s : State) (port : Nat) : State :=
  match s.fab.fab.state with
  | .isolated | .claiming => s
  | _ =>
    let p := s.fab.fab.upPort.getD port
    let s := (s.modFabric fun f => { f with rejoins := satAdd 16 f.rejoins 1 }).dropMembership
    if (s.port p).nbRoot ≠ 0 then s.joinVia p .joining else s.listen

/-- A NAK for this node, by its reason; one for another node is relayed (R315). -/
def execNak (port : Nat) (hdr : FabHdr) (reason roles : Nat) (roleEpoch : BitVec 32) (s : State) : Host.Outcome State Fault Refusal :=
  .next (let a := s.accept port hdr false false true
  let s := a.1
  if !a.2 then s
  else if hdr.dst ≠ s.nodeId then s.route hdr (.nak reason (BitVec.ofNat 4 roles) roleEpoch)
  else match reason with
    | 1 => s.roleNak hdr.src roles roleEpoch
    | 2 => s.rejoin port
    | 3 => (match s.fab.fab.waits.find? fun w => w.desc.scope ≠ 2 with | some w => s.completeWait w.desc 0x0502 0 0 | none => s)
    | _ => s)

/-! ### Samples, snapshots and the hall reset (R324, R325, R327) -/

/-- The tray draw in whole watts. -/
def State.drawWatts (s : State) : Int := s.trayDraw.floor

/-- A REDUCE quantity (R322). -/
def State.quantity (s : State) (sel : Nat) : Int :=
  match sel with
  | 0 => s.drawWatts
  | 1 => s.feedEnergy.floor
  | 2 => s.ownReport.want.floor
  | 3 => s.ownReport.flr.floor
  | 4 => 1
  | _ => s.gridHeadroom

/-- Give this node's own contribution to an operation of a kind whose AT has come (R324, R325). -/
def State.contribute (s : State) (kind : Nat) (opNo : Word32) (c : GlobalOp → Contribution) : State :=
  (s.modFabric fun f => { f with ops := f.ops.map fun o =>
    if o.desc.op = kind && o.desc.tseq = opNo && o.own.isNone && o.desc.atTime ≤ s.fabNow && s.inScope o.desc then { o with own := some (c o) } else o }).progressOps

/-- An operation of a kind waits for this node's own contribution, and its AT has come. -/
def State.sampleDue (s : State) (kind : Nat) (opNo : Word32) : Bool :=
  s.fab.fab.alive && s.fab.fab.ops.any fun o => o.desc.op = kind && o.desc.tseq = opNo && o.own.isNone && o.desc.atTime ≤ s.fabNow && s.inScope o.desc

/-- At a REDUCE's AT the node samples its quantity (R324). -/
def execReduceSample (opNo : BitVec 32) (s : State) : Host.Outcome State Fault Refusal :=
  .next (if s.sampleDue 2 opNo then
    s.contribute 2 opNo fun o => { value := s.quantity o.desc.sel, contributors := 1, notAligned := bit s.fab.fab.alignLost }
  else s)

/-- At a SNAPSHOT's AT the keeper latches the tray's quantities; the owner writes the record, when the bays wake if they are Dormant (R325). -/
def execSnapshotLatch (opNo : BitVec 32) (s : State) : Host.Outcome State Fault Refusal :=
  .next (if s.sampleDue 4 opNo then
    let payload := [(4, opNo.toNat), (4, twos 32 s.drawWatts), (4, s.grid.aTray.floor.toNat), (4, s.grid.tseqInForce.toNat), (8, twos 64 s.feedEnergy.floor)]
    let s := match s.serving with
      | some bay => s.almanac (baySource bay) 0x8801 payload
      | none => s.modFabric fun f => { f with snapHeld := f.snapHeld ++ [payload] }
    s.contribute 4 opNo fun _ => { value := s.drawWatts, contributors := 1, notAligned := bit s.fab.fab.alignLost }
  else s)

/-- At a hall reset's AT every member drops its MEPOCH, roles and table, PRIORITY and PORT_MASK take effect and bring-up starts again; a
snapshot or reduce due later ends with TIMEOUT (R327, R332). -/
def execHallReset (s : State) : Host.Outcome State Fault Refusal :=
  .next (match s.fab.fab.hallResetAt with
  | none => s
  | some t =>
    if !s.fab.fab.alive || s.fabNow < t then s
    else
      let s := s.fab.fab.waits.foldl (fun s w =>
        if w.desc.op = 5 && w.desc.atTime = t then s.completeWait w.desc 0 t 0
        else if (w.desc.op = 2 || w.desc.op = 4) && t < w.desc.atTime then s.completeWait w.desc 0x0502 0 0 else s) s
      let s := (s.dropMembership).modFabric fun f => { f with
        hallResetAt := none, ops := [], msgRetry := [], claimSeen := 0, rootId := 0, prioInForce := s.fab.param.priority, maskInForce := s.fab.param.portMask }
      let s := forUpTo 4 (fun s p => if s.portEnabled p then s else s.modPort p fun x => { x with pstate := .down, good := 0 }) s
      if (List.range 4).any s.portUp then s.listen else s.modFabric fun f => { f with state := .isolated, backoffEnd := none, claimStart := none, joinPort := none })

/-- A FAB_GLOBAL without a result within OP_TIMEOUT ends with TIMEOUT, and a node lets an operation of that age go (R320). -/
def execOpTimeoutExpiry (opNo : BitVec 32) (s : State) : Host.Outcome State Fault Refusal :=
  .next (let t := s.fab.param.opTimeout * 1000
  let late := s.fab.fab.waits.filter fun w => w.desc.tseq = opNo && s.passed w.start t
  let s := late.foldl (fun s w => s.completeWait w.desc 0x0502 0 0) s
  s.modFabric fun f => { f with ops := f.ops.filter fun o => !(o.desc.tseq = opNo && s.passed o.start t) })

/-! ### The conductor's operations at the tray (R103, R105, R326) -/

/-- The owner commits the oldest conductor operation received: journalled, or refused as late (R103, R105); a barrier may then be reached
(R326). -/
def execTargetCommit (op : GridOp) (target : Target) (s : State) : Host.Outcome State Fault Refusal :=
  .next (if s.serving.isSome && s.grid.held.head? = some (op, target) && s.journalFree then
    let t := s.modGrid fun g => { g with held := g.held.drop 1 }
    (match t.gridRefusal true op target [] with
    | some (0x0202, _) => t.lateTarget true target
    | some _ => t
    | none => t.journalChange (.grid op target)).progressOps
  else s)

/-- A received target's DEADLINE passes before it is committed: the commit is abandoned and the target refused as late (R103). -/
def execTargetDeadlineExpiry (fab : Bool) (target : Target) (s : State) : Host.Outcome State Fault Refusal :=
  .next (if target.deadline = 0 || s.fabNow ≤ target.deadline then s
  else (match s.pendingGrid.find? fun (g : Nat × Bool × GridOp × Target) => g.2.1 = fab && g.2.2.2 = target && !(s.entry g.1).acked with
    | some g => (s.complete g.1 0x0202 [s.fabNow]).lateTarget fab target
    | none =>
      if fab && s.grid.held.any fun h => h.2 = target then
        (s.modGrid fun g => { g with held := g.held.filter fun h => h.2 ≠ target }).lateTarget true target
      else s).progressOps)

/-! ### The feed warning (R374, R378, R381) -/

/-- The message a fabric member sends to the conductor proxy as FEED_WARN_N asserts (R381). -/
def State.warningMessage (s : State) (feed : Nat) : List Byte :=
  wordsBytes [ pack [(56, 8, 0x36), (48, 8, feedNo feed)], s.nodeId, BitVec.ofNat 64 s.fabNow,
    pack [(32, 32, twos 32 (s.feedVolt feed)), (0, 32, bit s.pwr.feed.switchTo.isSome)], 0, 0, 0, 0 ]

/-- FEED_WARN_N asserts: the reaction of R378, then the message to the proxy, if there is one (R378, R381). -/
def execFeedWarnAssert (s : State) : Host.Outcome State Fault Refusal :=
  .next (match s.warnDue with
  | none => s
  | some f =>
    let s := s.warnAssert f
    if !(s.isMember && s.fab.fab.alive) then s
    else match s.resolve 4 0 with
      | none => s
      | some to_ =>
        if to_.1 = s.nodeId then (if s.serving.isSome then s.warningArrives (s.warningMessage f) else s)
        else (s.sendRouted 4 to_ (.msg (s.warningMessage f) false 0) 1 none).getD s)

/-! ### Records (R331) -/

/-- FSTATE as the node record codes it (R331). -/
def FState.code : FState → Nat
  | .isolated => 0 | .claiming => 1 | .joining => 2 | .member => 3 | .reattaching => 4

/-- The fabric node record (R331). -/
def State.nodeRecord (s : State) : List Word64 :=
  let f := s.fab.fab
  [ pack [(56, 8, 0x33), (52, 4, f.state.code), (48, 4, f.roles), (44, 4, f.depth), (40, 4, f.upPort.getD 0xF),
      (0, 32, f.mepoch.toNat)],
    s.nodeId, f.rootId,
    pack [(32, 32, f.roleEpoch.toNat), (0, 32, f.members.length)],
    BitVec.ofInt 64 s.sys.ftOffset,
    pack [(32, 32, twos 32 f.alignErr), (16, 16, f.roleNaks), (0, 16, f.rejoins)],
    pack [(32, 32, f.dropped), (0, 32, f.elections)],
    BitVec.ofNat 64 s.devNow ]

/-- PSTATE as the port record codes it (R331). -/
def State.portRecord (s : State) (p : Nat) : List Word64 :=
  let x := s.port p
  let st := match x.pstate with | .down => 0 | .train => 1 | .up => 2
  [ pack [(62, 2, st), (60, 2, s.portUse p), (32, 16, x.delay), (0, 32, x.crcErr)], x.neighbour,
    pack [(32, 32, x.nbMepoch.toNat), (0, 32, x.nbRoleEpoch.toNat)], BitVec.ofNat 64 x.txFrames, BitVec.ofNat 64 x.rxFrames, 0, 0, 0 ]

/-- The 512 bytes of FAB_STATUS (R331). -/
def State.fabStatusBytes (s : State) : List Byte :=
  wordsBytes (s.nodeRecord ++ (List.range 4).flatMap s.portRecord ++ List.replicate 24 0)

/-- Every record period the node record is posted (R331). -/
def execFabricRecord (s : State) : Host.Outcome State Fault Refusal :=
  .next (if s.serving.isSome && (match s.fab.fab.recordTime with | some t => s.passed t (s.fab.param.recordPeriod * 1000) | none => true) then
    (s.modFabric fun f => { f with recordTime := some s.now }).telemetry 6 s.nodeRecord
  else s)

/-! ### Commands (R290, R320 to R322, R332) -/

/-- A descriptor from its 64 bytes (R321). -/
def descOf (bs : List Byte) : GDesc :=
  let w (i : Nat) : Nat := fieldAt bs (8 * i) 8
  { op := field (w 0) 56 8, scope := field (w 0) 54 2, sel := field (w 0) 40 8, func := field (w 0) 32 8, tseq := BitVec.ofNat 32 (w 0)
    scopeNode := BitVec.ofNat 64 (w 1), issueTime := w 2, atTime := w 3, value0 := BitVec.ofNat 32 (w 4 / 2 ^ 32), value1 := BitVec.ofNat 32 (w 4)
    share := w 5 }

/-- Operations of R322 with the scopes each allows. -/
def scopeOk (d : GDesc) : Bool :=
  match d.op with
  | 0x01 => d.scope ≤ 2
  | 0x02 => d.scope ≤ 2 && d.sel ≤ 5 && d.func ≤ 2
  | 0x03 => d.scope = 1 || d.scope = 2
  | 0x04 => d.scope = 1 || d.scope = 2
  | 0x05 => d.scope = 2
  | 0x10 => d.scope ≤ 2
  | 0x11 => d.scope = 2
  | 0x12 => d.scope ≤ 2
  | 0x13 => d.scope ≤ 2
  | _ => false

/-- The operation codes of R322. -/
def globalOp (op : Nat) : Bool := op ∈ [0x01, 0x02, 0x03, 0x04, 0x05, 0x10, 0x11, 0x12, 0x13]

/-- Trays in the scope of a descriptor. -/
def State.scopeSize (s : State) (d : GDesc) : Nat := (s.fab.fab.members.filter fun m => s.nodeInScope d m.node).length

/-- The fields of a grid operation are in range (R101). -/
def State.gridFieldsOk (s : State) (d : GDesc) : Bool :=
  match d.op with
  | 0x10 => d.tseq ≠ 0 && 100 ≤ d.value1.toNat && d.value1.toNat ≤ 40000 && d.value0.toNat ≤ 40000 * max 1 (s.scopeSize d)
  | 0x11 => -5000 ≤ signed 32 d.value0.toNat && signed 32 d.value0.toNat ≤ 5000
  | 0x12 => d.tseq ≠ 0 && 100 ≤ d.value1.toNat && d.value1.toNat ≤ 40000
  | 0x13 => d.tseq ≠ 0
  | _ => true

/-- FAB_GLOBAL's checks: PARAM and descriptor agree, and the tray holds the proxy role (R290, R314, R321). -/
def specFabGlobal (h : CmdHdr) (op : Nat) (node : BitVec 64) (buf blen : Nat) (s : State) : CmdSpec :=
  let d := descOf (h.buf.getD [])
  { opcode := 0x0800, plen := 32
    params := [inRange (globalOp op) 0, bufAligned buf, check (blen = if op = 1 then 112 else 64) 0x0102]
    late := [check (s.fab.fab.roles.testBit 0 && s.isMember) 0x0402, bufRead h, joint (d.op = op) 0, joint (d.scopeNode = node) 8,
      inRange (scopeOk d && s.gridFieldsOk d) 16] }

/-- The descriptor goes to the root (R320). -/
def effFabGlobal (j : Nat) (h : CmdHdr) (s : State) : State :=
  let d := descOf (h.buf.getD [])
  let body := (h.buf.getD []).drop 64
  if !(s.fab.fab.roles.testBit 0 && s.isMember) then s.complete j 0x0504 []
  else
    let s := s.modFabric fun f => { f with waits := f.waits ++ [{ desc := d, start := s.now, jseq := j }] }
    if s.isRoot then s.startOp d body s.nodeId none
    else match s.resolve 1 0 with
      | some to_ => (s.sendRouted 1 to_ (.gup (.request d body)) 1 none).getD (s.completeWait d 0x0502 0 0)
      | none => s.completeWait d 0x0502 0 0

/-- FAB_GLOBAL (R320). -/
def execFabGlobal (h : CmdHdr) (op : Nat) (node : BitVec 64) (buf blen : Nat) (s : State) : Host.Outcome State Fault Refusal :=
  .next (s.submit (.fabGlobal h op node buf blen) h (specFabGlobal h op node buf blen s))

/-- FAB_STATUS's checks. -/
def specFabStatus (_h : CmdHdr) (buf : Nat) (_s : State) : CmdSpec := { opcode := 0x0801, plen := 16, params := [bufAligned buf] }

/-- The node record and the port records go to the buffer (R331). -/
def effFabStatus (j buf : Nat) (s : State) : State := (s.bufferOut j buf s.fabStatusBytes).ok j

/-- FAB_STATUS (R331). -/
def execFabStatus (h : CmdHdr) (buf : Nat) (s : State) : Host.Outcome State Fault Refusal :=
  .next (s.submit (.fabStatus h buf) h (specFabStatus h buf s))

/-- The fabric parameters with one item changed (R332). -/
def FabParam.set (p : FabParam) (item v : Nat) : FabParam :=
  match item with
  | 0 => { p with priority := v }
  | 1 => { p with proxyPrio := v }
  | 2 => { p with portMask := v }
  | 3 => { p with beaconPeriod := v }
  | 4 => { p with deadTimeout := v }
  | 5 => { p with rootTimeout := v }
  | 6 => { p with claimSettle := v }
  | 7 => { p with pushServe := v = 1 }
  | 8 => { p with alignTol := v }
  | 9 => { p with opTimeout := v }
  | 10 => { p with recordPeriod := v }
  | _ => p

/-- The range of each item (R332). -/
def fabItemOk (item v : Nat) : Bool :=
  match item with
  | 0 => 1 ≤ v && v ≤ 0xFFFF
  | 1 => v ≤ 255
  | 2 => v ≤ 0xFF
  | 3 => 2 ≤ v && v ≤ 100
  | 4 => 20 ≤ v && v ≤ 10000
  | 5 => 100 ≤ v && v ≤ 50000
  | 6 => 500 ≤ v && v ≤ 20000
  | 7 => v ≤ 1
  | 8 => 10 ≤ v && v ≤ 1000
  | 9 => 1000 ≤ v && v ≤ 1000000
  | 10 => 1000 ≤ v && v ≤ 10000000
  | _ => true

/-- FAB_CONFIG's checks: DEAD_TIMEOUT at least 4 BEACON_PERIOD, ROOT_TIMEOUT at least 2 DEAD_TIMEOUT (R332). -/
def specFabConfig (_h : CmdHdr) (item value : Nat) (s : State) : CmdSpec :=
  let p := s.fab.param.set item value
  { opcode := 0x0802, plen := 16
    params := [inRange (item ≤ 10) 0, inRange (fabItemOk item value) 8,
      joint (4 * p.beaconPeriod ≤ p.deadTimeout && 2 * p.deadTimeout ≤ p.rootTimeout) 8] }

/-- The item takes its value; the root's own PROXY_PRIO settles the proxy role (R314, R332). -/
def effFabConfig (j item value : Nat) (s : State) : State :=
  let p := s.fab.param.set item value
  if p.deadTimeout < 4 * p.beaconPeriod || p.rootTimeout < 2 * p.deadTimeout then s.complete j 0x0504 []
  else
    let s := s.modFabParam fun _ => p
    (if s.isRoot && item = 1 then s.setTable (s.fab.fab.members.map fun m => if m.node = s.nodeId then { m with proxyPrio := value } else m)
     else s).ok j

/-- FAB_CONFIG (R332). -/
def execFabConfig (h : CmdHdr) (item value : Nat) (s : State) : Host.Outcome State Fault Refusal :=
  .next (s.submit (.fabConfig h item value) h (specFabConfig h item value s))

end Sys2Proof.Machine
end

