-- ==== Sys2Proof/Machine/Scrub.lean ====
section
/-!
DEFINITION. The Gleaner's passes and write-backs (R207, R211 to R215), the online self-test and repair (R216 to R221), and the
commands of opcode group 0x07 (R290).
-/
namespace Sys2Proof.Machine
open Sys2Proof

/-! ### Self-test -/

/-- A bank number of a self-test: 0 to 67, or a spare, 0x80 and 0x81 (R194, R218). -/
def bankExists (b : Nat) : Bool := b < 68 || b = 0x80 || b = 0x81

/-- The spare that stands in for a bank (R194, R216). -/
def Granary.spareFor (g : Granary) (bank : Nat) : Option Nat := if bank < 64 then g.spareG else g.spareP

/-- A self-test of a bank may start: none is under way on it, its spare stands in for no bank, and a spare itself stands in for none
(R216, R217, R221). -/
def State.testFree (s : State) (bay bank : Nat) : Bool :=
  let g := s.granary bay
  (s.bist bay bank).phase = .idle &&
  (if bank = 0x80 then g.spareG.isNone else if bank = 0x81 then g.spareP.isNone else (g.spareFor bank).isNone)

/-- No bank of the bay is under test: one bank at a time (R216). -/
def State.noTest (s : State) (bay : Nat) : Bool :=
  (s.gran.bists.all fun e => e.1 / 256 != bay || e.2.phase == .idle)

/-- Start a self-test, or a soft repair outside a test: the copy comes first, but for a spare, which is tested in place (R216, R219). -/
def State.startTest (s : State) (bay bank jseq : Nat) (repair : Option (Bool × Nat)) : State :=
  s.modBist bay bank fun b => { b with
    phase := if bank < 68 then .copy else .march, start := s.now, jseq := jseq, repair := repair, fails := [], nfail := 0, result := 0 }

/-- Start the next self-test that the Gleaner or AUTOTEST queued (R213, R215). -/
def State.nextAutotest (s : State) (bay : Nat) : State :=
  match (s.granary bay).autotestQ with
  | [] => s
  | b :: rest =>
    if s.noTest bay then
      let s := s.modGranary bay fun g => { g with autotestQ := rest }
      if s.testFree bay b then s.startTest bay b 0 none else s
    else s

/-- Soft or fuse repairs of a bank, of one kind (R219). -/
def State.repairsOf (s : State) (bay bank : Nat) (column : Bool) : Nat :=
  (s.gran.repairs.filter fun r => r.bay = bay && r.bank = bank && r.column = column).length

/-- Fuse entries a bay has left (R220). -/
def State.fuseLeft (s : State) (bay : Nat) : Nat := 192 - (s.gran.repairs.filter fun r => r.bay = bay && r.fused).length

/-- Add a soft repair. -/
def State.addRepair (s : State) (bay bank : Nat) (column : Bool) (pos : Nat) : State :=
  s.modGran fun g => { g with repairs := g.repairs ++ [{ bay := bay, bank := bank, column := column, pos := pos, fused := false }] }

/-- A line is already replaced by a spare row. -/
def State.rowRepaired (s : State) (bay bank line : Nat) : Bool :=
  s.gran.repairs.any fun r => r.bay = bay && r.bank = bank && !r.column && r.pos = line

/-- Repair one failing bit position of a march: a spare row for each of one or two lines, a spare column for three lines or more, the
other kind where the kind chosen is used up and the other covers the failure (R219). -/
def State.repairBit (s : State) (bay bank bitPos : Nat) (lines : List Nat) : State × Nat :=
  let lines := lines.filter fun l => !s.rowRepaired bay bank l
  let rows := 16 - s.repairsOf bay bank false
  let cols := 8 - s.repairsOf bay bank true
  let byRows := lines.foldl (fun s l => s.addRepair bay bank false l) s
  let byCol := s.addRepair bay bank true bitPos
  if lines.length < 3 then
    if lines.length ≤ rows then (byRows, 1) else if 0 < cols then (byCol, 2) else (s, 5)
  else if 0 < cols then (byCol, 2) else if lines.length ≤ rows then (byRows, 1) else (s, 5)

/-- The bit position within a line of 576 bits of a failure: word a[5:3] of the line, 72 bits each (R195, R196, R219). -/
def linePos (addr bitNo : Nat) : Nat := field addr 3 3 * 72 + bitNo

/-- Failing bit positions of a march, each once. -/
def failPositions (fails : List (Nat × Nat × Nat)) : List Nat := (fails.map fun f => linePos f.1 f.2.1).dedup

/-- Lines in which a bit position fails, each once. -/
def failLines (fails : List (Nat × Nat × Nat)) (p : Nat) : List Nat :=
  ((fails.filter fun f => linePos f.1 f.2.1 = p).map fun f => lineOf f.1).dedup

/-- Choose the repairs of a march, position by position; REPAIR code of each position (R218, R219). -/
def State.repairAll (s : State) (bay bank : Nat) (fails : List (Nat × Nat × Nat)) : State × List (Nat × Nat) :=
  (failPositions fails).foldl (fun acc p =>
    let r := acc.1.repairBit bay bank p (failLines fails p)
    (r.1, acc.2 ++ [(p, r.2)])) (s, [])

/-- The code of a position in a list of repairs. -/
def codeAt (cs : List (Nat × Nat)) (p : Nat) : Nat := ((cs.find? fun c => c.1 = p).map (·.2)).getD 0

/-- A bank that no spare row or column can repair is retired: its spare stands in permanently; a second failure of the kind leaves the
bay degraded (R221). -/
def State.retireBank (s : State) (bay bank : Nat) : State :=
  if ((s.granary bay).spareFor bank).isNone then
    (s.modGranary bay fun g => if bank < 64 then { g with spareG := some bank } else { g with spareP := some bank }).raise
      0x0703 [(1, bay), (1, bank)]
  else s.modGranary bay fun g => { g with degraded := true }

/-- End a self-test: its result, duration and time, and the completion of a BIST_RUN or REPAIR_APPLY that waits (R216, R218, R290). -/
def State.endTest (s : State) (bay bank result : Nat) : State :=
  let b := s.bist bay bank
  let dur := (s.now - b.start) / 1000
  let s := s.modBist bay bank fun b => { b with phase := .idle, result := result, duration := dur, time := s.now, jseq := 0, repair := none }
  let s := s.modGranary bay fun g => { g with steered := none }
  let s := if b.jseq = 0 then s
    else if b.repair.isSome then s.complete b.jseq 0 [s.fuseLeft bay] else s.complete b.jseq 0 [result, dur]
  s.nextAutotest bay

/-- The copy ends: accesses go to the spare and the march starts; outside a test the soft repair is applied and the restore starts
(R216, R219). -/
def execSelfTestCopyDone (bay bank : Nat) (s : State) : Host.Outcome State Fault Refusal :=
  .next (match (s.bist bay bank).phase with
  | .copy =>
    let s := s.modGranary bay fun g => { g with steered := some bank }
    match (s.bist bay bank).repair with
    | some (col, pos) => (s.addRepair bay bank col pos).modBist bay bank fun b => { b with phase := .restore }
    | none => s.modBist bay bank fun b => { b with phase := .march }
  | _ => s)

/-- The march ends with the failures found (address, bit, kind): repairs are applied and marched again; a bank left unrepaired is
retired, and otherwise the restore starts (R216, R218, R219, R221). -/
def execSelfTestMarchDone (bay bank : Nat) (fails : List (Nat × Nat × Nat)) (s : State) : Host.Outcome State Fault Refusal :=
  .next (match (s.bist bay bank).phase with
  | .march =>
    let r := s.repairAll bay bank fails
    let s := if bank < 68 then r.1 else s
    let codes := if bank < 68 then r.2 else []
    let entries := (fails.take 64).map fun f =>
      ({ kind := f.2.2, repair := codeAt codes (linePos f.1 f.2.1), bit := f.2.1, addr := f.1, time := s.now } : BistFail)
    let s := s.modBist bay bank fun b => { b with nfail := min fails.length 65535, fails := entries }
    if fails.isEmpty then
      if bank < 68 then s.modBist bay bank fun b => { b with phase := .restore, result := 0 } else s.endTest bay bank 0
    else if bank < 68 && codes.all fun c => c.2 != 5 then s.modBist bay bank fun b => { b with phase := .restore, result := 1 }
    else if bank < 68 then (s.retireBank bay bank).endTest bay bank 2
    else s.endTest bay bank 2
  | _ => s)

/-- The restore ends and accesses return to the bank (R216). -/
def execSelfTestRestoreDone (bay bank : Nat) (s : State) : Host.Outcome State Fault Refusal :=
  .next (match (s.bist bay bank).phase with
  | .restore => s.endTest bay bank (s.bist bay bank).result
  | _ => s)

/-! ### The Gleaner -/

/-- Count a corrected word in its bank; at CE_THRESH raise the event, and queue a self-test with AUTOTEST on (R215). -/
def State.countCorrected (s : State) (bay addr : Nat) : State :=
  let b := bankOf addr
  let n := tget (s.granary bay).ceCount b 0 + 1
  let s := s.modGranary bay fun g => { g with ceCount := tset g.ceCount b n, flipped := g.flipped.filter (· != wordOf addr),
                                              writeBack := g.writeBack.filter (· != wordOf addr) }
  if n = (s.granary bay).ceThresh then
    let s := s.raise 0x0702 [(1, bay), (1, b), (4, n)]
    if (s.granary bay).autotest then s.modGranary bay fun g => g.queueTest b else s
  else s

/-- The Gleaner ends a pass over every line: the single-bit errors it corrected and wrote back, and the uncorrectable words it found,
each with a mark that the zeroed word read back uncorrectable (R211, R213, R215). It runs on a bay that is neither DOWN nor Dormant
(R478). -/
def execGleanerPass (bay : Nat) (singles : List Nat) (doubles : List (Nat × Nat)) (s : State) : Host.Outcome State Fault Refusal :=
  .next (if (s.bay bay).bstate = .down || s.sys.dormant then s else
    let s := singles.foldl (fun s a => s.countCorrected bay a) s
    let s := doubles.foldl (fun s d => s.uncorrectable bay d.1 (d.2 = 1)) s
    let s := s.modGranary bay fun g => { g with ceCount := [], gleanStart := s.now, gleanStarved := false }
    s.nextAutotest bay)

/-- A pass is not complete within twice GLEAN_PERIOD: the glean-starved event (R211). -/
def execGleanStarved (bay : Nat) (s : State) : Host.Outcome State Fault Refusal :=
  .next (let g := s.granary bay
    if !g.gleanStarved && s.passed g.gleanStart (2 * g.gleanPeriod * 1000) && !s.sys.dormant && (s.bay bay).bstate ≠ .down then
      (s.modGranary bay fun g => { g with gleanStarved := true }).raise 0x0704 [(1, bay)]
    else s)

/-- The Gleaner writes a corrected word back, unless a write has reached the word since it was read (R207, R212). -/
def execCorrectedWriteback (bay addr : Nat) (s : State) : Host.Outcome State Fault Refusal :=
  .next (if wordOf addr ∈ (s.granary bay).writeBack then s.countCorrected bay addr else s)

/-- A word comes back from the other bay's copy: it holds the good data, and a ROM hand that waited for it is READY (R213). -/
def execPeerRestoreDone (bay addr : Nat) (s : State) : Host.Outcome State Fault Refusal :=
  .next (let a := wordOf addr
    if a ∈ (s.granary bay).waitRestore then
      let s := s.modGranary bay fun g => { g with waitRestore := g.waitRestore.filter (· != a) }
      if s.peerCopyGood bay a then
        s.modGranary bay fun g => g.fill a (memRead (s.granary (peer bay)).mem a 8)
      else match pageOwner ((s.granary bay).pageEntry a) with
        | 3 => s.resetBay bay
        | 5 => s
        | _ => s.journalLoss bay a
    else s)

/-- A code page is rewritten from the Loft: its poison clears, its cache lines are invalid in every core of the bay, and the hands
that waited fetch again (R192, R213). -/
def execCodeRewriteDone (bay page : Nat) (s : State) : Host.Outcome State Fault Refusal :=
  .next (if pageOwner (tget (s.granary bay).pageMap page 0) = 7 then
    let s := s.modGranary bay fun g => { g with poison := g.poison.filter fun a => pageOf a != page }
    let s := s.modBarn fun b => { b with icache := b.icache.map fun e =>
      if e.1 / 32 = bay then (e.1, e.2.filter fun l => pageOf (l * 64) != page) else e }
    s.modBarn fun b => { b with hands := b.hands.map fun e =>
      if e.1 / 4096 = bay && e.2.state = .wait && (match e.2.wait with | some (.icache l) => pageOf (l * 64) = page | _ => false) then
        (e.1, { e.2 with state := .ready, wait := none }) else e }
  else s)

/-! ### Commands of group 0x07 -/

/-- BIST_RUN's checks: BUSY while the bank is under test, or for a single-port bank while SPARE_G stands in (R217, R290). -/
def specBistRun (_h : CmdHdr) (bay bank : Nat) (s : State) : CmdSpec :=
  { opcode := 0x0700, plen := 2, params := [inRange (bay < 2) 0, exists' (bankExists bank) 1]
    states := [check (s.testFree bay bank && s.noTest bay) 0x0206] }

/-- BIST_RUN starts the self-test; its completion waits for the return (R216, R290). -/
def effBistRun (j : Nat) (bay bank : Nat) (s : State) : State :=
  if s.testFree bay bank && s.noTest bay && (s.bay bay).bstate ≠ .down then s.startTest bay bank j none else s.complete j 0x0504 []

/-- BIST_RUN (R216, R290). -/
def execBistRun (h : CmdHdr) (bay bank : Nat) (s : State) : Host.Outcome State Fault Refusal :=
  .next (s.submit (.bistRun h bay bank) h (specBistRun h bay bank s))

/-- The header and failure entries of the latest test of a bank (R218). -/
def State.bistBytes (s : State) (bay bank : Nat) : List Byte :=
  let b := s.bist bay bank
  wordsBytes ([pack [(56, 8, bank), (48, 8, b.result), (32, 16, b.nfail), (0, 32, b.duration)], BitVec.ofNat 64 b.time] ++
    b.fails.flatMap fun f => [pack [(56, 8, bank), (48, 8, f.kind), (45, 3, f.repair), (32, 8, f.bit), (0, 32, f.addr)], BitVec.ofNat 64 f.time])

/-- BIST_RESULT's checks. -/
def specBistResult (_h : CmdHdr) (bay bank buf : Nat) (_s : State) : CmdSpec :=
  { opcode := 0x0701, plen := 16, params := [inRange (bay < 2) 0, bufAligned buf, exists' (bankExists bank) 1] }

/-- BIST_RESULT writes 1,040 bytes: the header, then the entries (R218, R290). -/
def effBistResult (j : Nat) (bay bank buf : Nat) (s : State) : State :=
  let bs := s.bistBytes bay bank
  (s.bufferOut j buf (bs ++ List.replicate (1040 - bs.length) 0)).complete j 0 [(s.bist bay bank).fails.length]

/-- BIST_RESULT (R218, R290). -/
def execBistResult (h : CmdHdr) (bay bank buf : Nat) (s : State) : Host.Outcome State Fault Refusal :=
  .next (s.submit (.bistResult h bay bank buf) h (specBistResult h bay bank buf s))

/-- A soft repair of a bank at a position, not yet in the fuses (R220). -/
def softRepair (bay bank pos : Nat) (r : Repair) : Bool := r.bay = bay && r.bank = bank && r.pos = pos && !r.fused

/-- REPAIR_APPLY's checks (R219 to R221, R290). -/
def specRepairApply (_h : CmdHdr) (bay bank kind pos : Nat) (s : State) : CmdSpec :=
  { opcode := 0x0702, plen := 8
    params := [inRange (bay < 2) 0, inRange (1 ≤ kind && kind ≤ 3) 2,
      inRange (match kind with
        | 1 => decide (pos < (if bank < 64 then 6144 else 4096))
        | 2 => decide (pos < 576)
        | _ => decide (pos < 6144)) 4,
      exists' (bank < 68) 1, joint (kind != 3 || s.gran.repairs.any (softRepair bay bank pos)) 4]
    states := [check (kind = 3 || (s.testFree bay bank && s.noTest bay)) 0x0206]
    late := [check (if kind = 3 then decide (0 < s.fuseLeft bay) else if kind = 1 then decide (s.repairsOf bay bank false < 16)
      else decide (s.repairsOf bay bank true < 8)) 0x0301] }

/-- REPAIR_APPLY: a soft repair runs the copy, the repair and the restore of R216; a fuse repair is burnt by the keeper (R219, R220). -/
def effRepairApply (j : Nat) (bay bank kind pos : Nat) (s : State) : State :=
  if kind = 3 then s.modEntry j fun e => { e with stepsDue := 1 }
  else if s.testFree bay bank && s.noTest bay && (s.bay bay).bstate ≠ .down then s.startTest bay bank j (some (kind = 2, pos))
  else s.complete j 0x0504 []

/-- The keeper has burnt a fuse repair: the matching soft repair is permanent (R220). -/
def finishRepairApply (j : Nat) (bay bank pos : Nat) (s : State) : State :=
  let s := s.modGran fun g => { g with repairs := g.repairs.map fun r => if softRepair bay bank pos r then { r with fused := true } else r }
  s.complete j 0 [s.fuseLeft bay]

/-- REPAIR_APPLY (R219, R220, R290). -/
def execRepairApply (h : CmdHdr) (bay bank kind pos : Nat) (s : State) : Host.Outcome State Fault Refusal :=
  .next (s.submit (.repairApply h bay bank kind pos) h (specRepairApply h bay bank kind pos s))

/-- GRAN_STATUS's checks. -/
def specGranStatus (_h : CmdHdr) (bay first count buf : Nat) (_s : State) : CmdSpec :=
  { opcode := 0x0703, plen := 16
    params := [inRange (bay < 2) 0, inRange (first < pageCount) 4, inRange (1 ≤ count && count ≤ pageCount) 6, bufAligned buf,
      joint (first + count ≤ pageCount) 6] }

/-- GRAN_STATUS writes page map entries (R210, R290). -/
def effGranStatus (j : Nat) (bay first count buf : Nat) (s : State) : State :=
  (s.bufferOut j buf ((List.range count).flatMap fun i => leBytes 4 (tget (s.granary bay).pageMap (first + i) 0).toNat)).ok j

/-- GRAN_STATUS (R210, R290). -/
def execGranStatus (h : CmdHdr) (bay first count buf : Nat) (s : State) : Host.Outcome State Fault Refusal :=
  .next (s.submit (.granStatus h bay first count buf) h (specGranStatus h bay first count buf s))

/-- GRAN_CONFIG's checks: GLEAN_PERIOD 2 to 60 s, CE_THRESH 1 to 65,535, a switch (R222, R290). -/
def specGranConfig (_h : CmdHdr) (bay gleanPeriod ceThresh autotest : Nat) (_s : State) : CmdSpec :=
  { opcode := 0x0704, plen := 13
    params := [inRange (bay < 2 || bay = 0xFF) 0, inRange (2000000 ≤ gleanPeriod && gleanPeriod ≤ 60000000) 4,
      inRange (1 ≤ ceThresh && ceThresh ≤ 65535) 8, switchOk autotest 12] }

/-- GRAN_CONFIG sets the parameters of one bay or both (R222). -/
def effGranConfig (j : Nat) (bay gleanPeriod ceThresh autotest : Nat) (s : State) : State :=
  let set := fun (s : State) (b : Nat) => s.modGranary b fun g =>
    { g with gleanPeriod := gleanPeriod, ceThresh := ceThresh, autotest := autotest = 1 }
  (if bay = 0xFF then set (set s 0) 1 else set s bay).ok j

/-- GRAN_CONFIG (R222, R290). -/
def execGranConfig (h : CmdHdr) (bay gleanPeriod ceThresh autotest : Nat) (s : State) : Host.Outcome State Fault Refusal :=
  .next (s.submit (.granConfig h bay gleanPeriod ceThresh autotest) h (specGranConfig h bay gleanPeriod ceThresh autotest s))

end Sys2Proof.Machine
end

