-- ==== Sys2Proof/Machine/Window.lean ====
section
/-!
DEFINITION. The Porch as the host and the debug probe reach it through port B (R203 to R206, R270, R271), with the push control block of an
open window (R433) and the measurement page (R443); quotes, the life cycle, the debug port and the entropy source (R443 to R447).
-/
namespace Sys2Proof.Machine
open Sys2Proof

/-! ### The control block -/

/-- PW_STATE code (R433). -/
def PwState.code : PwState → Nat
  | .held => 0 | .opened => 1 | .pushing => 2 | .verifying => 3 | .released => 4 | .fallow => 5

/-- The words of the push control block (R433). -/
def Push.words (p : Push) : List Word64 :=
  [pack [(60, 4, p.state.code), (56, 4, p.agent), (52, 4, p.attempt), (48, 4, p.check)], 0] ++ bytesWords 6 (beBytes 48 p.wantHash) ++
  [pack [(32, 32, p.imgOff), (0, 32, p.len)], pack [(32, 32, p.crc.toNat), (0, 1, p.half)], 0, pack [(32, 32, p.doneTo), (0, 8, p.xstat)],
   pack [(32, 32, p.imgLen)]]

/-- The host writes one half of a control word: CLAIM, or, for the claimant, IMG_OFF, LEN, CRC, HALF, GO, RELEASE and IMG_LEN (R433,
R435). -/
def State.controlWrite (s : State) (bay w : Nat) (high : Bool) (v : Nat) : State :=
  let p := s.push bay
  if w = 1 then (if !high && v.testBit 0 then s.claimWindow bay 2 else s)
  else if p.state ≠ .pushing || p.agent ≠ 2 then s
  else match w, high with
    | 8, true => s.modPush bay fun p => { p with imgOff := v }
    | 8, false => s.modPush bay fun p => { p with len := v }
    | 9, true => s.modPush bay fun p => { p with crc := BitVec.ofNat 32 v }
    | 9, false => s.modPush bay fun p => { p with half := v % 2 }
    | 10, false =>
      let s := if v.testBit 0 then s.goCopy bay 2 else s
      if v.testBit 1 then s.releaseWindow bay 2 else s
    | 12, true => s.modPush bay fun p => { p with imgLen := v }
    | _, _ => s

/-- A host access to the control block at a byte offset in it. -/
def State.controlAccess (s : State) (endpoint : Nat) (write : Bool) (off size : Nat) (value : Word64) : State :=
  if write then
    let lo := value.toNat % 2 ^ 32
    if size = 8 then (s.controlWrite endpoint (off / 8) true (value.toNat / 2 ^ 32)).controlWrite endpoint (off / 8) false lo
    else s.controlWrite endpoint (off / 8) (off % 8 = 4) lo
  else s.windowAnswer endpoint false (BitVec.ofNat 64 (ofLeBytes ((((wordsBytes (s.push endpoint).words).drop off ++ List.replicate 8 0).take size))))

/-! ### The host direct window -/

/-- A host write to the measurement page lands only on NONCE and QREQ; the rest is kept current by the bay (R443, DEDUCED). -/
def measureWritable (off : Nat) : Bool := (0x180 ≤ off && off < 0x1B0) || (0x1D8 ≤ off && off < 0x1E0)

/-- A host access to the Porch window: misformed ones are denied; before the measurement page is placed the control block answers at the last
page and, while the push window is open, the whole Porch is mapped with no page map; afterwards host pages alone (R203, R270, R271,
R433, R443). -/
def execHostWindowAccess (endpoint : Nat) (write : Bool) (offset size : Nat) (value : BitVec 64) (ecc : Ecc) (collide : Bool)
    (s : State) : Host.Outcome State Fault Refusal :=
  .next (if !s.hostReaches endpoint then s
  else if (size ≠ 4 && size ≠ 8) || offset % size ≠ 0 || 0x100000 ≤ offset then s.windowDeny endpoint write offset size
  else if (s.bay endpoint).releasedAt.isNone then
    if 0xFF000 ≤ offset then s.controlAccess endpoint write (offset - 0xFF000) size value
    else if !(s.push endpoint).isOpen then s.windowDeny endpoint write offset size
    else if 0xFE000 ≤ offset then s.windowAnswer endpoint write 0
    else s.windowAccess endpoint write offset size value ecc collide
  else if pageOwner ((s.granary endpoint).pageEntry (0x02000000 + offset)) ≠ 9 then s.windowDeny endpoint write offset size
  else if write && 0xFF000 ≤ offset && !measureWritable (offset - 0xFF000) then s
  else s.windowAccess endpoint write offset size value ecc collide)

/-! ### Quotes -/

/-- A draw from the entropy source (R447). -/
def State.drawEntropy (s : State) (n : Nat) : Nat × State :=
  (ofBeBytes ((List.range n).map fun i => Config.entropyByte s.boot.entropy.draws i), s.modEntropy fun e => { e with draws := e.draws + 1 })

/-- Every 1 ms a ROM hand checks QREQ: a new value has the page signed, with its QTIME, under the attestation key; it waits while entropy is
not ready (R443, R447). -/
def execQuoteRequestPoll (bay : Nat) (s : State) : Host.Outcome State Fault Refusal :=
  .next (let m := s.measure bay
  let due := match m.pollTime with | some t => s.passed t 1000000 | none => true
  if (s.bay bay).releasedAt.isNone || !(s.bay bay).alive || s.sys.dormant || !due then s
  else
    let s := (s.modMeasure bay fun m => { m with pollTime := some s.now }).showMeasures bay
    let q := s.qreq bay
    if q = m.qreqSeen || !s.boot.entropy.ready || s.boot.fuse.erased then s
    else
      let s := (s.drawEntropy 48).2
      let s := (s.modMeasure bay fun m => { m with qreqSeen := q, qtime := s.devNow }).showMeasures bay
      let sig := Config.ecdsaSign (memRead (s.granary bay).mem controlBase 0x1E0)
      (s.modMeasure bay fun m => { m with quote := sig.toNat }).showMeasures bay)

/-! ### Life cycle -/

/-- The key that signs the request to enter a life-cycle state from another, KEYID 0 vendor or 1 owner; none where the step does not exist
(R444). -/
def stepKey (from' to_ : Nat) : Option Nat :=
  match from', to_ with
  | 0, 1 => some 0
  | 1, 2 => some 0
  | 2, 3 => some 1
  | 1, 4 => some 0
  | 2, 4 => some 1
  | 3, 4 => some 1
  | _, _ => none

/-- What a life-cycle request is signed over: the state and the SERIAL (R444). -/
def requestHash (state serial : Nat) : Nat := hashOf (BitVec.ofNat 8 state :: leBytes 8 serial)

/-- The request is good: the step exists, the key is the one it names and its signature verifies, SERIAL is the device's, and the hold-up store
is at 80 % or more (R444). -/
def State.stepAllowed (s : State) (state serial key sig : Nat) : Bool :=
  stepKey s.boot.fuse.lifeCycle state = some key && serial = s.fab.fab.serial && 80 ≤ s.sys.holdup &&
  s.storedKeyHash false key = s.keyHash false key &&
  Config.ecdsaVerify (BitVec.ofNat 384 (s.keyHash false key)) (BitVec.ofNat 384 (requestHash state serial)) (beBytes 96 sig)

/-- A life-cycle request through the debug port: the step is made or refused, and one result byte answers, 0 made, 1 refused (R444; the values
are a DESIGN CHOICE). Entering OWNED fuses the owner key hashes; entering RETIRED erases the key hashes and the device secret. -/
def execLifeCycleRequest (state serial key sig : Nat) (s : State) : Host.Outcome State Fault Refusal :=
  .next (if s.stepAllowed state serial key sig then
    let s := s.modFuse fun f => { f with
      lifeCycle := state
      lastResult := 0
      erased := f.erased || state = 4
      keyHashes := if state = 4 then [] else if state = 2 then
        tset (tset f.keyHashes 2 (tget s.loft.upd.ownerKeys 0 0)) 3 (tget s.loft.upd.ownerKeys 1 0) else f.keyHashes }
    ((s.showMeasures 0).showMeasures 1).emit (.debugData 0 0)
  else (s.modFuse fun f => { f with lastResult := 1 }).emit (.debugData 0 1))

/-! ### The debug port -/

/-- The challenge is drawn and shown to the probe (R445). -/
def State.giveChallenge (s : State) (bay : Nat) : State :=
  let d := s.drawEntropy 48
  let s := d.2.modMeasure bay fun m => { m with challenge := some d.1, challengeDue := false }
  (bytesWords 6 (beBytes 48 d.1)).foldl (fun s w => s.emit (.debugData bay w)) s

/-- The probe asks for a challenge, or answers it with a signature under the owner image key over the challenge and SERIAL, which opens the
access point until the bay's next reset (R445, R447). -/
def execDebugAuthentication (bay : Nat) (sig : Option Nat) (s : State) : Host.Outcome State Fault Refusal :=
  .next (if (s.measure bay).dbg ≠ 1 then s
  else match sig with
    | none => if s.boot.entropy.ready then s.giveChallenge bay else s.modMeasure bay fun m => { m with challengeDue := true }
    | some x => match (s.measure bay).challenge with
      | some c =>
        if s.signedBy false 1 (hashOf (beBytes 48 c ++ leBytes 8 s.fab.fab.serial)) (beBytes 96 x) then
          (s.modMeasure bay fun m => { m with dbg := 2, challenge := none }).showMeasures bay
        else s
      | none => s)

/-- A debug read through port B returns data to the probe. -/
def State.debugAnswer (s : State) (bay : Nat) (v : Word64) : State :=
  (s.modMeasure bay fun m => { m with dbgData := v }).emit (.debugData bay v)

/-- DBG_BUSY rises (R205). -/
def State.raiseDbgBusy (s : State) (bay : Nat) : State := s.modGranary bay fun g => { g with dbgBusy := true }

/-- A debug read of one Porch word: undefined on a collision, all ones on poison, both with DBG_BUSY (R204, R205, R207, R209). -/
def State.debugRead (s : State) (bay offset : Nat) (ecc : Ecc) (collide : Bool) : State :=
  let a := 0x02000000 + offset
  if collide then
    let d := s.drawFree
    (d.2.raiseDbgBusy bay).debugAnswer bay d.1
  else
    let s := s.checkWord bay a ecc
    if (s.granary bay).poisoned a then (s.raiseDbgBusy bay).debugAnswer bay (allOnes 8)
    else s.debugAnswer bay (BitVec.ofNat 64 ((s.granary bay).load a 8))

/-- An open access point reads or writes one 64-bit word of the Porch at an offset, halts or resumes a hand, lets a halted hand issue one
instruction, or shows one of its registers, 16 for the program counter (R203 to R205, R445). -/
def execDebugAccess (bay : Nat) (act : DebugAct) (ecc : Ecc) (collide : Bool) (s : State) : Host.Outcome State Fault Refusal :=
  .next (let m := s.measure bay
  let drop (l : List (Nat × Option Word32)) (h : Nat) := l.filter fun e => e.1 != h
  if m.dbg ≠ 0 && m.dbg ≠ 2 then s
  else match act with
    | .readWord off => if off % 8 ≠ 0 || 0x100000 ≤ off then s else s.debugRead bay off ecc collide
    | .writeWord off v =>
      if off % 8 ≠ 0 || 0x100000 ≤ off then s
      else if collide then s.raiseDbgBusy bay
      else s.modGranary bay fun g => g.store (0x02000000 + off) (leBytes 8 v.toNat)
    | .halt h => s.modMeasure bay fun m => { m with haltedHands := drop m.haltedHands h ++ [(h, none)] }
    | .resume h => s.modMeasure bay fun m => { m with haltedHands := drop m.haltedHands h }
    | .step h =>
      if m.haltedHands.any fun e => e.1 = h then
        s.modMeasure bay fun m => { m with haltedHands := drop m.haltedHands h ++ [(h, some (s.hand bay h).pc)] }
      else s
    | .inspect h r => s.debugAnswer bay ((if r = 16 then (s.hand bay h).pc else (s.hand bay h).reg r).setWidth 64))

/-! ### Entropy -/

/-- 512 tested bits are in: the generator is seeded, requests are served, and challenges that waited are drawn (R445, R447). -/
def execEntropyReady (s : State) : Host.Outcome State Fault Refusal :=
  .next (if s.boot.entropy.ready || !s.sys.suppliesValid then s
  else
    let s := s.modEntropy fun e => { e with ready := true, reseeds := e.reseeds + 1, reseedTime := s.now }
    forUpTo 2 (fun s b => if (s.measure b).challengeDue && (s.measure b).dbg = 1 then s.giveChallenge b else s) s)

/-- Every 1 s the generator is reseeded from fresh conditioned noise (R447). -/
def execDrbgReseed (s : State) : Host.Outcome State Fault Refusal :=
  .next (if s.boot.entropy.ready && s.passed s.boot.entropy.reseedTime 1000000000 then
    s.modEntropy fun e => { e with reseeds := e.reseeds + 1, reseedTime := s.now }
  else s)

/-- A health test fails: requests answer NOT_READY until 512 fresh bits have passed, and ENT_FAIL rises (R447). -/
def execEntropyHealthFail (s : State) : Host.Outcome State Fault Refusal :=
  .next (if !s.sys.suppliesValid then s
  else (((s.modEntropy fun e => { e with ready := false, failCount := satAdd 32 e.failCount 1 }).showMeasures 0).showMeasures 1))

end Sys2Proof.Machine
end

