-- ==== Sys2Proof/Machine/Update.lean ====
section
/-!
DEFINITION. Field update (R448 to R460, R465), the calibration set (R466 to R468), and their commands of opcode groups 0x09 and 0x0C (R291,
R292).
-/
namespace Sys2Proof.Machine
open Sys2Proof

/-! ### Slots and sessions -/

/-- The slots of a kind: 0 field images, 1 accelerator firmware (R448). -/
def slotsOfKind (kind : Nat) : List Nat := if kind = 0 then [0, 1] else [2, 3]

/-- Size of a slot of a kind (R448, R452). -/
def slotSize (kind : Nat) : Nat := if kind = 0 then imageMax else 33554432

/-- The kind of a slot. -/
def kindOf (slot : Nat) : Nat := slot / 2

/-- The first slot of a kind in one of some states. -/
def State.slotIn (s : State) (kind : Nat) (states : List Nat) : Option Nat := (slotsOfKind kind).find? fun n => (s.slot n).state ∈ states

/-- The slot UPD_BEGIN takes: the lowest of its kind that is EMPTY, PREVIOUS or REFUSED (R452). -/
def State.freeSlot (s : State) (kind : Nat) : Option Nat := s.slotIn kind [0, 6, 7]

/-- An image of a kind is sketched or underpainted (R291). -/
def State.updating (s : State) (kind : Nat) : Bool := (s.slotIn kind [1, 2, 3, 4]).isSome

/-- The bay of a Fallow ring, or the owner. -/
def State.ringBay (s : State) (ring : Nat) : Nat := if 0x10000 ≤ ring then ring / 0x10000 - 1 else s.serving.getD 0

/-- A session opens: the slot is SKETCHED with its length and an empty page bitmap (R452, R463). -/
def State.openSession (s : State) (kind slot len bay : Nat) : State :=
  let s := (s.setSlot slot 1).modSlot slot fun _ => { state := 1, len := len }
  s.modUpd fun u => { u with
    session0 := if kind = 0 then some slot else u.session0, session1 := if kind = 0 then u.session1 else some slot, sessionBay := bay, latestKind := kind
    pushSession := u.pushSession && kind ≠ 0 }

/-- A session closes. -/
def State.closeSession (s : State) (slot : Nat) : State :=
  s.modUpd fun u => { u with
    session0 := if u.session0 = some slot then none else u.session0, session1 := if u.session1 = some slot then none else u.session1 }

/-- The slot of the session that a ring's UPD_BLOCK and UPD_COMMIT act on: the kind of the latest UPD_BEGIN; in Fallow mode a session belongs
to the bay that opened it (R452, R463). -/
def State.sessionSlot (s : State) (ring : Nat) : Option Nat :=
  let u := s.loft.upd
  if 0x10000 ≤ ring && u.sessionBay ≠ s.ringBay ring then none
  else if u.latestKind = 0 then u.session0 else u.session1

/-- Bytes are written into a slot page by page; the pages they fill or end are received (R453). -/
def Slot.write (x : Slot) (off : Nat) (bs : List Byte) : Slot :=
  let first := off / 4096
  let n := (off + bs.length + 4095) / 4096 - first
  { x with data := forUpTo n (fun d i =>
      let base := (first + i) * 4096
      tset d (first + i) ((List.range 4096).map fun k =>
        if off ≤ base + k && base + k < off + bs.length then bs.getD (base + k - off) 0 else (tget d (first + i) []).getD k 0)) x.data }

/-- Pages are received (R453). -/
def Slot.mark (x : Slot) (page n : Nat) : Slot := { x with pages := forUpTo n (fun l i => insertAddr (page + i) l) x.pages }

/-- Every page below LEN has been received (R454). -/
def Slot.complete (x : Slot) : Bool := (List.range ((x.len + 4095) / 4096)).all fun p => p ∈ x.pages

/-- JLEVEL and JLEVEL_MIN of an image (R450). -/
def Slot.levels (x : Slot) : Nat × Nat := (ofLeBytes (x.bytesAt 0x016 2), ofLeBytes (x.bytesAt 0x018 2))

/-- Two images can run beside each other: the JLEVEL of each lies within the other's range (R454). -/
def beside (a b : Nat × Nat) : Bool := b.2 ≤ a.1 && a.1 ≤ b.1 && a.2 ≤ b.1 && b.1 ≤ a.1

/-- A field image may be committed: MAGIC is right and it can run beside the varnished image (R454). -/
def State.canStand (s : State) (slot : Nat) : Bool :=
  let x := s.slot slot
  ofLeBytes (x.bytesAt 0 4) = 0xF1E1D001 && (match s.slotV with | some v => beside x.levels (s.slot v).levels | none => true)

/-- The slot becomes UNDERPAINTED with its hash and epoch, and the session closes; flagged when committed in Fallow mode (R454, R465). -/
def State.commitSlot (s : State) (slot hash : Nat) (fallow : Bool) : State :=
  ((s.setSlot slot 2).modSlot slot fun x => { x with
    hash := hash, epoch := if kindOf slot = 0 then ((x.bytesAt 0xC 1).getD 0 0).toNat else 0, fallowFlag := fallow && kindOf slot = 0 }).closeSession slot

/-- The owner sheds a REFUSED image: the standby that runs it is reset; where the owner itself runs it and the peer stands by, it hands over and
then resets; otherwise it runs on (R457). -/
def State.shedRefused (s : State) : State :=
  let refused (b : Nat) : Bool := match (s.bay b).runsSlot with | some n => n < 2 && (s.slot n).state = 7 | none => false
  match s.serving with
  | some o =>
    let p := peer o
    if (s.bay p).bstate = .standby then
      if refused p then s.resetBay p
      else if refused o then s.startHandover 0 (some o) else s
    else s
  | none => s

/-- A bay released on U has not become STANDBY or OWNER within 10 s: U is refused (R457). -/
def execStandbyLimitExpiry (bay : Nat) (s : State) : Host.Outcome State Fault Refusal :=
  .next (let b := s.bay bay
  match b.releasedAt, b.runsSlot with
  | some t, some n =>
    if s.slotU = some n && s.passed t 10000000000 && b.bstate ≠ .standby && b.bstate ≠ .owner then (s.refuseSlot n bay 0).shedRefused else s
  | _, _ => s)

/-! ### The update commands -/

/-- UPD_BEGIN's checks: LEN up to the slot size; BUSY while an image of that kind is sketched or underpainted, or a fabric push brings one in
(R291, R452, R463). -/
def specUpdBegin (_h : CmdHdr) (kind len : Nat) (s : State) : CmdSpec :=
  let pushing := kind = 0 && s.fab.fab.offerTaken.isSome && (match s.fab.fab.pushReqBay with | some b => decide ((s.bay b).bstate = .fallow) | none => false)
  { opcode := 0x0900, plen := 8, params := [inRange (kind < 2) 0, inRange (len ≤ slotSize kind) 4]
    states := [check (!(s.updating kind || pushing)) 0x0206]
    late := [check (s.freeSlot kind).isSome 0x0301] }

/-- UPD_BEGIN opens a session and returns its slot (R452). -/
def effUpdBegin (j : Nat) (h : CmdHdr) (kind len : Nat) (s : State) : State :=
  match (if s.updating kind then none else s.freeSlot kind) with
  | some n => (s.openSession kind n len (s.ringBay h.ring)).complete j 0 [n]
  | none => s.complete j 0x0504 []

/-- UPD_BEGIN (R291, R452). -/
def execUpdBegin (h : CmdHdr) (kind len : Nat) (s : State) : Host.Outcome State Fault Refusal :=
  .next (s.submit (.updBegin h kind len) h (specUpdBegin h kind len s))

/-- UPD_BLOCK's checks: whole pages within LEN, a session, and the block's CRC-32C (R291, R453). -/
def specUpdBlock (h : CmdHdr) (offset blen buf : Nat) (crc : BitVec 32) (s : State) : CmdSpec :=
  let n := s.sessionSlot h.ring
  let len := match n with | some n => (s.slot n).len | none => 0
  { opcode := 0x0901, plen := 20
    params := [inRange (offset % 4096 = 0 && (n.isNone || offset + blen ≤ len)) 0,
      check (4096 ≤ blen && blen ≤ 1048576 && blen % 4096 = 0) 0x0102, bufAligned buf]
    states := [rightState n.isSome 0]
    late := [bufRead h, joint (crc32c ((h.buf.getD []).take blen) = crc) 16] }

/-- UPD_BLOCK is one keeper step (R238, R453). -/
def effUpdBlock (j : Nat) (h : CmdHdr) (s : State) : State :=
  match s.sessionSlot h.ring with
  | some _ => s.modEntry j fun e => { e with stepsDue := 1 }
  | none => s.complete j 0x0504 []

/-- The block is in the slot and its pages are received (R453). -/
def finishUpdBlock (j : Nat) (h : CmdHdr) (offset blen : Nat) (s : State) : State :=
  match s.sessionSlot h.ring with
  | some n => (s.modSlot n fun x => (x.write offset ((h.buf.getD []).take blen)).mark (offset / 4096) (blen / 4096)).ok j
  | none => s.complete j 0x0504 []

/-- UPD_BLOCK (R453). -/
def execUpdBlock (h : CmdHdr) (offset blen buf : Nat) (crc : BitVec 32) (s : State) : Host.Outcome State Fault Refusal :=
  .next (s.submit (.updBlock h offset blen buf crc) h (specUpdBlock h offset blen buf crc s))

/-- UPD_COMMIT's checks: a session, every page received, and an image that could run beside the varnished one; an image whose hash differs is
judged when the command takes effect (R291, R454). -/
def specUpdCommit (h : CmdHdr) (hash : Nat) (s : State) : CmdSpec :=
  let n := s.sessionSlot h.ring
  let x := s.slot (n.getD 0)
  { opcode := 0x0902, plen := 48
    params := [joint (n.isNone || (x.complete && (kindOf (n.getD 0) ≠ 0 || hashOf x.bytes ≠ hash || s.canStand (n.getD 0)))) 0]
    states := [rightState n.isSome 0] }

/-- UPD_COMMIT: the slot is read back; a differing hash ends the command with HASH_MISMATCH and leaves it SKETCHED (R454, R465). -/
def effUpdCommit (j : Nat) (h : CmdHdr) (hash : Nat) (s : State) : State :=
  match s.sessionSlot h.ring with
  | none => s.complete j 0x0504 []
  | some n =>
    let x := s.slot n
    if !x.complete then s.complete j 0x0504 []
    else if hashOf x.bytes ≠ hash then s.complete j 0x0403 []
    else if kindOf n = 0 && !s.canStand n then s.complete j 0x0504 []
    else (s.commitSlot n hash (decide (0x10000 ≤ h.ring))).complete j 0 [n]

/-- UPD_COMMIT (R454). -/
def execUpdCommit (h : CmdHdr) (hash : Nat) (s : State) : Host.Outcome State Fault Refusal :=
  .next (s.submit (.updCommit h hash) h (specUpdCommit h hash s))

/-- The slot that UPD_CONFIRM varnishes: state 0x4 for a field image, 0x3 for firmware (R458, R460). -/
def State.confirmable (s : State) (kind : Nat) : Option Nat := if kind = 0 then s.slotIn 0 [4] else s.slotIn 1 [3]

/-- Code of the slot whose state keeps UPD_CONFIRM or UPD_ABORT from acting: the image under way, if any. -/
def State.kindCode (s : State) (kind : Nat) : Nat := match s.slotIn kind [1, 2, 3, 4, 7] with | some n => (s.slot n).state | none => 0

/-- UPD_CONFIRM's checks (R291, R458, R460). -/
def specUpdConfirm (_h : CmdHdr) (kind : Nat) (s : State) : CmdSpec :=
  { opcode := 0x0903, plen := 1, params := [inRange (kind < 2) 0], states := [rightState (s.confirmable kind).isSome (s.kindCode kind)] }

/-- A slot is VARNISHED and the former one PREVIOUS; settings copy X takes the new format (R458, R459, R465). -/
def State.varnish (s : State) (slot : Nat) : State :=
  let s := (slotsOfKind (kindOf slot)).foldl (fun s n =>
    if n = slot then s else match (s.slot n).state with
      | 5 => s.setSlot n 6
      | _ => s) s
  let s := (s.setSlot slot 5).modSlot slot fun x => { x with fallowFlag := false }
  if kindOf slot = 0 then s.modUpd fun u => { u with settingsX := (s.slot slot).sfmt, settingsY := (s.slot slot).sfmt } else s

/-- UPD_CONFIRM: firmware is varnished at once; a field image after the fuse counter has reached its EPOCH (R446, R458, R460). -/
def effUpdConfirm (j kind : Nat) (s : State) : State :=
  match s.confirmable kind with
  | none => s.complete j 0x0504 []
  | some n =>
    if kind = 0 && s.boot.fuse.counter < (s.slot n).epoch then
      s.modFuse fun f => { f with burnTo := min 128 (s.slot n).epoch, burnJseq := j, burnSlot := some n }
    else (s.varnish n).ok j

/-- UPD_CONFIRM (R458). -/
def execUpdConfirm (h : CmdHdr) (kind : Nat) (s : State) : Host.Outcome State Fault Refusal :=
  .next (s.submit (.updConfirm h kind) h (specUpdConfirm h kind s))

/-- The keeper raises the fuse counter by one step; at the image's epoch the slot is varnished and UPD_CONFIRM completes. A burn that a loss of
supplies cut short goes on once TRIM_VALID stands (R446, R458). -/
def execFuseCounterBurn (s : State) : Host.Outcome State Fault Refusal :=
  .next (let f := s.boot.fuse
  if !s.sys.trimValid || f.burnTo ≤ f.counter then s
  else
    let s := ((s.modFuse fun f => { f with counter := f.counter + 1 }).showMeasures 0).showMeasures 1
    if f.counter + 1 < f.burnTo then s
    else
      let s := match f.burnSlot with | some n => s.varnish n | none => s
      let s := s.modFuse fun f => { f with burnSlot := none, burnJseq := 0 }
      s.completeIf f.burnJseq 0 [])

/-- UPD_LOCK's checks (R291). -/
def specUpdLock (_h : CmdHdr) (lock : Nat) (_s : State) : CmdSpec := { opcode := 0x0904, plen := 1, params := [switchOk lock 0] }

/-- UPD_LOCK sets or clears the update lock (R455). -/
def effUpdLock (j lock : Nat) (s : State) : State := (s.modUpd fun u => { u with lock := lock = 1 }).ok j

/-- UPD_LOCK (R455). -/
def execUpdLock (h : CmdHdr) (lock : Nat) (s : State) : Host.Outcome State Fault Refusal :=
  .next (s.submit (.updLock h lock) h (specUpdLock h lock s))

/-- The slot that UPD_ABORT discards: a sketched or underpainted image, else a REFUSED one (R454); none while a bay has booted it. -/
def State.abortable (s : State) (kind : Nat) : Option Nat :=
  if (s.slotIn kind [3, 4]).isSome then none
  else match s.slotIn kind [1, 2] with
    | some n => some n
    | none => s.slotIn kind [7]

/-- UPD_ABORT's checks (R291, R454). -/
def specUpdAbort (_h : CmdHdr) (kind : Nat) (s : State) : CmdSpec :=
  { opcode := 0x0905, plen := 1, params := [inRange (kind < 2) 0], states := [rightState (s.abortable kind).isSome (s.kindCode kind)] }

/-- UPD_ABORT: the slot is EMPTY and its session closed (R454). -/
def effUpdAbort (j kind : Nat) (s : State) : State :=
  match s.abortable kind with
  | some n => (((s.setSlot n 0).modSlot n fun _ => {}).closeSession n).ok j
  | none => s.complete j 0x0504 []

/-- UPD_ABORT (R454). -/
def execUpdAbort (h : CmdHdr) (kind : Nat) (s : State) : Host.Outcome State Fault Refusal :=
  .next (s.submit (.updAbort h kind) h (specUpdAbort h kind s))

/-- UPD_STATUS's checks (R291). -/
def specUpdStatus (_h : CmdHdr) (_s : State) : CmdSpec := { opcode := 0x0906, plen := 0 }

/-- UPD_STATUS: slot states, pages received in the open session, fuse counter (R291, R449). -/
def effUpdStatus (j : Nat) (h : CmdHdr) (s : State) : State :=
  let got := match s.sessionSlot h.ring with | some n => (s.slot n).pages.length | none => 0
  s.complete j 0 [(List.range 4).foldl (fun a n => a + (s.slot n).state * 2 ^ (4 * n)) 0, got, s.boot.fuse.counter]

/-- UPD_STATUS (R449). -/
def execUpdStatus (h : CmdHdr) (s : State) : Host.Outcome State Fault Refusal := .next (s.submit (.updStatus h) h (specUpdStatus h s))

/-! ### Movement -/

/-- Every 10 ms the owner reads the accelerometer that the calibration set names: a magnitude more than 0.3 g from 1 g is movement (R455). -/
def execAccelerometerRead (deviationMg : Nat) (s : State) : Host.Outcome State Fault Refusal :=
  .next (let u := s.loft.upd
  let due := match u.accelTime with | some t => s.passed t 10000000 | none => true
  if s.serving.isNone || u.accel.isNone || !due then s
  else s.modUpd fun u => { u with accelTime := some s.now, moveTime := if 300 < deviationMg then some s.now else u.moveTime })

/-! ### The calibration set -/

/-- Bytes of the calibration set (R448). -/
def calSize : Nat := 0x20000

/-- CRC-32C over the set, as a CAL_READ shows it (R466, R467). -/
def State.calCrc (s : State) : Word32 := crc32c (memRead s.loft.die.cal 0x40 (calSize - 0x40))

/-- A byte of the set: the header holds MAGIC first; where the manual places no field its byte is free (R466). -/
def State.calByte (s : State) (a : Nat) : Byte :=
  if a < 4 then (leBytes 4 0xCA1B5E70).getD a 0
  else if a < 0x40 then Config.calHeaderByte s.loft.die.calUser s.loft.die.calWrites s.calCrc a
  else memGet s.loft.die.cal a

/-- CAL_READ's checks: a range within the set (R291, R467). -/
def specCalRead (_h : CmdHdr) (offset len buf : Nat) (_s : State) : CmdSpec :=
  { opcode := 0x0C00, plen := 16, params := [inRange (offset ≤ calSize) 0, inRange (offset + len ≤ calSize) 4, bufAligned buf] }

/-- CAL_READ copies a range of the set into the buffer (R467). -/
def effCalRead (j offset len buf : Nat) (s : State) : State := (s.bufferOut j buf ((List.range len).map fun i => s.calByte (offset + i))).ok j

/-- CAL_READ (R467). -/
def execCalRead (h : CmdHdr) (offset len buf : Nat) (s : State) : Host.Outcome State Fault Refusal :=
  .next (s.submit (.calRead h offset len buf) h (specCalRead h offset len buf s))

/-- The 512 bytes of a slot's part of the set (R466). -/
def slotPart (cal : List Host.Cell) (slot : Nat) : List Byte := memRead cal (0x1000 + 512 * slot) 512

/-- The operating-point table that a slot's part holds: 32 words of R81, whose place in the part the manual does not give (R81, R466). -/
def calTable (cal : List Host.Cell) (slot : Nat) : List OpPoint :=
  (List.range 32).map fun p =>
    let w := Config.calValue 0x1000 (32 + p) (slotPart cal slot)
    { vTable := field w 48 16, fTable := field w 32 16, gbFact := field w 24 8, valid := w.testBit 0 }

/-- Two ranges meet. -/
def meets (a n b m : Nat) : Bool := a < b + m && b < a + n

/-- The set with a range written. -/
def State.calWith (s : State) (offset len : Nat) (h : CmdHdr) : List Host.Cell := memWrite s.loft.die.cal offset ((h.buf.getD []).take len)

/-- No slot's operating-point table that a write reaches would break its order (R81). -/
def State.calKeepsOrder (s : State) (offset len : Nat) (h : CmdHdr) : Bool :=
  (List.range 8).all fun n =>
    !meets offset len (0x1000 + 512 * n) 512 || opOrdered ((calTable (s.calWith offset len h) n).takeWhile (·.valid))

/-- CAL_WRITE's checks: NOT_PERMITTED without CONFIRM_LOSS, a range above the header, and no table broken (R81, R291, R292, R467). -/
def specCalWrite (h : CmdHdr) (offset len buf : Nat) (s : State) : CmdSpec :=
  { opcode := 0x0C01, plen := 16, optMask := 1
    params := [inRange (0x40 ≤ offset) 0, inRange (offset + len ≤ calSize) 4, bufAligned buf]
    late := [check (h.opt.getLsbD 0) 0x0402, bufRead h, joint (s.calKeepsOrder offset len h) 8] }

/-- CAL_WRITE is one keeper step (R238, R467). -/
def effCalWrite (j : Nat) (s : State) : State := s.modEntry j fun e => { e with stepsDue := 1 }

/-- A signed 32-bit value of the set as Q16.16. -/
def q16 (v : Nat) : Rat := (signed 32 v : Rat) / 65536

/-- The values of a slot's part take effect; a PFLOOR of a command stands before it (R466, R467). -/
def State.takeSlotCal (s : State) (slot : Nat) : State :=
  let v (i : Nat) : Nat := Config.calValue 0x1000 i (slotPart s.loft.die.cal slot)
  let s := s.modCalSlot slot fun _ => {
    pMax := v 0
    vRef := q16 (v 2)
    tRef := q16 (v 3)
    gStart := q16 (v 4)
    oStart := q16 (v 5)
    marginPort := if v 6 = 0 then none else some (v 7, v 8)
    opTable := calTable s.loft.die.cal slot }
  if (s.govParam slot).pfloorSet then s else s.modGovParam slot fun p => { p with pfloor := v 1 }

/-- The linear weights of a slot's part: 2,048 weights, s0, sV, sT as Q16.16 codes; those of GOV_LOAD_WEIGHTS stand before them (R48, R466). -/
def State.takeLinearCal (s : State) (slot : Nat) : State :=
  let code (i : Nat) : Int := signed 32 (ofLeBytes (memRead s.loft.die.cal (0x2000 + 0x2400 * slot + 4 * i) 4))
  if (s.govParam slot).linearSet then s
  else s.modGovParam slot fun p => { p with weights := (List.range 2048).map code, s0 := code 2048, sV := code 2049, sT := code 2050 }

/-- Cooling values of the set: PPR and pump frequency, current monitors and their limits, K factors (R466). -/
def State.takeCoolCal (s : State) : State :=
  let v (i : Nat) : Nat := Config.calValue 0x600 i (memRead s.loft.die.cal 0x600 0x200)
  let s := forUpTo 20 (fun s c => s.modDrive c fun d => { d with
    ppr := v (8 * c) % 16, pwmKhz := v (8 * c + 1)
    monitor := if v (8 * c + 2) = 0 then none else some (v (8 * c + 3), v (8 * c + 4), v (8 * c + 5))
    iLock := some (v (8 * c + 6)), iOpen := some (v (8 * c + 7)) }) s
  forUpTo 4 (fun s i => s.modInput (0x1C + i) fun x => { x with kFactor := v (256 + i) }) s

/-- Inrush values of the set, for every power channel (R385, R466). -/
def State.takeInrushCal (s : State) : State :=
  let v (i : Nat) : Nat := Config.calValue 0xA00 i (memRead s.loft.die.cal 0xA00 0x400)
  forUpTo 10 (fun s i => s.modChan (0x2A + i) fun c => { c with inrushSlew := v (4 * i + 1), inrushLimit := v (4 * i + 2), inrushTimeout := v (4 * i + 3) }) s

/-- The accelerometer that the set names: port, address, kind (R455, R466). -/
def State.takeAccelCal (s : State) : State :=
  let v (i : Nat) : Nat := Config.calValue 0xE00 i (memRead s.loft.die.cal 0xE00 0x200)
  s.modUpd fun u => { u with accel := if v 0 = 0 then none else some (v 1, v 2, v 3) }

/-- The Loft holds the write: USER is set for good, the event is raised, and the values written take effect (R283, R466, R467). -/
def finishCalWrite (j : Nat) (h : CmdHdr) (offset len : Nat) (s : State) : State :=
  let s := s.modDie fun d => { d with cal := s.calWith offset len h, calUser := true, calWrites := satAdd 32 d.calWrites 1 }
  let s := forUpTo 8 (fun s n =>
    let s := if meets offset len (0x1000 + 512 * n) 512 then s.takeSlotCal n else s
    if meets offset len (0x2000 + 0x2400 * n) 8204 then s.takeLinearCal n else s) s
  let s := if meets offset len 0x600 0x200 then s.takeCoolCal else s
  let s := if meets offset len 0xA00 0x400 then s.takeInrushCal else s
  let s := if meets offset len 0xE00 0x200 then s.takeAccelCal else s
  (s.raise 0x0C01 [(4, offset), (4, len)]).ok j

/-- CAL_WRITE (R292, R467). -/
def execCalWrite (h : CmdHdr) (offset len buf : Nat) (s : State) : Host.Outcome State Fault Refusal :=
  .next (s.submit (.calWrite h offset len buf) h (specCalWrite h offset len buf s))

/-! ### The Loft -/

/-- A Loft die fails: writes go to the survivor, and the event names the die; with both lost the bays run on (R18). -/
def execLoftDieLost (die : Nat) (s : State) : Host.Outcome State Fault Refusal :=
  .next (if (if die = 0 then s.loft.die.lost0 else s.loft.die.lost1) then s
  else (s.modDie fun d => if die = 0 then { d with lost0 := true } else { d with lost1 := true }).raiseAndRecord 0 0x0004 [(1, die)])

end Sys2Proof.Machine
end

