-- ==== Sys2Proof/Machine/Effect.lean ====
section
/-!
DEFINITION. The journal at work: entries taking effect at their window (R237), the reports of steps outside the bays (R238), and the fetch of
command entries from a ring (R236, R261, R272).
-/
namespace Sys2Proof.Machine
open Sys2Proof

/-- The row of a ring command on a state: its opcode, PLEN, OPT bits and checks. No other row has one. -/
def State.specOf (s : State) (i : Instr) : Option CmdSpec :=
  match i with
  | .admNop h => some (specAdmNop h s)
  | .admRingCreate h ring desc => some (specAdmRingCreate h ring desc s)
  | .admRingDelete h ring => some (specAdmRingDelete h ring s)
  | .admRingReset h ring => some (specAdmRingReset h ring s)
  | .admRingQuery h ring buf => some (specAdmRingQuery h ring buf s)
  | .admRingSubscribe h ring subs minSev => some (specAdmRingSubscribe h ring subs minSev s)
  | .admHealth h => some (specAdmHealth h s)
  | .admEntropy h bytes => some (specAdmEntropy h bytes s)
  | .govSetCap h slot cap => some (specGovSetCap h slot cap s)
  | .govSetSlope h slot rise fall => some (specGovSetSlope h slot rise fall s)
  | .govSetPriority h slot crit => some (specGovSetPriority h slot crit s)
  | .govSetGain h slot kp => some (specGovSetGain h slot kp s)
  | .govSetModel h slot model => some (specGovSetModel h slot model s)
  | .govLoadWeights h slot what vrail tensor buf blen delta => some (specGovLoadWeights h slot what vrail tensor buf blen delta s)
  | .govSetSafeDensity h slot dens => some (specGovSetSafeDensity h slot dens s)
  | .govSetOversub h osf => some (specGovSetOversub h osf s)
  | .govSetLimits h slot item value => some (specGovSetLimits h slot item value s)
  | .govSetRunahead h slot on missTol raHold => some (specGovSetRunahead h slot on missTol raHold s)
  | .govSetEscalation h escSat shedWait parkWait marked => some (specGovSetEscalation h escSat shedWait parkWait marked s)
  | .govParkAck h slot => some (specGovParkAck h slot s)
  | .govUnpark h slot => some (specGovUnpark h slot s)
  | .govSetTelemetry h period => some (specGovSetTelemetry h period s)
  | .govSetOp h slot clear timeout => some (specGovSetOp h slot clear timeout s)
  | .govSetDroop h slot dens len resume di storm => some (specGovSetDroop h slot dens len resume di storm s)
  | .govSetMargin h slot item value => some (specGovSetMargin h slot item value s)
  | .govTrimReset h slot => some (specGovTrimReset h slot s)
  | .govStatus h slot buf => some (specGovStatus h slot buf s)
  | .gridSetTarget h tseq target slope deadline issueTime => some (specGridSetTarget h tseq target slope deadline issueTime s)
  | .gridSetCurve h npoints frSlope freqStale buf => some (specGridSetCurve h npoints frSlope freqStale buf s)
  | .gridSetFreq h df issueTime => some (specGridSetFreq h df issueTime s)
  | .gridPark h tseq slope deadline issueTime => some (specGridPark h tseq slope deadline issueTime s)
  | .gridUnpark h tseq issueTime => some (specGridUnpark h tseq issueTime s)
  | .gridSetSource h source reportStale => some (specGridSetSource h source reportStale s)
  | .gridSetPark h rails spread => some (specGridSetPark h rails spread s)
  | .gridStatus h buf => some (specGridStatus h buf s)
  | .coolSetZone h zone pumps _ _ target trip => some (specCoolSetZone h zone pumps target trip s)
  | .coolSetSensor h point zone n thresh buf blen => some (specCoolSetSensor h point zone n thresh buf blen s)
  | .coolSetDrive h channel mode drive => some (specCoolSetDrive h channel mode drive s)
  | .coolSetValve h channel on => some (specCoolSetValve h channel on s)
  | .coolSetInput h channel filter stuck chatter => some (specCoolSetInput h channel filter stuck chatter s)
  | .coolStatus h buf => some (specCoolStatus h buf s)
  | .pwrSetTrip h channel thresh retries => some (specPwrSetTrip h channel thresh retries s)
  | .pwrResetTrip h channel => some (specPwrResetTrip h channel s)
  | .pwrBranch h slot on => some (specPwrBranch h slot on s)
  | .pwrSetRail h rail sheaf parents riseTimeout => some (specPwrSetRail h rail sheaf parents riseTimeout s)
  | .pwrRailCtrl h mask on => some (specPwrRailCtrl h mask on s)
  | .pwrSetWarn h feed thresh => some (specPwrSetWarn h feed thresh s)
  | .pwrStatus h buf => some (specPwrStatus h buf s)
  | .easelLoad h buf blen => some (specEaselLoad h buf blen s)
  | .easelBind h progId rev slot => some (specEaselBind h progId rev slot s)
  | .easelUnbind h inst => some (specEaselUnbind h inst s)
  | .easelDelete h progId rev => some (specEaselDelete h progId rev s)
  | .easelStatus h gslot buf => some (specEaselStatus h gslot buf s)
  | .easelConfig h reseedPeriod kacPeriod => some (specEaselConfig h reseedPeriod kacPeriod s)
  | .handLoad h first count data buf blen shrBase shrLen => some (specHandLoad h first count data buf blen shrBase shrLen s)
  | .handStart h hand regs => some (specHandStart h hand regs s)
  | .handStop h hand => some (specHandStop h hand s)
  | .handConfig h hand shadow restartMax restartWindow ckptWd => some (specHandConfig h hand shadow restartMax restartWindow ckptWd s)
  | .handStatus h hand bay => some (specHandStatus h hand bay s)
  | .bistRun h bay bank => some (specBistRun h bay bank s)
  | .bistResult h bay bank buf => some (specBistResult h bay bank buf s)
  | .repairApply h bay bank kind pos => some (specRepairApply h bay bank kind pos s)
  | .granStatus h bay first count buf => some (specGranStatus h bay first count buf s)
  | .granConfig h bay gleanPeriod ceThresh autotest => some (specGranConfig h bay gleanPeriod ceThresh autotest s)
  | .fabGlobal h op node buf blen => some (specFabGlobal h op node buf blen s)
  | .fabStatus h buf => some (specFabStatus h buf s)
  | .fabConfig h item value => some (specFabConfig h item value s)
  | .updBegin h kind len => some (specUpdBegin h kind len s)
  | .updBlock h offset blen buf crc => some (specUpdBlock h offset blen buf crc s)
  | .updCommit h hash => some (specUpdCommit h hash s)
  | .updConfirm h kind => some (specUpdConfirm h kind s)
  | .updLock h lock => some (specUpdLock h lock s)
  | .updAbort h kind => some (specUpdAbort h kind s)
  | .updStatus h => some (specUpdStatus h s)
  | .logRead h start count buf => some (specLogRead h start count buf s)
  | .logStatus h => some (specLogStatus h s)
  | .twXfer h port addr kind wlen rlen tout buf wdata => some (specTwXfer h port addr kind wlen rlen tout buf wdata s)
  | .twConfig h port enable speed filter target => some (specTwConfig h port enable speed filter target s)
  | .calRead h offset len buf => some (specCalRead h offset len buf s)
  | .calWrite h offset len buf => some (specCalWrite h offset len buf s)
  | .bayStatus h => some (specBayStatus h s)
  | .bayHandover h waitUs => some (specBayHandover h waitUs s)
  | .bayConfig h item value => some (specBayConfig h item value s)
  | .bayRestart h bay => some (specBayRestart h bay s)
  | _ => none

/-- What a journalled ring command does when it takes effect, at JSEQ j. No other row is journalled as a command. -/
def State.effectOf (s : State) (j : Nat) (i : Instr) : State :=
  match i with
  | .admNop _ => effAdmNop j s
  | .admRingCreate h ring desc => effAdmRingCreate j h ring desc s
  | .admRingDelete h ring => effAdmRingDelete j h ring s
  | .admRingReset h ring => effAdmRingReset j h ring s
  | .admRingQuery h ring buf => effAdmRingQuery j h ring buf s
  | .admRingSubscribe h ring subs minSev => effAdmRingSubscribe j h ring subs minSev s
  | .admHealth _ => effAdmHealth j s
  | .admEntropy _ bytes => effAdmEntropy j bytes s
  | .govSetCap _ slot cap => effGovSetCap j slot cap s
  | .govSetSlope _ slot rise fall => effGovSetSlope j slot rise fall s
  | .govSetPriority _ slot crit => effGovSetPriority j slot crit s
  | .govSetGain _ slot kp => effGovSetGain j slot kp s
  | .govSetModel _ slot model => effGovSetModel j slot model s
  | .govLoadWeights h slot what vrail tensor _ blen delta => effGovLoadWeights j h slot what vrail tensor blen delta s
  | .govSetSafeDensity _ slot dens => effGovSetSafeDensity j slot dens s
  | .govSetOversub _ osf => effGovSetOversub j osf s
  | .govSetLimits _ slot item value => effGovSetLimits j slot item value s
  | .govSetRunahead _ slot on missTol raHold => effGovSetRunahead j slot on missTol raHold s
  | .govSetEscalation _ escSat shedWait parkWait marked => effGovSetEscalation j escSat shedWait parkWait marked s
  | .govParkAck _ slot => effGovParkAck j slot s
  | .govUnpark _ slot => effGovUnpark j slot s
  | .govSetTelemetry _ period => effGovSetTelemetry j period s
  | .govSetOp _ slot clear timeout => effGovSetOp j slot clear timeout s
  | .govSetDroop _ slot dens len resume di storm => effGovSetDroop j slot dens len resume di storm s
  | .govSetMargin _ slot item value => effGovSetMargin j slot item value s
  | .govTrimReset _ slot => effGovTrimReset j slot s
  | .govStatus _ slot buf => effGovStatus j slot buf s
  | .gridSetTarget _ tseq target slope deadline issueTime => effGridSetTarget j tseq target slope deadline issueTime s
  | .gridSetCurve h npoints frSlope freqStale _ => effGridSetCurve j h npoints frSlope freqStale s
  | .gridSetFreq _ df issueTime => effGridSetFreq j df issueTime s
  | .gridPark _ tseq slope deadline issueTime => effGridPark j tseq slope deadline issueTime s
  | .gridUnpark _ tseq issueTime => effGridUnpark j tseq issueTime s
  | .gridSetSource _ source reportStale => effGridSetSource j source reportStale s
  | .gridSetPark _ rails spread => effGridSetPark j rails spread s
  | .gridStatus _ buf => effGridStatus j buf s
  | .coolSetZone _ zone pumps fans slots target trip => effCoolSetZone j zone pumps fans slots target trip s
  | .coolSetSensor h point zone n thresh _ blen => effCoolSetSensor j h point zone n thresh blen s
  | .coolSetDrive _ channel mode drive => effCoolSetDrive j channel mode drive s
  | .coolSetValve _ channel on => effCoolSetValve j channel on s
  | .coolSetInput _ channel filter stuck chatter => effCoolSetInput j channel filter stuck chatter s
  | .coolStatus _ buf => effCoolStatus j buf s
  | .pwrSetTrip _ channel thresh retries => effPwrSetTrip j channel thresh retries s
  | .pwrResetTrip _ channel => effPwrResetTrip j channel s
  | .pwrBranch _ slot on => effPwrBranch j slot on s
  | .pwrSetRail _ rail sheaf parents riseTimeout => effPwrSetRail j rail sheaf parents riseTimeout s
  | .pwrRailCtrl _ mask on => effPwrRailCtrl j mask on s
  | .pwrSetWarn _ feed thresh => effPwrSetWarn j feed thresh s
  | .pwrStatus _ buf => effPwrStatus j buf s
  | .easelLoad _ _ _ => effEaselLoad j s
  | .easelBind h progId rev slot => effEaselBind j h progId rev slot s
  | .easelUnbind _ inst => effEaselUnbind j inst s
  | .easelDelete _ progId rev => effEaselDelete j progId rev s
  | .easelStatus _ gslot buf => effEaselStatus j gslot buf s
  | .easelConfig _ reseed kac => effEaselConfig j reseed kac s
  | .handLoad _ _ _ _ _ _ _ _ => effHandLoad j s
  | .handStart h hand regs => effHandStart j h hand regs s
  | .handStop _ hand => effHandStop j hand s
  | .handConfig _ hand shadow restartMax restartWindow ckptWd => effHandConfig j hand shadow restartMax restartWindow ckptWd s
  | .handStatus _ hand bay => effHandStatus j hand bay s
  | .bistRun _ bay bank => effBistRun j bay bank s
  | .bistResult _ bay bank buf => effBistResult j bay bank buf s
  | .repairApply _ bay bank kind pos => effRepairApply j bay bank kind pos s
  | .granStatus _ bay first count buf => effGranStatus j bay first count buf s
  | .granConfig _ bay gleanPeriod ceThresh autotest => effGranConfig j bay gleanPeriod ceThresh autotest s
  | .fabGlobal h _ _ _ _ => effFabGlobal j h s
  | .fabStatus _ buf => effFabStatus j buf s
  | .fabConfig _ item value => effFabConfig j item value s
  | .updBegin h kind len => effUpdBegin j h kind len s
  | .updBlock h _ _ _ _ => effUpdBlock j h s
  | .updCommit h hash => effUpdCommit j h hash s
  | .updConfirm _ kind => effUpdConfirm j kind s
  | .updLock _ lock => effUpdLock j lock s
  | .updAbort _ kind => effUpdAbort j kind s
  | .updStatus h => effUpdStatus j h s
  | .logRead _ start count buf => effLogRead j start count buf s
  | .logStatus _ => effLogStatus j s
  | .twXfer _ port addr kind wlen rlen tout buf wdata => effTwXfer j port addr kind wlen rlen tout buf wdata s
  | .twConfig _ port enable speed filter target => effTwConfig j port enable speed filter target s
  | .calRead _ offset len buf => effCalRead j offset len buf s
  | .calWrite _ _ _ _ => effCalWrite j s
  | .bayStatus _ => effBayStatus j s
  | .bayHandover _ waitUs => effBayHandover j waitUs s
  | .bayConfig _ item value => effBayConfig j item value s
  | .bayRestart _ bay => effBayRestart j bay s
  | _ => s

/-- What a journalled internal change or fabric command does when it takes effect (R234, R237). -/
def State.applyChange (s : State) (j : Nat) (c : Change) : State :=
  let t := match c with
    | .adminEnable => s.adminStart 0 s.host.admin
    | .adminDrain => s.adminStop 0
    | .join bay => (s.applyJoin bay).shedRefused
    | .handover => s
    | .grid op t => s.commitGrid j true op t
    | .reseed n => s.applySeeds n
    | .panelOut _ => s.replaceInsts
    | .trim who point trim => s.applyTrim who point trim
    | .thermal slot h => s.modThermal slot fun t => { t with h := h }
  t.ok j

/-- An entry has come to its window: it is accepted, and neither complete nor applied (R235, R237). -/
def State.entryDue (s : State) (j : Nat) : Bool :=
  let e := s.entry j
  e.state = 1 && !e.applied && e.acked && decide (e.applyDwn ≤ s.dwn)

/-- One entry takes effect, once (R237, R240). -/
def State.applyEntry (s : State) (j : Nat) : State :=
  if !s.entryDue j then s
  else
    let body := (s.entry j).body
    let s := s.modEntry j fun e => { e with applied := true }
    match body with
    | .cmd i => s.effectOf j i
    | .change c => s.applyChange j c
    | .nothing => s.ok j

/-- Entries that take effect now, in JSEQ order: those of the owner up to the first that cannot yet, and those of a bay in Fallow mode, which
waits for no window (R237, R461). -/
def State.dueEntries (s : State) : List Nat :=
  let waiting := (s.own.journal.entries.filter fun e => e.2.state = 1 && !e.2.applied).map fun e => (e.1, e.2.ring)
  let own := if s.serving.isSome then ((waiting.filter fun e => e.2 < 0x10000).map (·.1)).takeWhile s.entryDue else []
  own ++ (waiting.filter fun e => 0x10000 ≤ e.2 && s.fallowServes (e.2 / 0x10000 - 1)).map (·.1)

/-- JOURNAL_APPLY: entries take effect on both bays at their APPLY_DWN, in JSEQ order, and a barrier that waited for one may then go on
(R232, R237, R326). -/
def execJournalApply (s : State) : Host.Outcome State Fault Refusal :=
  .next ((s.dueEntries.foldl State.applyEntry s).progressOps)

/-! ### Steps outside the bays (R238) -/

/-- What follows when the keeper reports the step of a command done. -/
def State.finishStepOf (s : State) (j : Nat) (i : Instr) : State :=
  match i with
  | .easelLoad h _ blen => finishEaselLoad j h blen s
  | .handLoad h first count data _ blen shrBase shrLen => finishHandLoad j h first count data blen shrBase shrLen s
  | .repairApply _ bay bank _ pos => finishRepairApply j bay bank pos s
  | .updBlock h offset blen _ _ => finishUpdBlock j h offset blen s
  | .calWrite h offset len _ => finishCalWrite j h offset len s
  | .twConfig _ port _ _ _ _ => (s.twApplyCfg port).ok j
  | _ => s.ok j

/-- KEEPER_STEP_REPORT: a step's start is noted; its result completes the entry, with DEVICE_ERROR 0xFF where it failed (R238, R281). -/
def execKeeperStepReport (jseq : Nat) (done ok : Bool) (s : State) : Host.Outcome State Fault Refusal :=
  .next (let e := s.entry jseq
  if e.state ≠ 1 || e.stepsDue = 0 then s
  else if !done then s.modEntry jseq fun e => { e with stepStarted := max e.stepStarted 1 }
  else
    let s := s.modEntry jseq fun e => { e with stepsDue := 0, stepStarted := 1 }
    if !ok then s.complete jseq 0x0503 [0xFF]
    else match e.body with
      | .cmd i => s.finishStepOf jseq i
      | _ => s.ok jseq)

/-! ### Fetching (R236, R261, R272) -/

/-- A ring command as if the owner had fetched its entry; any other row is no entry of a ring. -/
def runCommand (i : Instr) (s : State) : Host.Outcome State Fault Refusal :=
  match i with
  | .admNop h => execAdmNop h s
  | .admRingCreate h ring desc => execAdmRingCreate h ring desc s
  | .admRingDelete h ring => execAdmRingDelete h ring s
  | .admRingReset h ring => execAdmRingReset h ring s
  | .admRingQuery h ring buf => execAdmRingQuery h ring buf s
  | .admRingSubscribe h ring subs minSev => execAdmRingSubscribe h ring subs minSev s
  | .admHealth h => execAdmHealth h s
  | .admEntropy h bytes => execAdmEntropy h bytes s
  | .govSetCap h slot cap => execGovSetCap h slot cap s
  | .govSetSlope h slot rise fall => execGovSetSlope h slot rise fall s
  | .govSetPriority h slot crit => execGovSetPriority h slot crit s
  | .govSetGain h slot kp => execGovSetGain h slot kp s
  | .govSetModel h slot model => execGovSetModel h slot model s
  | .govLoadWeights h slot what vrail tensor buf blen delta => execGovLoadWeights h slot what vrail tensor buf blen delta s
  | .govSetSafeDensity h slot dens => execGovSetSafeDensity h slot dens s
  | .govSetOversub h osf => execGovSetOversub h osf s
  | .govSetLimits h slot item value => execGovSetLimits h slot item value s
  | .govSetRunahead h slot on missTol raHold => execGovSetRunahead h slot on missTol raHold s
  | .govSetEscalation h escSat shedWait parkWait marked => execGovSetEscalation h escSat shedWait parkWait marked s
  | .govParkAck h slot => execGovParkAck h slot s
  | .govUnpark h slot => execGovUnpark h slot s
  | .govSetTelemetry h period => execGovSetTelemetry h period s
  | .govSetOp h slot clear timeout => execGovSetOp h slot clear timeout s
  | .govSetDroop h slot dens len resume di storm => execGovSetDroop h slot dens len resume di storm s
  | .govSetMargin h slot item value => execGovSetMargin h slot item value s
  | .govTrimReset h slot => execGovTrimReset h slot s
  | .govStatus h slot buf => execGovStatus h slot buf s
  | .gridSetTarget h tseq target slope deadline issueTime => execGridSetTarget h tseq target slope deadline issueTime s
  | .gridSetCurve h npoints frSlope freqStale buf => execGridSetCurve h npoints frSlope freqStale buf s
  | .gridSetFreq h df issueTime => execGridSetFreq h df issueTime s
  | .gridPark h tseq slope deadline issueTime => execGridPark h tseq slope deadline issueTime s
  | .gridUnpark h tseq issueTime => execGridUnpark h tseq issueTime s
  | .gridSetSource h source reportStale => execGridSetSource h source reportStale s
  | .gridSetPark h rails spread => execGridSetPark h rails spread s
  | .gridStatus h buf => execGridStatus h buf s
  | .coolSetZone h zone pumps fans slots target trip => execCoolSetZone h zone pumps fans slots target trip s
  | .coolSetSensor h point zone n thresh buf blen => execCoolSetSensor h point zone n thresh buf blen s
  | .coolSetDrive h channel mode drive => execCoolSetDrive h channel mode drive s
  | .coolSetValve h channel on => execCoolSetValve h channel on s
  | .coolSetInput h channel filter stuck chatter => execCoolSetInput h channel filter stuck chatter s
  | .coolStatus h buf => execCoolStatus h buf s
  | .pwrSetTrip h channel thresh retries => execPwrSetTrip h channel thresh retries s
  | .pwrResetTrip h channel => execPwrResetTrip h channel s
  | .pwrBranch h slot on => execPwrBranch h slot on s
  | .pwrSetRail h rail sheaf parents riseTimeout => execPwrSetRail h rail sheaf parents riseTimeout s
  | .pwrRailCtrl h mask on => execPwrRailCtrl h mask on s
  | .pwrSetWarn h feed thresh => execPwrSetWarn h feed thresh s
  | .pwrStatus h buf => execPwrStatus h buf s
  | .easelLoad h buf blen => execEaselLoad h buf blen s
  | .easelBind h progId rev slot => execEaselBind h progId rev slot s
  | .easelUnbind h inst => execEaselUnbind h inst s
  | .easelDelete h progId rev => execEaselDelete h progId rev s
  | .easelStatus h gslot buf => execEaselStatus h gslot buf s
  | .easelConfig h reseedPeriod kacPeriod => execEaselConfig h reseedPeriod kacPeriod s
  | .handLoad h first count data buf blen shrBase shrLen => execHandLoad h first count data buf blen shrBase shrLen s
  | .handStart h hand regs => execHandStart h hand regs s
  | .handStop h hand => execHandStop h hand s
  | .handConfig h hand shadow restartMax restartWindow ckptWd => execHandConfig h hand shadow restartMax restartWindow ckptWd s
  | .handStatus h hand bay => execHandStatus h hand bay s
  | .bistRun h bay bank => execBistRun h bay bank s
  | .bistResult h bay bank buf => execBistResult h bay bank buf s
  | .repairApply h bay bank kind pos => execRepairApply h bay bank kind pos s
  | .granStatus h bay first count buf => execGranStatus h bay first count buf s
  | .granConfig h bay gleanPeriod ceThresh autotest => execGranConfig h bay gleanPeriod ceThresh autotest s
  | .fabGlobal h op node buf blen => execFabGlobal h op node buf blen s
  | .fabStatus h buf => execFabStatus h buf s
  | .fabConfig h item value => execFabConfig h item value s
  | .updBegin h kind len => execUpdBegin h kind len s
  | .updBlock h offset blen buf crc => execUpdBlock h offset blen buf crc s
  | .updCommit h hash => execUpdCommit h hash s
  | .updConfirm h kind => execUpdConfirm h kind s
  | .updLock h lock => execUpdLock h lock s
  | .updAbort h kind => execUpdAbort h kind s
  | .updStatus h => execUpdStatus h s
  | .logRead h start count buf => execLogRead h start count buf s
  | .logStatus h => execLogStatus h s
  | .twXfer h port addr kind wlen rlen tout buf wdata => execTwXfer h port addr kind wlen rlen tout buf wdata s
  | .twConfig h port enable speed filter target => execTwConfig h port enable speed filter target s
  | .calRead h offset len buf => execCalRead h offset len buf s
  | .calWrite h offset len buf => execCalWrite h offset len buf s
  | .bayStatus h => execBayStatus h s
  | .bayHandover h waitUs => execBayHandover h waitUs s
  | .bayConfig h item value => execBayConfig h item value s
  | .bayRestart h bay => execBayRestart h bay s
  | _ => .next s

/-- The next state of an outcome; a fetch that stops leaves the state as it was. -/
def nextOf (o : Host.Outcome State Fault Refusal) (s : State) : State :=
  match o with
  | .next t => t
  | _ => s

/-- An entry whose opcode is in no table: its sequence is checked first, and it is then refused with BAD_OPCODE (R278, R281). -/
def State.submitUnknown (s : State) (ring : Nat) (e : RawEntry) : State :=
  let w0 := (e.words.getD 0 0).toNat
  let op := field w0 0 16
  let seq : Word32 := BitVec.ofNat 32 (field w0 32 32)
  if !s.canFetch ring op then s
  else if seqNewer seq (s.ring ring).lastSeq then s.answer ring (completionWords seq op 0x0101 [0])
  else match s.heldEntry ring seq with
    | some j =>
      if (s.entry j).state = 2 && (s.entry j).posted then s.answer ring (s.entry j).completion
      else ((s.passEntry ring).writeStatus ring).modEntry j fun e => { e with owed := e.owed + 1 }
    | none => s.answer ring (completionWords seq op 0x0201 [BitVec.ofNat 64 (s.ring ring).lastSeq.toNat])

/-- The entries of one fetch, in order; a poisoned one ends it (R260, R261). -/
def fetchEntries (ring : Nat) (es : List RawEntry) (s : State) : State :=
  match es with
  | [] => s
  | e :: rest =>
    if !s.canFetch ring 0x0D01 then s
    else if e.poisoned then s.poisonedRead ring
    else
      let s := s.modRing ring fun r => { r with poisonReads := 0 }
      fetchEntries ring rest (match decodeCommand ring e with
        | some i => nextOf (runCommand i s) s
        | none => s.submitUnknown ring e)

/-- The ring that a bay fetches from now: the owner's by R261, and a ring of a bay in Fallow mode, its ring 0 first (R261, R461). -/
def State.mayFetch (s : State) (ring : Nat) : Bool :=
  if ring < 0x10000 then s.fetchChoice = some ring
  else s.fallowServes (ring / 0x10000 - 1) && s.canFetch ring 0x0D01 && (ring % 0x10000 = 0 || !s.canFetch (ring - ring % 0x10000) 0x0D01)

/-- COMMAND_FETCH: up to 8 consecutive entries of the ring whose turn it is (R254, R261). -/
def execCommandFetch (ring : Nat) (entries : List RawEntry) (s : State) : Host.Outcome State Fault Refusal :=
  .next (if s.mayFetch ring then (fetchEntries ring (entries.take 8) s).noteFetch ring else s)

end Sys2Proof.Machine
end

