-- ==== Sys2Proof/Machine/Lsend.lean ====
section
/-!
DEFINITION. LSEND: the four kinds of destination of a hand's message (R185, R190, R316).
-/
namespace Sys2Proof.Machine
open Sys2Proof

/-- What a send came to: the state, and the status of R185; with status 0x00 a reply may be awaited. -/
abbrev Sent := State × Nat

/-- Kind 0x0: the mailbox of a hand of the peer bay, over the breezeway (R185). -/
def State.sendPeer (s : State) (bay : Nat) (msg : List Byte) (rs2 : Nat) : Sent :=
  let p := peer bay
  if s.own.journal.breezeUp && (s.bay p).alive && (s.bay p).bstate ≠ .down then s.deliverMail p (field rs2 0 12) msg else (s, 2)

/-- Kind 0x1: an event or telemetry ring, as one entry; the owner alone writes rings (R185, R240). -/
def State.sendRing (s : State) (bay : Nat) (msg : List Byte) (rs2 : Nat) : Sent :=
  let n := field rs2 0 15
  let r := s.ring n
  if !s.isOwner bay || (r.desc.kind ≠ 2 && r.desc.kind ≠ 3) || r.state ≠ .active then (s, 2)
  else if s.ringRoom n then (s.ringWrite n (bytesWords 8 msg), 0) else (s, 1)

/-- Kind 0x2: a fabric message (R316). Bytes 0 to 7 name the destination, bytes 8 to 15 must be 0 and rs2[23:12] too; on the way bytes 8 and 9
carry the sending hand. A message to this node itself arrives at once. Frames of a bay that the keeper gates go nowhere (R14). -/
def State.sendFabric (s : State) (bay hand : Nat) (msg : List Byte) (rs2 : Nat) (wait : Bool) : Sent :=
  let drole := field rs2 25 3
  let reply := decide (field rs2 24 1 = 1)
  let body := msg.take 8 ++ leBytes 8 hand ++ msg.drop 16
  if fieldAt msg 8 8 ≠ 0 || field rs2 12 12 ≠ 0 || !s.fab.fab.alive || !s.isMember then (s, 2)
  else match s.resolve drole (BitVec.ofNat 64 (fieldAt msg 0 8)) with
    | none => (s, 2)
    | some to_ =>
      if !s.gateOpen bay then (s, 0)
      else if to_.1 = s.nodeId then (s.messageArrives { src := s.nodeId, dst := s.nodeId, drole := drole } body reply (field rs2 0 12), 0)
      else match s.sendRouted drole to_ (.msg body reply (field rs2 0 12)) 1 (if wait then some (bay, hand) else none) with
        | some s' => (s', 0)
        | none => (s, 2)

/-- Kind 0x3: a keeper output channel takes the first 32-bit word of the message: a drive in units of 0.1 %, or 0 for off or closed and any
other value for on or open (the manual gives no layout: DESIGN CHOICE, log entry 63). The keeper drops the write of a bay that it gates (R14). -/
def State.sendOutput (s : State) (bay : Nat) (msg : List Byte) (rs2 : Nat) : Sent :=
  let ch := field rs2 0 16
  let v := fieldAt msg 0 4
  let on := decide (v ≠ 0)
  let write (t : State) : Sent := (if s.gateOpen bay then t else s, 0)
  if isDrive ch then write ((s.modDrive ch fun d => { d with demand := min v 1000 }).followDrive ch)
  else if isValve ch then write (s.modValve (ch - 0x20) fun x => { x with isOpen := on && !s.leaking && !x.released })
  else if isGpio ch then write (s.modCool fun c => { c with gpio := tset c.gpio (ch - 0x34) on })
  else if 0x54 ≤ ch && ch < 0x94 then write ((s.modSeq fun q => { q with waitQ := q.waitQ ++ [(0, 1#64 <<< (ch - 0x54), on, false)] }).railRun)
  else (s, 2)

/-- LSEND sends to what rs2 names (R185). A shadow on the standby sends nothing of kinds 0x1 and 0x3 and completes with 0x00 (R190). Kinds 0x1
and 0x3 allow no reply. -/
def State.send (s : State) (bay hand : Nat) (msg : List Byte) (rs2 : Nat) (wait : Bool) : Sent :=
  let quiet := !s.isOwner bay && (s.hand bay hand).shadow
  match field rs2 28 4 with
  | 0 => s.sendPeer bay msg rs2
  | 1 => if wait then (s, 2) else if quiet then (s, 0) else s.sendRing bay msg rs2
  | 2 => s.sendFabric bay hand msg rs2 wait
  | 3 => if wait then (s, 2) else if quiet then (s, 0) else s.sendOutput bay msg rs2
  | _ => (s, 2)

/-- LSEND: the 64-byte message at rs1 goes to the destination rs2; fn[0] waits for a reply, which overwrites the message (R183, R185). -/
def execLsend (bay hand rd rs1 rs2 : Nat) (fn : BitVec 6) (s : State) : Host.Outcome State Fault Refusal :=
  .next (if !s.issues bay hand then s else
    let h := s.hand bay hand
    let a := (h.reg rs1).toNat
    let wait := fn.getLsbD 0
    let words := (List.range 8).map fun i => a + 8 * i
    if !(words.all fun w => if wait then h.storeOk hand w 8 else h.accessOk hand w 8) then s.handFault bay hand 2
    else match words.find? fun w => (s.granary bay).poisoned w with
      | some w => s.poisonedAccess bay hand w
      | none =>
        let dest := (h.reg rs2).toNat
        let r := s.send bay hand (memRead (s.granary bay).mem a 64) dest wait
        r.1.modHand bay hand fun h =>
          if r.2 = 0 && wait then { h with pc := h.pc + 4, state := .wait, wait := some (.reply rd a s.now) }
          else h.result rd (BitVec.ofNat 32 (r.2 * 2 ^ 24)))

end Sys2Proof.Machine
end

