-- ==== Sys2Proof/Machine/Push.lean ====
section
/-!
DEFINITION. Push boot over the fabric: the requester and the pusher (R329, R330), and Fallow mode's push and resets (R464, R465).
-/
namespace Sys2Proof.Machine
open Sys2Proof

/-- Data bytes of a PUSH block (R300). -/
def pushBlockBytes : Nat := 1016

/-! ### The pusher -/

/-- The Loft slot that a neighbour can offer for a hash, or for hash 0 (R329). -/
def State.offerSlot (s : State) (hash : Nat) : Option Nat :=
  if s.loftLost then none
  else if hash = 0 then s.slotV
  else s.fieldSlot fun x => 2 ≤ x.state && x.state ≤ 5 && x.hash = hash

/-- A neighbour asks for a pusher: this node offers when PUSH_SERVE is on, its owner serves, it pushes to no other node and its Loft holds the
image (R329). -/
def execPushreq (port : Nat) (hdr : FabHdr) (hash _bay : Nat) (s : State) : Host.Outcome State Fault Refusal :=
  .next (let a := s.accept port hdr false false false
  let s := a.1
  if !a.2 || !s.fab.param.pushServe || s.serving.isNone || !(s.fab.fab.pushTo.isNone || s.fab.fab.pushTo = some port) then s
  else match s.offerSlot hash with
    | none => s
    | some n =>
      (s.modFabric fun f => { f with
        pushTo := some port, pushTaken := false, pushSlot := n, pushNext := 0, pushAcked := 0, pushAckTime := s.now }).originate port 0 hdr.src 0
        (.offer (s.slot n).hash false))

/-- The next 64 blocks from an offset are sent in ascending order (R330). -/
def State.sendImageBlocks (s : State) (port off : Nat) : State :=
  let x := s.slot s.fab.fab.pushSlot
  let s := forUpTo 64 (fun s i =>
    let o := off + pushBlockBytes * i
    if o < x.len then s.originate port 0 (s.port port).neighbour 0 (.push o (x.bytesAt o (min pushBlockBytes (x.len - o)))) else s) s
  s.modFabric fun f => { f with pushNext := min x.len (off + 64 * pushBlockBytes) }

/-- An acknowledgement reaches the pusher: it goes on from that offset, and its push ends at the image's end (R330). -/
def execPushAcknowledge (port offset : Nat) (s : State) : Host.Outcome State Fault Refusal :=
  .next (if !s.fab.fab.alive || s.fab.fab.pushTo ≠ some port then s
  else if (s.slot s.fab.fab.pushSlot).len ≤ offset then s.modFabric fun f => { f with pushTo := none, pushAcked := offset }
  else
    let s := s.modFabric fun f => { f with pushTaken := true, pushAcked := offset, pushAckTime := s.now }
    if s.serving.isSome then s.sendImageBlocks port offset else s)

/-- 1 ms without an acknowledgement: the pusher resends from the last offset, or gives up an offer that was not taken (R329, R330). -/
def execPushAckTimeout (s : State) : Host.Outcome State Fault Refusal :=
  .next (match s.fab.fab.pushTo with
  | some port =>
    if !s.fab.fab.alive || !s.passed s.fab.fab.pushAckTime 1000000 then s
    else if !s.fab.fab.pushTaken || !s.portUp port then s.modFabric fun f => { f with pushTo := none }
    else
      let s := s.modFabric fun f => { f with pushAckTime := s.now }
      if s.serving.isSome then s.sendImageBlocks port s.fab.fab.pushAcked else s
  | none => s)

/-! ### The requester -/

/-- A bay in Fallow mode may bring an image in over the fabric: no session of field images is open but one that a push began, and there is a
slot to take (R463, R464). -/
def State.fallowWants (s : State) (bay : Nat) : Bool :=
  (s.bay bay).bstate = .fallow && (s.bay bay).alive &&
  (if s.loft.upd.session0.isSome then s.loft.upd.pushSession && s.loft.upd.sessionBay = bay else !s.updating 0 && (s.freeSlot 0).isSome)

/-- A window for which the keeper asks for a neighbour (R329, R436). -/
def State.windowWants (s : State) (bay : Nat) : Bool := (s.push bay).state = .opened && s.hostMayClaim bay

/-- The bay for which the keeper asks for a pusher, with the hash to name: an open window first, then a bay in Fallow mode with hash 0, the
lower bay first (R329, R436, R464). -/
def State.pushWanted (s : State) : Option (Nat × Nat) :=
  match (List.range 2).find? s.windowWants with
  | some b => some (b, (s.push b).wantHash)
  | none => ((List.range 2).find? s.fallowWants).map fun b => (b, 0)

/-- Every 10 ms until an offer is taken, a PUSHREQ goes out on every UP port (R329, R464). -/
def execPushreqSend (s : State) : Host.Outcome State Fault Refusal :=
  .next (let f := s.fab.fab
  let due := match f.pushReqTime with | some t => s.passed t 10000000 | none => true
  if !f.alive || f.offerTaken.isSome || !due then s
  else match s.pushWanted with
    | none => s.modFabric fun f => { f with pushReqBay := none, firstOffer := none }
    | some (b, hash) =>
      let s := s.modFabric fun f => { f with pushReqBay := some b, pushHash := hash, pushReqTime := some s.now, firstOffer := if f.pushReqBay = some b then f.firstOffer else none }
      forUpTo 4 (fun s p => if s.portUp p then s.originate p 0 0 0 (.pushreq hash b) else s) s)

/-- An offer that is not taken is declined (R329). -/
def State.declineOffer (s : State) (port : Nat) : State := s.originate port 0 (s.port port).neighbour 0 (.offer 0 false)

/-- The requester takes an offer: the neighbour's claim fixes the window, or a session of the Loft begins, and the taking is answered with an
acknowledgement at offset 0 (R329, R330, R436, R464). -/
def State.takeOffer (s : State) (port : Nat) : State :=
  match s.fab.fab.pushReqBay with
  | none => s
  | some b =>
    let t := s.modFabric fun f => { f with
      offerTaken := some port, firstOffer := none, pushRecv := 0, pushBlocks := 0, pushAhead := [], pushRecvTime := s.now }
    let t := if t.windowWants b then (t.claimWindow b 3).modPush b fun p => { p with pusher := (s.port port).neighbour }
      else if t.fallowWants b then
        match t.loft.upd.session0 with
        | some n => t.modSlot n fun x => { x with pages := [] }
        | none => (t.openSession 0 ((t.freeSlot 0).getD 0) 0 b).modUpd fun u => { u with pushSession := true }
      else t
    if (t.push b).state = .pushing && (t.push b).agent = 3 || t.fallowWants b then
      (t.originate port 0 (t.port port).neighbour 0 (.offer t.fab.fab.pushHash true)).originate port 0 (t.port port).neighbour 0 (.pushAck 0)
    else (s.modFabric fun f => { f with pushReqBay := none, firstOffer := none }).declineOffer port

/-- An offer arrives: one on the up port within 1 ms of the first is taken, the first is kept, the rest are declined (R329). -/
def execPushOffer (port hash : Nat) (s : State) : Host.Outcome State Fault Refusal :=
  .next (let f := s.fab.fab
  if !f.alive || !s.portUp port || f.pushReqBay.isNone || (f.pushHash ≠ 0 && hash ≠ f.pushHash) then s
  else if f.offerTaken.isSome then s.declineOffer port
  else match f.firstOffer with
    | none => if f.upPort = some port then s.takeOffer port else s.modFabric fun f => { f with firstOffer := some (port, s.now) }
    | some (first, t) =>
      if f.upPort = some port && !s.passed t 1000000 then (s.takeOffer port).declineOffer first else s.declineOffer port)

/-- 1 ms after the first offer, with none on the up port, the first is taken (R329). -/
def execOfferWaitExpiry (s : State) : Host.Outcome State Fault Refusal :=
  .next (match s.fab.fab.firstOffer with
  | some (port, t) => if s.fab.fab.alive && s.fab.fab.offerTaken.isNone && s.passed t 1000000 then s.takeOffer port else s
  | none => s)

/-- The highest offset below which every block has arrived, once a block is counted (R330). -/
def Fabric.counted (f : Fabric) (off n : Nat) : Fabric :=
  let l := f.pushAhead ++ [(off, off + n)]
  let recv := forUpTo l.length (fun r _ => l.foldl (fun r e => if e.1 ≤ r && r < e.2 then e.2 else r) r) f.pushRecv
  { f with pushRecv := recv, pushAhead := l.filter fun e => recv < e.1 }

/-- The push ends for the requester. -/
def State.endOffer (s : State) : State := s.modFabric fun f => { f with offerTaken := none, firstOffer := none, pushReqBay := none, pushAhead := [] }

/-- A block is acknowledged every 64 blocks, and at the image's end (R330). -/
def State.ackBlock (s : State) (port len : Nat) : State :=
  let f := s.fab.fab
  if 64 ≤ f.pushBlocks || len ≤ f.pushRecv then
    (s.modFabric fun f => { f with pushBlocks := 0 }).originate port 0 (s.port port).neighbour 0 (.pushAck f.pushRecv)
  else s

/-- A block of the image for an open window: written into the image area; pages below the received offset are good (R330, R435). -/
def State.windowBlock (s : State) (bay port off : Nat) (data : List Byte) : State :=
  let s := (s.modGranary bay fun g => g.fill (imageBase + off) data).modFabric fun f => f.counted off data.length
  let recv := s.fab.fab.pushRecv
  let len := if 16 ≤ recv then imgLen (s.imageBytes bay 0 16) else imageMax
  let s := (s.modPush bay fun p => p.markGood 0 (recv / 4096) s.now).ackBlock port len
  if len ≤ recv then s.endOffer else s

/-- A block of the image for a bay in Fallow mode: written into the session's slot, whose LEN is the IMG_LEN of the first page; a length that no
image has abandons the offer (R464). -/
def State.fallowBlock (s : State) (slot port off : Nat) (data : List Byte) : State :=
  let s := (s.modSlot slot fun x => x.write off data).modFabric fun f => f.counted off data.length
  let recv := s.fab.fab.pushRecv
  if recv < 4096 then s.ackBlock port imageMax
  else
    let len := ofLeBytes ((s.slot slot).bytesAt 8 4)
    if len < 4096 || imageMax < len then (s.endOffer).modSlot slot fun x => { x with len := 0, pages := [] }
    else
      (s.modSlot slot fun x => ({ x with len := len }).mark 0 (if len ≤ recv then (len + 4095) / 4096 else recv / 4096)).ackBlock port len

/-- A PUSH block on the port of the offer taken (R330, R435, R464). -/
def execPush (port : Nat) (hdr : FabHdr) (offset : Nat) (data : List (BitVec 8)) (s : State) : Host.Outcome State Fault Refusal :=
  .next (let a := s.accept port hdr false false false
  let s := a.1
  match s.fab.fab.pushReqBay with
  | none => s
  | some b =>
    if !a.2 || s.fab.fab.offerTaken ≠ some port || data.isEmpty || pushBlockBytes < data.length || imageMax < offset + data.length then s
    else
      let before := s.fab.fab.pushRecv
      let s := s.modFabric fun f => { f with pushBlocks := f.pushBlocks + 1 }
      let s := if (s.push b).state = .pushing && (s.push b).agent = 3 then s.windowBlock b port offset data
        else if (s.bay b).bstate = .fallow then match s.loft.upd.session0 with
          | some n => s.fallowBlock n port offset data
          | none => s
        else s
      if s.fab.fab.pushRecv = before then s else s.modFabric fun f => { f with pushRecvTime := s.now })

/-! ### Fallow mode -/

/-- The offer taken serves a bay in Fallow mode. -/
def State.fallowPush (s : State) : Bool :=
  s.fab.fab.offerTaken.isSome && (match s.fab.fab.pushReqBay with | some b => decide ((s.bay b).bstate = .fallow) | none => false)

/-- Every page has been received: the image hash is computed and the image committed, flagged as committed in Fallow mode (R464, R465). -/
def execFallowPushCommit (s : State) : Host.Outcome State Fault Refusal :=
  .next (match s.loft.upd.session0 with
  | some n =>
    let x := s.slot n
    if s.fallowPush && 0 < x.len && x.complete then
      let s := s.endOffer
      if s.canStand n then (s.commitSlot n (hashOf x.bytes) true).modUpd fun u => { u with fallowCommit := some s.now, pushSession := false } else s
    else s
  | none => s)

/-- A push that has stalled for 20 ms is abandoned and PUSHREQ starts again; the session stays open (R464). -/
def execFallowPushStall (s : State) : Host.Outcome State Fault Refusal :=
  .next (if s.fallowPush && s.passed s.fab.fab.pushRecvTime 20000000 then s.endOffer else s)

/-- 10 ms after a commit in Fallow mode the Fallow ROM resets its bay, and a Fallow peer (R465). -/
def execFallowResetExpiry (s : State) : Host.Outcome State Fault Refusal :=
  .next (match s.loft.upd.fallowCommit with
  | some t =>
    if s.passed t 10000000 then
      forUpTo 2 (fun s b => if (s.bay b).bstate = .fallow then s.resetBay b else s) (s.modUpd fun u => { u with fallowCommit := none })
    else s
  | none => s)

end Sys2Proof.Machine
end

