-- ==== Sys2Proof/Machine/PowerUp.lean ====
section
/-!
DEFINITION. Power-up, the resets and Dormant (R469 to R484): supplies, trim, clocks, the Scarecrow's start, the Loft settings, the resets
as rows, and the way into and out of Dormant.
-/
namespace Sys2Proof.Machine
open Sys2Proof

/-! ### Start (R469 to R474) -/

/-- PWR_VALID has been high for 100 us with VDD_KEEP in range: supplies are valid and trim loading starts at pass 1 (R469, R473). A keeper
that has run out of hold-up starts again only by a controller reset (R475). -/
def execSuppliesValid (s : State) : Host.Outcome State Fault Refusal :=
  .next (if s.sys.suppliesValid || s.sys.keeperStopped then s else s.modSys fun p => { p with suppliesValid := true, trimPass := 0 })

/-- A pass of the trim load ends. Pass 3 agreeing asserts TRIM_VALID, at which outputs leave their safe state and the seating count may
start; a disagreement starts the load again, and the eighth load that fails sets HOLD (R470, R472 to R474). -/
def execTrimPass (agree : Bool) (s : State) : Host.Outcome State Fault Refusal :=
  .next (if !s.sys.suppliesValid || s.sys.trimValid || s.own.latch.hold then s
  else if !agree then
    let s := s.modSys fun p => { p with trimPass := 0, trimLoads := p.trimLoads + 1 }
    if 8 ≤ s.sys.trimLoads then s.enterHold 0xFF false else s
  else if s.sys.trimPass < 2 then s.modSys fun p => { p with trimPass := p.trimPass + 1 }
  else (s.modSys fun p => { p with trimPass := 3, trimValid := true, trimLoads := 0, safeState := false }).seatCount)

/-- The crystal PLL locks, the keeper clock moves to it and device time counts from 0 (R470, R483). -/
def execPllLock (s : State) : Host.Outcome State Fault Refusal :=
  .next (if s.sys.counting || !s.sys.suppliesValid || s.own.latch.hold then s
  else s.modSys fun p => { p with counting := true, internalOsc := false, devTime := 0, timeBase := 0 })

/-- The Scarecrow is live: every fan and pump is kicked and then driven at 70.0 %, the valves open unless a leak is active
(R396, R405, R470). -/
def execScarecrowLive (s : State) : Host.Outcome State Fault Refusal :=
  .next (if s.cool.scarecrow || !s.sys.trimValid || !s.sys.counting || s.own.latch.hold then s
  else
    let s := s.modCool fun c => { c with scarecrow := true }
    let s := forUpTo 20 State.startKick s
    let isOpen := !s.leaking
    (forUpTo 2 (fun s v => s.modValve v fun x => { x with isOpen := isOpen }) s).followDrives)

/-- Every value of the calibration set that the controller uses; a value set by a command of the same item stands before it (R466). -/
def State.takeCalibration (s : State) : State :=
  (((forUpTo 8 State.takeLinearCal (forUpTo 8 State.takeSlotCal s)).takeCoolCal).takeInrushCal).takeAccelCal

/-- Without a calibration set no operating-point table is valid and fusion starts from its own values (R468). -/
def State.dropCalibration (s : State) : State :=
  forUpTo 8 (fun s n => s.modCalSlot n fun c => { c with opTable := [], gStart := 1, oStart := 0 }) s

/-- Settings, rail table, thresholds, zones, calibration and energy counts are loaded from the Loft; a calibration copy whose CRC fails is
rewritten from the other, and the set is absent if both fail (R362, R468, R470). -/
def execLoftSettingsLoaded (s : State) : Host.Outcome State Fault Refusal :=
  .next (if s.loft.die.loaded || !s.sys.trimValid || s.own.latch.hold then s
  else
    let good := s.loft.die.calOk0 || s.loft.die.calOk1
    let s := s.modDie fun d => { d with loaded := true, calPresent := good, calOk0 := good, calOk1 := good }
    let s := if good then s.takeCalibration else s.dropCalibration
    (List.range 10).foldl (fun s n => s.modChan (0x2A + n) fun c => { c with energy := (tget s.pwr.feed.loftEnergy (0x2A + n) 0 : Int) }) s)

/-! ### Resets (R475 to R477) -/

/-- A controller reset: at once, or, while the hold-up supervisor still writes records, when that writing ends (R475, R477). -/
def execControllerReset (s : State) : Host.Outcome State Fault Refusal :=
  .next (if s.sys.collapsed && !s.sys.keeperStopped && !s.alm.queue.isEmpty then s.modSys fun p => { p with resetPending := true }
  else s.resetController)

/-- A bay reset that is not a BAY_RESTART: an image on trial that the bay runs is refused (R457, R475). -/
def execBayReset (bay : Nat) (s : State) : Host.Outcome State Fault Refusal := .next ((s.refuseRunning bay).resetBay bay)

/-- The photonic die has sent the keeper no heartbeat for 10 ms: it restarts (R475). It cannot while its PLL is stopped by a crystal loss
(R484). -/
def execPhotonicRestart (s : State) : Host.Outcome State Fault Refusal :=
  .next (if !s.fab.fab.alive && s.passed s.sys.photHb 10000000 && !(s.sys.counting && s.sys.internalOsc) then s.restartPhotonic else s)

/-! ### Dormant (R478 to R481) -/

/-- The age of a bay's heartbeat stands still while it is Dormant; a bay without one has no count (R479). -/
def State.freezeAge (s : State) (bay : Nat) : State := s.modBay bay fun b => { b with hbFrozen := b.hbTime.map fun t => s.now - t }

/-- At the APPLY_DWN of the journalled PARKED transition both bays enter Dormant and the enabled two-wire ports go to their matchers
(R426, R478, R479). One transition makes one entry: bays that a wake event has taken out stay out. -/
def execDormantEntry (s : State) : Host.Outcome State Fault Refusal :=
  .next (if s.grid.state = .parked && s.grid.delayEnd ≤ s.now && !s.sys.dormant &&
      (match s.sys.wakeTime with | some t => decide (t < s.grid.delayEnd) | none => true) then
    let s := forUpTo 2 State.freezeAge (s.modSys fun p => { p with dormant := true })
    (forUpTo 24 (fun s n => s.modTwPort n fun p => { p with matcher := p.enable }) s).followDrives
  else s)

/-- What a hand's timer shows after Dormant: a one-shot deadline already past is pending at once, a periodic timer takes the first
deadline on its grid (R480). -/
def State.rearmTimers (s : State) : State :=
  s.modBarn fun b => { b with hands := b.hands.map fun e =>
    if e.2.state = .ready || e.2.state = .wait then (e.1, e.2.rearm s.devNow) else e }

/-- A wake event brings both bays out of Dormant: hands resume, the owner serves, held doorbells, notes and events are taken up, and
the Gleaner starts a new pass (R480). -/
def execWake (s : State) : Host.Outcome State Fault Refusal :=
  .next (if s.sys.dormant && s.sys.wakePending then
    let s := s.modSys fun p => { p with dormant := false, wakePending := false, wakeTime := some s.now }
    let s := forUpTo 24 (fun s n => s.modTwPort n fun p => { p with matcher := false }) s
    let s := forUpTo 2 (fun s b => s.modGranary b fun g => { g with gleanStart := s.now, gleanStarved := false, ceCount := [] }) s.rearmTimers
    (forUpTo 24 (fun s n => s.postNotes n) s.releaseDoorbells.raiseWaiting).followDrives
  else s)

/-- A bay has not beaten within 1 ms of the wake: its watchdog counts from then (R479, R481). -/
def execWakeWatchdog (bay : Nat) (s : State) : Host.Outcome State Fault Refusal :=
  .next (match s.sys.wakeTime with
  | some t =>
    if s.passed t 1000000 && (s.bay bay).hbFrozen.isSome && !s.sys.dormant then
      s.modBay bay fun b => { b with hbFrozen := none, hbTime := some s.now, wdArmed := true, wakeWd := true }
    else s
  | none => s)

end Sys2Proof.Machine
end

