-- ==== Sys2Proof/Machine/Dispatch.lean ====
section
/-!
DEFINITION. One arm per command: the meaning it calls.
-/
namespace Sys2Proof.Machine
open Sys2Proof

/-- The effect of a command on everything but the queue. -/
def exec (i : Instr) (s : State) : Host.Outcome State Fault Refusal :=
  match i with
  | .admNop h => Sys2Proof.Machine.execAdmNop h s
  | .admRingCreate h ring desc => Sys2Proof.Machine.execAdmRingCreate h ring desc s
  | .admRingDelete h ring => Sys2Proof.Machine.execAdmRingDelete h ring s
  | .admRingReset h ring => Sys2Proof.Machine.execAdmRingReset h ring s
  | .admRingQuery h ring buf => Sys2Proof.Machine.execAdmRingQuery h ring buf s
  | .admRingSubscribe h ring subs minSev => Sys2Proof.Machine.execAdmRingSubscribe h ring subs minSev s
  | .admHealth h => Sys2Proof.Machine.execAdmHealth h s
  | .admEntropy h bytes => Sys2Proof.Machine.execAdmEntropy h bytes s
  | .govSetCap h slot cap => Sys2Proof.Machine.execGovSetCap h slot cap s
  | .govSetSlope h slot rise fall => Sys2Proof.Machine.execGovSetSlope h slot rise fall s
  | .govSetPriority h slot crit => Sys2Proof.Machine.execGovSetPriority h slot crit s
  | .govSetGain h slot kp => Sys2Proof.Machine.execGovSetGain h slot kp s
  | .govSetModel h slot model => Sys2Proof.Machine.execGovSetModel h slot model s
  | .govLoadWeights h slot what vrail tensor buf blen delta => Sys2Proof.Machine.execGovLoadWeights h slot what vrail tensor buf blen delta s
  | .govSetSafeDensity h slot dens => Sys2Proof.Machine.execGovSetSafeDensity h slot dens s
  | .govSetOversub h osf => Sys2Proof.Machine.execGovSetOversub h osf s
  | .govSetLimits h slot item value => Sys2Proof.Machine.execGovSetLimits h slot item value s
  | .govSetRunahead h slot on missTol raHold => Sys2Proof.Machine.execGovSetRunahead h slot on missTol raHold s
  | .govSetEscalation h escSat shedWait parkWait marked => Sys2Proof.Machine.execGovSetEscalation h escSat shedWait parkWait marked s
  | .govParkAck h slot => Sys2Proof.Machine.execGovParkAck h slot s
  | .govUnpark h slot => Sys2Proof.Machine.execGovUnpark h slot s
  | .govSetTelemetry h period => Sys2Proof.Machine.execGovSetTelemetry h period s
  | .govSetOp h slot clear timeout => Sys2Proof.Machine.execGovSetOp h slot clear timeout s
  | .govSetDroop h slot dens len resume di storm => Sys2Proof.Machine.execGovSetDroop h slot dens len resume di storm s
  | .govSetMargin h slot item value => Sys2Proof.Machine.execGovSetMargin h slot item value s
  | .govTrimReset h slot => Sys2Proof.Machine.execGovTrimReset h slot s
  | .govStatus h slot buf => Sys2Proof.Machine.execGovStatus h slot buf s
  | .gridSetTarget h tseq target slope deadline issueTime => Sys2Proof.Machine.execGridSetTarget h tseq target slope deadline issueTime s
  | .gridSetCurve h npoints frSlope freqStale buf => Sys2Proof.Machine.execGridSetCurve h npoints frSlope freqStale buf s
  | .gridSetFreq h df issueTime => Sys2Proof.Machine.execGridSetFreq h df issueTime s
  | .gridPark h tseq slope deadline issueTime => Sys2Proof.Machine.execGridPark h tseq slope deadline issueTime s
  | .gridUnpark h tseq issueTime => Sys2Proof.Machine.execGridUnpark h tseq issueTime s
  | .gridSetSource h source reportStale => Sys2Proof.Machine.execGridSetSource h source reportStale s
  | .gridSetPark h rails spread => Sys2Proof.Machine.execGridSetPark h rails spread s
  | .gridStatus h buf => Sys2Proof.Machine.execGridStatus h buf s
  | .coolSetZone h zone pumps fans slots target trip => Sys2Proof.Machine.execCoolSetZone h zone pumps fans slots target trip s
  | .coolSetSensor h point zone n thresh buf blen => Sys2Proof.Machine.execCoolSetSensor h point zone n thresh buf blen s
  | .coolSetDrive h channel mode drive => Sys2Proof.Machine.execCoolSetDrive h channel mode drive s
  | .coolSetValve h channel on => Sys2Proof.Machine.execCoolSetValve h channel on s
  | .coolSetInput h channel filter stuck chatter => Sys2Proof.Machine.execCoolSetInput h channel filter stuck chatter s
  | .coolStatus h buf => Sys2Proof.Machine.execCoolStatus h buf s
  | .pwrSetTrip h channel thresh retries => Sys2Proof.Machine.execPwrSetTrip h channel thresh retries s
  | .pwrResetTrip h channel => Sys2Proof.Machine.execPwrResetTrip h channel s
  | .pwrBranch h slot on => Sys2Proof.Machine.execPwrBranch h slot on s
  | .pwrSetRail h rail sheaf parents riseTimeout => Sys2Proof.Machine.execPwrSetRail h rail sheaf parents riseTimeout s
  | .pwrRailCtrl h mask on => Sys2Proof.Machine.execPwrRailCtrl h mask on s
  | .pwrSetWarn h feed thresh => Sys2Proof.Machine.execPwrSetWarn h feed thresh s
  | .pwrStatus h buf => Sys2Proof.Machine.execPwrStatus h buf s
  | .easelLoad h buf blen => Sys2Proof.Machine.execEaselLoad h buf blen s
  | .easelBind h progId rev slot => Sys2Proof.Machine.execEaselBind h progId rev slot s
  | .easelUnbind h inst => Sys2Proof.Machine.execEaselUnbind h inst s
  | .easelDelete h progId rev => Sys2Proof.Machine.execEaselDelete h progId rev s
  | .easelStatus h gslot buf => Sys2Proof.Machine.execEaselStatus h gslot buf s
  | .easelConfig h reseedPeriod kacPeriod => Sys2Proof.Machine.execEaselConfig h reseedPeriod kacPeriod s
  | .handLoad h first count data buf blen shrBase shrLen => Sys2Proof.Machine.execHandLoad h first count data buf blen shrBase shrLen s
  | .handStart h hand regs => Sys2Proof.Machine.execHandStart h hand regs s
  | .handStop h hand => Sys2Proof.Machine.execHandStop h hand s
  | .handConfig h hand shadow restartMax restartWindow ckptWd => Sys2Proof.Machine.execHandConfig h hand shadow restartMax restartWindow ckptWd s
  | .handStatus h hand bay => Sys2Proof.Machine.execHandStatus h hand bay s
  | .bistRun h bay bank => Sys2Proof.Machine.execBistRun h bay bank s
  | .bistResult h bay bank buf => Sys2Proof.Machine.execBistResult h bay bank buf s
  | .repairApply h bay bank kind pos => Sys2Proof.Machine.execRepairApply h bay bank kind pos s
  | .granStatus h bay first count buf => Sys2Proof.Machine.execGranStatus h bay first count buf s
  | .granConfig h bay gleanPeriod ceThresh autotest => Sys2Proof.Machine.execGranConfig h bay gleanPeriod ceThresh autotest s
  | .fabGlobal h op node buf blen => Sys2Proof.Machine.execFabGlobal h op node buf blen s
  | .fabStatus h buf => Sys2Proof.Machine.execFabStatus h buf s
  | .fabConfig h item value => Sys2Proof.Machine.execFabConfig h item value s
  | .updBegin h kind len => Sys2Proof.Machine.execUpdBegin h kind len s
  | .updBlock h offset blen buf crc => Sys2Proof.Machine.execUpdBlock h offset blen buf crc s
  | .updCommit h hash => Sys2Proof.Machine.execUpdCommit h hash s
  | .updConfirm h kind => Sys2Proof.Machine.execUpdConfirm h kind s
  | .updLock h lock => Sys2Proof.Machine.execUpdLock h lock s
  | .updAbort h kind => Sys2Proof.Machine.execUpdAbort h kind s
  | .updStatus h => Sys2Proof.Machine.execUpdStatus h s
  | .logRead h start count buf => Sys2Proof.Machine.execLogRead h start count buf s
  | .logStatus h => Sys2Proof.Machine.execLogStatus h s
  | .twXfer h port addr kind wlen rlen tout buf wdata => Sys2Proof.Machine.execTwXfer h port addr kind wlen rlen tout buf wdata s
  | .twConfig h port enable speed filter target => Sys2Proof.Machine.execTwConfig h port enable speed filter target s
  | .calRead h offset len buf => Sys2Proof.Machine.execCalRead h offset len buf s
  | .calWrite h offset len buf => Sys2Proof.Machine.execCalWrite h offset len buf s
  | .bayStatus h => Sys2Proof.Machine.execBayStatus h s
  | .bayHandover h waitUs => Sys2Proof.Machine.execBayHandover h waitUs s
  | .bayConfig h item value => Sys2Proof.Machine.execBayConfig h item value s
  | .bayRestart h bay => Sys2Proof.Machine.execBayRestart h bay s
  | .add bay hand rd rs1 rs2 => Sys2Proof.Machine.execAdd bay hand rd rs1 rs2 s
  | .sub bay hand rd rs1 rs2 => Sys2Proof.Machine.execSub bay hand rd rs1 rs2 s
  | .and bay hand rd rs1 rs2 => Sys2Proof.Machine.execAnd bay hand rd rs1 rs2 s
  | .or bay hand rd rs1 rs2 => Sys2Proof.Machine.execOr bay hand rd rs1 rs2 s
  | .xor bay hand rd rs1 rs2 => Sys2Proof.Machine.execXor bay hand rd rs1 rs2 s
  | .shl bay hand rd rs1 rs2 => Sys2Proof.Machine.execShl bay hand rd rs1 rs2 s
  | .shr bay hand rd rs1 rs2 => Sys2Proof.Machine.execShr bay hand rd rs1 rs2 s
  | .sra bay hand rd rs1 rs2 => Sys2Proof.Machine.execSra bay hand rd rs1 rs2 s
  | .slt bay hand rd rs1 rs2 => Sys2Proof.Machine.execSlt bay hand rd rs1 rs2 s
  | .sltu bay hand rd rs1 rs2 => Sys2Proof.Machine.execSltu bay hand rd rs1 rs2 s
  | .mul bay hand rd rs1 rs2 => Sys2Proof.Machine.execMul bay hand rd rs1 rs2 s
  | .mulh bay hand rd rs1 rs2 => Sys2Proof.Machine.execMulh bay hand rd rs1 rs2 s
  | .mulhu bay hand rd rs1 rs2 => Sys2Proof.Machine.execMulhu bay hand rd rs1 rs2 s
  | .min bay hand rd rs1 rs2 => Sys2Proof.Machine.execMin bay hand rd rs1 rs2 s
  | .max bay hand rd rs1 rs2 => Sys2Proof.Machine.execMax bay hand rd rs1 rs2 s
  | .addi bay hand rd rs1 imm => Sys2Proof.Machine.execAddi bay hand rd rs1 imm s
  | .andi bay hand rd rs1 imm => Sys2Proof.Machine.execAndi bay hand rd rs1 imm s
  | .ori bay hand rd rs1 imm => Sys2Proof.Machine.execOri bay hand rd rs1 imm s
  | .xori bay hand rd rs1 imm => Sys2Proof.Machine.execXori bay hand rd rs1 imm s
  | .shli bay hand rd rs1 imm => Sys2Proof.Machine.execShli bay hand rd rs1 imm s
  | .shri bay hand rd rs1 imm => Sys2Proof.Machine.execShri bay hand rd rs1 imm s
  | .srai bay hand rd rs1 imm => Sys2Proof.Machine.execSrai bay hand rd rs1 imm s
  | .slti bay hand rd rs1 imm => Sys2Proof.Machine.execSlti bay hand rd rs1 imm s
  | .lui bay hand rd imm => Sys2Proof.Machine.execLui bay hand rd imm s
  | .lw bay hand rd rs1 imm ecc => Sys2Proof.Machine.execLw bay hand rd rs1 imm ecc s
  | .lhu bay hand rd rs1 imm ecc => Sys2Proof.Machine.execLhu bay hand rd rs1 imm ecc s
  | .sw bay hand rs2 rs1 imm ecc => Sys2Proof.Machine.execSw bay hand rs2 rs1 imm ecc s
  | .sh bay hand rs2 rs1 imm ecc => Sys2Proof.Machine.execSh bay hand rs2 rs1 imm ecc s
  | .ld bay hand rd rs1 imm ecc => Sys2Proof.Machine.execLd bay hand rd rs1 imm ecc s
  | .sd bay hand rs2 rs1 imm ecc => Sys2Proof.Machine.execSd bay hand rs2 rs1 imm ecc s
  | .aadd bay hand rd rs1 rs2 imm ecc => Sys2Proof.Machine.execAadd bay hand rd rs1 rs2 imm ecc s
  | .aadd64 bay hand rd rs1 rs2 imm ecc => Sys2Proof.Machine.execAadd64 bay hand rd rs1 rs2 imm ecc s
  | .aswp bay hand rd rs1 rs2 imm ecc => Sys2Proof.Machine.execAswp bay hand rd rs1 rs2 imm ecc s
  | .beq bay hand rs1 rs2 off => Sys2Proof.Machine.execBeq bay hand rs1 rs2 off s
  | .bne bay hand rs1 rs2 off => Sys2Proof.Machine.execBne bay hand rs1 rs2 off s
  | .blt bay hand rs1 rs2 off => Sys2Proof.Machine.execBlt bay hand rs1 rs2 off s
  | .bge bay hand rs1 rs2 off => Sys2Proof.Machine.execBge bay hand rs1 rs2 off s
  | .bltu bay hand rs1 rs2 off => Sys2Proof.Machine.execBltu bay hand rs1 rs2 off s
  | .bgeu bay hand rs1 rs2 off => Sys2Proof.Machine.execBgeu bay hand rs1 rs2 off s
  | .jal bay hand rd imm => Sys2Proof.Machine.execJal bay hand rd imm s
  | .jalr bay hand rd rs1 imm => Sys2Proof.Machine.execJalr bay hand rd rs1 imm s
  | .wait bay hand rd rs1 imm => Sys2Proof.Machine.execWait bay hand rd rs1 imm s
  | .evb bay hand rd rs1 imm => Sys2Proof.Machine.execEvb bay hand rd rs1 imm s
  | .sig bay hand rd rs1 imm => Sys2Proof.Machine.execSig bay hand rd rs1 imm s
  | .twi bay hand rd rs1 imm => Sys2Proof.Machine.execTwi bay hand rd rs1 imm s
  | .lsend bay hand rd rs1 rs2 fn => Sys2Proof.Machine.execLsend bay hand rd rs1 rs2 fn s
  | .tset bay hand rd rs1 imm => Sys2Proof.Machine.execTset bay hand rd rs1 imm s
  | .time bay hand rd rs1 imm => Sys2Proof.Machine.execTime bay hand rd rs1 imm s
  | .yieldHand bay hand rd rs1 imm => Sys2Proof.Machine.execYieldHand bay hand rd rs1 imm s
  | .ckpt bay hand rd rs1 imm => Sys2Proof.Machine.execCkpt bay hand rd rs1 imm s
  | .halt bay hand rd rs1 imm => Sys2Proof.Machine.execHalt bay hand rd rs1 imm s
  | .self bay hand rd rs1 imm => Sys2Proof.Machine.execSelf bay hand rd rs1 imm s
  | .illegalInstruction bay hand word => Sys2Proof.Machine.execIllegalInstruction bay hand word s
  | .accessDone bay hand => Sys2Proof.Machine.execAccessDone bay hand s
  | .icacheLineFill bay hand line => Sys2Proof.Machine.execIcacheLineFill bay hand line s
  | .yieldExpiry bay hand => Sys2Proof.Machine.execYieldExpiry bay hand s
  | .handTimerExpiry bay hand => Sys2Proof.Machine.execHandTimerExpiry bay hand s
  | .ckptWdExpiry bay hand => Sys2Proof.Machine.execCkptWdExpiry bay hand s
  | .mirrorAck bay hand => Sys2Proof.Machine.execMirrorAck bay hand s
  | .mirrorAckTimeout bay hand => Sys2Proof.Machine.execMirrorAckTimeout bay hand s
  | .twiResult port status arbLost count data => Sys2Proof.Machine.execTwiResult port status arbLost count data s
  | .shadowResultTimeout bay hand => Sys2Proof.Machine.execShadowResultTimeout bay hand s
  | .mailboxMessage bay hand msg => Sys2Proof.Machine.execMailboxMessage bay hand msg s
  | .lsendReply bay hand msg => Sys2Proof.Machine.execLsendReply bay hand msg s
  | .lsendReplyTimeout bay hand => Sys2Proof.Machine.execLsendReplyTimeout bay hand s
  | .counterFrame bay stalk frame => Sys2Proof.Machine.execCounterFrame bay stalk frame s
  | .laneSignalDetected bay slot => Sys2Proof.Machine.execLaneSignalDetected bay slot s
  | .laneTrainTimeout bay slot => Sys2Proof.Machine.execLaneTrainTimeout bay slot s
  | .laneRetry bay slot => Sys2Proof.Machine.execLaneRetry bay slot s
  | .laneLost bay slot => Sys2Proof.Machine.execLaneLost bay slot s
  | .laneLossOfSignal bay slot => Sys2Proof.Machine.execLaneLossOfSignal bay slot s
  | .laneCountYield => Sys2Proof.Machine.execLaneCountYield s
  | .governorWindow bay => Sys2Proof.Machine.execGovernorWindow bay s
  | .pushRestartTimeout slot => Sys2Proof.Machine.execPushRestartTimeout slot s
  | .fusionPass bay => Sys2Proof.Machine.execFusionPass bay s
  | .escSatExpiry => Sys2Proof.Machine.execEscSatExpiry s
  | .shedWaitExpiry => Sys2Proof.Machine.execShedWaitExpiry s
  | .parkWaitExpiry => Sys2Proof.Machine.execParkWaitExpiry s
  | .unreachableRepeat => Sys2Proof.Machine.execUnreachableRepeat s
  | .opdnExpiry bay slot => Sys2Proof.Machine.execOpdnExpiry bay slot s
  | .opupExpiry bay slot => Sys2Proof.Machine.execOpupExpiry bay slot s
  | .opcTimeout bay slot => Sys2Proof.Machine.execOpcTimeout bay slot s
  | .droopResumeExpiry bay slot => Sys2Proof.Machine.execDroopResumeExpiry bay slot s
  | .ageingRead slot margins => Sys2Proof.Machine.execAgeingRead slot margins s
  | .bayAgeingRead bay margin => Sys2Proof.Machine.execBayAgeingRead bay margin s
  | .trimEvaluation who point => Sys2Proof.Machine.execTrimEvaluation who point s
  | .governorRecord => Sys2Proof.Machine.execGovernorRecord s
  | .gridRecord => Sys2Proof.Machine.execGridRecord s
  | .easelRecord => Sys2Proof.Machine.execEaselRecord s
  | .targetCommit op target => Sys2Proof.Machine.execTargetCommit op target s
  | .frequencyFrame df issueTime arrival => Sys2Proof.Machine.execFrequencyFrame df issueTime arrival s
  | .freqStaleExpiry => Sys2Proof.Machine.execFreqStaleExpiry s
  | .reportStaleExpiry port => Sys2Proof.Machine.execReportStaleExpiry port s
  | .shareTableBuild => Sys2Proof.Machine.execShareTableBuild s
  | .parkDelayExpiry => Sys2Proof.Machine.execParkDelayExpiry s
  | .parkFuseOpen => Sys2Proof.Machine.execParkFuseOpen s
  | .unparkDelayExpiry => Sys2Proof.Machine.execUnparkDelayExpiry s
  | .unparkRailsUp => Sys2Proof.Machine.execUnparkRailsUp s
  | .easelPhaseRun bay phase => Sys2Proof.Machine.execEaselPhaseRun bay phase s
  | .easelPhaseClose bay inst => Sys2Proof.Machine.execEaselPhaseClose bay inst s
  | .knownAnswerCheck bay panel result => Sys2Proof.Machine.execKnownAnswerCheck bay panel result s
  | .reseed => Sys2Proof.Machine.execReseed s
  | .switchWindow bay => Sys2Proof.Machine.execSwitchWindow bay s
  | .gapLoadDone bay inst => Sys2Proof.Machine.execGapLoadDone bay inst s
  | .heartbeat bay => Sys2Proof.Machine.execHeartbeat bay s
  | .wdTimeoutExpiry bay => Sys2Proof.Machine.execWdTimeoutExpiry bay s
  | .claimGuardExpiry bay => Sys2Proof.Machine.execClaimGuardExpiry bay s
  | .ownershipClaim bay epoch => Sys2Proof.Machine.execOwnershipClaim bay epoch s
  | .ownershipYield bay on => Sys2Proof.Machine.execOwnershipYield bay on s
  | .mirrorWrite bay epoch addr data => Sys2Proof.Machine.execMirrorWrite bay epoch addr data s
  | .shadowCompare slot crc => Sys2Proof.Machine.execShadowCompare slot crc s
  | .journalWrite change => Sys2Proof.Machine.execJournalWrite change s
  | .journalAck jseq => Sys2Proof.Machine.execJournalAck jseq s
  | .journalAckTimeout jseq => Sys2Proof.Machine.execJournalAckTimeout jseq s
  | .journalApply => Sys2Proof.Machine.execJournalApply s
  | .keeperStepReport jseq done ok => Sys2Proof.Machine.execKeeperStepReport jseq done ok s
  | .retainExpiry jseq => Sys2Proof.Machine.execRetainExpiry jseq s
  | .handoverWindow => Sys2Proof.Machine.execHandoverWindow s
  | .handoverWaitExpiry => Sys2Proof.Machine.execHandoverWaitExpiry s
  | .joinCopyDone bay => Sys2Proof.Machine.execJoinCopyDone bay s
  | .bayRecord => Sys2Proof.Machine.execBayRecord s
  | .doorbell endpoint ring size value => Sys2Proof.Machine.execDoorbell endpoint ring size value s
  | .doorbellForward => Sys2Proof.Machine.execDoorbellForward s
  | .commandFetch ring entries => Sys2Proof.Machine.execCommandFetch ring entries s
  | .completionPost jseq bufOk => Sys2Proof.Machine.execCompletionPost jseq bufOk s
  | .coalUsExpiry ring => Sys2Proof.Machine.execCoalUsExpiry ring s
  | .ringDmaError ring poisoned => Sys2Proof.Machine.execRingDmaError ring poisoned s
  | .eventPost bay code payload => Sys2Proof.Machine.execEventPost bay code payload s
  | .admCtrlWrite endpoint value => Sys2Proof.Machine.execAdmCtrlWrite endpoint value s
  | .winStatusWrite endpoint value => Sys2Proof.Machine.execWinStatusWrite endpoint value s
  | .registerWrite endpoint offset value => Sys2Proof.Machine.execRegisterWrite endpoint offset value s
  | .hostWindowAccess endpoint write offset size value ecc collide => Sys2Proof.Machine.execHostWindowAccess endpoint write offset size value ecc collide s
  | .debugStatusRead bay => Sys2Proof.Machine.execDebugStatusRead bay s
  | .functionLevelReset endpoint => Sys2Proof.Machine.execFunctionLevelReset endpoint s
  | .endpointLinkChange endpoint up busMaster width speed => Sys2Proof.Machine.execEndpointLinkChange endpoint up busMaster width speed s
  | .gleanerPass bay singles doubles => Sys2Proof.Machine.execGleanerPass bay singles doubles s
  | .gleanStarved bay => Sys2Proof.Machine.execGleanStarved bay s
  | .correctedWriteback bay addr => Sys2Proof.Machine.execCorrectedWriteback bay addr s
  | .peerRestoreDone bay addr => Sys2Proof.Machine.execPeerRestoreDone bay addr s
  | .modelReloadDone bay inst => Sys2Proof.Machine.execModelReloadDone bay inst s
  | .selfTestCopyDone bay bank => Sys2Proof.Machine.execSelfTestCopyDone bay bank s
  | .selfTestMarchDone bay bank fails => Sys2Proof.Machine.execSelfTestMarchDone bay bank fails s
  | .selfTestRestoreDone bay bank => Sys2Proof.Machine.execSelfTestRestoreDone bay bank s
  | .portLightLock port => Sys2Proof.Machine.execPortLightLock port s
  | .portTrainTimeout port => Sys2Proof.Machine.execPortTrainTimeout port s
  | .portLossOfLight port => Sys2Proof.Machine.execPortLossOfLight port s
  | .deadTimeoutExpiry port => Sys2Proof.Machine.execDeadTimeoutExpiry port s
  | .beaconSend => Sys2Proof.Machine.execBeaconSend s
  | .beacon port hdr body => Sys2Proof.Machine.execBeacon port hdr body s
  | .claim port hdr => Sys2Proof.Machine.execClaim port hdr s
  | .join port hdr maxMepoch parent => Sys2Proof.Machine.execJoin port hdr maxMepoch parent s
  | .admitFrame port hdr mepoch table => Sys2Proof.Machine.execAdmitFrame port hdr mepoch table s
  | .memberFrame port hdr changes => Sys2Proof.Machine.execMemberFrame port hdr changes s
  | .nak port hdr reason roles roleEpoch => Sys2Proof.Machine.execNak port hdr reason roles roleEpoch s
  | .timeFrame port hdr stamps => Sys2Proof.Machine.execTimeFrame port hdr stamps s
  | .timeExchangeSend => Sys2Proof.Machine.execTimeExchangeSend s
  | .msg port hdr msg reply hand => Sys2Proof.Machine.execMsg port hdr msg reply hand s
  | .gdown port hdr desc body => Sys2Proof.Machine.execGdown port hdr desc body s
  | .gup port hdr body => Sys2Proof.Machine.execGup port hdr body s
  | .report port hdr want keep flr => Sys2Proof.Machine.execReport port hdr want keep flr s
  | .reportSend => Sys2Proof.Machine.execReportSend s
  | .claimBackoffExpiry => Sys2Proof.Machine.execClaimBackoffExpiry s
  | .claimSettleExpiry => Sys2Proof.Machine.execClaimSettleExpiry s
  | .rootTimeoutExpiry => Sys2Proof.Machine.execRootTimeoutExpiry s
  | .staleMemberRemoval => Sys2Proof.Machine.execStaleMemberRemoval s
  | .opTimeoutExpiry opNo => Sys2Proof.Machine.execOpTimeoutExpiry opNo s
  | .snapshotLatch opNo => Sys2Proof.Machine.execSnapshotLatch opNo s
  | .hallReset => Sys2Proof.Machine.execHallReset s
  | .pushreq port hdr hash bay => Sys2Proof.Machine.execPushreq port hdr hash bay s
  | .pushreqSend => Sys2Proof.Machine.execPushreqSend s
  | .push port hdr offset data => Sys2Proof.Machine.execPush port hdr offset data s
  | .pushAckTimeout => Sys2Proof.Machine.execPushAckTimeout s
  | .fabricRecord => Sys2Proof.Machine.execFabricRecord s
  | .pgCountedUp rail => Sys2Proof.Machine.execPgCountedUp rail s
  | .pgCountedDown rail => Sys2Proof.Machine.execPgCountedDown rail s
  | .riseTimeoutExpiry rail => Sys2Proof.Machine.execRiseTimeoutExpiry rail s
  | .fallingExpiry => Sys2Proof.Machine.execFallingExpiry s
  | .enReadbackMismatch rail => Sys2Proof.Machine.execEnReadbackMismatch rail s
  | .shutdownFirstStep => Sys2Proof.Machine.execShutdownFirstStep s
  | .inputReturned channel => Sys2Proof.Machine.execInputReturned channel s
  | .railRecord => Sys2Proof.Machine.execRailRecord s
  | .almanacWrite => Sys2Proof.Machine.execAlmanacWrite s
  | .almanacDrop source code payload => Sys2Proof.Machine.execAlmanacDrop source code payload s
  | .holdupCollapse => Sys2Proof.Machine.execHoldupCollapse s
  | .keeperStart => Sys2Proof.Machine.execKeeperStart s
  | .senseSample samples vh => Sys2Proof.Machine.execSenseSample samples vh s
  | .energyWriteback => Sys2Proof.Machine.execEnergyWriteback s
  | .seatPinMade pinB => Sys2Proof.Machine.execSeatPinMade pinB s
  | .seated => Sys2Proof.Machine.execSeated s
  | .seatPinBroken pinB => Sys2Proof.Machine.execSeatPinBroken pinB s
  | .gateFullyOn channel => Sys2Proof.Machine.execGateFullyOn channel s
  | .inrushTimeoutExpiry channel => Sys2Proof.Machine.execInrushTimeoutExpiry channel s
  | .fastTrip channel current => Sys2Proof.Machine.execFastTrip channel current s
  | .tripRetry channel => Sys2Proof.Machine.execTripRetry channel s
  | .retryCountRestore channel => Sys2Proof.Machine.execRetryCountRestore channel s
  | .commandedOpenDelay slot => Sys2Proof.Machine.execCommandedOpenDelay slot s
  | .feedValid channel => Sys2Proof.Machine.execFeedValid channel s
  | .feedWarnAssert => Sys2Proof.Machine.execFeedWarnAssert s
  | .bothOffExpiry => Sys2Proof.Machine.execBothOffExpiry s
  | .feedWarnDeassert => Sys2Proof.Machine.execFeedWarnDeassert s
  | .returnToFeedA => Sys2Proof.Machine.execReturnToFeedA s
  | .gateFault channel => Sys2Proof.Machine.execGateFault channel s
  | .powerChannelRecord channel => Sys2Proof.Machine.execPowerChannelRecord channel s
  | .diodeConversion readings => Sys2Proof.Machine.execDiodeConversion readings s
  | .sensorCheck bay => Sys2Proof.Machine.execSensorCheck bay s
  | .zoneDemand => Sys2Proof.Machine.execZoneDemand s
  | .thermalStep => Sys2Proof.Machine.execThermalStep s
  | .thermalHoldRelease slot => Sys2Proof.Machine.execThermalHoldRelease slot s
  | .kick channel => Sys2Proof.Machine.execKick channel s
  | .kickResponse channel => Sys2Proof.Machine.execKickResponse channel s
  | .kickExpiry channel => Sys2Proof.Machine.execKickExpiry channel s
  | .tachSilence channel => Sys2Proof.Machine.execTachSilence channel s
  | .readIout channel word binary16 => Sys2Proof.Machine.execReadIout channel word binary16 s
  | .stallRetry channel => Sys2Proof.Machine.execStallRetry channel s
  | .pumpIndexPulse channel count => Sys2Proof.Machine.execPumpIndexPulse channel count s
  | .flowGate channel pulses => Sys2Proof.Machine.execFlowGate channel pulses s
  | .leak channel => Sys2Proof.Machine.execLeak channel s
  | .inputStuck channel => Sys2Proof.Machine.execInputStuck channel s
  | .inputChatter channel transitions => Sys2Proof.Machine.execInputChatter channel transitions s
  | .outputFight channel => Sys2Proof.Machine.execOutputFight channel s
  | .coolingRecord => Sys2Proof.Machine.execCoolingRecord s
  | .twiDescriptorStart port => Sys2Proof.Machine.execTwiDescriptorStart port s
  | .toutExpiry port => Sys2Proof.Machine.execToutExpiry port s
  | .busStuck port sdaClears => Sys2Proof.Machine.execBusStuck port sdaClears s
  | .busRecoveryRetry port success => Sys2Proof.Machine.execBusRecoveryRetry port success s
  | .targetTransfer port write data readLen stop => Sys2Proof.Machine.execTargetTransfer port write data readLen stop s
  | .targetAbandon port => Sys2Proof.Machine.execTargetAbandon port s
  | .targetLocalAccess port => Sys2Proof.Machine.execTargetLocalAccess port s
  | .hostNotify port data => Sys2Proof.Machine.execHostNotify port data s
  | .dormantAddressMatch port addr => Sys2Proof.Machine.execDormantAddressMatch port addr s
  | .matcherReturn port => Sys2Proof.Machine.execMatcherReturn port s
  | .readPin slot words => Sys2Proof.Machine.execReadPin slot words s
  | .suppliesValid => Sys2Proof.Machine.execSuppliesValid s
  | .trimPass agree => Sys2Proof.Machine.execTrimPass agree s
  | .pllLock => Sys2Proof.Machine.execPllLock s
  | .scarecrowLive => Sys2Proof.Machine.execScarecrowLive s
  | .loftSettingsLoaded => Sys2Proof.Machine.execLoftSettingsLoaded s
  | .pushWindowOpen bay => Sys2Proof.Machine.execPushWindowOpen bay s
  | .claimWrite bay agent => Sys2Proof.Machine.execClaimWrite bay agent s
  | .go bay agent => Sys2Proof.Machine.execGo bay agent s
  | .apertureCopyDone bay => Sys2Proof.Machine.execApertureCopyDone bay s
  | .release bay agent => Sys2Proof.Machine.execRelease bay agent s
  | .stage0Done bay => Sys2Proof.Machine.execStage0Done bay s
  | .stage1Done bay => Sys2Proof.Machine.execStage1Done bay s
  | .pushAbandonExpiry bay => Sys2Proof.Machine.execPushAbandonExpiry bay s
  | .streamerClaim bay => Sys2Proof.Machine.execStreamerClaim bay s
  | .fallowEntry bay => Sys2Proof.Machine.execFallowEntry bay s
  | .quoteRequestPoll bay => Sys2Proof.Machine.execQuoteRequestPoll bay s
  | .lifeCycleRequest state serial key sig => Sys2Proof.Machine.execLifeCycleRequest state serial key sig s
  | .debugAuthentication bay sig => Sys2Proof.Machine.execDebugAuthentication bay sig s
  | .entropyReady => Sys2Proof.Machine.execEntropyReady s
  | .drbgReseed => Sys2Proof.Machine.execDrbgReseed s
  | .entropyHealthFail => Sys2Proof.Machine.execEntropyHealthFail s
  | .fuseCounterBurn => Sys2Proof.Machine.execFuseCounterBurn s
  | .standbyLimitExpiry bay => Sys2Proof.Machine.execStandbyLimitExpiry bay s
  | .accelerometerRead deviationMg => Sys2Proof.Machine.execAccelerometerRead deviationMg s
  | .fallowPushCommit => Sys2Proof.Machine.execFallowPushCommit s
  | .fallowResetExpiry => Sys2Proof.Machine.execFallowResetExpiry s
  | .controllerReset => Sys2Proof.Machine.execControllerReset s
  | .bayReset bay => Sys2Proof.Machine.execBayReset bay s
  | .photonicRestart => Sys2Proof.Machine.execPhotonicRestart s
  | .perst endpoint => Sys2Proof.Machine.execPerst endpoint s
  | .dormantEntry => Sys2Proof.Machine.execDormantEntry s
  | .wake => Sys2Proof.Machine.execWake s
  | .wakeWatchdog bay => Sys2Proof.Machine.execWakeWatchdog bay s
  | .crystalLoss => Sys2Proof.Machine.execCrystalLoss s
  | .keeperHold pair => Sys2Proof.Machine.execKeeperHold pair s
  | .acceptCommandFrame slot frame => Sys2Proof.Machine.execAcceptCommandFrame slot frame s
  | .acceptBurstFrame slot frame => Sys2Proof.Machine.execAcceptBurstFrame slot frame s
  | .acceptPushBlock slot block => Sys2Proof.Machine.execAcceptPushBlock slot block s
  | .leaseLapse slot => Sys2Proof.Machine.execLeaseLapse slot s
  | .acceleratorWindow slot sense => Sys2Proof.Machine.execAcceleratorWindow slot sense s
  | .burstEnd slot => Sys2Proof.Machine.execBurstEnd slot s
  | .loftDieLost die => Sys2Proof.Machine.execLoftDieLost die s
  | .dieFailure die => Sys2Proof.Machine.execDieFailure die s
  | .breezewayLinkChange up => Sys2Proof.Machine.execBreezewayLinkChange up s
  | .ownerHbAge5ms => Sys2Proof.Machine.execOwnerHbAge5ms s
  | .acceleratorReset slot => Sys2Proof.Machine.execAcceleratorReset slot s
  | .acceleratorStepComplete slot => Sys2Proof.Machine.execAcceleratorStepComplete slot s
  | .acceleratorQuiesced slot => Sys2Proof.Machine.execAcceleratorQuiesced slot s
  | .firmwareVerifyDone slot ok => Sys2Proof.Machine.execFirmwareVerifyDone slot ok s
  | .bayRestartTimeout bay => Sys2Proof.Machine.execBayRestartTimeout bay s
  | .inputFilteredChange channel active => Sys2Proof.Machine.execInputFilteredChange channel active s
  | .stuckMaskClear channel => Sys2Proof.Machine.execStuckMaskClear channel s
  | .chatterEnd channel => Sys2Proof.Machine.execChatterEnd channel s
  | .tachEdgesReturn channel => Sys2Proof.Machine.execTachEdgesReturn channel s
  | .holdupExhausted => Sys2Proof.Machine.execHoldupExhausted s
  | .reduceSample opNo => Sys2Proof.Machine.execReduceSample opNo s
  | .pushOffer port hash => Sys2Proof.Machine.execPushOffer port hash s
  | .offerWaitExpiry => Sys2Proof.Machine.execOfferWaitExpiry s
  | .pushAcknowledge port offset => Sys2Proof.Machine.execPushAcknowledge port offset s
  | .fallowPushStall => Sys2Proof.Machine.execFallowPushStall s
  | .debugAccess bay act ecc collide => Sys2Proof.Machine.execDebugAccess bay act ecc collide s
  | .junctionSensorRead bay0 bay1 keeper photonic loft => Sys2Proof.Machine.execJunctionSensorRead bay0 bay1 keeper photonic loft s
  | .codeRewriteDone bay page => Sys2Proof.Machine.execCodeRewriteDone bay page s
  | .targetDeadlineExpiry fab target => Sys2Proof.Machine.execTargetDeadlineExpiry fab target s

end Sys2Proof.Machine
end

