-- ==== Sys2Proof/Machine/Step.lean ====
section
/-!
DEFINITION. One step of the block: the command at the front of the queue, or one keeper cycle on an empty queue.
-/
namespace Sys2Proof.Machine
open Sys2Proof

/-- The command at the front of the queue runs on the state with the queue's rest. On an empty queue the block idles for one
keeper cycle, in which device time gains 5 ns once it counts (R483; DESIGN CHOICE, log entry 3). -/
def step (s : State) : Host.Outcome State Fault Refusal :=
  match s.pending with
  | c :: rest => exec c { s with pending := rest }
  | [] => .next (idle s)

/-- The state with the command that a word of the table spells put at the front of its queue; the table gives no row any bits, so no
word spells one and the state is unchanged. -/
def State.withFetchWord (s : State) (nbits w : Nat) : State :=
  match decodeTableWord nbits w with
  | some c => { s with pending := c :: s.pending }
  | none => s

end Sys2Proof.Machine
end

