-- ==== Sys2Proof/Safety.lean ====
section
/-!
DEFINITION. The terms claims are made in: what a command answers, which parts of the state it leaves alone, and the form that every
memory keeps.
-/
namespace Sys2Proof
open Machine

/-- The parts of the state, one for each chapter that holds state, with what was driven out and the queue. -/
inductive Part where
  | link | gov | grid | easel | barn | gran | own | host | fab | rail | alm | pwr | cool | tw | boot | loft | sys | out | pending
  deriving DecidableEq, Repr

/-- Two states hold the same in a part. -/
def samePart (s t : State) (p : Part) : Prop :=
  match p with
  | .link => t.link = s.link
  | .gov => t.gov = s.gov
  | .grid => t.grid = s.grid
  | .easel => t.easel = s.easel
  | .barn => t.barn = s.barn
  | .gran => t.gran = s.gran
  | .own => t.own = s.own
  | .host => t.host = s.host
  | .fab => t.fab = s.fab
  | .rail => t.rail = s.rail
  | .alm => t.alm = s.alm
  | .pwr => t.pwr = s.pwr
  | .cool => t.cool = s.cool
  | .tw => t.tw = s.tw
  | .boot => t.boot = s.boot
  | .loft => t.loft = s.loft
  | .sys => t.sys = s.sys
  | .out => t.out = s.out
  | .pending => t.pending = s.pending

/-- Only the parts named may differ from s to t. -/
def OnlyParts (ps : List Part) (s t : State) : Prop := ∀ p, p ∉ ps → samePart s t p

/-- A command answers a next state, and that state has a property. -/
def Runs (i : Instr) (s : State) (post : State → Prop) : Prop := ∃ t, exec i s = .next t ∧ post t

/-- Every Granary's memory is in canonical form (log entry 2). -/
def MemoryInv (s : State) : Prop := ∀ bay, Memory.wf (s.granary bay).mem = true

/-- A step goes on: it is neither a fault nor a refusal. -/
def GoesOn (s : State) : Prop := ∃ t, step s = .next t

/-! ### Ring commands -/

/-- A ring command can be fetched, its SEQ is new, PLEN is its row's, no reserved bit or bit of OPT outside the row's is set, and no
device state of R295 refuses it. What is left of the checks of R278 is about its parameters, what it names, and that thing's state. -/
def ready (i : Instr) (plen : Nat) (mask : BitVec 8) (s : State) : Bool :=
  match opcodeOf i with
  | none => false
  | some op =>
    let h := hdrOf i
    s.canFetch h.ring op && seqNewer h.seq (s.ring h.ring).lastSeq && decide (h.plen = plen) && !h.rsvHdr && (h.opt &&& ~~~mask) == 0 &&
      h.rsvAt.isNone && (firstBad (s.deviceState i op h.ring)).isNone

/-- From s to t a ring command was accepted (R235, R236, R263, R461): its journal entry stands under the next JSEQ, with the window it
takes effect from, and its ring has passed it. -/
def Accepts (i : Instr) (s t : State) : Prop :=
  let h := hdrOf i
  let e := t.entry s.own.journal.nextJseq
  e.body = .cmd i ∧ e.kind = 0 ∧ e.state = 1 ∧ e.applied = false ∧ e.ring = h.ring ∧ e.seq = h.seq ∧ e.epoch = s.own.latch.epoch ∧
  e.applyDwn = (if h.ring < 0x10000 then s.applyWindow else s.dwn) ∧ e.acked = (s.own.journal.single || decide (0x10000 ≤ h.ring)) ∧
  t.own.journal.nextJseq = s.own.journal.nextJseq + 1 ∧ (t.ring h.ring).lastSeq = h.seq ∧
  (t.ring h.ring).ctrlIdx = (s.ring h.ring).ctrlIdx + 1 ∧ OnlyParts [.own, .host, .out] s t

/-- A ring command is accepted, and its entry has an effect at its window: from a state u in which the entry is due, `eff` of its
JSEQ and of u with the entry marked applied (R237). -/
def Carries (i : Instr) (s : State) (eff : Nat → State → State) : Prop :=
  Runs i s (Accepts i s) ∧
  ∀ (u : State) (j : Nat), u.entryDue j = true → (u.entry j).body = .cmd i → u.applyEntry j = eff j (u.modEntry j fun e => { e with applied := true })

end Sys2Proof
end

