-- ==== Sys2Proof/WellFormed.lean ====
section
/-!
DEFINITION. Well-formed commands: every operand fits the field that carries it (R183, R272 to R291), names a bay, slot, hand, port or
other item the part has (R252), and a packet's parts have the sizes its frame map gives (R24, R25, R300).
-/
namespace Sys2Proof

/-- A counter frame's fields fit (R24). -/
def CounterFrame.fits (f : CounterFrame) : Bool :=
  decide (f.slot < 16) && decide (f.tslice < 8) && decide (f.count ≤ 2048) && decide (f.densApplied < 256) && decide (f.opIndex < 32) &&
  decide (f.opcStep < 4) && decide (f.pushSt < 4) && decide (f.counters.length ≤ 2048) && f.counters.all (fun c => decide (c < 65536)) &&
  decide (f.temps.length ≤ 64) && decide (f.rails.length ≤ 32)

/-- A command frame's fields fit (R25). -/
def CommandFrame.fits (f : CommandFrame) : Bool :=
  decide (f.slot < 16) && decide (f.density < 256) && decide (f.safeDensity < 256) && decide (f.ballastW < 65536) &&
  decide (f.grants.length ≤ 8) && decide (f.opTarget < 256) && decide (f.opc < 16)

/-- A burst frame's fields fit (R25). -/
def BurstFrame.fits (f : BurstFrame) : Bool := decide (f.slot < 16) && decide (f.dens < 256) && decide (f.len < 256)

/-- A push block's fields fit (R25). -/
def PushBlock.fits (f : PushBlock) : Bool := decide (f.slot < 16) && decide (f.block < 2 ^ 32) && decide (f.data.length = 512)

/-- A header's fields fit (R272). -/
def CmdHdr.fits (h : CmdHdr) : Bool := decide (h.plen < 65536) && (match h.rsvAt with | some o => decide (o < 48) | none => true)

/-- A command entry is 64 bytes (R272). -/
def RawEntry.fits (e : RawEntry) : Bool := decide (e.words.length = 8)

/-- Every operand of a command is one its field can carry. -/
def wellFormed (i : Instr) : Bool :=
  match i with
  | .admNop h => h.fits
  | .admRingCreate h ring _ => h.fits && decide (ring < 2 ^ 16)
  | .admRingDelete h ring => h.fits && decide (ring < 2 ^ 16)
  | .admRingReset h ring => h.fits && decide (ring < 2 ^ 16)
  | .admRingQuery h ring buf => h.fits && decide (ring < 2 ^ 16) && decide (buf < 2 ^ 64)
  | .admRingSubscribe h ring subs minSev => h.fits && decide (ring < 2 ^ 16) && decide (subs < 2 ^ 32) && decide (minSev < 2 ^ 8)
  | .admHealth h => h.fits
  | .admEntropy h bytes => h.fits && decide (bytes < 2 ^ 8)
  | .govSetCap h slot cap => h.fits && decide (slot < 2 ^ 8) && decide (cap < 2 ^ 32)
  | .govSetSlope h slot rise fall => h.fits && decide (slot < 2 ^ 8) && decide (rise < 2 ^ 32) && decide (fall < 2 ^ 32)
  | .govSetPriority h slot crit => h.fits && decide (slot < 2 ^ 8) && decide (crit < 2 ^ 8)
  | .govSetGain h slot kp => h.fits && decide (slot < 2 ^ 8) && decide (kp < 2 ^ 32)
  | .govSetModel h slot model => h.fits && decide (slot < 2 ^ 8) && decide (model < 2 ^ 8)
  | .govLoadWeights h slot what vrail tensor buf blen delta => h.fits && decide (slot < 2 ^ 8) && decide (what < 2 ^ 8) && decide (vrail < 2 ^ 16) &&
      decide (tensor < 2 ^ 16) && decide (buf < 2 ^ 64) && decide (blen < 2 ^ 32) && decide (delta < 2 ^ 32)
  | .govSetSafeDensity h slot dens => h.fits && decide (slot < 2 ^ 8) && decide (dens < 2 ^ 8)
  | .govSetOversub h osf => h.fits && decide (osf < 2 ^ 32)
  | .govSetLimits h slot item value => h.fits && decide (slot < 2 ^ 8) && decide (item < 2 ^ 8) && decide (value < 2 ^ 32)
  | .govSetRunahead h slot on missTol raHold => h.fits && decide (slot < 2 ^ 8) &&
      decide (on < 2 ^ 8) && decide (missTol < 2 ^ 32) && decide (raHold < 2 ^ 32)
  | .govSetEscalation h escSat shedWait parkWait marked => h.fits && decide (escSat < 2 ^ 32) &&
      decide (shedWait < 2 ^ 32) && decide (parkWait < 2 ^ 32) && decide (marked < 2 ^ 8)
  | .govParkAck h slot => h.fits && decide (slot < 2 ^ 8)
  | .govUnpark h slot => h.fits && decide (slot < 2 ^ 8)
  | .govSetTelemetry h period => h.fits && decide (period < 2 ^ 32)
  | .govSetOp h slot clear timeout => h.fits && decide (slot < 2 ^ 8) && decide (clear < 2 ^ 8) && decide (timeout < 2 ^ 32)
  | .govSetDroop h slot dens len resume di storm => h.fits && decide (slot < 2 ^ 8) && decide (dens < 2 ^ 8) &&
      decide (len < 2 ^ 8) && decide (resume < 2 ^ 32) && decide (di < 2 ^ 32) && decide (storm < 2 ^ 32)
  | .govSetMargin h slot item _ => h.fits && decide (slot < 2 ^ 8) && decide (item < 2 ^ 8)
  | .govTrimReset h slot => h.fits && decide (slot < 2 ^ 8)
  | .govStatus h slot buf => h.fits && decide (slot < 2 ^ 8) && decide (buf < 2 ^ 64)
  | .gridSetTarget h _ target slope deadline issueTime => h.fits && decide (target < 2 ^ 32) &&
      decide (slope < 2 ^ 32) && decide (deadline < 2 ^ 64) && decide (issueTime < 2 ^ 64)
  | .gridSetCurve h npoints frSlope freqStale buf => h.fits && decide (npoints < 2 ^ 8) &&
      decide (frSlope < 2 ^ 32) && decide (freqStale < 2 ^ 32) && decide (buf < 2 ^ 64)
  | .gridSetFreq h _ issueTime => h.fits && decide (issueTime < 2 ^ 64)
  | .gridPark h _ slope deadline issueTime => h.fits && decide (slope < 2 ^ 32) && decide (deadline < 2 ^ 64) && decide (issueTime < 2 ^ 64)
  | .gridUnpark h _ issueTime => h.fits && decide (issueTime < 2 ^ 64)
  | .gridSetSource h source reportStale => h.fits && decide (source < 2 ^ 8) && decide (reportStale < 2 ^ 32)
  | .gridSetPark h _ spread => h.fits && decide (spread < 2 ^ 32)
  | .gridStatus h buf => h.fits && decide (buf < 2 ^ 64)
  | .coolSetZone h zone pumps fans slots _ _ => h.fits && decide (zone < 2 ^ 8) &&
      decide (pumps < 2 ^ 8) && decide (fans < 2 ^ 16) && decide (slots < 2 ^ 8)
  | .coolSetSensor h point zone n _ buf blen => h.fits && decide (point < 2 ^ 16) && decide (zone < 2 ^ 8) &&
      decide (n < 2 ^ 8) && decide (buf < 2 ^ 64) && decide (blen < 2 ^ 32)
  | .coolSetDrive h channel mode drive => h.fits && decide (channel < 2 ^ 16) && decide (mode < 2 ^ 8) && decide (drive < 2 ^ 32)
  | .coolSetValve h channel on => h.fits && decide (channel < 2 ^ 16) && decide (on < 2 ^ 8)
  | .coolSetInput h channel filter stuck chatter => h.fits && decide (channel < 2 ^ 16) &&
      decide (filter < 2 ^ 32) && decide (stuck < 2 ^ 32) && decide (chatter < 2 ^ 32)
  | .coolStatus h buf => h.fits && decide (buf < 2 ^ 64)
  | .pwrSetTrip h channel thresh retries => h.fits && decide (channel < 2 ^ 16) && decide (thresh < 2 ^ 32) && decide (retries < 2 ^ 8)
  | .pwrResetTrip h channel => h.fits && decide (channel < 2 ^ 16)
  | .pwrBranch h slot on => h.fits && decide (slot < 2 ^ 8) && decide (on < 2 ^ 8)
  | .pwrSetRail h rail sheaf parents riseTimeout => h.fits && decide (rail < 2 ^ 8) &&
      decide (sheaf < 2 ^ 8) && decide (parents.length = 4) && decide (riseTimeout < 2 ^ 32)
  | .pwrRailCtrl h _ on => h.fits && decide (on < 2 ^ 8)
  | .pwrSetWarn h feed _ => h.fits && decide (feed < 2 ^ 8)
  | .pwrStatus h buf => h.fits && decide (buf < 2 ^ 64)
  | .easelLoad h buf blen => h.fits && decide (buf < 2 ^ 64) && decide (blen < 2 ^ 32)
  | .easelBind h progId rev slot => h.fits && decide (progId < 2 ^ 32) && decide (rev < 2 ^ 32) && decide (slot < 2 ^ 8)
  | .easelUnbind h inst => h.fits && decide (inst < 2 ^ 16)
  | .easelDelete h progId rev => h.fits && decide (progId < 2 ^ 32) && decide (rev < 2 ^ 32)
  | .easelStatus h gslot buf => h.fits && decide (gslot < 2 ^ 8) && decide (buf < 2 ^ 64)
  | .easelConfig h reseedPeriod kacPeriod => h.fits && decide (reseedPeriod < 2 ^ 32) && decide (kacPeriod < 2 ^ 32)
  | .handLoad h first count data buf blen shrBase shrLen => h.fits && decide (first < 2 ^ 16) && decide (count < 2 ^ 16) && decide (data < 2 ^ 32) &&
      decide (buf < 2 ^ 64) && decide (blen < 2 ^ 32) && decide (shrBase < 2 ^ 32) && decide (shrLen < 2 ^ 32)
  | .handStart h hand regs => h.fits && decide (hand < 2 ^ 16) && decide (regs.length = 7)
  | .handStop h hand => h.fits && decide (hand < 2 ^ 16)
  | .handConfig h hand shadow restartMax restartWindow ckptWd => h.fits && decide (hand < 2 ^ 16) && decide (shadow < 2 ^ 8) &&
      decide (restartMax < 2 ^ 8) && decide (restartWindow < 2 ^ 32) && decide (ckptWd < 2 ^ 32)
  | .handStatus h hand bay => h.fits && decide (hand < 2 ^ 16) && decide (bay < 2 ^ 8)
  | .bistRun h bay bank => h.fits && decide (bay < 2 ^ 8) && decide (bank < 2 ^ 8)
  | .bistResult h bay bank buf => h.fits && decide (bay < 2 ^ 8) && decide (bank < 2 ^ 8) && decide (buf < 2 ^ 64)
  | .repairApply h bay bank kind pos => h.fits && decide (bay < 2 ^ 8) && decide (bank < 2 ^ 8) && decide (kind < 2 ^ 8) && decide (pos < 2 ^ 32)
  | .granStatus h bay first count buf => h.fits && decide (bay < 2 ^ 8) && decide (first < 2 ^ 16) && decide (count < 2 ^ 16) && decide (buf < 2 ^ 64)
  | .granConfig h bay gleanPeriod ceThresh autotest => h.fits && decide (bay < 2 ^ 8) &&
      decide (gleanPeriod < 2 ^ 32) && decide (ceThresh < 2 ^ 32) && decide (autotest < 2 ^ 8)
  | .fabGlobal h op _ buf blen => h.fits && decide (op < 2 ^ 8) && decide (buf < 2 ^ 64) && decide (blen < 2 ^ 32)
  | .fabStatus h buf => h.fits && decide (buf < 2 ^ 64)
  | .fabConfig h item value => h.fits && decide (item < 2 ^ 8) && decide (value < 2 ^ 64)
  | .updBegin h kind len => h.fits && decide (kind < 2 ^ 8) && decide (len < 2 ^ 32)
  | .updBlock h offset blen buf _ => h.fits && decide (offset < 2 ^ 32) && decide (blen < 2 ^ 32) && decide (buf < 2 ^ 64)
  | .updCommit h hash => h.fits && decide (hash < 2 ^ 384)
  | .updConfirm h kind => h.fits && decide (kind < 2 ^ 8)
  | .updLock h lock => h.fits && decide (lock < 2 ^ 8)
  | .updAbort h kind => h.fits && decide (kind < 2 ^ 8)
  | .updStatus h => h.fits
  | .logRead h start count buf => h.fits && decide (start < 2 ^ 64) && decide (count < 2 ^ 32) && decide (buf < 2 ^ 64)
  | .logStatus h => h.fits
  | .twXfer h port addr kind wlen rlen tout buf wdata => h.fits && decide (port < 2 ^ 8) && decide (addr < 2 ^ 8) && decide (kind < 2 ^ 8) &&
      decide (wlen < 2 ^ 8) && decide (rlen < 2 ^ 8) && decide (tout < 2 ^ 8) && decide (buf < 2 ^ 64) && decide (wdata.length = wlen)
  | .twConfig h port enable speed filter target => h.fits && decide (port < 2 ^ 8) && decide (enable < 2 ^ 8) &&
      decide (speed < 2 ^ 8) && decide (filter < 2 ^ 8) && decide (target < 2 ^ 8)
  | .calRead h offset len buf => h.fits && decide (offset < 2 ^ 32) && decide (len < 2 ^ 32) && decide (buf < 2 ^ 64)
  | .calWrite h offset len buf => h.fits && decide (offset < 2 ^ 32) && decide (len < 2 ^ 32) && decide (buf < 2 ^ 64)
  | .bayStatus h => h.fits
  | .bayHandover h waitUs => h.fits && decide (waitUs < 2 ^ 32)
  | .bayConfig h item value => h.fits && decide (item < 2 ^ 8) && decide (value < 2 ^ 32)
  | .bayRestart h bay => h.fits && decide (bay < 2 ^ 8)
  | .add bay hand rd rs1 rs2 => decide (bay < 2) && decide (hand < 4096) && decide (rd < 16) && decide (rs1 < 16) && decide (rs2 < 16)
  | .sub bay hand rd rs1 rs2 => decide (bay < 2) && decide (hand < 4096) && decide (rd < 16) && decide (rs1 < 16) && decide (rs2 < 16)
  | .and bay hand rd rs1 rs2 => decide (bay < 2) && decide (hand < 4096) && decide (rd < 16) && decide (rs1 < 16) && decide (rs2 < 16)
  | .or bay hand rd rs1 rs2 => decide (bay < 2) && decide (hand < 4096) && decide (rd < 16) && decide (rs1 < 16) && decide (rs2 < 16)
  | .xor bay hand rd rs1 rs2 => decide (bay < 2) && decide (hand < 4096) && decide (rd < 16) && decide (rs1 < 16) && decide (rs2 < 16)
  | .shl bay hand rd rs1 rs2 => decide (bay < 2) && decide (hand < 4096) && decide (rd < 16) && decide (rs1 < 16) && decide (rs2 < 16)
  | .shr bay hand rd rs1 rs2 => decide (bay < 2) && decide (hand < 4096) && decide (rd < 16) && decide (rs1 < 16) && decide (rs2 < 16)
  | .sra bay hand rd rs1 rs2 => decide (bay < 2) && decide (hand < 4096) && decide (rd < 16) && decide (rs1 < 16) && decide (rs2 < 16)
  | .slt bay hand rd rs1 rs2 => decide (bay < 2) && decide (hand < 4096) && decide (rd < 16) && decide (rs1 < 16) && decide (rs2 < 16)
  | .sltu bay hand rd rs1 rs2 => decide (bay < 2) && decide (hand < 4096) && decide (rd < 16) && decide (rs1 < 16) && decide (rs2 < 16)
  | .mul bay hand rd rs1 rs2 => decide (bay < 2) && decide (hand < 4096) && decide (rd < 16) && decide (rs1 < 16) && decide (rs2 < 16)
  | .mulh bay hand rd rs1 rs2 => decide (bay < 2) && decide (hand < 4096) && decide (rd < 16) && decide (rs1 < 16) && decide (rs2 < 16)
  | .mulhu bay hand rd rs1 rs2 => decide (bay < 2) && decide (hand < 4096) && decide (rd < 16) && decide (rs1 < 16) && decide (rs2 < 16)
  | .min bay hand rd rs1 rs2 => decide (bay < 2) && decide (hand < 4096) && decide (rd < 16) && decide (rs1 < 16) && decide (rs2 < 16)
  | .max bay hand rd rs1 rs2 => decide (bay < 2) && decide (hand < 4096) && decide (rd < 16) && decide (rs1 < 16) && decide (rs2 < 16)
  | .addi bay hand rd rs1 _ => decide (bay < 2) && decide (hand < 4096) && decide (rd < 16) && decide (rs1 < 16)
  | .andi bay hand rd rs1 _ => decide (bay < 2) && decide (hand < 4096) && decide (rd < 16) && decide (rs1 < 16)
  | .ori bay hand rd rs1 _ => decide (bay < 2) && decide (hand < 4096) && decide (rd < 16) && decide (rs1 < 16)
  | .xori bay hand rd rs1 _ => decide (bay < 2) && decide (hand < 4096) && decide (rd < 16) && decide (rs1 < 16)
  | .shli bay hand rd rs1 imm => decide (bay < 2) && decide (hand < 4096) && decide (rd < 16) && decide (rs1 < 16) && decide (imm.toNat < 32)
  | .shri bay hand rd rs1 imm => decide (bay < 2) && decide (hand < 4096) && decide (rd < 16) && decide (rs1 < 16) && decide (imm.toNat < 32)
  | .srai bay hand rd rs1 imm => decide (bay < 2) && decide (hand < 4096) && decide (rd < 16) && decide (rs1 < 16) && decide (imm.toNat < 32)
  | .slti bay hand rd rs1 _ => decide (bay < 2) && decide (hand < 4096) && decide (rd < 16) && decide (rs1 < 16)
  | .lui bay hand rd _ => decide (bay < 2) && decide (hand < 4096) && decide (rd < 16)
  | .lw bay hand rd rs1 _ _ => decide (bay < 2) && decide (hand < 4096) && decide (rd < 16) && decide (rs1 < 16)
  | .lhu bay hand rd rs1 _ _ => decide (bay < 2) && decide (hand < 4096) && decide (rd < 16) && decide (rs1 < 16)
  | .sw bay hand rs2 rs1 _ _ => decide (bay < 2) && decide (hand < 4096) && decide (rs2 < 16) && decide (rs1 < 16)
  | .sh bay hand rs2 rs1 _ _ => decide (bay < 2) && decide (hand < 4096) && decide (rs2 < 16) && decide (rs1 < 16)
  | .ld bay hand rd rs1 _ _ => decide (bay < 2) && decide (hand < 4096) && decide (rd < 16) && decide (rs1 < 16) && decide (rd % 2 = 0)
  | .sd bay hand rs2 rs1 _ _ => decide (bay < 2) && decide (hand < 4096) && decide (rs2 < 16) && decide (rs1 < 16) && decide (rs2 % 2 = 0)
  | .aadd bay hand rd rs1 rs2 _ _ => decide (bay < 2) && decide (hand < 4096) && decide (rd < 16) && decide (rs1 < 16) && decide (rs2 < 16)
  | .aadd64 bay hand rd rs1 rs2 _ _ => decide (bay < 2) && decide (hand < 4096) && decide (rd < 16) &&
      decide (rs1 < 16) && decide (rs2 < 16) && decide (rd % 2 = 0) && decide (rs2 % 2 = 0)
  | .aswp bay hand rd rs1 rs2 _ _ => decide (bay < 2) && decide (hand < 4096) && decide (rd < 16) && decide (rs1 < 16) && decide (rs2 < 16)
  | .beq bay hand rs1 rs2 _ => decide (bay < 2) && decide (hand < 4096) && decide (rs1 < 16) && decide (rs2 < 16)
  | .bne bay hand rs1 rs2 _ => decide (bay < 2) && decide (hand < 4096) && decide (rs1 < 16) && decide (rs2 < 16)
  | .blt bay hand rs1 rs2 _ => decide (bay < 2) && decide (hand < 4096) && decide (rs1 < 16) && decide (rs2 < 16)
  | .bge bay hand rs1 rs2 _ => decide (bay < 2) && decide (hand < 4096) && decide (rs1 < 16) && decide (rs2 < 16)
  | .bltu bay hand rs1 rs2 _ => decide (bay < 2) && decide (hand < 4096) && decide (rs1 < 16) && decide (rs2 < 16)
  | .bgeu bay hand rs1 rs2 _ => decide (bay < 2) && decide (hand < 4096) && decide (rs1 < 16) && decide (rs2 < 16)
  | .jal bay hand rd _ => decide (bay < 2) && decide (hand < 4096) && decide (rd < 16)
  | .jalr bay hand rd rs1 _ => decide (bay < 2) && decide (hand < 4096) && decide (rd < 16) && decide (rs1 < 16)
  | .wait bay hand rd rs1 imm => decide (bay < 2) && decide (hand < 4096) &&
      decide (rd < 16) && decide (rs1 < 16) && decide (rs1 = 0) && decide (imm.toNat < 256) && decide (imm ≠ 0)
  | .evb bay hand rd rs1 imm => decide (bay < 2) && decide (hand < 4096) &&
      decide (rd < 16) && decide (rs1 < 16) && decide (imm.toNat < 7) && decide (rd = 0)
  | .sig bay hand rd rs1 imm => decide (bay < 2) && decide (hand < 4096) &&
      decide (rd < 16) && decide (rs1 < 16) && decide (imm.toNat < 7) && decide (rd = 0)
  | .twi bay hand rd rs1 imm => decide (bay < 2) && decide (hand < 4096) && decide (rd < 16) && decide (rs1 < 16) && decide (imm = 0)
  | .lsend bay hand rd rs1 rs2 fn => decide (bay < 2) && decide (hand < 4096) && decide (rd < 16) &&
      decide (rs1 < 16) && decide (rs2 < 16) && decide (fn.toNat < 2)
  | .tset bay hand rd rs1 imm => decide (bay < 2) && decide (hand < 4096) &&
      decide (rd < 16) && decide (rs1 < 16) && decide (imm.toNat < 3) && decide (rd = 0)
  | .time bay hand rd rs1 imm => decide (bay < 2) && decide (hand < 4096) && decide (rd < 16) &&
      decide (rs1 < 16) && decide (rd % 2 = 0) && decide (rs1 = 0) && decide (imm = 0)
  | .yieldHand bay hand rd rs1 imm => decide (bay < 2) && decide (hand < 4096) &&
      decide (rd < 16) && decide (rs1 < 16) && decide (rd = 0) && decide (rs1 = 0) && decide (imm.toNat < 1024)
  | .ckpt bay hand rd rs1 imm => decide (bay < 2) && decide (hand < 4096) &&
      decide (rd < 16) && decide (rs1 < 16) && decide (rd = 0) && decide (rs1 = 0) && decide (imm.toNat < 2)
  | .halt bay hand rd rs1 imm => decide (bay < 2) && decide (hand < 4096) &&
      decide (rd < 16) && decide (rs1 < 16) && decide (rd = 0) && decide (rs1 = 0) && decide (imm = 0)
  | .self bay hand rd rs1 imm => decide (bay < 2) && decide (hand < 4096) &&
      decide (rd < 16) && decide (rs1 < 16) && decide (rs1 = 0) && decide (imm.toNat < 8)
  | .illegalInstruction bay hand _ => decide (bay < 2) && decide (hand < 4096)
  | .accessDone bay hand => decide (bay < 2) && decide (hand < 4096)
  | .icacheLineFill bay hand _ => decide (bay < 2) && decide (hand < 4096)
  | .yieldExpiry bay hand => decide (bay < 2) && decide (hand < 4096)
  | .handTimerExpiry bay hand => decide (bay < 2) && decide (hand < 4096)
  | .ckptWdExpiry bay hand => decide (bay < 2) && decide (hand < 4096)
  | .mirrorAck bay hand => decide (bay < 2) && decide (hand < 4096)
  | .mirrorAckTimeout bay hand => decide (bay < 2) && decide (hand < 4096)
  | .twiResult port _ _ _ _ => decide (port < 24)
  | .shadowResultTimeout bay hand => decide (bay < 2) && decide (hand < 4096)
  | .mailboxMessage bay hand msg => decide (bay < 2) && decide (hand < 4096) && decide (msg.length = 64)
  | .lsendReply bay hand msg => decide (bay < 2) && decide (hand < 4096) && decide (msg.length = 64)
  | .lsendReplyTimeout bay hand => decide (bay < 2) && decide (hand < 4096)
  | .counterFrame bay stalk frame => decide (bay < 2) && decide (stalk < 8) && frame.fits
  | .laneSignalDetected bay slot => decide (bay < 2) && decide (slot < 8)
  | .laneTrainTimeout bay slot => decide (bay < 2) && decide (slot < 8)
  | .laneRetry bay slot => decide (bay < 2) && decide (slot < 8)
  | .laneLost bay slot => decide (bay < 2) && decide (slot < 8)
  | .laneLossOfSignal bay slot => decide (bay < 2) && decide (slot < 8)
  | .laneCountYield => true
  | .governorWindow bay => decide (bay < 2)
  | .pushRestartTimeout slot => decide (slot < 8)
  | .fusionPass bay => decide (bay < 2)
  | .escSatExpiry => true
  | .shedWaitExpiry => true
  | .parkWaitExpiry => true
  | .unreachableRepeat => true
  | .opdnExpiry bay slot => decide (bay < 2) && decide (slot < 8)
  | .opupExpiry bay slot => decide (bay < 2) && decide (slot < 8)
  | .opcTimeout bay slot => decide (bay < 2) && decide (slot < 8)
  | .droopResumeExpiry bay slot => decide (bay < 2) && decide (slot < 8)
  | .ageingRead slot _ => decide (slot < 8)
  | .bayAgeingRead bay _ => decide (bay < 2)
  | .trimEvaluation _ _ => true
  | .governorRecord => true
  | .gridRecord => true
  | .easelRecord => true
  | .targetCommit _ _ => true
  | .frequencyFrame _ _ _ => true
  | .freqStaleExpiry => true
  | .reportStaleExpiry port => decide (port < 4)
  | .shareTableBuild => true
  | .parkDelayExpiry => true
  | .parkFuseOpen => true
  | .unparkDelayExpiry => true
  | .unparkRailsUp => true
  | .easelPhaseRun bay _ => decide (bay < 2)
  | .easelPhaseClose bay inst => decide (bay < 2) && decide (inst < 32)
  | .knownAnswerCheck bay panel _ => decide (bay < 2) && decide (panel < 16)
  | .reseed => true
  | .switchWindow bay => decide (bay < 2)
  | .gapLoadDone bay inst => decide (bay < 2) && decide (inst < 32)
  | .heartbeat bay => decide (bay < 2)
  | .wdTimeoutExpiry bay => decide (bay < 2)
  | .claimGuardExpiry bay => decide (bay < 2)
  | .ownershipClaim bay _ => decide (bay < 2)
  | .ownershipYield bay _ => decide (bay < 2)
  | .mirrorWrite bay _ _ _ => decide (bay < 2)
  | .shadowCompare slot _ => decide (slot < 8)
  | .journalWrite _ => true
  | .journalAck _ => true
  | .journalAckTimeout _ => true
  | .journalApply => true
  | .keeperStepReport _ _ _ => true
  | .retainExpiry _ => true
  | .handoverWindow => true
  | .handoverWaitExpiry => true
  | .joinCopyDone bay => decide (bay < 2)
  | .bayRecord => true
  | .doorbell endpoint ring _ _ => decide (endpoint < 2) && decide (ring < 32768)
  | .doorbellForward => true
  | .commandFetch ring entries => decide (ring < 32768) && entries.all RawEntry.fits && decide (entries.length ≤ 8)
  | .completionPost _ _ => true
  | .coalUsExpiry ring => decide (ring < 32768)
  | .ringDmaError ring _ => decide (ring < 32768)
  | .eventPost bay _ _ => decide (bay < 2)
  | .admCtrlWrite endpoint _ => decide (endpoint < 2)
  | .winStatusWrite endpoint _ => decide (endpoint < 2)
  | .registerWrite endpoint _ _ => decide (endpoint < 2)
  | .hostWindowAccess endpoint _ _ _ _ _ _ => decide (endpoint < 2)
  | .debugStatusRead bay => decide (bay < 2)
  | .functionLevelReset endpoint => decide (endpoint < 2)
  | .endpointLinkChange endpoint _ _ _ _ => decide (endpoint < 2)
  | .gleanerPass bay _ _ => decide (bay < 2)
  | .gleanStarved bay => decide (bay < 2)
  | .correctedWriteback bay _ => decide (bay < 2)
  | .peerRestoreDone bay _ => decide (bay < 2)
  | .modelReloadDone bay inst => decide (bay < 2) && decide (inst < 32)
  | .selfTestCopyDone bay bank => decide (bay < 2) && decide (bank < 256)
  | .selfTestMarchDone bay bank _ => decide (bay < 2) && decide (bank < 256)
  | .selfTestRestoreDone bay bank => decide (bay < 2) && decide (bank < 256)
  | .portLightLock port => decide (port < 4)
  | .portTrainTimeout port => decide (port < 4)
  | .portLossOfLight port => decide (port < 4)
  | .deadTimeoutExpiry port => decide (port < 4)
  | .beaconSend => true
  | .beacon port _ _ => decide (port < 4)
  | .claim port _ => decide (port < 4)
  | .join port _ _ _ => decide (port < 4)
  | .admitFrame port _ _ _ => decide (port < 4)
  | .memberFrame port _ _ => decide (port < 4)
  | .nak port _ _ _ _ => decide (port < 4)
  | .timeFrame port _ _ => decide (port < 4)
  | .timeExchangeSend => true
  | .msg port _ msg _ hand => decide (port < 4) && decide (hand < 4096) && decide (msg.length = 64)
  | .gdown port _ _ _ => decide (port < 4)
  | .gup port _ _ => decide (port < 4)
  | .report port _ _ _ _ => decide (port < 4)
  | .reportSend => true
  | .claimBackoffExpiry => true
  | .claimSettleExpiry => true
  | .rootTimeoutExpiry => true
  | .staleMemberRemoval => true
  | .opTimeoutExpiry _ => true
  | .snapshotLatch _ => true
  | .hallReset => true
  | .pushreq port _ _ bay => decide (port < 4) && decide (bay < 2)
  | .pushreqSend => true
  | .push port _ _ _ => decide (port < 4)
  | .pushAckTimeout => true
  | .fabricRecord => true
  | .pgCountedUp rail => decide (rail < 64)
  | .pgCountedDown rail => decide (rail < 64)
  | .riseTimeoutExpiry rail => decide (rail < 64)
  | .fallingExpiry => true
  | .enReadbackMismatch rail => decide (rail < 64)
  | .shutdownFirstStep => true
  | .inputReturned channel => decide (channel < 256)
  | .railRecord => true
  | .almanacWrite => true
  | .almanacDrop _ _ _ => true
  | .holdupCollapse => true
  | .keeperStart => true
  | .senseSample _ _ => true
  | .energyWriteback => true
  | .seatPinMade _ => true
  | .seated => true
  | .seatPinBroken _ => true
  | .gateFullyOn channel => decide (channel < 256)
  | .inrushTimeoutExpiry channel => decide (channel < 256)
  | .fastTrip channel _ => decide (channel < 256)
  | .tripRetry channel => decide (channel < 256)
  | .retryCountRestore channel => decide (channel < 256)
  | .commandedOpenDelay slot => decide (slot < 8)
  | .feedValid channel => decide (channel < 256)
  | .feedWarnAssert => true
  | .bothOffExpiry => true
  | .feedWarnDeassert => true
  | .returnToFeedA => true
  | .gateFault channel => decide (channel < 256)
  | .powerChannelRecord channel => decide (channel < 256)
  | .diodeConversion _ => true
  | .sensorCheck bay => decide (bay < 2)
  | .zoneDemand => true
  | .thermalStep => true
  | .thermalHoldRelease slot => decide (slot < 8)
  | .kick channel => decide (channel < 256)
  | .kickResponse channel => decide (channel < 256)
  | .kickExpiry channel => decide (channel < 256)
  | .tachSilence channel => decide (channel < 256)
  | .readIout channel _ _ => decide (channel < 256)
  | .stallRetry channel => decide (channel < 256)
  | .pumpIndexPulse channel _ => decide (channel < 256)
  | .flowGate channel _ => decide (channel < 256)
  | .leak channel => decide (channel < 256)
  | .inputStuck channel => decide (channel < 256)
  | .inputChatter channel _ => decide (channel < 256)
  | .outputFight channel => decide (channel < 256)
  | .coolingRecord => true
  | .twiDescriptorStart port => decide (port < 24)
  | .toutExpiry port => decide (port < 24)
  | .busStuck port _ => decide (port < 24)
  | .busRecoveryRetry port _ => decide (port < 24)
  | .targetTransfer port _ _ _ _ => decide (port < 24)
  | .targetAbandon port => decide (port < 24)
  | .targetLocalAccess port => decide (port < 24)
  | .hostNotify port _ => decide (port < 24)
  | .dormantAddressMatch port _ => decide (port < 24)
  | .matcherReturn port => decide (port < 24)
  | .readPin slot _ => decide (slot < 8)
  | .suppliesValid => true
  | .trimPass _ => true
  | .pllLock => true
  | .scarecrowLive => true
  | .loftSettingsLoaded => true
  | .pushWindowOpen bay => decide (bay < 2)
  | .claimWrite bay agent => decide (bay < 2) && decide (agent < 16)
  | .go bay agent => decide (bay < 2) && decide (agent < 16)
  | .apertureCopyDone bay => decide (bay < 2)
  | .release bay agent => decide (bay < 2) && decide (agent < 16)
  | .stage0Done bay => decide (bay < 2)
  | .stage1Done bay => decide (bay < 2)
  | .pushAbandonExpiry bay => decide (bay < 2)
  | .streamerClaim bay => decide (bay < 2)
  | .fallowEntry bay => decide (bay < 2)
  | .quoteRequestPoll bay => decide (bay < 2)
  | .lifeCycleRequest _ _ _ _ => true
  | .debugAuthentication bay _ => decide (bay < 2)
  | .entropyReady => true
  | .drbgReseed => true
  | .entropyHealthFail => true
  | .fuseCounterBurn => true
  | .standbyLimitExpiry bay => decide (bay < 2)
  | .accelerometerRead _ => true
  | .fallowPushCommit => true
  | .fallowResetExpiry => true
  | .controllerReset => true
  | .bayReset bay => decide (bay < 2)
  | .photonicRestart => true
  | .perst endpoint => decide (endpoint < 2)
  | .dormantEntry => true
  | .wake => true
  | .wakeWatchdog bay => decide (bay < 2)
  | .crystalLoss => true
  | .keeperHold _ => true
  | .acceptCommandFrame slot frame => decide (slot < 8) && frame.fits
  | .acceptBurstFrame slot frame => decide (slot < 8) && frame.fits
  | .acceptPushBlock slot block => decide (slot < 8) && block.fits
  | .leaseLapse slot => decide (slot < 8)
  | .acceleratorWindow slot _ => decide (slot < 8)
  | .burstEnd slot => decide (slot < 8)
  | .loftDieLost die => decide (die < 2)
  | .dieFailure die => decide (die < 2)
  | .breezewayLinkChange _ => true
  | .ownerHbAge5ms => true
  | .acceleratorReset slot => decide (slot < 8)
  | .acceleratorStepComplete slot => decide (slot < 8)
  | .acceleratorQuiesced slot => decide (slot < 8)
  | .firmwareVerifyDone slot _ => decide (slot < 8)
  | .bayRestartTimeout bay => decide (bay < 2)
  | .inputFilteredChange channel _ => decide (channel < 256)
  | .stuckMaskClear channel => decide (channel < 256)
  | .chatterEnd channel => decide (channel < 256)
  | .tachEdgesReturn channel => decide (channel < 256)
  | .holdupExhausted => true
  | .reduceSample _ => true
  | .pushOffer port _ => decide (port < 4)
  | .offerWaitExpiry => true
  | .pushAcknowledge port _ => decide (port < 4)
  | .fallowPushStall => true
  | .debugAccess bay _ _ _ => decide (bay < 2)
  | .junctionSensorRead _ _ _ _ _ => true
  | .codeRewriteDone bay _ => decide (bay < 2)
  | .targetDeadlineExpiry _ _ => true

end Sys2Proof
end

