-- ==== Sys2Proof/Certificates/Slice0/Obligations.lean ====
section
/-!
DEFINITION. The statements for the provers.
-/
open Sys2Proof Sys2Proof.Machine

/-- For every command c, rest of a queue and state s, a step of s with c in front of that rest is the effect of c on s with the rest as its
queue. -/
def Obligations.StepRunsFrontCommand : Prop :=
  ∀ (c : Instr) (rest : List Instr) (s : State), step { s with pending := c :: rest } = exec c { s with pending := rest }

/-- With no command waiting, a step answers the same state, with 5 ns more device time where the keeper's PLL has locked (R483: adding 5 in
each keeper cycle), and no change at all before that. That an empty queue lets one keeper cycle pass is the model's choice of log entry
3. -/
def Obligations.IdleStepCountsTime : Prop :=
  ∀ s : State, s.pending = [] →
    (s.sys.counting = true → step s = .next (s.modSys fun p => { p with devTime := p.devTime + 5 })) ∧
    (s.sys.counting = false → step s = .next s)

/-- For every state s a step of s answers a next state, and so does every command of the table on every state with every operand: none ends
in a fault or a refusal. -/
def Obligations.EveryStepGoesOn : Prop :=
  (∀ s : State, GoesOn s) ∧ ∀ (i : Instr) (s : State), ∃ t, exec i s = .next t

/-- The row of checks of each of the 84 ring commands carries the OPCODE that the command reference gives the command; every other command
of the table has no such row. -/
def Obligations.RingCommandOpcodes : Prop :=
  ∀ (s : State) (i : Instr), (s.specOf i).map CmdSpec.opcode = opcodeOf i

/-- For each of the 84 ring commands: when the owner (or a bay in Fallow mode) can fetch it and the checks of R278 and R295 accept it, the
command answers a next state in which the journal holds, under the next JSEQ, an entry with the command, its ring, its SEQ and the owner
epoch, in STATE 0b01, not yet applied, with APPLY_DWN the current window plus APPLY_LEAD (the current window in Fallow mode, R461); the
entry counts as acknowledged at once only in single-copy or Fallow mode; NEXT_JSEQ and the ring's CTRL_IDX are one further, the ring's
last journalled SEQ is the command's; and only journal, rings and what was driven out differ. -/
def Obligations.RingCommandAccepted : Prop :=
  ∀ (i : Instr) (s : State) (c : CmdSpec), s.specOf i = some c → s.canFetch (hdrOf i).ring c.opcode = true →
    s.verdict i (hdrOf i) c = .accept → Runs i s (Accepts i s)

/-- For each ring command but the three grid operations with a TSEQ: where the owner cannot fetch it, nothing changes. Where it is fetched,
and its SEQ is neither newer than the ring's last journalled SEQ nor that of a held entry, it is answered STALE_SEQ with that last SEQ
in RES0. With a newer SEQ: another PLEN than the row's is answered BAD_LENGTH; then a reserved bit of words 0 and 1 or of OPT RSV_SET
with RES0 free (log entry: the manual gives no offset there); then a reserved bit of PARAM RSV_SET with its offset; then the first check
that fails of parameters, device states, named states and resources its status and RES0. A refusal passes the entry on its ring, writes
the status block and posts the completion; a free value is drawn in every refusal. -/
def Obligations.RingCommandRefused : Prop :=
  ∀ (i : Instr) (s : State) (c : CmdSpec), s.specOf i = some c → c.opcode ≠ 0x0200 → c.opcode ≠ 0x0203 → c.opcode ≠ 0x0204 →
    let h := hdrOf i
    let refused (st : Nat) (r : Word64) : Host.Outcome State Fault Refusal :=
      .next (s.drawFree.2.answer h.ring (completionWords h.seq c.opcode st [r]))
    (s.canFetch h.ring c.opcode = false → exec i s = .next s) ∧
    (s.canFetch h.ring c.opcode = true →
      (seqNewer h.seq (s.ring h.ring).lastSeq = false → s.heldEntry h.ring h.seq = none →
        exec i s = refused 0x0201 (BitVec.ofNat 64 (s.ring h.ring).lastSeq.toNat)) ∧
      (seqNewer h.seq (s.ring h.ring).lastSeq = true →
        (h.plen ≠ c.plen → exec i s = refused 0x0102 0) ∧
        (h.plen = c.plen →
          (h.rsvHdr = true ∨ h.opt &&& ~~~c.optMask ≠ 0 → exec i s = refused 0x0103 (Config.freeWord s.sys.freshCount)) ∧
          (h.rsvHdr = false → h.opt &&& ~~~c.optMask = 0 →
            (∀ off, h.rsvAt = some off → exec i s = refused 0x0103 (BitVec.ofNat 64 off)) ∧
            (∀ st r, h.rsvAt = none → firstBad (c.params ++ s.deviceState i c.opcode h.ring ++ c.states ++ c.late) = some (st, r) →
              exec i s = refused st (BitVec.ofNat 64 r))))))

/-- For each ring command but the three grid operations with a TSEQ: where it is fetched, its SEQ is not newer and the journal holds an
entry of its ring with that SEQ, it is not journalled again. If that entry's completion is posted, the same words are posted again; else
the ring passes the entry, and one more answer is owed for the entry held. -/
def Obligations.DuplicateAnswered : Prop :=
  ∀ (i : Instr) (s : State) (c : CmdSpec) (j : Nat), s.specOf i = some c → c.opcode ≠ 0x0200 → c.opcode ≠ 0x0203 → c.opcode ≠ 0x0204 →
    let h := hdrOf i
    s.canFetch h.ring c.opcode = true → seqNewer h.seq (s.ring h.ring).lastSeq = false → s.heldEntry h.ring h.seq = some j →
    ((s.entry j).state = 2 ∧ (s.entry j).posted = true → exec i s = .next (s.answer h.ring (s.entry j).completion)) ∧
    (¬ ((s.entry j).state = 2 ∧ (s.entry j).posted = true) →
      exec i s = .next (((s.passEntry h.ring).writeStatus h.ring).modEntry j fun e => { e with owed := e.owed + 1 }))

/-- JOURNAL_APPLY lets every entry of dueEntries take effect in turn and then lets waiting fabric operations go on. With the journal in JSEQ
order and no bay in Fallow mode, those entries stand in rising JSEQ, none of them complete or already applied, each is acknowledged and
its APPLY_DWN is not above the device window. An entry that is not due is left alone; one that is due is marked applied first, and with
nothing to carry completes with OK; a journalled thermal share (R393) sets the slot's share h, the change of a handover none, each with
the entry completed OK. -/
def Obligations.EntriesTakeEffectInOrder : Prop :=
  (∀ s : State, exec .journalApply s = .next ((s.dueEntries.foldl State.applyEntry s).progressOps)) ∧
  (∀ s : State, s.own.journal.entries.Pairwise (fun a b => a.1 < b.1) → (∀ n, s.fallowServes n = false) →
    s.dueEntries.Pairwise (· < ·) ∧ ∀ j ∈ s.dueEntries, (s.entry j).state = 1 ∧ (s.entry j).applied = false ∧ (s.entry j).acked = true ∧
      (s.entry j).applyDwn ≤ s.dwn) ∧
  (∀ (s : State) (j : Nat), s.entryDue j = false → s.applyEntry j = s) ∧
  (∀ (s : State) (j : Nat), s.entryDue j = true →
    let t := s.modEntry j fun e => { e with applied := true }
    ((s.entry j).body = .nothing → s.applyEntry j = t.ok j) ∧
    (∀ slot h, (s.entry j).body = .change (.thermal slot h) → s.applyEntry j = (t.modThermal slot fun x => { x with h := h }).ok j) ∧
    ((s.entry j).body = .change .handover → s.applyEntry j = t.ok j))

/-- Each admin command that is ready and names rings as its row allows is accepted, and at its window: ADM_NOP completes OK; ADM_RING_CREATE
on a DISABLED ring, with a descriptor that keeps R258 and for a command ring a free completion ring, makes the ring ACTIVE with that
descriptor (an earlier taker ends it ABANDONED); ADM_RING_DELETE of an ACTIVE or STOPPED ring that no command ring needs sets it
DRAINING, its completion waiting for DISABLED; ADM_RING_RESET of a STOPPED ring makes it ACTIVE with indices and RERR 0; ADM_RING_QUERY
outputs the descriptor and the status block; ADM_RING_SUBSCRIBE sets SUBS and MIN_SEV; ADM_HEALTH answers the health flags, the latch
and device time; ADM_ENTROPY answers 1 to 24 conditioned bytes (free values), the rest 0. -/
def Obligations.AdminCommands : Prop :=
  (∀ h s, ready (.admNop h) 0 0 s = true → Carries (.admNop h) s fun j u => u.ok j) ∧
  (∀ h ring desc s, ready (.admRingCreate h ring desc) 40 0 s = true → descBadAt desc = none → 2 ≤ ring → ring < 32768 →
    (s.ring (ringKey h.ring ring)).state = .disabled → (desc.kind ≠ 0 ∨ s.peerFree (ringKey h.ring desc.peer) = true) →
    Carries (.admRingCreate h ring desc) s fun j u =>
      if (u.ring (ringKey h.ring ring)).state = .disabled && (desc.kind ≠ 0 || u.peerFree (ringKey h.ring desc.peer))
      then (u.createRing (ringKey h.ring ring) desc).ok j else u.complete j 0x0504 []) ∧
  (∀ h ring s, ready (.admRingDelete h ring) 2 0 s = true → 2 ≤ ring → ring < 32768 → s.deletable (ringKey h.ring ring) = true →
    Carries (.admRingDelete h ring) s fun j u =>
      if u.deletable (ringKey h.ring ring) then
        ((u.modRing (ringKey h.ring ring) fun r => { r with state := .draining, deleteJseq := j }).writeStatus (ringKey h.ring ring)).drainRing
          (ringKey h.ring ring)
      else u.complete j 0x0504 []) ∧
  (∀ h ring s, ready (.admRingReset h ring) 2 0 s = true → ring < 32768 → (s.ring (ringKey h.ring ring)).state = .stopped →
    Carries (.admRingReset h ring) s fun j u =>
      if (u.ring (ringKey h.ring ring)).state = .stopped then
        ((u.modRing (ringKey h.ring ring) fun r => { r with
          state := .active, rerr := 0, hostIdx := 0, ctrlIdx := 0, arrivals := [], poisonReads := 0, unsignalled := 0 }).writeStatus
            (ringKey h.ring ring)).ok j
      else u.complete j 0x0504 []) ∧
  (∀ h ring buf s, ready (.admRingQuery h ring buf) 16 0 s = true → buf % 64 = 0 → buf < 2 ^ 64 → ring < 32768 →
    Carries (.admRingQuery h ring buf) s fun j u =>
      (u.bufferOut j buf (descBytes (u.ring (ringKey h.ring ring)).desc ++ wordsBytes (u.statusWords (ringKey h.ring ring)))).ok j) ∧
  (∀ h ring subs minSev s, ready (.admRingSubscribe h ring subs minSev) 9 0 s = true → minSev < 4 → ring < 32768 →
    Carries (.admRingSubscribe h ring subs minSev) s fun j u =>
      (u.modRing (ringKey h.ring ring) fun r => { r with desc := { r.desc with subs := BitVec.ofNat 32 subs, minSev := minSev } }).ok j) ∧
  (∀ h s, ready (.admHealth h) 0 0 s = true →
    Carries (.admHealth h) s fun j u => u.complete j 0 [u.health, u.latchWord.toNat, u.devNow]) ∧
  (∀ h bytes s, ready (.admEntropy h bytes) 1 0 s = true → 1 ≤ bytes → bytes ≤ 24 →
    Carries (.admEntropy h bytes) s fun j u =>
      let bs := (List.range bytes).map fun k => Config.entropyByte u.boot.entropy.draws k
      (u.modEntropy fun e => { e with draws := e.draws + 1 }).complete j 0 [fieldAt bs 0 8, fieldAt bs 8 8, fieldAt bs 16 8])

/-- GOV_SET_CAP, GOV_SET_SLOPE, GOV_SET_PRIORITY, GOV_SET_GAIN, GOV_SET_MODEL, GOV_SET_SAFE_DENSITY, GOV_SET_OVERSUB, GOV_SET_LIMITS,
GOV_SET_RUNAHEAD, GOV_SET_ESCALATION and GOV_SET_TELEMETRY that are ready and keep the ranges and joint rules of R79 and R284 are
accepted, and at their window complete OK with exactly the parameter named changed: on the slot named, or with slot 0xFE on every slot
(the last clause: and on no other). A lowered slope also sets revocation trigger 3 in both bays; GOV_SET_MODEL with learned also returns
a slot that R49 switched. -/
def Obligations.GovernorSettings : Prop :=
  (∀ h slot cap s, ready (.govSetCap h slot cap) 8 0 s = true → slotOk slot = true ∨ slot = 0xFF →
    (if slot = 0xFF then decide (cap ≤ 40000) else s.everySlot slot fun s n => decide (cap ≤ (s.calSlot n).pMax)) = true →
    (s.capSet.after (.govSetCap h slot cap)).ok = true →
    Carries (.govSetCap h slot cap) s fun j u =>
      (if slot = 0xFF then u.modTrayParam fun t => { t with trayCap := cap } else u.modSlots slot fun p => { p with cap := cap }).ok j) ∧
  (∀ h slot rise fall s, ready (.govSetSlope h slot rise fall) 12 0 s = true → slotOk slot = true → 50 ≤ rise → rise ≤ 20000 → 50 ≤ fall →
    fall ≤ 20000 → Carries (.govSetSlope h slot rise fall) s fun j u =>
      ((slotsOf slot).foldl (fun v n =>
        (if rise < (v.govParam n).riseSlope || fall < (v.govParam n).fallSlope then
          (v.modGovSlot 0 n fun g => { g with triggers := setBit g.triggers 3 true }).modGovSlot 1 n fun g =>
            { g with triggers := setBit g.triggers 3 true }
        else v).modGovParam n fun p => { p with riseSlope := rise, fallSlope := fall }) u).ok j) ∧
  (∀ h slot crit s, ready (.govSetPriority h slot crit) 2 0 s = true → slotOk slot = true → crit < 2 →
    Carries (.govSetPriority h slot crit) s fun j u => (u.modSlots slot fun p => { p with critical := crit = 1 }).ok j) ∧
  (∀ h slot kp s, ready (.govSetGain h slot kp) 8 0 s = true → slotOk slot = true → 250 ≤ kp → kp ≤ 8000 →
    Carries (.govSetGain h slot kp) s fun j u => (u.modSlots slot fun p => { p with kp := kp }).ok j) ∧
  (∀ h slot model s, ready (.govSetModel h slot model) 2 0 s = true → slotOk slot = true → model ≤ 1 →
    Carries (.govSetModel h slot model) s fun j u =>
      ((slotsOf slot).foldl (fun v n =>
        let back (g : GovSlot) : GovSlot := if model = 0 then { g with switchedLinear := false, failRun := 0 } else g
        ((v.modGovSlot 0 n back).modGovSlot 1 n back).modGovParam n fun p => { p with linear := model = 1 }) u).ok j) ∧
  (∀ h slot dens s, ready (.govSetSafeDensity h slot dens) 2 0 s = true → slotOk slot = true → 64 ≤ dens → dens ≤ 240 →
    Carries (.govSetSafeDensity h slot dens) s fun j u => (u.modSlots slot fun p => { p with safeDensity := dens }).ok j) ∧
  (∀ h osf s, ready (.govSetOversub h osf) 8 0 s = true → 1000 ≤ osf → osf ≤ 2000 → (s.capSet.after (.govSetOversub h osf)).ok = true →
    Carries (.govSetOversub h osf) s fun j u => (u.modTrayParam fun t => { t with osf := osf }).ok j) ∧
  (∀ h slot item value s, ready (.govSetLimits h slot item value) 8 0 s = true →
    (if item = 0 then decide (slot = 0xFF) && s.limitOk 0 0 value else slotOk slot && s.everySlot slot fun s n => s.limitOk n item value) = true →
    item ≤ 9 → Carries (.govSetLimits h slot item value) s fun j u =>
      (if item = 0 then u.modTrayParam fun t => { t with platMargin := value } else u.modSlots slot fun p => p.setLimit item value).ok j) ∧
  (∀ h slot on missTol raHold s, ready (.govSetRunahead h slot on missTol raHold) 12 0 s = true → slotOk slot = true → on < 2 →
    (s.everySlot slot fun s n => decide (missTol ≤ s.scaled n 360)) = true → raHold ≤ 1024 →
    Carries (.govSetRunahead h slot on missTol raHold) s fun j u =>
      (u.modSlots slot fun p => { p with runAhead := on = 1, missTol := missTol, raHold := raHold }).ok j) ∧
  (∀ h escSat shedWait parkWait marked s, ready (.govSetEscalation h escSat shedWait parkWait marked) 17 0 s = true → 10 ≤ escSat →
    escSat ≤ 10000 → 1000 ≤ shedWait → shedWait ≤ 1000000 → 5000 ≤ parkWait → parkWait ≤ 500000 → marked ≤ 1 →
    Carries (.govSetEscalation h escSat shedWait parkWait marked) s fun j u =>
      (u.modTrayParam fun t => { t with escSat := escSat, shedWait := shedWait, parkWait := parkWait, parkMarked := marked = 0 }).ok j) ∧
  (∀ h period s, ready (.govSetTelemetry h period) 8 0 s = true → 100 ≤ period → period ≤ 1000000 →
    Carries (.govSetTelemetry h period) s fun j u =>
      (u.modTrayParam fun t => { t with recordPeriod := period, recordFrom := (u.entry j).applyDwn }).ok j) ∧
  (∀ (s : State) (slot n : Nat) (f : GovParam → GovParam), slotOk slot = true → n < 8 →
    (s.modSlots slot f).govParam n = if slot = n ∨ slot = 0xFE then f (s.govParam n) else s.govParam n)

/-- GOV_LOAD_WEIGHTS of a linear buffer of 8,204 bytes hands its codes to each slot for the switch window that RES0 names; GOV_PARK_ACK with
QUIESCE set marks the slots drained and lets the escalation park them; GOV_UNPARK clears the slots' parked and drained marks, sets their
thermal factor to 1.000 and starts the inrush of each fuse that may close, completing ABANDONED where a fuse does not start; GOV_SET_OP
sets OPC_TIMEOUT and with CLEAR takes a HALTED slot to IDLE, or to FROZEN while a freeze still holds (the model's choice);
GOV_SET_DROOP, GOV_SET_MARGIN set the values named; GOV_TRIM_RESET brings every trim named to 0, recorded, with its evaluation time now;
GOV_STATUS outputs the governor record of one slot. -/
def Obligations.GovernorActions : Prop :=
  (∀ h slot vrail tensor buf delta s, ready (.govLoadWeights h slot 0 vrail tensor buf 8204 delta) 24 1 s = true → slotOk slot = true →
    vrail ≤ 31 → buf % 64 = 0 → buf < 2 ^ 64 → h.buf.isSome = true →
    Carries (.govLoadWeights h slot 0 vrail tensor buf 8204 delta) s fun j u =>
      ((slotsOf slot).foldl (fun v n => v.modGovParam n fun p => { p with
        nextLinear := p.nextLinear ++ [(u.switchFor j, linearCodes ((h.buf.getD []).take 8204), vrail)] }) u).complete j 0 [u.switchFor j]) ∧
  (∀ h slot s, ready (.govParkAck h slot) 1 0 s = true → slotOk slot = true →
    (s.everySlot slot fun s n => (s.govSlot s.govBay n).quiesce) = true →
    Carries (.govParkAck h slot) s fun j u =>
      ((u.modEsc fun e => { e with ackPark := (slotsOf slot).foldl (fun m n => setBit m n true) e.ackPark }).escalationPark).ok j) ∧
  (∀ h slot s, ready (.govUnpark h slot) 1 0 s = true → slotOk slot = true → (s.everySlot slot fun s n => s.gov.esc.escParked.testBit n) = true →
    Carries (.govUnpark h slot) s fun j u =>
      let v := (slotsOf slot).foldl (fun s n =>
        ((s.modEsc fun e => { e with escParked := setBit e.escParked n false }).modThermal n fun t => { t with h := 1000 }).modEsc fun e =>
          { e with ackPark := setBit e.ackPark n false }) u
      let w := (slotsOf slot).foldl (fun s n => if s.mayClose n then s.startInrush (branchCh n) else s) v
      if (slotsOf slot).all fun n => (w.branch n).cstate = .inrush then
        (slotsOf slot).foldl (fun s n => s.modChan (branchCh n) fun c => { c with closeJseq := c.closeJseq ++ [j] }) w
      else w.complete j 0x0504 []) ∧
  (∀ h slot clear timeout s, ready (.govSetOp h slot clear timeout) 8 0 s = true → slotOk slot = true → clear < 2 → 20 ≤ timeout →
    timeout ≤ 5000 → Carries (.govSetOp h slot clear timeout) s fun j u =>
      ((slotsOf slot).foldl (fun s sl =>
        let s := s.modGovParam sl fun g => { g with opcTimeout := timeout }
        if clear = 1 then
          (List.range 2).foldl (fun s bay => s.modChg bay sl fun c =>
            if c.cst = .halted then { c with cst := if c.holdFrames || c.sendResume then .frozen else .idle, holdFrames := false } else c) s
        else s) u).ok j) ∧
  (∀ h slot dens len resume di storm s, ready (.govSetDroop h slot dens len resume di storm) 16 0 s = true → slotOk slot = true → 64 ≤ dens →
    dens ≤ 240 → 1 ≤ len → len ≤ 255 → 10 ≤ resume → resume ≤ 1000 → 4 ≤ di → di ≤ 60 → 1 ≤ storm → storm ≤ 64 →
    Carries (.govSetDroop h slot dens len resume di storm) s fun j u =>
      (u.modSlots slot fun g => { g with droopDens := dens, droopLen := len, droopResume := resume, droopDi := di, droopStorm := storm }).ok j) ∧
  (∀ h slot item value s, ready (.govSetMargin h slot item value) 8 0 s = true → whoOk slot = true → item < 6 → marginItemOk item value = true →
    (item = 5 → slotOk slot = false) → Carries (.govSetMargin h slot item value) s fun j u =>
      ((slotsOf slot).foldl (fun s who => s.modMarginParam who fun m =>
        if item = 0 then { m with tgt := value.toInt } else if item = 1 then { m with band := value.toInt }
        else if item = 2 then { m with crit := value.toInt } else if item = 3 then { m with gbFloor := value.toInt }
        else if item = 4 then { m with trimMax := value.toInt }
        else { m with regulator := if value = 0xFFFF then none else some (value.toNat / 256, value.toNat % 256) }) u).ok j) ∧
  (∀ h slot s, ready (.govTrimReset h slot) 1 0 s = true → whoOk slot = true →
    Carries (.govTrimReset h slot) s fun j u =>
      ((slotsOf slot).foldl (fun s who =>
        ((List.range (if who < 8 then 32 else 1)).foldl (fun s p =>
          let s := s.modTrimOf who p fun t => { t with evalTime := s.now }
          if (s.trimOf who p).trim = 0 then s else s.applyTrim who p 0) s).almanac
            (baySource ((List.range (if who < 8 then 32 else 1)).foldl (fun s p =>
              let s := s.modTrimOf who p fun t => { t with evalTime := s.now }
              if (s.trimOf who p).trim = 0 then s else s.applyTrim who p 0) s).formingBay) 0x8103 [(1, who)]) u).ok j) ∧
  (∀ h slot buf s, ready (.govStatus h slot buf) 16 0 s = true → slot < 8 → buf % 64 = 0 → buf < 2 ^ 64 →
    Carries (.govStatus h slot buf) s fun j u => (u.bufferOut j buf (wordsBytes (u.govRecord u.govBay slot))).ok j)

/-- A ready COOL_ command that keeps the ranges of R287 and R408 and names a channel or point that exists is accepted; at its window
COOL_SET_ZONE sets a zone's masks, TARGET and TRIP (a zone with no mask left has no reading, demand or trip); COOL_SET_SENSOR sets a
point's neighbours, threshold, count and zone; COOL_SET_DRIVE sets MODE and DRIVE, a disabled channel runs again, and the drive is
written; COOL_SET_VALVE, not to open while a leak holds the valves, opens or closes one and signals a change to the hands (ABANDONED
under a leak that came meanwhile or in keeper-hold); COOL_SET_INPUT sets FILTER, STUCK and CHATTER; COOL_STATUS outputs the cooling
records. -/
def Obligations.CoolingCommands : Prop :=
  (∀ h zone pumps fans slots target trip s, ready (.coolSetZone h zone pumps fans slots target trip) 16 0 s = true → zone < 16 → pumps < 16 →
    2560 ≤ target → target ≤ 14080 → target < trip → trip ≤ 16000 →
    Carries (.coolSetZone h zone pumps fans slots target trip) s fun j u =>
      let v := u.modZone zone fun z => { z with pumps := pumps, fans := fans, slots := slots, target := target, trip := trip }
      (if (v.zone zone).used then v
       else v.modZone zone fun z => { z with
         temp := none, hottest := 0xFFFF, demand := 0, isOver := false, atTrip := false, okSince := none, blankSince := none }).ok j) ∧
  (∀ h point zone n thresh buf blen s, ready (.coolSetSensor h point zone n thresh buf blen) 32 0 s = true → zone < 16 → 1 ≤ n → n ≤ 255 →
    64 ≤ thresh → thresh ≤ 6400 → buf % 64 = 0 → buf < 2 ^ 64 → 2 ≤ blen → blen ≤ 32 → blen % 2 = 0 → pointExists point = true →
    h.buf.isSome = true → (neighbourPoints (h.buf.getD []) blen).all pointExists = true →
    Carries (.coolSetSensor h point zone n thresh buf blen) s fun j u =>
      (u.modPoint point fun p => { p with neighbours := neighbourPoints (h.buf.getD []) blen, thresh := thresh, n := n, zone := zone }).ok j) ∧
  (∀ h channel mode drive s, ready (.coolSetDrive h channel mode drive) 8 0 s = true → mode ≤ 1 → drive ≤ 1000 → isDrive channel = true →
    Carries (.coolSetDrive h channel mode drive) s fun j u =>
      ((u.modDrive channel fun d => { d with
        mode1 := mode = 1, fixed := drive, dstate := if d.dstate = .disabled then .running else d.dstate
        lastEdge := if d.dstate = .disabled then u.now else d.lastEdge }).writeDrive channel).ok j) ∧
  (∀ h channel on s, ready (.coolSetValve h channel on) 3 0 s = true → on < 2 → isValve channel = true → ¬ (on = 1 ∧ s.leaking = true) →
    Carries (.coolSetValve h channel on) s fun j u =>
      if (on = 1 && u.leaking) || u.own.latch.hold then u.complete j 0x0504 []
      else
        let v := u.modValve (channel - 0x20) fun v => { v with isOpen := on = 1, released := false }
        (if v.valve (channel - 0x20) = u.valve (channel - 0x20) then v else v.signalChannel channel).ok j) ∧
  (∀ h channel filter stuck chatter s, ready (.coolSetInput h channel filter stuck chatter) 16 0 s = true → isInput channel = true →
    (isLeak channel = true → 100 ≤ filter ∧ filter ≤ 1000000 ∧ 1000000 ≤ stuck ∧ stuck ≤ 86400000000 ∧ 1 ≤ chatter ∧ chatter ≤ 1000) →
    (isLeak channel = false → isFlow channel = true → 10000 ≤ filter ∧ filter ≤ 1000000 ∧ 10 ≤ chatter ∧ chatter ≤ 10000) →
    (isLeak channel = false → isFlow channel = false → 1 ≤ filter ∧ filter ≤ 100000 ∧ 10000 ≤ stuck ∧ stuck ≤ 86400000000 ∧ 1 ≤ chatter ∧
      chatter ≤ 100000) →
    Carries (.coolSetInput h channel filter stuck chatter) s fun j u =>
      (u.modInput channel fun x => { x with filter := filter, stuck := stuck, chatter := chatter }).ok j) ∧
  (∀ h buf s, ready (.coolStatus h buf) 16 0 s = true → buf % 64 = 0 → buf < 2 ^ 64 →
    Carries (.coolStatus h buf) s fun j u => (u.bufferOut j buf u.coolStatusBytes).ok j)

/-- A ready PWR_ command that keeps its ranges and states is accepted; at its window PWR_SET_TRIP sets threshold and retries, lowers the
retries left, and latches a tripped channel that has none left (event and record 0x0402); PWR_RESET_TRIP of a latched channel restores
its count and starts a branch's inrush, a feed being READY or OFF until called for (ABANDONED where it is no longer latched); PWR_BRANCH
off opens the branch and completes once its gate is pulled, on of an OFF branch starts its inrush and waits for ON, of a branch that is
being opened waits, of an ON branch completes, else ABANDONED, as both are in keeper-hold; PWR_SET_RAIL sets a rail's sheaf, parents and
rise timeout; PWR_RAIL_CTRL queues a rail sequence; PWR_SET_WARN sets a feed's warning; PWR_STATUS outputs the power records. -/
def Obligations.PowerCommands : Prop :=
  (∀ h channel thresh retries s, ready (.pwrSetTrip h channel thresh retries) 9 0 s = true → isPower channel = true → retries ≤ 7 →
    (isFeed channel = true → 600 ≤ thresh ∧ thresh ≤ 1000) → (isFeed channel = false → 80 ≤ thresh ∧ thresh ≤ 160) →
    Carries (.pwrSetTrip h channel thresh retries) s fun j u =>
      let c := u.chan channel
      let v := u.modChan channel fun c => { c with thresh := thresh, retries := retries, retriesLeft := min c.retriesLeft retries }
      (if c.cstate = .tripped && min c.retriesLeft retries = 0 then
        (v.setChan channel fun c => { c with cstate := .latched, retryDue := none }).raiseAndRecord 0 0x0402 [(2, channel)]
      else v).ok j) ∧
  (∀ h channel s, ready (.pwrResetTrip h channel) 2 0 s = true → isPower channel = true → (s.chan channel).cstate = .latched →
    Carries (.pwrResetTrip h channel) s fun j u =>
      let v := u.modChan channel fun c => { c with retriesLeft := c.retries, retryNo := 0, resetJseq := j }
      if (u.chan channel).cstate ≠ .latched then u.complete j 0x0504 []
      else if isBranch channel then v.startInrush channel
      else (v.setChan channel fun c => { c with
        cstate := if c.valid then .ready else .off, readySince := if c.valid then some v.now else none }).feedAuto) ∧
  (∀ h slot s, ready (.pwrBranch h slot 0) 2 0 s = true → slot < 8 → s.parked slot = false →
    Carries (.pwrBranch h slot 0) s fun j u =>
      let v := u.commandOpen slot;
      if u.own.latch.hold then u.complete j 0x0504 []
      else if (v.branch slot).openDue then v.modChan (branchCh slot) fun c => { c with openJseq := c.openJseq ++ [j] }
      else v.ok j) ∧
  (∀ h slot s, ready (.pwrBranch h slot 1) 2 0 s = true → slot < 8 → s.parked slot = false → (s.branch slot).cstate ≠ .tripped →
    (s.branch slot).cstate ≠ .latched → (s.thermal slot).hold = 0 →
    Carries (.pwrBranch h slot 1) s fun j u =>
      if u.own.latch.hold || u.parked slot || (u.thermal slot).hold ≠ 0 then u.complete j 0x0504 []
      else if (u.branch slot).openDue then u.modChan (branchCh slot) fun c => { c with closeJseq := c.closeJseq ++ [j] }
      else if (u.branch slot).cstate = .on then u.ok j
      else if (u.branch slot).cstate = .inrush then u.modChan (branchCh slot) fun c => { c with closeJseq := c.closeJseq ++ [j] }
      else if (u.branch slot).cstate = .off then
        let v := u.startInrush (branchCh slot)
        if (v.branch slot).cstate = .inrush then v.modChan (branchCh slot) fun c => { c with closeJseq := c.closeJseq ++ [j] }
        else v.complete j 0x0504 []
      else u.complete j 0x0504 []) ∧
  (∀ h rail sheaf parents riseTimeout s, ready (.pwrSetRail h rail sheaf parents riseTimeout) 16 0 s = true →
    firstBad ((specPwrSetRail h rail sheaf parents riseTimeout s).params ++ (specPwrSetRail h rail sheaf parents riseTimeout s).states) = none →
    Carries (.pwrSetRail h rail sheaf parents riseTimeout) s fun j u =>
      (u.modRail_ rail fun r => { r with sheaf := some sheaf, parents := parents.filter (· < 64), riseTimeout := riseTimeout }).ok j) ∧
  (∀ h mask on s, ready (.pwrRailCtrl h mask on) 9 0 s = true → on < 2 → s.rail.seq.kind ≠ .inputLoss → s.rail.seq.afterLoss = false →
    Carries (.pwrRailCtrl h mask on) s fun j u =>
      (u.modSeq fun q => { q with waitQ := q.waitQ ++ [(j, mask, decide (on = 1), false)] }).railRun) ∧
  (∀ h feed thresh s, ready (.pwrSetWarn h feed thresh) 8 0 s = true → feed < 2 → 400000 ≤ thresh → thresh ≤ 520000 →
    Carries (.pwrSetWarn h feed thresh) s fun j u => (u.modChan (0x32 + feed) fun c => { c with warn := thresh.toNat }).ok j) ∧
  (∀ h buf s, ready (.pwrStatus h buf) 16 0 s = true → buf % 64 = 0 → buf < 2 ^ 64 →
    Carries (.pwrStatus h buf) s fun j u => (u.bufferOut j buf u.powerStatus).ok j)

/-- With the host as a source (HOST or EITHER), a TSEQ above the last of its series, with EITHER an ISSUE_TIME later than the newest, and a
DEADLINE of 0 or not past, a ready GRID_SET_TARGET, GRID_PARK (not in PARK_FUSES or PARKED) or GRID_UNPARK is accepted; in its window
its TSEQ and ISSUE_TIME are noted and it is committed: a target unless a later accepted one supersedes it. GRID_SET_TARGET answers the
window. GRID_SET_CURVE, GRID_SET_FREQ, GRID_SET_SOURCE, GRID_SET_PARK and GRID_STATUS in their ranges are accepted and set the curve
with its window, the df in use, the source (no share with NONE), the park rails and spread, or output the grid record. A late host
target is refused with fabric time, counted in LATE and recorded. -/
def Obligations.GridCommands : Prop :=
  let fresh (s : State) (tseq : Word32) (issueTime deadline : Nat) : Prop :=
    s.source.obeys false = true ∧ (∀ l, s.lastTseq false [] = some l → wsAbove tseq l = true) ∧
    (s.source = .either → ∀ n, s.newestIssue = some n → n < issueTime) ∧ (deadline = 0 ∨ s.fabNow ≤ deadline)
  (∀ h tseq target slope deadline issueTime s, ready (.gridSetTarget h tseq target slope deadline issueTime) 32 0 s = true → tseq ≠ 0 →
    target ≤ 40000 → 100 ≤ slope → slope ≤ 40000 → fresh s tseq issueTime deadline →
    Carries (.gridSetTarget h tseq target slope deadline issueTime) s fun j u =>
      let v := u.commitGrid j false .target { tseq := tseq, target := target, slope := slope, deadline := deadline, issueTime := issueTime }
      (v.complete j 0 [(v.entry j).applyDwn]).keepAnswer j) ∧
  (∀ h tseq slope deadline issueTime s, ready (.gridPark h tseq slope deadline issueTime) 24 0 s = true → tseq ≠ 0 → 100 ≤ slope →
    slope ≤ 40000 → fresh s tseq issueTime deadline → s.grid.state ≠ .parkFuses → s.grid.state ≠ .parked →
    Carries (.gridPark h tseq slope deadline issueTime) s fun j u =>
      ((u.commitGrid j false .park { tseq := tseq, slope := slope, deadline := deadline, issueTime := issueTime }).ok j).keepAnswer j) ∧
  (∀ h tseq issueTime s, ready (.gridUnpark h tseq issueTime) 16 0 s = true → tseq ≠ 0 → fresh s tseq issueTime 0 →
    Carries (.gridUnpark h tseq issueTime) s fun j u =>
      ((u.commitGrid j false .unpark { tseq := tseq, issueTime := issueTime }).ok j).keepAnswer j) ∧
  (∀ (u : State) (j : Nat) (t : Target),
    let v := u.modGrid fun g => { g with tseqHost := some t.tseq, newestIssue := some t.issueTime }
    u.commitGrid j false .target t = (if v.superseded j .target then v else v.modGrid fun g => { g with target := some t }) ∧
    u.commitGrid j false .park t = v.parkCommit t.slope ∧ u.commitGrid j false .unpark t = v.unparkCommit) ∧
  (∀ h npoints frSlope freqStale buf s, ready (.gridSetCurve h npoints frSlope freqStale buf) 24 0 s = true → 2 ≤ npoints → npoints ≤ 16 →
    100 ≤ frSlope → frSlope ≤ 40000 → 10000 ≤ freqStale → freqStale ≤ 10000000 → buf % 64 = 0 → buf < 2 ^ 64 → h.buf.isSome = true →
    ((curvePoints (h.buf.getD []) npoints).all fun p => decide (-5000 ≤ p.1) && decide (p.1 ≤ 5000) && decide (p.2 ≤ 2000)) = true →
    dfRises (curvePoints (h.buf.getD []) npoints) = true →
    Carries (.gridSetCurve h npoints frSlope freqStale buf) s fun j u =>
      (u.modGrid fun g => { g with
        curve := curvePoints (h.buf.getD []) npoints, frSlope := frSlope, freqStale := freqStale
        curveFrom := u.countAt ((u.entry j).applyDwn * 2000), freqHold := g.freqHold && npoints ≠ 0 }).complete j 0 [(u.entry j).applyDwn]) ∧
  (∀ h df issueTime s, ready (.gridSetFreq h df issueTime) 16 0 s = true → -5000 ≤ df → df ≤ 5000 → s.source.obeys false = true →
    Carries (.gridSetFreq h df issueTime) s fun j u =>
      (if u.source.obeys false && (u.source ≠ .either || u.dfLater issueTime) then
        (u.useDf df issueTime).modGrid fun g => { g with dfTime := u.now, freqHold := false } else u).complete j 0 [(u.entry j).applyDwn]) ∧
  (∀ h source reportStale s, ready (.gridSetSource h source reportStale) 8 0 s = true → source ≤ 3 → 2000 ≤ reportStale → reportStale ≤ 100000 →
    Carries (.gridSetSource h source reportStale) s fun j u =>
      (u.modGrid fun g => { g with
        source := if source = 0 then .none else if source = 1 then .fabric else if source = 2 then .host else .either
        reportStale := reportStale, share := if source = 0 then none else g.share, sR := if source = 0 then none else g.sR
        freqHold := g.freqHold && source ≠ 0 }).ok j) ∧
  (∀ h rails spread s, ready (.gridSetPark h rails spread) 12 0 s = true → spread ≤ 60000000 →
    Carries (.gridSetPark h rails spread) s fun j u => (u.modGrid fun g => { g with parkRails := rails, spread := spread }).ok j) ∧
  (∀ h buf s, ready (.gridStatus h buf) 16 0 s = true → buf % 64 = 0 → buf < 2 ^ 64 →
    Carries (.gridStatus h buf) s fun j u => (u.bufferOut j buf (wordsBytes u.gridRecord)).ok j) ∧
  (∀ h tseq target slope deadline issueTime s, ready (.gridSetTarget h tseq target slope deadline issueTime) 32 0 s = true → tseq ≠ 0 →
    target ≤ 40000 → 100 ≤ slope → slope ≤ 40000 → fresh s tseq issueTime 0 → deadline ≠ 0 → deadline < s.fabNow →
    let t : Target := { tseq := tseq, target := target, slope := slope, deadline := deadline, issueTime := issueTime }
    exec (.gridSetTarget h tseq target slope deadline issueTime) s =
      .next ((s.lateTarget false t).submit (.gridSetTarget h tseq target slope deadline issueTime) h
        (specGridSetTarget h tseq target slope deadline issueTime s)) ∧
    s.lateTarget false t = (s.modGrid fun g => { g with late := satAdd 32 g.late 1 }).almanac (baySource (s.owner.getD 0)) 0x0202
      [(4, tseq.toNat), (8, deadline), (8, s.fabNow)] ∧
    s.verdict (.gridSetTarget h tseq target slope deadline issueTime) h (specGridSetTarget h tseq target slope deadline issueTime s) =
      .refuse 0x0202 s.fabNow)

/-- A ready EASEL_LOAD of a container up to 16 MiB that R163 passes and the Loft has room for is one keeper step, whose report of success
measures the container, makes its program the loaded one of its identity, calls for reseeding, and answers PROG_ID and REV. EASEL_BIND
of a loaded program that finds an instance, a placement and gap room binds or replaces it from the switch window that it answers;
EASEL_UNBIND of a bound instance ends it at that window; EASEL_DELETE of an unbound program other than PROG_ID 1 and 2 removes it;
EASEL_STATUS answers a governor slot's status, WSEQ and value 0 and outputs the entry; EASEL_CONFIG sets the reseed and known-answer
periods. -/
def Obligations.EaselCommands : Prop :=
  (∀ h buf blen s, ready (.easelLoad h buf blen) 20 1 s = true → blen ≤ 16777216 → buf % 64 = 0 → buf < 2 ^ 64 → h.buf.isSome = true →
    s.loadFault ((h.buf.getD []).take blen) (h.opt.getLsbD 0) = none → s.containerRoom blen = true →
    Carries (.easelLoad h buf blen) s fun j u => u.modEntry j fun e => { e with stepsDue := 1 }) ∧
  (∀ (h : CmdHdr) (buf blen j : Nat) (u : State), (u.entry j).state = 1 → (u.entry j).stepsDue ≠ 0 → (u.entry j).body = .cmd (.easelLoad h buf blen) →
    let p := parseProgram ((h.buf.getD []).take blen)
    exec (.keeperStepReport j true true) u =
      .next ((((u.modEntry j fun e => { e with stepsDue := 0, stepStarted := 1 }).measureContainer p.hash).modEaselCfg fun c => { c with
        programs := (c.programs.filter fun q => !(q.progId = p.progId && q.rev = p.rev)) ++ [p], reseedDue := true }).complete j 0
          [p.progId * 2 ^ 32 + p.rev])) ∧
  (∀ h progId rev slot p s, ready (.easelBind h progId rev slot) 12 1 s = true → s.program progId rev = some p → slot < 8 ∨ slot = 0xFF →
    (p.cls = 0 ∨ slot ≠ 0xFF) → ¬ (slot = 0xFF ∧ p.needsSlot = true) → (s.bindInst p (bindSlot slot)).isSome = true →
    (s.bindPlace p (bindSlot slot)).isSome = true → (h.opt.getLsbD 0 = true ∨ s.bindFits p (bindSlot slot) = true) →
    Carries (.easelBind h progId rev slot) s fun j u => effEaselBind j h progId rev slot u) ∧
  (∀ (j : Nat) (h : CmdHdr) (progId rev slot n : Nat) (p : Program) (ps : List Nat) (o : Nat) (u : State), u.program progId rev = some p →
    u.bindPlace p (bindSlot slot) = some (n, ps, o) →
    (p.cls = 0 ∨ (u.easelBay (u.serving.getD 0)).insts.all (fun e => e.1 ≠ n) = true) →
    effEaselBind j h progId rev slot u =
      (let gap := h.opt.getLsbD 0 && !u.bindFits p (bindSlot slot)
       let v := u.modInsts n fun _ => {
         prog := p, slot := bindSlot slot, offset := o, order := j, panels := ps, tensors := p.startTensors, switchAt := u.switchFor j
         seeded := !p.stochastic, gapWait := gap, gap := gap }
       (if p.stochastic then v.modEaselCfg fun c => { c with reseedDue := true } else v).complete j 0 [n, u.switchFor j])) ∧
  (∀ h inst s, ready (.easelUnbind h inst) 2 0 s = true → inst < 32 → s.instBound inst = true →
    Carries (.easelUnbind h inst) s fun j u =>
      if u.instBound inst then (u.modInsts inst fun i => { i with unbindAt := some (u.switchFor j) }).complete j 0 [0, u.switchFor j]
      else u.complete j 0x0504 []) ∧
  (∀ h progId rev s, ready (.easelDelete h progId rev) 8 0 s = true → (s.program progId rev).isSome = true → s.programBound progId rev = false →
    progId ≠ 1 → progId ≠ 2 → Carries (.easelDelete h progId rev) s fun j u =>
      if u.programBound progId rev || (u.program progId rev).isNone then u.complete j 0x0504 []
      else (u.modEaselCfg fun c => { c with programs := c.programs.filter fun q => !(q.progId = progId && q.rev = rev) }).ok j) ∧
  (∀ h gslot buf s, ready (.easelStatus h gslot buf) 16 0 s = true → isGovSlot gslot = true → buf % 64 = 0 → buf < 2 ^ 64 →
    Carries (.easelStatus h gslot buf) s fun j u =>
      let e := u.slotEntry (u.serving.getD 0) gslot
      (if buf = 0 then u else u.bufferOut j buf (wordsBytes e.words)).complete j 0
        [e.status.toNat, e.wseq.toNat, (valueWord (e.vals.getD 0 (0, 0))).toNat]) ∧
  (∀ h reseed kac s, ready (.easelConfig h reseed kac) 12 0 s = true → 1000000 ≤ reseed → reseed ≤ 3600000000 → 100000 ≤ kac → kac ≤ 60000000 →
    Carries (.easelConfig h reseed kac) s fun j u => (u.modEaselCfg fun c => { c with reseedPeriod := reseed, kacPeriod := kac }).ok j)

/-- A ready HAND_LOAD of user hands that hold no running code, with a container that R163 and R193 pass and room in the Granary and the
Loft, is one keeper step; its report of success places code and data pages in every bay that runs, enters the hands LOADED there, drops
the cache lines of the pages, measures the container and keeps the image (ABANDONED where no pages are free any more). HAND_START of a
startable hand starts it on both bays where it is not FREE; HAND_STOP of a hand that is not FREE stops it on both; HAND_CONFIG sets
SHADOW, RESTART_MAX, RESTART_WINDOW and CKPT_WD on both, the standby's hand following SHADOW; HAND_STATUS answers state, cause and
restarts, PC and CSEQ. -/
def Obligations.HandCommands : Prop :=
  (∀ h first count data buf blen shrBase shrLen s, ready (.handLoad h first count data buf blen shrBase shrLen) 32 1 s = true → 1 ≤ count →
    buf % 64 = 0 → buf < 2 ^ 64 → (shrLen = 0 ∨ (shrBase + shrLen ≤ 2 ^ 32 ∧ mapped shrBase shrLen = true)) → 1024 ≤ first → first + count ≤ 4096 →
    (handRange first count).find? (fun n => !loadable (s.hand s.handBay n)) = none → h.buf.isSome = true →
    s.codeFault ((h.buf.getD []).take blen) (h.opt.getLsbD 0) = none → (codeHeader ((h.buf.getD []).take blen)).dataMin ≤ data →
    s.containerRoom blen = true → (s.freeRun (loadPages (codeHeader ((h.buf.getD []).take blen)).codeLen count data)).isSome = true →
    Carries (.handLoad h first count data buf blen shrBase shrLen) s fun j u => u.modEntry j fun e => { e with stepsDue := 1 }) ∧
  (∀ (h : CmdHdr) (first count data buf blen shrBase shrLen j : Nat) (u : State), (u.entry j).state = 1 → (u.entry j).stepsDue ≠ 0 →
    (u.entry j).body = .cmd (.handLoad h first count data buf blen shrBase shrLen) →
    exec (.keeperStepReport j true true) u =
      .next (finishHandLoad j h first count data blen shrBase shrLen (u.modEntry j fun e => { e with stepsDue := 0, stepStarted := 1 }))) ∧
  (∀ h hand regs s, ready (.handStart h hand regs) 32 1 s = true → userHand hand = true → startable (s.hand s.handBay hand) = true →
    Carries (.handStart h hand regs) s fun j u =>
      if startable (u.hand u.handBay hand) then
        (u.modHands hand fun b x => if x.state = .free then x else x.start (u.granary b) regs (h.opt.getLsbD 0) (u.isOwner b) u.devNow).ok j
      else u.complete j 0x0504 []) ∧
  (∀ h hand s, ready (.handStop h hand) 2 0 s = true → userHand hand = true → (s.hand s.handBay hand).state ≠ .free →
    Carries (.handStop h hand) s fun j u => (u.modHands hand fun _ x => x.stop).ok j) ∧
  (∀ h hand shadow restartMax restartWindow ckptWd s, ready (.handConfig h hand shadow restartMax restartWindow ckptWd) 12 0 s = true →
    userHand hand = true → shadow < 2 → restartMax ≤ 15 → 100000 ≤ restartWindow → restartWindow ≤ 60000000 →
    (ckptWd = 0 ∨ (10 ≤ ckptWd ∧ ckptWd ≤ 10000000)) →
    Carries (.handConfig h hand shadow restartMax restartWindow ckptWd) s fun j u =>
      (u.modHands hand fun b x =>
        let y := { x with shadow := shadow = 1, restartMax := restartMax, restartWindow := restartWindow, ckptWd := ckptWd, lastCkpt := u.devNow }
        if u.isOwner b then y
        else if shadow = 1 ∧ x.state = .held then { y with state := .wait, wait := none, resync := true }
        else if shadow ≠ 1 ∧ (x.state = .ready ∨ x.state = .wait) then { y with state := .held, wait := none, timerMode := 2, resync := false }
        else y).ok j) ∧
  (∀ h hand bay s, ready (.handStatus h hand bay) 3 0 s = true → hand < 4096 → bay < 2 →
    Carries (.handStatus h hand bay) s fun j u =>
      u.complete j 0 [(u.hand bay hand).state.code + (u.hand bay hand).cause * 2 ^ 8 + ((u.hand bay hand).recentRestarts u.devNow).length * 2 ^ 12,
        (u.hand bay hand).pc.toNat, (u.hand bay hand).cseq])

/-- Ready commands that keep their ranges and states are accepted; at their window BIST_RUN starts the bank's self-test (its completion
waits for the return; ABANDONED where a test now stands or the bay is down); BIST_RESULT outputs 1,040 bytes and answers the entries
found; REPAIR_APPLY of kind 1 or 2 starts the test with that repair, of kind 3 is one keeper step, whose success marks the soft repair
fused and answers the fuse repairs left; GRAN_STATUS outputs page map entries; GRAN_CONFIG sets a bay's or both bays' parameters;
FAB_GLOBAL by the proxy starts a wait for its descriptor and hands it to the root (itself, or routed; TIMEOUT with no way); FAB_STATUS
outputs the node and port records; FAB_CONFIG sets one item, where DEAD_TIMEOUT and ROOT_TIMEOUT keep their joint rule (ABANDONED where
another change broke it meanwhile). -/
def Obligations.GranaryAndFabricCommands : Prop :=
  (∀ h bay bank s, ready (.bistRun h bay bank) 2 0 s = true → bay < 2 → bankExists bank = true → s.testFree bay bank = true → s.noTest bay = true →
    Carries (.bistRun h bay bank) s fun j u =>
      if u.testFree bay bank && u.noTest bay && (u.bay bay).bstate ≠ .down then u.startTest bay bank j none else u.complete j 0x0504 []) ∧
  (∀ h bay bank buf s, ready (.bistResult h bay bank buf) 16 0 s = true → bay < 2 → bankExists bank = true → buf % 64 = 0 → buf < 2 ^ 64 →
    Carries (.bistResult h bay bank buf) s fun j u =>
      (u.bufferOut j buf (u.bistBytes bay bank ++ List.replicate (1040 - (u.bistBytes bay bank).length) 0)).complete j 0
        [(u.bist bay bank).fails.length]) ∧
  (∀ h bay bank kind pos s, ready (.repairApply h bay bank kind pos) 8 0 s = true → bay < 2 → bank < 68 → kind = 1 ∨ kind = 2 →
    (kind = 1 → pos < (if bank < 64 then 6144 else 4096) ∧ s.repairsOf bay bank false < 16) →
    (kind = 2 → pos < 576 ∧ s.repairsOf bay bank true < 8) → s.testFree bay bank = true → s.noTest bay = true →
    Carries (.repairApply h bay bank kind pos) s fun j u =>
      if u.testFree bay bank && u.noTest bay && (u.bay bay).bstate ≠ .down then u.startTest bay bank j (some (kind = 2, pos))
      else u.complete j 0x0504 []) ∧
  (∀ h bay bank pos s, ready (.repairApply h bay bank 3 pos) 8 0 s = true → bay < 2 → bank < 68 → pos < 6144 →
    s.gran.repairs.any (softRepair bay bank pos) = true → 0 < s.fuseLeft bay →
    Carries (.repairApply h bay bank 3 pos) s fun j u => u.modEntry j fun e => { e with stepsDue := 1 }) ∧
  (∀ (h : CmdHdr) (bay bank kind pos j : Nat) (u : State), (u.entry j).state = 1 → (u.entry j).stepsDue ≠ 0 →
    (u.entry j).body = .cmd (.repairApply h bay bank kind pos) →
    exec (.keeperStepReport j true true) u =
      .next (let v := (u.modEntry j fun e => { e with stepsDue := 0, stepStarted := 1 }).modGran fun g => { g with
          repairs := g.repairs.map fun r => if softRepair bay bank pos r then { r with fused := true } else r }
        v.complete j 0 [v.fuseLeft bay])) ∧
  (∀ h bay first count buf s, ready (.granStatus h bay first count buf) 16 0 s = true → bay < 2 → first < pageCount → 1 ≤ count →
    first + count ≤ pageCount → buf % 64 = 0 → buf < 2 ^ 64 →
    Carries (.granStatus h bay first count buf) s fun j u =>
      (u.bufferOut j buf ((List.range count).flatMap fun k => leBytes 4 (tget (u.granary bay).pageMap (first + k) 0).toNat)).ok j) ∧
  (∀ h bay gleanPeriod ceThresh autotest s, ready (.granConfig h bay gleanPeriod ceThresh autotest) 13 0 s = true → (bay < 2 ∨ bay = 0xFF) →
    2000000 ≤ gleanPeriod → gleanPeriod ≤ 60000000 → 1 ≤ ceThresh → ceThresh ≤ 65535 → autotest < 2 →
    Carries (.granConfig h bay gleanPeriod ceThresh autotest) s fun j u =>
      let f (g : Granary) : Granary := { g with gleanPeriod := gleanPeriod, ceThresh := ceThresh, autotest := autotest = 1 }
      (if bay = 0xFF then (u.modGranary 0 f).modGranary 1 f else u.modGranary bay f).ok j) ∧
  (∀ h op node buf blen s, ready (.fabGlobal h op node buf blen) 32 0 s = true → globalOp op = true → buf % 64 = 0 → buf < 2 ^ 64 →
    blen = (if op = 1 then 112 else 64) → s.fab.fab.roles.testBit 0 = true → s.isMember = true → h.buf.isSome = true →
    (descOf (h.buf.getD [])).op = op → (descOf (h.buf.getD [])).scopeNode = node → scopeOk (descOf (h.buf.getD [])) = true →
    s.gridFieldsOk (descOf (h.buf.getD [])) = true →
    Carries (.fabGlobal h op node buf blen) s fun j u =>
      let d := descOf (h.buf.getD [])
      let v := u.modFabric fun f => { f with waits := f.waits ++ [{ desc := d, start := u.now, jseq := j }] }
      if !(u.fab.fab.roles.testBit 0 && u.isMember) then u.complete j 0x0504 []
      else if v.isRoot then v.startOp d ((h.buf.getD []).drop 64) v.nodeId none
      else match v.resolve 1 0 with
        | some root => (v.sendRouted 1 root (.gup (.request d ((h.buf.getD []).drop 64))) 1 none).getD (v.completeWait d 0x0502 0 0)
        | none => v.completeWait d 0x0502 0 0) ∧
  (∀ h buf s, ready (.fabStatus h buf) 16 0 s = true → buf % 64 = 0 → buf < 2 ^ 64 →
    Carries (.fabStatus h buf) s fun j u => (u.bufferOut j buf u.fabStatusBytes).ok j) ∧
  (∀ h item value s, ready (.fabConfig h item value) 16 0 s = true → item ≤ 10 → fabItemOk item value = true →
    4 * (s.fab.param.set item value).beaconPeriod ≤ (s.fab.param.set item value).deadTimeout →
    2 * (s.fab.param.set item value).deadTimeout ≤ (s.fab.param.set item value).rootTimeout →
    Carries (.fabConfig h item value) s fun j u =>
      let p := u.fab.param.set item value
      let v := u.modFabParam fun _ => p
      if p.deadTimeout < 4 * p.beaconPeriod || p.rootTimeout < 2 * p.deadTimeout then u.complete j 0x0504 []
      else (if v.isRoot && item = 1 then
        v.setTable (v.fab.fab.members.map fun m => if m.node = v.nodeId then { m with proxyPrio := value } else m) else v).ok j)

/-- Ready update commands that keep their ranges, sessions and states are accepted; at their window UPD_BEGIN opens a session on the free
slot it answers; UPD_BLOCK of whole pages within LEN whose CRC-32C agrees is one keeper step, whose success writes the block into the
session's slot and marks its pages; UPD_COMMIT with every page received commits the slot where the hash agrees, else ends HASH_MISMATCH;
UPD_CONFIRM varnishes a confirmable image, or starts burning the fuse counter where a field image is above it; UPD_LOCK sets the lock;
UPD_ABORT empties the slot and closes its session; UPD_STATUS answers slot states, pages received and the fuse counter. What an earlier
command took away ends them ABANDONED. -/
def Obligations.UpdateCommands : Prop :=
  (∀ h kind len s, ready (.updBegin h kind len) 8 0 s = true → kind < 2 → len ≤ slotSize kind → s.updating kind = false →
    (kind ≠ 0 ∨ s.fab.fab.offerTaken = none) → (s.freeSlot kind).isSome = true →
    Carries (.updBegin h kind len) s fun j u =>
      match (if u.updating kind then none else u.freeSlot kind) with
      | some n => (u.openSession kind n len (u.ringBay h.ring)).complete j 0 [n]
      | none => u.complete j 0x0504 []) ∧
  (∀ h offset blen buf crc n s, ready (.updBlock h offset blen buf crc) 20 0 s = true → s.sessionSlot h.ring = some n → offset % 4096 = 0 →
    offset + blen ≤ (s.slot n).len → 4096 ≤ blen → blen ≤ 1048576 → blen % 4096 = 0 → buf % 64 = 0 → buf < 2 ^ 64 → h.buf.isSome = true →
    crc32c ((h.buf.getD []).take blen) = crc →
    Carries (.updBlock h offset blen buf crc) s fun j u =>
      if (u.sessionSlot h.ring).isSome then u.modEntry j fun e => { e with stepsDue := 1 } else u.complete j 0x0504 []) ∧
  (∀ (h : CmdHdr) (offset blen buf : Nat) (crc : Word32) (j n : Nat) (u : State), (u.entry j).state = 1 → (u.entry j).stepsDue ≠ 0 →
    (u.entry j).body = .cmd (.updBlock h offset blen buf crc) →
    let v := u.modEntry j fun e => { e with stepsDue := 0, stepStarted := 1 }
    v.sessionSlot h.ring = some n →
    exec (.keeperStepReport j true true) u =
      .next ((v.modSlot n fun x => (x.write offset ((h.buf.getD []).take blen)).mark (offset / 4096) (blen / 4096)).ok j)) ∧
  (∀ h hash n s, ready (.updCommit h hash) 48 0 s = true → s.sessionSlot h.ring = some n → (s.slot n).complete = true →
    (kindOf n ≠ 0 ∨ hashOf (s.slot n).bytes ≠ hash ∨ s.canStand n = true) →
    Carries (.updCommit h hash) s fun j u =>
      match u.sessionSlot h.ring with
      | none => u.complete j 0x0504 []
      | some n =>
        if !(u.slot n).complete then u.complete j 0x0504 []
        else if hashOf (u.slot n).bytes ≠ hash then u.complete j 0x0403 []
        else if kindOf n = 0 && !u.canStand n then u.complete j 0x0504 []
        else (u.commitSlot n hash (decide (0x10000 ≤ h.ring))).complete j 0 [n]) ∧
  (∀ h kind s, ready (.updConfirm h kind) 1 0 s = true → kind < 2 → (s.confirmable kind).isSome = true →
    Carries (.updConfirm h kind) s fun j u =>
      match u.confirmable kind with
      | none => u.complete j 0x0504 []
      | some n =>
        if kind = 0 && u.boot.fuse.counter < (u.slot n).epoch then
          u.modFuse fun f => { f with burnTo := min 128 (u.slot n).epoch, burnJseq := j, burnSlot := some n }
        else (u.varnish n).ok j) ∧
  (∀ h lock s, ready (.updLock h lock) 1 0 s = true → lock < 2 →
    Carries (.updLock h lock) s fun j u => (u.modUpd fun x => { x with lock := lock = 1 }).ok j) ∧
  (∀ h kind s, ready (.updAbort h kind) 1 0 s = true → kind < 2 → (s.abortable kind).isSome = true →
    Carries (.updAbort h kind) s fun j u =>
      match u.abortable kind with
      | some n => (((u.setSlot n 0).modSlot n fun _ => {}).closeSession n).ok j
      | none => u.complete j 0x0504 []) ∧
  (∀ h s, ready (.updStatus h) 0 0 s = true →
    Carries (.updStatus h) s fun j u =>
      u.complete j 0 [(u.slot 0).state + (u.slot 1).state * 2 ^ 4 + (u.slot 2).state * 2 ^ 8 + (u.slot 3).state * 2 ^ 12,
        (match u.sessionSlot h.ring with | some n => (u.slot n).pages.length | none => 0), u.boot.fuse.counter])

/-- Ready commands in their ranges are accepted; at their window LOG_READ outputs the records from START, counts torn slots and answers
records, torn slots and the next ASEQ; LOG_STATUS answers oldest and newest ASEQ and torn slots; TW_XFER queues its transaction on an
enabled port that is not stuck (else DEVICE_ERROR 0x08, 0x06 or 0x07 at once); TW_CONFIG leaves a setting for the port's next bus-free
moment, as one keeper step; CAL_READ outputs a range of the set; CAL_WRITE with CONFIRM_LOSS, above the header and breaking no table, is
one keeper step; BAY_STATUS answers the latch and both BAY_INFO words; BAY_HANDOVER with a standby peer sets HANDOVER_WAIT and starts
the handover; BAY_CONFIG sets one parameter; BAY_RESTART resets the other bay, or first hands over. -/
def Obligations.BayLogPortCommands : Prop :=
  (∀ h start count buf s, ready (.logRead h start count buf) 24 0 s = true → 1 ≤ count → count ≤ 16384 → buf % 64 = 0 → buf < 2 ^ 64 →
    Carries (.logRead h start count buf) s fun j u =>
      let x := u.almScan (u.alm.nextAseq - max start u.almOldest) (max start u.almOldest) count
      let v := u.modAlm fun m => { m with torn := satAdd 32 m.torn x.2.1 }
      let v := if x.1.isEmpty then v else v.bufferOut j buf (x.1.flatMap AlmRec.bytes)
      let v := if x.2.1 = 0 then v else v.raiseSev v.formingBay 0x0A01 1 j [(4, x.2.1)]
      v.complete j 0 [x.1.length, x.2.1, x.2.2]) ∧
  (∀ h s, ready (.logStatus h) 0 0 s = true →
    Carries (.logStatus h) s fun j u => u.complete j 0 [u.almOldest, u.alm.nextAseq - 1, u.alm.torn]) ∧
  (∀ h port addr kind wlen rlen tout buf wdata s, ready (.twXfer h port addr kind wlen rlen tout buf wdata) (16 + wlen) 0 s = true → port < 24 →
    buf % 64 = 0 → (buf ≠ 0 ∨ rlen = 0) →
    Carries (.twXfer h port addr kind wlen rlen tout buf wdata) s fun j u =>
      let d : TwDesc := { port := port, addr := addr, kind := kind, wlen := wlen, rlen := rlen, buf := buf, tout := tout, wdata := wdata
                          issuer := .host j, ownPage := addr = (u.twPort port).target && addr ≠ 0 }
      if d.invalid then u.complete j 0x0503 [0x08]
      else if !(u.twPort port).enable then u.complete j 0x0503 [0x06]
      else if (u.twPort port).stuck && !d.ownPage then u.complete j 0x0503 [0x07]
      else u.modTwPort port fun p => p.enqueue d) ∧
  (∀ h port enable speed filter target s, ready (.twConfig h port enable speed filter target) 5 0 s = true → port < 24 → enable < 2 → speed < 3 →
    filter < 32 → targetOk target = true → filter ≤ maxFilter speed →
    Carries (.twConfig h port enable speed filter target) s fun j u =>
      let v := (u.modTwPort port fun p => { p with pendingCfg := some (enable = 1, speed, filter, target) }).modEntry j fun e => { e with stepsDue := 1 }
      if (v.twPort port).idleBus then v.twApplyCfg port else v) ∧
  (∀ h offset len buf s, ready (.calRead h offset len buf) 16 0 s = true → offset + len ≤ calSize → buf % 64 = 0 → buf < 2 ^ 64 →
    Carries (.calRead h offset len buf) s fun j u => (u.bufferOut j buf ((List.range len).map fun k => u.calByte (offset + k))).ok j) ∧
  (∀ h offset len buf s, ready (.calWrite h offset len buf) 16 1 s = true → 0x40 ≤ offset → offset + len ≤ calSize → buf % 64 = 0 → buf < 2 ^ 64 →
    h.opt.getLsbD 0 = true → h.buf.isSome = true → s.calKeepsOrder offset len h = true →
    Carries (.calWrite h offset len buf) s fun j u => u.modEntry j fun e => { e with stepsDue := 1 }) ∧
  (∀ (h : CmdHdr) (offset len buf j : Nat) (u : State), (u.entry j).state = 1 → (u.entry j).stepsDue ≠ 0 →
    (u.entry j).body = .cmd (.calWrite h offset len buf) →
    exec (.keeperStepReport j true true) u =
      .next (finishCalWrite j h offset len (u.modEntry j fun e => { e with stepsDue := 0, stepStarted := 1 }))) ∧
  (∀ h s, ready (.bayStatus h) 0 0 s = true →
    Carries (.bayStatus h) s fun j u => u.complete j 0 [u.latchWord.toNat, (u.bayInfo 0).toNat, (u.bayInfo 1).toNat]) ∧
  (∀ h waitUs b s, ready (.bayHandover h waitUs) 8 0 s = true → 10 ≤ waitUs → waitUs ≤ 1000 → s.serving = some b →
    (s.bay (peer b)).bstate = .standby →
    Carries (.bayHandover h waitUs) s fun j u =>
      if u.handoverOk then (u.modOwnParam fun p => { p with handoverWait := waitUs }).startHandover j none else u.complete j 0x0504 []) ∧
  (∀ h item value s, ready (.bayConfig h item value) 8 0 s = true → item < 7 → bayItemOk item value = true →
    Carries (.bayConfig h item value) s fun j u => (u.modOwnParam fun p => p.set item value).ok j) ∧
  (∀ h bay s, ready (.bayRestart h bay) 1 0 s = true → bay < 2 → (s.serving ≠ some bay ∨ (s.bay (peer bay)).bstate = .standby) →
    Carries (.bayRestart h bay) s fun j u =>
      if u.serving = some bay then
        if u.handoverOk then u.startHandover j (some bay) else u.complete j 0x0504 []
      else (u.resetBay bay).modBay bay fun b => { b with restartAt := some u.now, restartJseq := j })

/-- COMMAND_FETCH on the ring whose turn it is: an entry that decodes to a ring command runs as that command after the ring's run of
poisoned reads is cleared, and the fetch is noted; a poisoned entry is counted. COMPLETION_POST of a finished entry not yet posted, with
room on the completion ring and no output buffer, writes the completion words there, passes CTRL_IDX by one, marks the entry posted with
that index and counts one open command less on its ring. KEEPER_STEP_REPORT of a start is noted; a failed step completes the entry
DEVICE_ERROR with 0xFF. COAL_US_EXPIRY once COAL_US has passed sends the vector and leaves nothing unsignalled. RING_DMA_ERROR stops the
ring with RERR 2; of a poisoned entry on an active command ring it counts, and the second in a row stops it with RERR 3. -/
def Obligations.CompletionsAndFetches : Prop :=
  (∀ ring e i s, s.mayFetch ring = true → s.canFetch ring 0x0D01 = true → e.poisoned = false → decodeCommand ring e = some i →
    opcodeOf i ≠ none →
    ∃ t, exec i (s.modRing ring fun r => { r with poisonReads := 0 }) = .next t ∧ exec (.commandFetch ring [e]) s = .next (t.noteFetch ring)) ∧
  (∀ ring e es s, s.mayFetch ring = true → s.canFetch ring 0x0D01 = true → e.poisoned = true →
    exec (.commandFetch ring (e :: es)) s = .next ((s.poisonedRead ring).noteFetch ring)) ∧
  (∀ j s, (s.entry j).kind = 0 → (s.entry j).state = 2 → (s.entry j).posted = false → (s.entry j).bufOut = [] →
    s.ringRoom (s.ring (s.entry j).ring).desc.peer = true → (s.ring (s.entry j).ring).state ≠ .draining →
    (s.ring (s.entry j).ring).desc.peer ≠ (s.entry j).ring →
    Runs (.completionPost j true) s fun t =>
      let n := (s.entry j).ring
      let c := (s.ring n).desc.peer
      (t.entry j).posted = true ∧ (t.entry j).compIdx = some (s.ring c).ctrlIdx ∧ (t.ring c).ctrlIdx = (s.ring c).ctrlIdx + 1 ∧
      (t.ring n).fetchedOpen = (s.ring n).fetchedOpen - 1 ∧ OnlyParts [.own, .host, .out, .loft] s t ∧
      ∀ e, s.ringCarrier c = some e → Out.dma e ((s.ring c).desc.base.toNat + (s.ring c).ctrlIdx.toNat % (s.ring c).size * (s.ring c).entryBytes)
        (wordsBytes (s.entry j).completion) ∈ t.out) ∧
  (∀ j ok s, (s.entry j).state = 1 → (s.entry j).stepsDue ≠ 0 →
    exec (.keeperStepReport j false ok) s = .next (s.modEntry j fun e => { e with stepStarted := max e.stepStarted 1 })) ∧
  (∀ j s, (s.entry j).state = 1 → (s.entry j).stepsDue ≠ 0 →
    exec (.keeperStepReport j true false) s =
      .next ((s.modEntry j fun e => { e with stepsDue := 0, stepStarted := 1 }).complete j 0x0503 [0xFF])) ∧
  (∀ ring s, (s.ring ring).desc.irqEn = true → (s.ring ring).desc.kind ≠ 0 → 0 < (s.ring ring).unsignalled →
    (s.ring ring).firstUnsig + (s.ring ring).desc.coalUs * 1000 ≤ s.now →
    exec (.coalUsExpiry ring) s = .next ((s.sendVector ring (s.ring ring).desc.vector).modRing ring fun r => { r with unsignalled := 0 })) ∧
  (∀ ring s, exec (.ringDmaError ring false) s = .next (s.stopRing ring 2)) ∧
  (∀ ring s, (s.ring ring).state = .active → (s.ring ring).desc.kind = 0 →
    exec (.ringDmaError ring true) s = .next (if 1 ≤ (s.ring ring).poisonReads then
      (s.modRing ring fun r => { r with poisonReads := 0 }).stopRing ring 3
    else s.modRing ring fun r => { r with poisonReads := r.poisonReads + 1 }))

/-- A doorbell of 4 or 8 bytes below 2^32 on the serving owner's endpoint, for an ACTIVE command ring and a step forward within the ring,
sets HOST_IDX, notes the arrival, writes the status block and signals the ring's event source; a malformed one counts in BAD; one in
Dormant waits, and for ring 0 asks for a wake; one on the standby's endpoint waits to be forwarded, and forwarding applies those kept.
EVENT_POST of a listed code by a bay that runs forms that event. ADM_CTRL's ENABLE, written anew while not BUSY, is journalled.
Descriptor words are stored while ENABLE is 0, MSI-X words are stored, reserved ranges ignored; WIN_STATUS bits clear by 1; the debug
status read clears DBG_BUSY; a function level reset and PERST reset an endpoint, PERST takes its link down. -/
def Obligations.DoorbellsAndEndpoints : Prop :=
  (∀ e ring size value s, s.hostReaches e = true → (s.bay e).bstate ≠ .down → (s.bay e).bstate ≠ .fallow → s.sys.dormant = false →
    (size = 4 ∨ size = 8) → value.toNat < 2 ^ 32 → s.serving = some e → (s.ring ring).state = .active → (s.ring ring).desc.kind = 0 →
    0 < (value.setWidth 32 - (s.ring ring).hostIdx).toNat → (value.setWidth 32 - (s.ring ring).hostIdx).toNat < 2 ^ 31 →
    (value.setWidth 32 - (s.ring ring).ctrlIdx).toNat ≤ (s.ring ring).size →
    exec (.doorbell e ring size value) s = .next (((s.modRing ring fun r => { r with
      hostIdx := value.setWidth 32, arrivals := r.arrivals ++ [(value.setWidth 32, s.now)] }).writeStatus ring).signal (0x8000 + ringNo ring))) ∧
  (∀ e ring size value s, s.hostReaches e = true → (s.bay e).bstate ≠ .down → (size ≠ 4 ∧ size ≠ 8) ∨ 2 ^ 32 ≤ value.toNat →
    exec (.doorbell e ring size value) s = .next (s.modEndpoint e fun x => { x with dbBad := satAdd 16 x.dbBad 1, dbLast := ring })) ∧
  (∀ e ring value s, s.hostReaches e = true → (s.bay e).bstate ≠ .down → (s.bay e).bstate ≠ .fallow → value.toNat < 2 ^ 32 →
    (s.sys.dormant = true → exec (.doorbell e ring 4 value) s =
      .next (let t := s.modEndpoint e fun x => { x with heldDoorbells := x.heldDoorbells ++ [(ring, value.setWidth 32)] }
        if ring = 0 then t.modSys fun y => { y with wakePending := true } else t)) ∧
    (s.sys.dormant = false → s.serving ≠ some e → exec (.doorbell e ring 4 value) s =
      .next (s.modEndpoint e fun x => { x with fwdDoorbells := x.fwdDoorbells ++ [(ring, value.setWidth 32)] }))) ∧
  (∀ b s, s.serving = some b → exec .doorbellForward s =
    .next (if s.own.journal.breezeUp then (s.deliverDoorbells b).deliverDoorbells (peer b) else s.deliverDoorbells b)) ∧
  (∀ bay code payload s, code ∈ eventCodes → payload.length ≤ 32 → s.runs bay = true → code ≠ 0x0102 →
    exec (.eventPost bay code payload) s = .next (s.raiseSev bay code (eventSev code) 0 (payload.map fun b => (1, b.toNat)))) ∧
  (∀ e value s, s.hostReaches e = true → (s.bay e).bstate ≠ .fallow → s.host.admin.busy = false → s.host.admin.enable ≠ value.getLsbD 0 →
    s.serving.isSome = true → s.journalFree = true →
    exec (.admCtrlWrite e value) s = .next ((s.modAdmin fun a => { a with enable := value.getLsbD 0, busy := true }).journalChange
      (if value.getLsbD 0 then .adminEnable else .adminDrain))) ∧
  (∀ e value s, s.hostReaches e = true →
    exec (.winStatusWrite e value) s = .next (s.modGranary e fun g => { g with winStatus := winClear g.winStatus value })) ∧
  (∀ e offset value s, s.hostReaches e = true → (s.bay e).bstate ≠ .fallow → s.host.admin.enable = false → 0x1040 ≤ offset → offset < 0x1080 →
    exec (.registerWrite e offset value) s = .next (s.modAdmin fun a =>
      if offset < 0x1060 then { a with desc0 := descSetWord a.desc0 ((offset - 0x1040) / 8) value }
      else { a with desc1 := descSetWord a.desc1 ((offset - 0x1060) / 8) value })) ∧
  (∀ e offset value s, s.hostReaches e = true → 0x2000 ≤ offset → offset < 0x2400 →
    exec (.registerWrite e offset value) s = .next (s.msixWrite e offset value)) ∧
  (∀ e offset value s, offset < 0x1040 ∨ (0x1080 ≤ offset ∧ offset < 0x2000) ∨ 0x2400 ≤ offset →
    exec (.registerWrite e offset value) s = .next s) ∧
  (∀ bay s, exec (.debugStatusRead bay) s =
    .next ((s.modGranary bay fun g => { g with dbgBusy := false }).emit (.debugData bay (BitVec.ofNat 64 (bit (s.granary bay).dbgBusy))))) ∧
  (∀ e s, exec (.functionLevelReset e) s = .next (s.modEndpoint e fun x => { x with busMaster := false, msix := [], msixPend := 0 })) ∧
  (∀ e s, exec (.perst e) s =
    .next ((s.modEndpoint e fun x => { x with busMaster := false, msix := [], msixPend := 0 }).setLink e false false 0 0)) ∧
  (∀ e up busMaster width speed s, (s.endpoint e).linkUp ≠ up → s.carrier.isSome = true →
    exec (.endpointLinkChange e up busMaster width speed) s =
      .next ((s.modEndpoint e fun x => { x with linkUp := up, busMaster := up && busMaster, width := width, speed := speed }).raise 0x0F01
        [(1, e), (1, bit up), (1, width), (1, speed)]))

/-- A host window access of 4 or 8 aligned bytes inside the Porch, in a page the host owns, is done through port B: a write of a clean word
stores its bytes and changes nothing else, a clean read returns them; another size, alignment or range is denied, counted, and a read
returns all ones. An open debug access point reads a word, writes one, halts, resumes or steps a hand, or shows a register. A due
QUOTE_REQUEST_POLL with a new QREQ and entropy signs the page. A good life-cycle request makes the step and answers 0, another answers
1. DEBUG_AUTHENTICATION draws a challenge while locked with entropy, or notes one as due. ENTROPY_READY makes the source ready,
DRBG_RESEED after 1 s reseeds it, a health failure makes it not ready and counts. -/
def Obligations.WindowAndTrust : Prop :=
  (∀ e offset size value s, s.hostReaches e = true → (s.bay e).releasedAt.isSome = true → (size = 4 ∨ size = 8) → offset % size = 0 →
    offset < 0xFF000 → pageOwner ((s.granary e).pageEntry (0x02000000 + offset)) = 9 →
    exec (.hostWindowAccess e true offset size value .clean false) s =
      .next (s.modGranary e fun g => g.store (0x02000000 + offset) (leBytes size value.toNat)) ∧
    ((s.granary e).poisoned (0x02000000 + offset) = false →
      exec (.hostWindowAccess e false offset size value .clean false) s =
        .next ((s.modEndpoint e fun x => { x with readData := BitVec.ofNat 64 ((s.granary e).load (0x02000000 + offset) size) }).emit
          (.readData e (BitVec.ofNat 64 ((s.granary e).load (0x02000000 + offset) size)))))) ∧
  (∀ e offset size value ecc collide s, s.hostReaches e = true → (size ≠ 4 ∧ size ≠ 8) ∨ offset % size ≠ 0 ∨ 0x100000 ≤ offset →
    exec (.hostWindowAccess e true offset size value ecc collide) s = .next (s.modEndpoint e fun x => x.deny offset) ∧
    exec (.hostWindowAccess e false offset size value ecc collide) s =
      .next (((s.modEndpoint e fun x => x.deny offset).modEndpoint e fun x => { x with readData := allOnes size }).emit (.readData e (allOnes size)))) ∧
  (∀ bay s, (s.bay bay).releasedAt.isSome = true → (s.bay bay).alive = true → s.sys.dormant = false → (s.measure bay).pollTime = none →
    s.boot.entropy.ready = true → s.boot.fuse.erased = false →
    s.qreq bay ≠ (s.measure bay).qreqSeen →
    exec (.quoteRequestPoll bay) s = .next (
      let t := (s.modMeasure bay fun m => { m with pollTime := some s.now }).showMeasures bay
      let u := ((t.drawEntropy 48).2.modMeasure bay fun m => { m with qreqSeen := t.qreq bay, qtime := (t.drawEntropy 48).2.devNow }).showMeasures bay
      (u.modMeasure bay fun m => { m with quote := (Config.ecdsaSign (memRead (u.granary bay).mem controlBase 0x1E0)).toNat }).showMeasures bay)) ∧
  (∀ state serial key sig s, s.stepAllowed state serial key sig = true →
    exec (.lifeCycleRequest state serial key sig) s = .next (
      let t := s.modFuse fun f => { f with
        lifeCycle := state, lastResult := 0, erased := f.erased || state = 4
        keyHashes := if state = 4 then [] else if state = 2 then
          tset (tset f.keyHashes 2 (tget s.loft.upd.ownerKeys 0 0)) 3 (tget s.loft.upd.ownerKeys 1 0) else f.keyHashes }
      ((t.showMeasures 0).showMeasures 1).emit (.debugData 0 0))) ∧
  (∀ state serial key sig s, s.stepAllowed state serial key sig = false →
    exec (.lifeCycleRequest state serial key sig) s = .next ((s.modFuse fun f => { f with lastResult := 1 }).emit (.debugData 0 1))) ∧
  (∀ bay s, (s.measure bay).dbg = 1 →
    (s.boot.entropy.ready = true → Runs (.debugAuthentication bay none) s fun t =>
      (t.measure bay).challenge = some (s.drawEntropy 48).1 ∧ (t.measure bay).challengeDue = false ∧
      t.boot.entropy.draws = s.boot.entropy.draws + 1 ∧ OnlyParts [.boot, .out] s t) ∧
    (s.boot.entropy.ready = false →
      exec (.debugAuthentication bay none) s = .next (s.modMeasure bay fun m => { m with challengeDue := true }))) ∧
  (∀ bay off v hand reg s, (s.measure bay).dbg = 2 → off % 8 = 0 → off < 0x100000 →
    exec (.debugAccess bay (.writeWord off v) .clean false) s = .next (s.modGranary bay fun g => g.store (0x02000000 + off) (leBytes 8 v.toNat)) ∧
    ((s.granary bay).poisoned (0x02000000 + off) = false →
      exec (.debugAccess bay (.readWord off) .clean false) s = .next (s.debugAnswer bay (BitVec.ofNat 64 ((s.granary bay).load (0x02000000 + off) 8)))) ∧
    exec (.debugAccess bay (.halt hand) .clean false) s = .next (s.modMeasure bay fun m => { m with
      haltedHands := ((s.measure bay).haltedHands.filter fun e => e.1 != hand) ++ [(hand, none)] }) ∧
    exec (.debugAccess bay (.resume hand) .clean false) s = .next (s.modMeasure bay fun m => { m with
      haltedHands := (s.measure bay).haltedHands.filter fun e => e.1 != hand }) ∧
    (((s.measure bay).haltedHands.any fun e => e.1 = hand) = true → exec (.debugAccess bay (.step hand) .clean false) s =
      .next (s.modMeasure bay fun m => { m with
        haltedHands := ((s.measure bay).haltedHands.filter fun e => e.1 != hand) ++ [(hand, some (s.hand bay hand).pc)] })) ∧
    exec (.debugAccess bay (.inspect hand reg) .clean false) s =
      .next (s.debugAnswer bay ((if reg = 16 then (s.hand bay hand).pc else (s.hand bay hand).reg reg).setWidth 64))) ∧
  (∀ s, s.boot.entropy.ready = false → s.sys.suppliesValid = true → (s.measure 0).challengeDue = false → (s.measure 1).challengeDue = false →
    exec .entropyReady s = .next (s.modEntropy fun e => { e with ready := true, reseeds := e.reseeds + 1, reseedTime := s.now })) ∧
  (∀ s, s.boot.entropy.ready = true → s.boot.entropy.reseedTime + 1000000000 ≤ s.now →
    exec .drbgReseed s = .next (s.modEntropy fun e => { e with reseeds := e.reseeds + 1, reseedTime := s.now })) ∧
  (∀ s, s.sys.suppliesValid = true →
    exec .entropyHealthFail s =
      .next (((s.modEntropy fun e => { e with ready := false, failCount := satAdd 32 e.failCount 1 }).showMeasures 0).showMeasures 1))

/-- On a hand that issues, ADD, SUB, AND, OR, XOR, SHL, SHR, SRA, SLT, SLTU, MUL, MULH, MULHU, MIN and MAX complete: the next state is the
old one but for that hand, whose rd holds the sum, difference, bitwise result, shift by rs2[4:0], signed or unsigned comparison, low 32
bits of the product, high 32 bits of the signed (MULH) and unsigned (MULHU) product of the operands as integers, lesser or greater, and
whose PC is 4 further. Where rd is g0 only the PC moves. -/
def Obligations.BarnRegisterArithmetic : Prop :=
  ∀ (bay hand rd rs1 rs2 : Nat) (s : State), s.issues bay hand = true → let h := s.hand bay hand
    let put := fun v : Word32 => s.modHand bay hand fun h => { h.setReg rd v with pc := h.pc + 4 }
    exec (.add bay hand rd rs1 rs2) s = .next (put (h.reg rs1 + h.reg rs2)) ∧
    exec (.sub bay hand rd rs1 rs2) s = .next (put (h.reg rs1 - h.reg rs2)) ∧
    exec (.and bay hand rd rs1 rs2) s = .next (put (h.reg rs1 &&& h.reg rs2)) ∧
    exec (.or bay hand rd rs1 rs2) s = .next (put (h.reg rs1 ||| h.reg rs2)) ∧
    exec (.xor bay hand rd rs1 rs2) s = .next (put (h.reg rs1 ^^^ h.reg rs2)) ∧
    exec (.shl bay hand rd rs1 rs2) s = .next (put (h.reg rs1 <<< ((h.reg rs2).toNat % 32) : Word32)) ∧
    exec (.shr bay hand rd rs1 rs2) s = .next (put (h.reg rs1 >>> ((h.reg rs2).toNat % 32) : Word32)) ∧
    exec (.sra bay hand rd rs1 rs2) s = .next (put ((h.reg rs1).sshiftRight ((h.reg rs2).toNat % 32))) ∧
    exec (.slt bay hand rd rs1 rs2) s = .next (put (if (h.reg rs1).slt (h.reg rs2) then 1 else 0)) ∧
    exec (.sltu bay hand rd rs1 rs2) s = .next (put (if (h.reg rs1).ult (h.reg rs2) then 1 else 0)) ∧
    exec (.mul bay hand rd rs1 rs2) s = .next (put (h.reg rs1 * h.reg rs2)) ∧
    exec (.mulh bay hand rd rs1 rs2) s = .next (put (BitVec.ofInt 32 ((h.reg rs1).toInt * (h.reg rs2).toInt / 2 ^ 32))) ∧
    exec (.mulhu bay hand rd rs1 rs2) s = .next (put (BitVec.ofNat 32 ((h.reg rs1).toNat * (h.reg rs2).toNat / 2 ^ 32))) ∧
    exec (.min bay hand rd rs1 rs2) s = .next (put (if (h.reg rs1).slt (h.reg rs2) then h.reg rs1 else h.reg rs2)) ∧
    exec (.max bay hand rd rs1 rs2) s = .next (put (if (h.reg rs1).slt (h.reg rs2) then h.reg rs2 else h.reg rs1))

/-- On a hand that issues, ADDI, ANDI, ORI, XORI, SHLI, SHRI, SRAI, SLTI and LUI write rd and move the PC 4 further; BEQ, BNE, BLT, BGE,
BLTU and BGEU add the offset times 4 to the PC where the comparison holds, else 4, and change nothing else; JAL writes PC + 4 to rd and
adds imm times 4 to the PC; JALR writes PC + 4 to rd and jumps to rs1 + imm, as they were before rd is written, with bits 1 and 0
cleared. Nothing outside that hand changes. -/
def Obligations.BarnImmediateArithmetic : Prop :=
  ∀ (bay hand rd rs1 rs2 : Nat) (s : State), s.issues bay hand = true → let h := s.hand bay hand
    let put := fun v : Word32 => s.modHand bay hand fun h => { h.setReg rd v with pc := h.pc + 4 }
    let jump := fun (c : Bool) (off : BitVec 18) => s.modHand bay hand fun h => { h with pc := if c then h.pc + off.signExtend 32 * 4 else h.pc + 4 }
    (∀ imm : BitVec 18,
      exec (.addi bay hand rd rs1 imm) s = .next (put (h.reg rs1 + imm.signExtend 32)) ∧
      exec (.andi bay hand rd rs1 imm) s = .next (put (h.reg rs1 &&& imm.setWidth 32)) ∧
      exec (.ori bay hand rd rs1 imm) s = .next (put (h.reg rs1 ||| imm.setWidth 32)) ∧
      exec (.xori bay hand rd rs1 imm) s = .next (put (h.reg rs1 ^^^ imm.setWidth 32)) ∧
      exec (.shli bay hand rd rs1 imm) s = .next (put (h.reg rs1 <<< (imm.toNat % 32) : Word32)) ∧
      exec (.shri bay hand rd rs1 imm) s = .next (put (h.reg rs1 >>> (imm.toNat % 32) : Word32)) ∧
      exec (.srai bay hand rd rs1 imm) s = .next (put ((h.reg rs1).sshiftRight (imm.toNat % 32))) ∧
      exec (.slti bay hand rd rs1 imm) s = .next (put (if (h.reg rs1).slt (imm.signExtend 32) then 1 else 0)) ∧
      exec (.beq bay hand rs1 rs2 imm) s = .next (jump (h.reg rs1 == h.reg rs2) imm) ∧
      exec (.bne bay hand rs1 rs2 imm) s = .next (jump (h.reg rs1 != h.reg rs2) imm) ∧
      exec (.blt bay hand rs1 rs2 imm) s = .next (jump ((h.reg rs1).slt (h.reg rs2)) imm) ∧
      exec (.bge bay hand rs1 rs2 imm) s = .next (jump (!(h.reg rs1).slt (h.reg rs2)) imm) ∧
      exec (.bltu bay hand rs1 rs2 imm) s = .next (jump ((h.reg rs1).ult (h.reg rs2)) imm) ∧
      exec (.bgeu bay hand rs1 rs2 imm) s = .next (jump (!(h.reg rs1).ult (h.reg rs2)) imm) ∧
      exec (.jalr bay hand rd rs1 imm) s = .next (s.modHand bay hand fun h => { h.setReg rd (h.pc + 4) with
        pc := (h.reg rs1 + imm.signExtend 32) &&& 0xFFFFFFFC#32 })) ∧
    (∀ imm : BitVec 22, exec (.lui bay hand rd imm) s = .next (put (imm.setWidth 32 <<< 10)) ∧
      exec (.jal bay hand rd imm) s = .next (s.modHand bay hand fun h => { h.setReg rd (h.pc + 4) with pc := h.pc + imm.signExtend 32 * 4 }))

/-- On a hand that issues, with a clean word, an address that is aligned, in memory and in the hand's regions, and no poison: LW, LHU and LD
put the bytes at rs1 + imm into rd (rd, rd + 1), zero-extended; SW, SH and SD store rs2 (rs2, rs2 + 1), low bytes first, and leave every
byte outside the stored ones; AADD, AADD64 and ASWP put the old word into rd and store the sum or rs2. The PC moves 4 and the hand waits
for the access, and nothing else changes; ACCESS_DONE makes it READY. A load, store or atomic whose address is not allowed restarts the
hand with cause 2, and a poisoned word (for a store: of less than 8 bytes) with cause 3. -/
def Obligations.BarnLoadsAndStores : Prop :=
  (∀ (bay hand rd rs1 n : Nat) (imm : BitVec 18) (s : State) (i : Ecc → Instr), s.issues bay hand = true →
    (n = 4 ∧ i = .lw bay hand rd rs1 imm) ∨ (n = 2 ∧ i = .lhu bay hand rd rs1 imm) ∨ (n = 8 ∧ i = .ld bay hand rd rs1 imm) →
    let a := s.addressOf bay hand rs1 imm
    ((s.hand bay hand).accessOk hand a n = true → (s.granary bay).poisoned a = false →
      exec (i .clean) s = .next (s.modHand bay hand fun h => { (if n = 8 then h.setPair rd ((s.granary bay).load a 8)
        else h.setReg rd (BitVec.ofNat 32 ((s.granary bay).load a n))) with pc := h.pc + 4, state := .wait, wait := some .access })) ∧
    ((s.hand bay hand).accessOk hand a n = false → ∀ ecc, exec (i ecc) s = .next (s.handFault bay hand 2)) ∧
    ((s.hand bay hand).accessOk hand a n = true → (s.granary bay).poisoned a = true → wordOf a ∉ (s.granary bay).waitRestore →
      exec (i .clean) s = .next (s.handFault bay hand 3))) ∧
  (∀ (bay hand rs2 rs1 n : Nat) (imm : BitVec 18) (s : State) (i : Ecc → Instr), s.issues bay hand = true →
    (n = 4 ∧ i = .sw bay hand rs2 rs1 imm) ∨ (n = 2 ∧ i = .sh bay hand rs2 rs1 imm) ∨ (n = 8 ∧ i = .sd bay hand rs2 rs1 imm) →
    let a := s.addressOf bay hand rs1 imm
    let h := s.hand bay hand
    (h.storeOk hand a n = true → (n = 8 ∨ (s.granary bay).poisoned a = false) → ∃ t, exec (i .clean) s = .next t ∧
      (t = (s.modGranary bay fun g => g.store a (leBytes n (if n = 8 then h.pair rs2 else (h.reg rs2).toNat))).modHand bay hand fun h =>
        { h with pc := h.pc + 4, state := .wait, wait := some .access }) ∧
      ∀ c, c < a ∨ a + n ≤ c → memGet (t.granary bay).mem c = memGet (s.granary bay).mem c) ∧
    (h.storeOk hand a n = false → ∀ ecc, exec (i ecc) s = .next (s.handFault bay hand 2)) ∧
    (h.storeOk hand a n = true → n ≠ 8 → (s.granary bay).poisoned a = true → wordOf a ∉ (s.granary bay).waitRestore →
      exec (i .clean) s = .next (s.handFault bay hand 3))) ∧
  (∀ (bay hand rd rs1 rs2 n : Nat) (imm : BitVec 14) (s : State) (i : Ecc → Instr) (f : Nat → Nat → Nat), s.issues bay hand = true →
    (n = 4 ∧ i = .aadd bay hand rd rs1 rs2 imm ∧ f = fun old v => old + v) ∨ (n = 8 ∧ i = .aadd64 bay hand rd rs1 rs2 imm ∧ f = fun old v => old + v) ∨
      (n = 4 ∧ i = .aswp bay hand rd rs1 rs2 imm ∧ f = fun _ v => v) →
    let a := s.addressOf bay hand rs1 imm
    let h := s.hand bay hand
    let old := (s.granary bay).load a n
    (h.atomicOk hand a n = true → (s.granary bay).poisoned a = false → ∃ t, exec (i .clean) s = .next t ∧
      (t = (s.modGranary bay fun g => g.store a (leBytes n (f old (if n = 8 then h.pair rs2 else (h.reg rs2).toNat)))).modHand bay hand fun h =>
        { (if n = 8 then h.setPair rd old else h.setReg rd (BitVec.ofNat 32 old)) with pc := h.pc + 4, state := .wait, wait := some .access }) ∧
      ∀ c, c < a ∨ a + n ≤ c → memGet (t.granary bay).mem c = memGet (s.granary bay).mem c) ∧
    (h.atomicOk hand a n = false → ∀ ecc, exec (i ecc) s = .next (s.handFault bay hand 2))) ∧
  (∀ (bay hand : Nat) (s : State), (s.hand bay hand).state = .wait → (s.hand bay hand).wait = some .access →
    exec (.accessDone bay hand) s = .next (s.modHand bay hand fun h => { h with state := .ready, wait := none }))

/-- On a hand that issues: WAIT with a masked slot pending clears the pending slots of the mask and puts them into rd; with none it waits
for one. EVB binds the slot and clears its pending bit. SIG sets pending on the slot of the hand named by rs1[11:0]. TSET arms slot 7
one-shot or periodic from now, or cancels it, and a value out of range restarts with cause 1 (the model's choice, log entry 21). TIME
reads device time. YIELD makes the hand not ready. CKPT writes the record that does not hold the newest and counts CSEQ on; with imm[0]
set it waits for a standby's acknowledgement. HALT cancels the timer and halts. SELF reads its item. A word that is no instruction
restarts the hand with cause 1, or faults it at its limit. -/
def Obligations.BarnControl : Prop :=
  ∀ (bay hand rd rs1 : Nat) (imm : BitVec 18) (s : State), s.issues bay hand = true →
    let h := s.hand bay hand
    (h.pendingMask (imm.setWidth 8) ≠ 0 → exec (.wait bay hand rd rs1 imm) s = .next (s.modHand bay hand fun h =>
      let p := h.pendingMask (imm.setWidth 8)
      { (Hand.clearMask { h with pc := h.pc + 4, state := .wait, wait := some (.events (imm.setWidth 8) rd) } p).setReg rd (p.setWidth 32) with
        state := .ready, wait := none })) ∧
    (h.pendingMask (imm.setWidth 8) = 0 → exec (.wait bay hand rd rs1 imm) s = .next (s.modHand bay hand fun h =>
      { h with pc := h.pc + 4, state := .wait, wait := some (.events (imm.setWidth 8) rd) })) ∧
    exec (.evb bay hand rd rs1 imm) s = .next (s.modHand bay hand fun h =>
      { h with slots := tset h.slots (imm.toNat % 8) { tget h.slots (imm.toNat % 8) {} with source := (h.reg rs1).toNat % 65536, pending := false }
               pc := h.pc + 4 }) ∧
    exec (.sig bay hand rd rs1 imm) s = .next ((s.modHand bay hand fun h => { h with pc := h.pc + 4 }).modHand bay ((h.reg rs1).toNat % 4096)
      fun h => h.post (imm.toNat % 8)) ∧
    (imm.toNat % 4 = 2 → exec (.tset bay hand rd rs1 imm) s = .next (s.modHand bay hand fun h => { h with timerMode := 2, pc := h.pc + 4 })) ∧
    ((imm.toNat % 4 = 0 ∧ 0 < (h.reg rs1).toNat) ∨ (imm.toNat % 4 = 1 ∧ 1000 ≤ (h.reg rs1).toNat) →
      exec (.tset bay hand rd rs1 imm) s = .next (s.modHand bay hand fun h => { h with
        timerMode := imm.toNat % 4, timerVal := (h.reg rs1).toNat, timerDeadline := s.devNow + (h.reg rs1).toNat, pc := h.pc + 4 })) ∧
    (imm.toNat % 4 = 3 ∨ (imm.toNat % 4 = 0 ∧ (h.reg rs1).toNat = 0) ∨ (imm.toNat % 4 = 1 ∧ (h.reg rs1).toNat < 1000) →
      exec (.tset bay hand rd rs1 imm) s = .next (s.handFault bay hand 1)) ∧
    exec (.time bay hand rd rs1 imm) s = .next (s.modHand bay hand fun h => { h.setPair rd s.devNow with pc := h.pc + 4 }) ∧
    exec (.yieldHand bay hand rd rs1 imm) s = .next (s.modHand bay hand fun h =>
      { h with pc := h.pc + 4, state := .wait, wait := some (.yielded (s.now + (8 * (imm.toNat % 1024) * 5 + 5) / 6)) }) ∧
    exec (.halt bay hand rd rs1 imm) s = .next (s.modHand bay hand fun h => { h with timerMode := 2, state := .halted, pc := h.pc + 4 }) ∧
    exec (.self bay hand rd rs1 imm) s = .next (s.modHand bay hand fun h => { h.setReg rd (s.selfItem bay hand (imm.toNat % 16)) with pc := h.pc + 4 }) ∧
    (let g := s.granary bay
      let n := g.nextRecord h
      let cseq := g.nextCseq h
      let h' := { h with pc := h.pc + 4, cseq := cseq, lastCkpt := s.devNow }
      let t := s.modGranary bay fun g => g.fill (h.ckptPtr + 128 * n) (ckptBytes cseq h' s.devNow)
      (imm.toNat % 2 = 0 ∨ s.takesMirror bay = false → exec (.ckpt bay hand rd rs1 imm) s = .next (t.modHand bay hand fun _ => h')) ∧
      (imm.toNat % 2 = 1 → s.takesMirror bay = true → s.isOwner bay = true → exec (.ckpt bay hand rd rs1 imm) s =
        .next ((t.modHand bay hand fun _ => { h' with state := .wait, wait := some (.mirror s.now) }).emit
          (.mirror bay s.own.latch.epoch (h.ckptPtr + 128 * n) (ckptBytes cseq h' s.devNow))))) ∧
    (∀ w, decodeBarn bay hand w = none → exec (.illegalInstruction bay hand w) s = .next (s.handFault bay hand 1)) ∧
    (∀ cause, (h.recentRestarts s.devNow).length < h.restartMax → s.handFault bay hand cause =
      s.modHand bay hand fun h => { h.restart (s.granary bay) cause s.devNow with restarts := h.recentRestarts s.devNow ++ [s.devNow] }) ∧
    (∀ cause, h.restartMax ≤ (h.recentRestarts s.devNow).length → (s.handFault bay hand cause).hand bay hand =
      { h with state := .faulted, wait := none, timerMode := 2, cause := cause, restarts := h.recentRestarts s.devNow })

/-- ICACHE_LINE_FILL makes the line valid in the hand's core and readies a hand that waits for it; YIELD_EXPIRY after its time and
MIRROR_ACK ready their hands; MIRROR_ACK_TIMEOUT after 2 us readies it, counts a missed mirror and takes the standby out of step.
HAND_TIMER_EXPIRY disarms a one-shot timer, moves a periodic one on its grid, and posts slot 7. CKPT_WD_EXPIRY restarts with cause 5.
MAILBOX_MESSAGE puts the message into the first free slot and signals source 0x0004. LSEND sends the 64 bytes at rs1 and writes its
status into rd[31:24], or waits for a reply; LSEND_REPLY overwrites the message and ends it with 0x00, LSEND_REPLY_TIMEOUT after 1 ms
with 0x03. A message outside the hand's regions restarts it with cause 2. -/
def Obligations.BarnEventsAndMail : Prop :=
  (∀ (bay hand line : Nat) (s : State),
    let t := s.modBarn fun b => { b with icache := tset b.icache (bay * 32 + hand / 128) (icacheFill (tget b.icache (bay * 32 + hand / 128) []) line) }
    line ∈ tget t.barn.icache (bay * 32 + hand / 128) [] ∧
    ((s.hand bay hand).state = .wait → (s.hand bay hand).wait = some (.icache line) →
      exec (.icacheLineFill bay hand line) s = .next (t.modHand bay hand fun h => { h with state := .ready, wait := none })) ∧
    ((s.hand bay hand).state ≠ .wait → exec (.icacheLineFill bay hand line) s = .next t)) ∧
  (∀ (bay hand : Nat) (s : State), (s.hand bay hand).state = .wait →
    (∀ t, (s.hand bay hand).wait = some (.yielded t) → t ≤ s.now →
      exec (.yieldExpiry bay hand) s = .next (s.modHand bay hand fun h => { h with state := .ready, wait := none })) ∧
    (∀ t, (s.hand bay hand).wait = some (.mirror t) →
      exec (.mirrorAck bay hand) s = .next (s.modHand bay hand fun h => { h with state := .ready, wait := none }) ∧
      (t + 2000 ≤ s.now → exec (.mirrorAckTimeout bay hand) s = .next ((s.modHand bay hand fun h =>
        { h with state := .ready, wait := none, missedMirror := satAdd 16 h.missedMirror 1 }).outOfStep (peer bay)))) ∧
    (∀ rd buf t, (s.hand bay hand).wait = some (.reply rd buf t) → s.sys.dormant = false →
      (∀ msg, msg ≠ [] → exec (.lsendReply bay hand msg) s = .next ((s.modGranary bay fun g => g.fill buf msg).modHand bay hand fun h =>
        { h.setReg rd 0 with state := .ready, wait := none })) ∧
      (t + 1000000 ≤ s.now → exec (.lsendReplyTimeout bay hand) s = .next (s.modHand bay hand fun h =>
        { h.setReg rd 0x03000000 with state := .ready, wait := none })))) ∧
  (∀ (bay hand : Nat) (s : State), (s.hand bay hand).state = .ready ∨ (s.hand bay hand).state = .wait →
    (s.sys.dormant = false → (s.hand bay hand).timerDeadline ≤ s.devNow →
      ((s.hand bay hand).timerMode = 0 → exec (.handTimerExpiry bay hand) s =
        .next (s.modHand bay hand fun h => Hand.post { h with timerMode := 2 } 7)) ∧
      ((s.hand bay hand).timerMode = 1 → exec (.handTimerExpiry bay hand) s =
        .next (s.modHand bay hand fun h => Hand.post { h with timerDeadline := nextOnGrid h.timerDeadline h.timerVal s.devNow } 7))) ∧
    (0 < (s.hand bay hand).ckptWd → (s.hand bay hand).lastCkpt + (s.hand bay hand).ckptWd * 1000 ≤ s.devNow →
      exec (.ckptWdExpiry bay hand) s = .next (s.handFault bay hand 5))) ∧
  (∀ (bay hand i : Nat) (msg : List Byte) (s : State), (s.bay bay).bstate ≠ .down → s.sys.dormant = false → (s.hand bay hand).hasMailbox = true →
    s.freeMailSlot bay hand = some i → exec (.mailboxMessage bay hand msg) s =
      .next ((s.modGranary bay fun g => g.fill ((s.hand bay hand).mailSlot i) msg).modHand bay hand fun h => h.deliver 4)) ∧
  (∀ (bay hand rd rs1 rs2 : Nat) (fn : BitVec 6) (s : State), s.issues bay hand = true →
    let h := s.hand bay hand
    let words := (List.range 8).map fun i => (h.reg rs1).toNat + 8 * i
    let ok := words.all fun w => if fn.getLsbD 0 then h.storeOk hand w 8 else h.accessOk hand w 8
    (ok = false → exec (.lsend bay hand rd rs1 rs2 fn) s = .next (s.handFault bay hand 2)) ∧
    (ok = true → (∀ w ∈ words, (s.granary bay).poisoned w = false) →
      let r := s.send bay hand (memRead (s.granary bay).mem (h.reg rs1).toNat 64) (h.reg rs2).toNat (fn.getLsbD 0)
      ((r.2 = 0 ∧ fn.getLsbD 0 = true) → exec (.lsend bay hand rd rs1 rs2 fn) s = .next (r.1.modHand bay hand fun h =>
        { h with pc := h.pc + 4, state := .wait, wait := some (.reply rd ((s.hand bay hand).reg rs1).toNat s.now) })) ∧
      (¬ (r.2 = 0 ∧ fn.getLsbD 0 = true) → exec (.lsend bay hand rd rs1 rs2 fn) s = .next (r.1.modHand bay hand fun h =>
        { h.setReg rd (BitVec.ofNat 32 (r.2 * 2 ^ 24)) with pc := h.pc + 4 }))))

/-- A heartbeat of a bay that beats restarts HB_AGE, clears FORCED, arms the watchdog, ends the peer's claim guard and reads the latch.
WD_TIMEOUT sets FORCED, disarms, raises the bay-forced event and starts the peer's guard. OWNER_HB_AGE_5MS starts the guard; its expiry
claims with the next epoch. A claim that the latch admits makes the bay owner in a new epoch; another counts in REFUSED. A serving owner
sets or clears YIELD. A die failure stops the die (a standby goes out of step), or the photonic die. A lockstep miscompare or the loss
of the crystal enters keeper-hold. Junction temperatures are read. A due bay record goes to telemetry class 7 for each bay. A
BAY_RESTART not JOINING within 1 s completes TIMEOUT. -/
def Obligations.HeartbeatsAndClaims : Prop :=
  (∀ (bay : Nat) (s : State), s.beats bay = true → s.sys.wakeTime = none →
    exec (.heartbeat bay) s = .next (((((s.modBay bay fun b =>
        { b with hbTime := some s.now, hbFrozen := none, wdArmed := true, wakeWd := false, alive := true }).modLatch fun l => l.setForced bay false).modBay
      (peer bay) fun b => { b with guardStart := none }).readLatch bay).followDrives)) ∧
  (∀ (bay t : Nat) (s : State), (s.bay bay).hbTime = some t → (s.bay bay).wdArmed = true → (s.bay bay).hbFrozen = none →
    t + s.own.param.wdTimeout * 1000 ≤ s.now → (s.bay bay).wakeWd = false →
    exec (.wdTimeoutExpiry bay) s = .next ((((((s.modBay bay fun b => { b with wdArmed := false }).modLatch fun l => l.setForced bay true).raiseLater
      0x0D03 [(1, bay)]).startGuard bay).followDrives))) ∧
  (∀ (b : Nat) (s : State), s.owner = some b → s.sys.dormant = false → s.silent b = true →
    (s.bay (peer b)).bstate = .standby ∨ (s.bay (peer b)).bstate = .joining → (s.bay (peer b)).guardStart = none →
    exec .ownerHbAge5ms s = .next (s.modBay (peer b) fun x => { x with guardStart := some s.now })) ∧
  (∀ (bay t : Nat) (s : State), (s.bay bay).guardStart = some t → t + s.own.param.claimGuard * 1000 ≤ s.now → s.owner = some (peer bay) →
    s.silent (peer bay) = true → s.canClaim bay = true → (s.bay bay).bstate = .standby ∨ (s.bay bay).bstate = .joining →
    exec (.claimGuardExpiry bay) s = .next ((s.modBay bay fun b => { b with guardStart := none }).claim bay (s.own.latch.epoch + 1))) ∧
  (∀ (bay : Nat) (epoch : Word32) (s : State), s.canClaim bay = true →
    (s.claimAdmitted bay epoch = true → exec (.ownershipClaim bay epoch) s = .next (s.acceptClaim bay epoch).followDrives) ∧
    (s.claimAdmitted bay epoch = false → exec (.ownershipClaim bay epoch) s =
      .next ((s.modLatch fun l => { l with refused := satAdd 8 l.refused 1 }).readLatch bay))) ∧
  (∀ (bay : Nat) (on : Bool) (s : State), s.serving = some bay → s.own.latch.hold = false →
    exec (.ownershipYield bay on) s = .next (s.modLatch fun l => l.setYield bay on)) ∧
  (∀ (bay t : Nat) (s : State), (s.bay bay).restartAt = some t → t + 1000000000 ≤ s.now →
    exec (.bayRestartTimeout bay) s =
      .next ((s.modBay bay fun b => { b with restartAt := none, restartJseq := 0 }).completeIf (s.bay bay).restartJseq 0x0502 [])) ∧
  (∀ (die : Nat) (s : State), (die < 2 → (s.bay die).runsSlot = none →
      exec (.dieFailure die) s = .next (let t := s.modBay die fun b => { b with alive := false }
        if (s.bay die).bstate = .standby ∨ (s.bay die).bstate = .joining then t.outOfStep die else t)) ∧
    (2 ≤ die → exec (.dieFailure die) s = .next s.fabricStops)) ∧
  (∀ (pair : Nat) (s : State), s.own.latch.hold = false → Runs (.keeperHold pair) s fun t =>
    t.own = { s.own with latch := { s.own.latch with hold := true } } ∧ OnlyParts [.own, .boot, .cool, .host, .out, .alm] s t) ∧
  (∀ (s : State), Runs .crystalLoss s fun t => t.sys.internalOsc = true ∧ t.fab.fab.alive = false ∧ (t.bay 0).alive = false ∧ (t.bay 1).alive = false ∧
    t.own.latch.hold = true) ∧
  (∀ (a b k p l : Int) (s : State), exec (.junctionSensorRead a b k p l) s =
    .next (((s.modBay 0 fun x => { x with tj := a }).modBay 1 fun x => { x with tj := b }).modSys fun q => { q with tjKeeper := k, tjPhotonic := p, tjLoft := l })) ∧
  (∀ s : State, s.serving.isSome = true → s.own.recordTime + s.own.param.recordPeriod * 1000 ≤ s.now →
    exec .bayRecord s = .next (let t := s.modOwn fun o => { o with recordTime := s.now }
      (t.telemetry 7 (t.bayRecord 0)).telemetry 7 (t.bayRecord 1)))

/-- A mirror write of the current epoch, inside memory, stores its bytes at the peer; one of an older epoch is refused and that writer reads
the latch. A shadow comparison that agrees clears the count of its slot, another counts, and at the limit raises the event and takes the
standby out of step. JOURNAL_WRITE writes the change under the next JSEQ. JOURNAL_ACK counts the entry as held by the peer and
acknowledges it; with none in 10 us the peer is out of step and the owner runs alone. A completed entry that is owed nothing leaves
after RETAIN_MIN. At window H the owner sets YIELD; with no claim within HANDOVER_WAIT the handover fails. A finished join copy leaves
single-copy mode and journals the join. The breezeway's link follows its event; its loss leaves the owner alone. -/
def Obligations.JournalAndMirror : Prop :=
  (∀ (bay addr : Nat) (epoch : Word32) (data : List Byte) (s : State), s.own.journal.breezeUp = true → (s.bay bay).alive = true → (s.bay bay).bstate ≠ .down →
    (s.own.latch.epoch.toNat ≤ epoch.toNat → mapped addr data.length = true → data ≠ [] →
      exec (.mirrorWrite bay epoch addr data) s = .next (s.modGranary bay fun g => g.fill addr data)) ∧
    (epoch.toNat < s.own.latch.epoch.toNat →
      exec (.mirrorWrite bay epoch addr data) s = .next ((s.emit (.mirrorRefused (peer bay))).readLatch (peer bay)))) ∧
  (∀ (slot o b : Nat) (crc : Word32) (s : State), s.serving = some o → s.standby = some b → s.own.journal.breezeUp = true →
    (s.govSlot b slot).frameOk = true → (s.govSlot o slot).frameOk = true → (s.govSlot b slot).k = (s.govSlot o slot).k →
    0 < s.own.param.shadowMismatch →
    let n := tget (s.bay b).shadowMiss slot 0 + 1
    let t := fun n => s.modBay b fun x => { x with shadowMiss := tset x.shadowMiss slot n }
    ((s.govSlot b slot).frameCrc = crc → exec (.shadowCompare slot crc) s = .next (t 0)) ∧
    ((s.govSlot b slot).frameCrc ≠ crc → n < s.own.param.shadowMismatch → exec (.shadowCompare slot crc) s = .next (t n)) ∧
    ((s.govSlot b slot).frameCrc ≠ crc → s.own.param.shadowMismatch ≤ n → exec (.shadowCompare slot crc) s =
      .next (((t n).raiseSev b 0x0D02 (eventSev 0x0D02) 0 [(1, slot), (4, (t n).dwn)]).outOfStep b))) ∧
  (∀ (c : Change) (s : State), s.serving.isSome = true → s.own.journal.handover = .none → s.journalFree = true →
    Runs (.journalWrite c) s fun t => (t.entry s.own.journal.nextJseq).body = .change c ∧ (t.entry s.own.journal.nextJseq).state = 1 ∧
      (t.entry s.own.journal.nextJseq).applyDwn = s.applyWindow ∧ t.own.journal.nextJseq = s.own.journal.nextJseq + 1 ∧ OnlyParts [.own] s t) ∧
  (∀ (j b : Nat) (s : State), s.serving = some b → (s.entry j).state = 1 → (s.entry j).acked = false → s.own.journal.single = false →
    s.own.journal.breezeUp = true → (s.bay (peer b)).bstate = .standby ∨ (s.bay (peer b)).bstate = .joining →
    exec (.journalAck j) s = .next (((s.modBay (peer b) fun x => { x with held := max x.held j }).acknowledge j).handoverAdvance)) ∧
  (∀ (j b : Nat) (s : State), s.serving = some b → (s.entry j).state = 1 → (s.entry j).acked = false → (s.entry j).written + 10000 ≤ s.now →
    exec (.journalAckTimeout j) s = .next (((s.outOfStep (peer b)).goSingle).handoverAdvance)) ∧
  (∀ (j d : Nat) (s : State), (s.entry j).doneTime = some d → (s.entry j).state = 2 → (s.entry j).owed = 0 →
    (s.entry j).kind ≠ 0 ∨ ((s.entry j).posted = true ∧ (s.entry j).compIdx = none) → d + s.own.param.retainMin * 1000 ≤ s.now →
    exec (.retainExpiry j) s = .next (s.modJournal fun q => { q with entries := tdel q.entries j })) ∧
  (∀ (b : Nat) (s : State), s.serving = some b → s.own.journal.handover = .journalled → s.own.journal.handoverAt ≤ s.dwn → s.own.latch.hold = false →
    exec .handoverWindow s = .next ((s.modLatch fun l => l.setYield b true).modJournal fun j => { j with handover := .yielded, handoverStart := s.now })) ∧
  (∀ s : State, s.own.journal.handover = .yielded → s.own.journal.handoverStart + s.own.param.handoverWait * 1000 ≤ s.now → s.own.latch.hold = false →
    exec .handoverWaitExpiry s = .next s.handoverFail) ∧
  (∀ (bay : Nat) (s : State), s.serving = some (peer bay) → (s.bay bay).bstate = .joining → (s.bay bay).alive = true → s.own.journal.breezeUp = true →
    s.own.journal.single = true → s.own.journal.handover = .none → s.journalFree = true →
    Runs (.joinCopyDone bay) s fun t => t.own.journal.single = false ∧ (t.entry s.own.journal.nextJseq).body = .change (.join bay) ∧
      OnlyParts [.own, .gran, .barn, .gov, .easel, .link] s t) ∧
  (∀ (up : Bool) (s : State), exec (.breezewayLinkChange up) s = .next (
    let t := s.modJournal fun j => { j with breezeUp := up }
    if up then t else match t.serving with
      | some b => ((t.outOfStep (peer b)).goSingle).handoverAdvance
      | none => match t.standby with | some b => t.toJoining b | none => t))

/-- A due DIODE_CONVERSION, with the Scarecrow live, takes the eight readings, judges each diode against its trip and lets the drives
follow. A due SENSOR_CHECK checks each point of the bay that has neighbours. A due ZONE_DEMAND forms the sixteen zones and writes the
twenty drives. A due THERMAL_STEP journals each changed factor and raises the throttle event. A thermal hold is released once every zone
that lists the slot has been within target for 10 s or blank for 60 s. A due READ_IOUT stores the current, or counts a miss. A due
COOLING_RECORD posts a record for each used zone. -/
def Obligations.SensorsAndZones : Prop :=
  (∀ (readings : List (Option Int)) (s : State), s.cool.scarecrow = true → (∀ t, s.cool.diodeTime = some t → t + 10000000 ≤ s.now) →
    exec (.diodeConversion readings) s = .next (forUpTo 8 State.diodeTrip (forUpTo 8 (fun s n =>
      if (s.diode n).temp = readings.getD n none then s
      else (s.modDiode n fun d => { d with temp := readings.getD n none }).signalChannel (0x22 + n))
        (s.modCool fun c => { c with diodeTime := some s.now }))).followDrives) ∧
  (∀ (bay : Nat) (s : State), s.runs bay = true → s.sys.dormant = false → tget s.cool.checkTick bay 0 ≠ s.tick →
    exec (.sensorCheck bay) s = .next (s.cool.points.foldl (fun s p => if p.2.neighbours.isEmpty then s else s.checkPoint bay p.1)
      (s.modCool fun c => { c with checkTick := tset c.checkTick bay s.tick }))) ∧
  (∀ (bay : Nat) (s : State), s.serving = some bay → s.cool.demandTick ≠ s.tick →
    exec .zoneDemand s = .next (forUpTo 20 State.writeDrive (forUpTo 16 (fun s z => s.formZone bay z) (s.modCool fun c => { c with demandTick := s.tick })))) ∧
  (∀ (s : State), s.serving.isSome = true → s.dwn % 5000 = 0 → s.cool.stepWindow ≠ s.dwn + 1 →
    exec .thermalStep s = .next (forUpTo 8 (fun s i =>
      if s.nextFactor i = (s.thermal i).h ∨ s.journalFree = false then s
      else (s.journalChange (.thermal i (s.nextFactor i))).raise 0x0306
        [(1, s.stepZone i), (1, 2 ^ i), (4, twos 32 ((s.nextFactor i : Int) - (s.thermal i).h))]) (s.modCool fun c => { c with stepWindow := s.dwn + 1 }))) ∧
  (∀ (slot : Nat) (s : State), s.serving.isSome = true → (s.thermal slot).hold ≠ 0 →
    (∀ z, z < 16 → (s.zone z).slots.testBit slot = true → (∃ t, (s.zone z).okSince = some t ∧ t + 10000000000 ≤ s.now) ∨
      (∃ t, (s.zone z).blankSince = some t ∧ t + 60000000000 ≤ s.now)) →
    exec (.thermalHoldRelease slot) s = .next (s.modThermal slot fun t => { t with hold := 0 })) ∧
  (∀ (channel : Nat) (w : BitVec 16) (b : Bool) (a : Rat) (s : State), s.serving.isSome = true → channel < 20 → (s.drive channel).monitor.isSome = true →
    (∀ t, (s.drive channel).readTime = some t → t + 100000000 ≤ s.now) → (s.drive channel).dstate ≠ .tachLost → pmbusValue w b = some a →
    exec (.readIout channel (some w) b) s = .next (s.modDrive channel fun d =>
      { d with readTime := some s.now, misses := 0, current := some (min 65534 (a * 1000).floor.toNat) }) ∧
    exec (.readIout channel none b) s = .next (s.modDrive channel fun d => { d with readTime := some s.now, misses := min 15 (d.misses + 1) })) ∧
  (∀ s : State, s.serving.isSome = true → (∀ t, s.cool.recordTime = some t → t + 100000000 ≤ s.now) →
    exec .coolingRecord s = .next (forUpTo 16 (fun s z => if (s.zone z).used then
      (s.telemetry 4 (s.coolingRecord z)).modZone z fun x => { x with posted := s.zoneFlags z } else s)
        (s.modCool fun c => { c with recordTime := some s.now })))

/-- KICK drives a channel that is OFF and set above 0 in state KICK; KICK_RESPONSE makes it RUNNING; KICK_EXPIRY after 2 s stalls it, and
STALL_RETRY after 60 s kicks again. TACH_SILENCE for 500 ms on a running channel at 20 % or more stalls it where there is no monitor.
TACH_EDGES_RETURN takes a tach-lost channel back. A pump index count other than PPR counts, with an event at most once per second.
FLOW_GATE sets the flow, or chatter. A leak input's filtered change closes both valves with its event. An input active for STUCK is
masked and unmasked after 1 s inactive. More transitions than CHATTER mark it until 10 s of calm. An output that fights is disabled or
released with its event. -/
def Obligations.FansPumpsAndInputs : Prop :=
  (∀ (ch : Nat) (s : State), ch < 20 →
    (s.cool.scarecrow = true → (s.drive ch).dstate = .off → 0 < s.setDrive ch → exec (.kick ch) s =
      .next ((s.modDrive ch fun d => { d with dstate := .kick, kickStart := s.now }).followDrive ch)) ∧
    ((s.drive ch).dstate = .kick → exec (.kickResponse ch) s =
      .next (((s.modDrive ch fun d => { d with dstate := .running, isStalled := false, lastEdge := s.now }).followDrive ch).signalChannel ch)) ∧
    ((s.drive ch).dstate = .kick → (s.drive ch).kickStart + 2000000000 ≤ s.now → exec (.kickExpiry ch) s = .next (s.stall ch)) ∧
    ((s.drive ch).dstate = .running → 200 ≤ (s.drive ch).drive → (s.drive ch).lastEdge + 500000000 ≤ s.now → (s.drive ch).monitor = none →
      exec (.tachSilence ch) s = .next (s.stall ch)) ∧
    ((s.drive ch).dstate = .stalled → (s.drive ch).stallTime + 60000000000 ≤ s.now → exec (.stallRetry ch) s = .next (s.startKick ch)) ∧
    ((s.drive ch).dstate = .tachLost → exec (.tachEdgesReturn ch) s =
      .next (((s.modDrive ch fun d => { d with dstate := .running, isStalled := false, lastEdge := s.now }).followDrive ch).signalChannel ch)) ∧
    ((s.drive ch).dstate ≠ .disabled → exec (.outputFight ch) s =
      .next ((((s.modDrive ch fun d => { d with dstate := .disabled, isStalled := false }).followDrive ch).signalChannel ch).raise 0x0E04 [(2, ch)]))) ∧
  (∀ (ch count : Nat) (s : State), 16 ≤ ch → ch < 20 → count ≠ (s.drive ch).ppr →
    (∀ t, (s.drive ch).idxEventTime = some t → t + 1000000000 ≤ s.now) →
    exec (.pumpIndexPulse ch count) s = .next ((s.modDrive ch fun d =>
      { d with idxFaults := satAdd 32 (s.drive ch).idxFaults 1, idxEventTime := some s.now }).raise 0x0303 [(2, ch), (4, satAdd 32 (s.drive ch).idxFaults 1)])) ∧
  (∀ (ch pulses : Nat) (s : State), 0x1C ≤ ch → ch < 0x20 → (∀ t, (s.input ch).gateTime = some t → t + (s.input ch).filter * 1000 ≤ s.now) →
    pulses * 1000000 ≤ (s.input ch).chatter * (s.input ch).filter →
    let flow := some (pulses * 60000000000 / ((s.input ch).filter * (s.input ch).kFactor))
    exec (.flowGate ch pulses) s = .next ((if flow = (s.input ch).flow then s else s.signalChannel ch).modInput ch fun x =>
      { x with gateTime := some s.now, flow := flow })) ∧
  (∀ (ch : Nat) (s : State), 0x14 ≤ ch → ch < 0x1C → (s.input ch).active = false → (s.input ch).masked = false → (s.input ch).chattering = false →
    exec (.leak ch) s = .next (((s.modInput ch fun x => { x with active := true, level := true, activeSince := s.now }).signalChannel ch).leakFound ch) ∧
    exec (.inputFilteredChange ch true) s = exec (.leak ch) s) ∧
  (∀ (ch : Nat) (s : State), isInput ch = true → isFlow ch = false →
    ((s.input ch).active = true → (s.input ch).masked = false → (s.input ch).activeSince + (s.input ch).stuck * 1000 ≤ s.now →
      exec (.inputStuck ch) s = .next (((s.modInput ch fun x => { x with masked := true }).signalChannel ch).raise 0x0E02 [(2, ch)])) ∧
    ((s.input ch).active = false → (s.input ch).masked = true → (s.input ch).inactiveSince + 1000000000 ≤ s.now →
      exec (.stuckMaskClear ch) s = .next ((s.modInput ch fun x => { x with masked := false }).signalChannel ch)) ∧
    (∀ n, (s.input ch).chatter < n → (s.input ch).chattering = false → isLeak ch = false → exec (.inputChatter ch n) s =
      .next ((s.modInput ch fun x => { x with chattering := true, calmSince := s.now }).raise 0x0E03 [(2, ch), (4, n)])) ∧
    ((s.input ch).chattering = true → (s.input ch).calmSince + 10000000000 ≤ s.now →
      exec (.chatterEnd ch) s = .next (s.modInput ch fun x => { x with chattering := false }))) ∧
  (∀ (n : Nat) (s : State), n < 2 → (s.valve n).released = false → exec (.outputFight (0x20 + n)) s =
    .next (((s.modValve n fun v => { v with released := true, isOpen := false }).signalChannel (0x20 + n)).raise 0x0E04 [(2, 0x20 + n)]))

/-- A due PHASE_RUN of an instance with panels, seeded where it draws, posts what its program computes on its tensors; with no panel, or
unseeded, it shows that status. PHASE_CLOSE ends a run. A failing known answer takes the panel out with event, record and journal entry;
a passing one takes a panel that may return back; a starved one raises its event. A due RESEED counts the generator and journals it.
SWITCH_WINDOW switches the instances whose window has come and takes a due linear set into the governor. GAP_LOAD_DONE starts the new
load at the next window. MODEL_RELOAD_DONE restores the INIT tensors and clears their poison. A due EASEL_RECORD posts each instance. -/
def Obligations.EaselRows : Prop :=
  (∀ (bay : Nat) (ph : Phase) (i : Inst) (s : State), tfind (s.easelBay bay).insts ph.inst = some i → s.instDue bay i = true →
    (i.panels ≠ [] → (i.prog.stochastic = false ∨ i.seeded = true) → exec (.easelPhaseRun bay ph) s = .next (s.postRun bay ph.inst i
      (Run.go { tensors := i.tensors, lanes := (s.easelBay bay).lanes } (s.runEnv bay i)) (i.panels.any fun q => s.panelsOut.getLsbD q))) ∧
    (i.panels = [] → exec (.easelPhaseRun bay ph) s = .next (s.showStatus bay ph.inst i (0xFFFF000001000000#64) true)) ∧
    (i.panels ≠ [] → i.prog.stochastic = true → i.seeded = false →
      exec (.easelPhaseRun bay ph) s = .next (s.showStatus bay ph.inst i (0xFFFF000002000000#64) false))) ∧
  (∀ (bay inst : Nat) (i : Inst) (s : State), tfind (s.easelBay bay).insts inst = some i →
    (i.running = true → exec (.easelPhaseClose bay inst) s = .next (s.modInst bay inst fun i => { i with running := false })) ∧
    (i.gapWait = true → i.switchAt ≤ s.dwn → exec (.gapLoadDone bay inst) s =
      .next ((s.modInst bay inst fun i => { i with gapWait := false, gap := false, switchAt := s.dwn + 1 }).newLoad bay i)) ∧
    (i.reloading = true → exec (.modelReloadDone bay inst) s = .next ((s.modInst bay inst fun i => { i with
        reloading := false, tensors := i.tensors.map fun t => if (i.prog.desc t.1).init then (t.1, tget i.prog.data t.1 t.2) else t }).modGranary bay fun g =>
      { g with poison := g.poison.filter fun a => !(pageOwner (g.pageEntry a) = 6 && pageTag (g.pageEntry a) = inst) }))) ∧
  (∀ (bay panel : Nat) (s : State), (s.bay bay).alive = true → panel < 16 →
    (∀ c, (s.easelBay bay).panelsOut.getLsbD panel = false → exec (.knownAnswerCheck bay panel (.fail c)) s = .next (
      let t := (((s.modEaselBay bay fun e => { e with panelsOut := e.panelsOut ||| (1#16 <<< panel), kacReturn := e.kacReturn &&& ~~~(1#16 <<< panel) }).almanac
        (baySource bay) 0x0501 [(1, bay), (1, panel), (2, c)]).raiseSev bay 0x0501 2 0 [(1, bay), (1, panel), (2, c)])
      if t.serving.isSome then t.journalChange (.panelOut panel) else t)) ∧
    ((s.easelBay bay).kacReturn.getLsbD panel = true → exec (.knownAnswerCheck bay panel .pass) s = .next (
      let t := s.modEaselBay bay fun e => { e with panelsOut := e.panelsOut &&& ~~~(1#16 <<< panel), kacReturn := e.kacReturn &&& ~~~(1#16 <<< panel) }
      if t.serving.isSome then t.journalChange (.panelOut panel) else t)) ∧
    exec (.knownAnswerCheck bay panel .starved) s = .next (s.raiseSev bay 0x0502 1 0 [(1, bay), (1, panel)])) ∧
  (∀ s : State, s.serving.isSome = true → s.boot.entropy.ready = true → s.journalFree = true →
    s.easel.cfg.reseedDue = true ∨ s.easel.cfg.lastReseed + s.easel.cfg.reseedPeriod * 1000 ≤ s.now →
    exec .reseed s = .next (((s.modEntropy fun e => { e with reseeds := s.boot.entropy.reseeds + 1 }).modEaselCfg fun c =>
      { c with reseedDue := false, lastReseed := s.now }).journalChange (.reseed (s.boot.entropy.reseeds + 1)))) ∧
  (∀ (bay : Nat) (s : State), exec (.switchWindow bay) s =
    .next (forUpTo 8 (fun s sl => s.modGovParam sl fun p => p.takeLinear s.dwn) ((s.easelBay bay).insts.foldl (fun s e => s.switchInst bay e.1 e.2) s))) ∧
  (∀ (w vrail dwn : Nat) (codes : List Int) (p : GovParam), p.nextLinear = [(w, codes, vrail)] → w ≤ dwn → p.takeLinear dwn = { p with
    weights := codes.take 2048, s0 := codes.getD 2048 0, sV := codes.getD 2049 0, sT := codes.getD 2050 0, vrail := vrail, linearSet := true
    nextLinear := [] }) ∧
  (∀ (b : Nat) (s : State), s.serving = some b → s.recordDue = true →
    exec .easelRecord s = .next ((s.easelBay b).insts.foldl (fun s e => s.telemetry 5 (s.easelWords b e.1 e.2)) s))

/-- A GLEANER_PASS of a bay that is up counts its single errors, applies the policy to its double errors, and starts the next pass and any
automatic self-test. Twice the period without a pass marks it starved with its event. CORRECTED_WRITEBACK counts a queued word.
PEER_RESTORE_DONE fills the word from a good copy. SELF_TEST_COPY_DONE steers the bank and goes to the march, or with a repair applies
it and goes to the restore. SELF_TEST_MARCH_DONE with no failure goes to the restore with result 0, with failures all repaired result 1,
and retires the bank with result 2 where a repair failed; a bank beyond 67 ends with its result. SELF_TEST_RESTORE_DONE ends the test.
CODE_REWRITE_DONE clears a code page's poison and its cache lines and readies the hands that wait for it. -/
def Obligations.GranaryRows : Prop :=
  (∀ (bay : Nat) (singles : List Nat) (doubles : List (Nat × Nat)) (s : State), (s.bay bay).bstate ≠ .down → s.sys.dormant = false →
    let u := doubles.foldl (fun s d => s.uncorrectable bay d.1 (d.2 = 1)) (singles.foldl (fun s a => s.countCorrected bay a) s)
    exec (.gleanerPass bay singles doubles) s =
      .next ((u.modGranary bay fun g => { g with ceCount := [], gleanStart := u.now, gleanStarved := false }).nextAutotest bay)) ∧
  (∀ (bay : Nat) (s : State), (s.bay bay).bstate ≠ .down → s.sys.dormant = false → (s.granary bay).gleanStarved = false →
    (s.granary bay).gleanStart + 2 * (s.granary bay).gleanPeriod * 1000 ≤ s.now →
    exec (.gleanStarved bay) s = .next ((s.modGranary bay fun g => { g with gleanStarved := true }).raise 0x0704 [(1, bay)])) ∧
  (∀ (bay a : Nat) (s : State), wordOf a ∈ (s.granary bay).writeBack → exec (.correctedWriteback bay a) s = .next (s.countCorrected bay a)) ∧
  (∀ (bay a : Nat) (s : State), wordOf a ∈ (s.granary bay).waitRestore →
    let t := s.modGranary bay fun g => { g with waitRestore := g.waitRestore.filter (· != wordOf a) }
    t.peerCopyGood bay (wordOf a) = true →
    exec (.peerRestoreDone bay a) s = .next (t.modGranary bay fun g => g.fill (wordOf a) (memRead (t.granary (peer bay)).mem (wordOf a) 8))) ∧
  (∀ (bay bank : Nat) (s : State), (s.bist bay bank).phase = .copy →
    ((s.bist bay bank).repair = none → exec (.selfTestCopyDone bay bank) s =
      .next ((s.modGranary bay fun g => { g with steered := some bank }).modBist bay bank fun b => { b with phase := .march })) ∧
    (∀ col pos, (s.bist bay bank).repair = some (col, pos) → exec (.selfTestCopyDone bay bank) s =
      .next (((s.modGranary bay fun g => { g with steered := some bank }).addRepair bay bank col pos).modBist bay bank fun b => { b with phase := .restore }))) ∧
  (∀ (bay bank : Nat) (s : State), (s.bist bay bank).phase = .march → bank < 68 →
    exec (.selfTestMarchDone bay bank []) s = .next ((s.modBist bay bank fun b => { b with nfail := 0, fails := [] }).modBist bay bank fun b =>
      { b with phase := .restore, result := 0 }) ∧
    (∀ fails, fails ≠ [] → let r := s.repairAll bay bank fails
      let t := r.1.modBist bay bank fun b => { b with nfail := min fails.length 65535, fails := (fails.take 64).map fun f =>
        { kind := f.2.2, repair := codeAt r.2 (linePos f.1 f.2.1), bit := f.2.1, addr := f.1, time := r.1.now } }
      (r.2.all (fun c => c.2 != 5) = true → exec (.selfTestMarchDone bay bank fails) s =
        .next (t.modBist bay bank fun b => { b with phase := .restore, result := 1 })) ∧
      (r.2.all (fun c => c.2 != 5) = false → exec (.selfTestMarchDone bay bank fails) s = .next ((t.retireBank bay bank).endTest bay bank 2)))) ∧
  (∀ (bay bank : Nat) (s : State), (s.bist bay bank).phase = .march → 68 ≤ bank →
    exec (.selfTestMarchDone bay bank []) s = .next ((s.modBist bay bank fun b => { b with nfail := 0, fails := [] }).endTest bay bank 0)) ∧
  (∀ (bay bank : Nat) (s : State), (s.bist bay bank).phase = .restore →
    exec (.selfTestRestoreDone bay bank) s = .next (s.endTest bay bank (s.bist bay bank).result)) ∧
  (∀ (bay page : Nat) (s : State), pageOwner (tget (s.granary bay).pageMap page 0) = 7 → ∃ t, exec (.codeRewriteDone bay page) s = .next t ∧
    (t.granary bay).poison = (s.granary bay).poison.filter (fun a => pageOf a != page) ∧ OnlyParts [.gran, .barn] s t ∧
    t.barn.icache = (s.barn.icache.map fun e => if e.1 / 32 = bay then (e.1, e.2.filter fun l => pageOf (l * 64) != page) else e))

/-- SENSE_SAMPLE converts its samples once trims are valid, and sets the hold-up store. ENERGY_WRITEBACK writes the counters to the Loft.
Both seat pins make the seat after 100 ms, readying valid feeds; a broken pin with nothing driven unseats. A feed valid for 10 ms
becomes READY. BOTH_OFF_EXPIRY takes the awaited feed into inrush; with no switch it lets the automatic choice act. FEED_WARN leaves
after 50 us of good input. RETURN_TO_FEED_A starts the switch after 10 s. A gate that reads on while off is a gate fault with its event. -/
def Obligations.FeedRows : Prop :=
  (∀ (samples : List SenseIn) (mv : Nat) (s : State), s.sys.trimValid = true →
    exec (.senseSample samples none) s = .next (samples.foldl State.convert s) ∧
    exec (.senseSample samples (some mv)) s = .next ((samples.foldl State.convert s).modSys fun p => { p with holdup := holdupLevel mv })) ∧
  (∀ s : State, s.loftLost = false → exec .energyWriteback s = .next s.writeEnergy) ∧
  (∀ (pinB : Bool) (s : State), exec (.seatPinMade pinB) s =
    .next (((s.modFeed fun f => if pinB then { f with seatB := true } else { f with seatA := true }).signalChannel (0xAC + bit pinB)).seatCount)) ∧
  (∀ (pinB : Bool) (s : State), s.own.latch.hold = false → (∀ n, n < 10 → (s.chan (0x2A + n)).gate = false) → exec (.seatPinBroken pinB) s =
    .next (((s.modFeed fun f => if pinB then { f with seatB := false, madeTime := none } else { f with seatA := false, madeTime := none }).signalChannel
      (0xAC + bit pinB)).modFeed fun f => { f with seated := false })) ∧
  (∀ (t : Nat) (s : State), s.pwr.feed.madeTime = some t → s.pwr.feed.seated = false → t + 100000000 ≤ s.now → s.sys.trimValid = true →
    let ready := fun (s : State) (ch : Nat) => s.setChan ch fun c =>
      if c.cstate = .off && c.valid then { c with cstate := .ready, readySince := some s.now } else c
    exec .seated s = .next (ready (ready (s.modFeed fun f => { f with seated := true }) 0x32) 0x33).feedAuto) ∧
  (∀ (ch t : Nat) (s : State), (s.chan ch).aboveSince = some t → ch = 0x32 ∨ ch = 0x33 → (s.chan ch).valid = false → t + 10000000 ≤ s.now →
    exec (.feedValid ch) s = .next (s.setChan ch fun c => { c with
      valid := true, cstate := if c.cstate = .off then .ready else c.cstate, readySince := if c.cstate = .off then some s.now else c.readySince }).feedAuto) ∧
  (∀ s : State, (s.pwr.feed.switchTo = none → exec .bothOffExpiry s = .next s.feedAuto) ∧
    (∀ f, s.pwr.feed.switchTo = some f → s.own.latch.hold = false → s.pwr.feed.gateFault = false → (s.chan f).cstate = .ready → s.feedFree f = true →
      exec .bothOffExpiry s = .next ((s.setChan f fun c => { c with cstate := .inrush, gate := true, limited := true, rampStart := s.now, readySince := none }).modFeed fun x =>
        { x with switchTo := none, switchTime := s.now, inUse := some f }))) ∧
  (∀ (f t : Nat) (s : State), s.pwr.feed.inUse = some f → (s.chan f).okSince = some t → s.pwr.feed.warnPin = true → (s.chan f).gate = true →
    t + 50000 ≤ s.now → (s.chan f).rampStart + 50000 ≤ s.now → ∃ u, exec .feedWarnDeassert s = .next (if u.rail.seq.kind = .inputLoss then u else u.raisePg) ∧
      u = (s.modFeed fun x => { x with warnPin := false }).modChan (otherFeed f) fun c => { c with readySince := if c.cstate = .ready then some s.now else c.readySince }) ∧
  (∀ (t : Nat) (s : State), (s.chan 0x32).readySince = some t → s.pwr.feed.inUse = some 0x33 → (s.chan 0x33).cstate = .on → (s.chan 0x32).cstate = .ready →
    s.pwr.feed.warnPin = false → t + 10000000000 ≤ s.now → s.pwr.feed.switchTo = none → s.own.latch.hold = false → s.pwr.feed.gateFault = false →
    exec .returnToFeedA s = .next (s.startSwitch 0x33 0x32)) ∧
  (∀ (ch : Nat) (s : State), ch = 0x32 ∨ ch = 0x33 → (s.chan ch).gate = false → (s.chan ch).cstate ≠ .gateFault →
    exec (.gateFault ch) s = .next (((s.setChan ch fun c => { c with cstate := .gateFault, gateRead := true, cause := 4, readySince := none }).modFeed fun f =>
      { f with gateFault := true, switchTo := none }).raise 0x0E04 [(2, ch)]))

/-- GATE_FULLY_ON of a branch in inrush for 100 us makes it ON, drives BRn_PG, powers its accelerator fresh and completes the closings that
wait on it alone; of a feed it makes it ON. FAST_TRIP at or above the threshold trips the channel with its current.
INRUSH_TIMEOUT_EXPIRY trips it with cause 2. TRIP_RETRY uses one retry and starts again (a branch by inrush, a feed READY or OFF).
RETRY_COUNT_RESTORE after 60 s ON gives the retries back and completes a trip reset. COMMANDED_OPEN_DELAY pulls the gate 20 us after
BRn_PG fell, outside keeper-hold, and a closing that waits for it starts its ramp. POWER_CHANNEL_RECORD posts the channel's record and
starts its extremes again. -/
def Obligations.BranchRows : Prop :=
  (∀ (ch : Nat) (s : State), isPower ch = true → (s.chan ch).cstate = .inrush → (s.chan ch).openDue = false → (s.chan ch).rampStart + 100000 ≤ s.now →
    let t := s.setChan ch fun c => { c with cstate := .on, pg := isFeed ch || !s.pwr.feed.noFeed, onSince := s.now, limited := false, closeJseq := [] }
    (isFeed ch = true → exec (.gateFullyOn ch) s = .next (t.feedTurnedOn ch (s.chan ch).limited)) ∧
    (isFeed ch = false → (s.chan ch).closeJseq = [] → exec (.gateFullyOn ch) s = .next ((t.modAccel (slotOfCh ch) fun _ =>
      { powered := true, safeDensity := 240, lapseDensity := 240, density := 240 }).advanceClosing))) ∧
  (∀ (ch current : Nat) (s : State), isPower ch = true → (s.chan ch).gate = true → (s.chan ch).cstate = .on ∨ (s.chan ch).cstate = .inrush →
    (if s.loft.die.loaded then (s.chan ch).thresh else (chanDefault ch).thresh) ≤ current →
    exec (.fastTrip ch current) s = .next (s.trip ch 1 current)) ∧
  (∀ (ch : Nat) (s : State), isPower ch = true → (s.chan ch).cstate = .inrush → (s.chan ch).limited = false → (s.chan ch).openDue = false →
    (s.chan ch).rampStart + (s.chan ch).inrushTimeout * 1000000 ≤ s.now → s.own.latch.hold = false →
    exec (.inrushTimeoutExpiry ch) s = .next (s.trip ch 2 (Int.natAbs (((s.chan ch).samples.head?.map fun x => x.current).getD 0) / 1000))) ∧
  (∀ (ch t : Nat) (s : State), (s.chan ch).retryDue = some t → (s.chan ch).cstate = .tripped → t ≤ s.now → s.own.latch.hold = false →
    let u := s.modChan ch fun c => { c with retriesLeft := c.retriesLeft - 1, retryDue := none }
    (isFeed ch = false → exec (.tripRetry ch) s = .next (u.startInrush ch)) ∧
    (isFeed ch = true → exec (.tripRetry ch) s = .next ((u.setChan ch fun c =>
      { c with cstate := if c.valid then .ready else .off, readySince := if c.valid then some s.now else none }).feedAuto))) ∧
  (∀ (ch : Nat) (s : State), isPower ch = true → (s.chan ch).cstate = .on → (s.chan ch).onSince + 60000000000 ≤ s.now →
    exec (.retryCountRestore ch) s =
      .next ((s.modChan ch fun c => { c with retriesLeft := c.retries, retryNo := 0, resetJseq := 0 }).completeIf (s.chan ch).resetJseq 0 [])) ∧
  (∀ (slot : Nat) (s : State), slot < 8 → (s.branch slot).openDue = true → (s.branch slot).pgLowTime + 20000 ≤ s.now → s.own.latch.hold = false →
    exec (.commandedOpenDelay slot) s = .next ((((s.pullGate (branchCh slot) .off).reclose slot).advanceClosing).parkSettled)) ∧
  (∀ (ch : Nat) (s : State), s.serving.isSome = true → isPower ch = true → ∃ words, exec (.powerChannelRecord ch) s =
    .next ((s.telemetry 2 words).modChan ch fun c => { c with iMax := none, iMin := none }) ∧ words.length = 8)

/-- PG counted up makes a rising rail UP with its rise time and lets the sequence go on; PG counted down turns a falling rail OFF, or faults
an UP one. A rise past its timeout is a rail fault with cause 1, an EN mismatch one with cause 3 and its event. FALLING_EXPIRY after 100
us turns the rails still falling OFF. SHUTDOWN_FIRST_STEP, 250 us into an input loss, opens the branches and starts the fall of the
rails above the safe floor. INPUT_RETURNED before that first step aborts the shutdown with its event; after it, it is kept. RAIL_RECORD
posts class 3. -/
def Obligations.RailRows : Prop :=
  (∀ (n : Nat) (s : State),
    ((s.rail_ n).pg = false → exec (.pgCountedUp n) s = .next ((((s.modRail_ n fun r => { r with
      pg := true, stray := r.stray || !r.en, rstate := if r.rstate = .rising then .up else r.rstate
      riseUs := if r.rstate = .rising then (s.now - r.riseStart) / 1000 else r.riseUs }).signalChannel (0x54 + n)).railRun))) ∧
    ((s.rail_ n).pg = true → let t := (s.modRail_ n fun r => { r with pg := false, rstate := if r.rstate = .falling then .off else r.rstate }).signalChannel (0x54 + n)
      ((s.rail_ n).rstate = .up → s.own.latch.hold = false → exec (.pgCountedDown n) s = .next (t.railFault n 2 false)) ∧
      ((s.rail_ n).rstate ≠ .up → exec (.pgCountedDown n) s = .next t.railRun)) ∧
    ((s.rail_ n).rstate = .rising → (s.rail_ n).riseStart + (s.rail_ n).riseTimeout * 1000 ≤ s.now → s.own.latch.hold = false →
      exec (.riseTimeoutExpiry n) s = .next (s.railFault n 1 false)) ∧
    ((s.rail_ n).released = false → s.own.latch.hold = false →
      exec (.enReadbackMismatch n) s = .next ((s.raise 0x0E04 [(2, 0x54 + n)]).railFault n 3 true))) ∧
  (∀ s : State, s.anyRail (BitVec.allOnes 64) .falling = true → s.rail.seq.levelTime + 100000 ≤ s.now →
    exec .fallingExpiry s = .next (((List.range 64).foldl (fun s n =>
      if (s.rail_ n).rstate = .falling then (s.modRail_ n fun r => { r with rstate := .off }).signalChannel (0x54 + n) else s) s).railRun)) ∧
  (∀ (t : Nat) (s : State), s.rail.seq.kind = .inputLoss → s.rail.seq.shutStart = some t → s.rail.seq.firstDone = false → t + 250000 ≤ s.now →
    s.own.latch.hold = false → exec .shutdownFirstStep s = .next (
      let u := ((List.range 8).foldl (fun s n => if (s.branch n).cstate = .on || (s.branch n).cstate = .inrush then s.commandOpen n else s) s).modFeed fun f =>
        { f with closing := none, closingOn := false }
      (u.modSeq fun q => { q with firstDone := true, upSet := 0, startedUp := true, startDone := false, downSet := u.onRails &&& ~~~u.safeFloor }).railRun)) ∧
  (∀ (ch t : Nat) (s : State), ch = 0x32 ∨ ch = 0x33 → s.pwr.feed.seated = true → s.own.latch.hold = false → (s.chan ch).okSince = some t → t + 50000 ≤ s.now →
    s.rail.seq.kind = .inputLoss →
    (s.rail.seq.firstDone = true → exec (.inputReturned ch) s = .next (s.modSeq fun q => { q with returned := true })) ∧
    (s.rail.seq.firstDone = false → s.rail.seq.upSet = 0 → s.rail.seq.downSet = 0 → s.anyRail s.rail.seq.seqSet .rising = false →
      exec (.inputReturned ch) s = .next ((((s.modSeq fun q => { q with kind := .idle, shutStart := none, aborts := satAdd 32 q.aborts 1 }).raisePg).raise
        0x0406 [(1, ch - 0x32)]).railRun))) ∧
  (∀ s : State, s.serving.isSome = true → exec .railRecord s = .next (s.telemetry 3 s.railRecord))

/-- SUPPLIES_VALID starts the trim load; the third agreeing TRIM_PASS makes trims valid and ends the safe state, a disagreement loads again,
the eighth time as a keeper-hold. PLL_LOCK starts device time at 0. SCARECROW_LIVE kicks the twenty drives and opens the valves unless a
leak holds them. LOFT_SETTINGS_LOADED takes the calibration set and the branch energies. CONTROLLER_RESET resets, or with a hold-up
queue waits. BAY_RESET resets a bay. PHOTONIC_RESTART restarts the die 10 ms after its heartbeat. DORMANT_ENTRY freezes HB_AGE, arms the
matchers and is Dormant; WAKE leaves it, re-arms timers and releases what waited. WAKE_WATCHDOG arms a bay's watchdog 1 ms after the
wake. -/
def Obligations.PowerUpRows : Prop :=
  (∀ s : State, s.sys.suppliesValid = false → s.sys.keeperStopped = false →
    exec .suppliesValid s = .next (s.modSys fun p => { p with suppliesValid := true, trimPass := 0 })) ∧
  (∀ s : State, s.sys.suppliesValid = true → s.sys.trimValid = false → s.own.latch.hold = false →
    (s.sys.trimPass < 2 → exec (.trimPass true) s = .next (s.modSys fun p => { p with trimPass := p.trimPass + 1 })) ∧
    (2 ≤ s.sys.trimPass → exec (.trimPass true) s =
      .next (s.modSys fun p => { p with trimPass := 3, trimValid := true, trimLoads := 0, safeState := false }).seatCount) ∧
    (s.sys.trimLoads < 7 → exec (.trimPass false) s = .next (s.modSys fun p => { p with trimPass := 0, trimLoads := p.trimLoads + 1 })) ∧
    (s.sys.trimLoads = 7 → Runs (.trimPass false) s fun t => t.own.latch.hold = true)) ∧
  (∀ s : State, s.sys.counting = false → s.sys.suppliesValid = true → s.own.latch.hold = false →
    exec .pllLock s = .next (s.modSys fun p => { p with counting := true, internalOsc := false, devTime := 0, timeBase := 0 })) ∧
  (∀ s : State, s.cool.scarecrow = false → s.sys.trimValid = true → s.sys.counting = true → s.own.latch.hold = false →
    exec .scarecrowLive s = .next (let t := forUpTo 20 State.startKick (s.modCool fun c => { c with scarecrow := true })
      (forUpTo 2 (fun s v => s.modValve v fun x => { x with isOpen := !t.leaking }) t).followDrives)) ∧
  (∀ s : State, s.loft.die.loaded = false → s.sys.trimValid = true → s.own.latch.hold = false →
    exec .loftSettingsLoaded s = .next (
      let good := s.loft.die.calOk0 || s.loft.die.calOk1
      let t := s.modDie fun d => { d with loaded := true, calPresent := good, calOk0 := good, calOk1 := good }
      let t := if good then t.takeCalibration else t.dropCalibration
      (List.range 10).foldl (fun s n => s.modChan (0x2A + n) fun c => { c with energy := (tget s.pwr.feed.loftEnergy (0x2A + n) 0 : Int) }) t)) ∧
  (∀ s : State, (s.sys.collapsed = false → exec .controllerReset s = .next s.resetController) ∧
    (s.sys.collapsed = true → s.sys.keeperStopped = false → s.alm.queue ≠ [] →
      exec .controllerReset s = .next (s.modSys fun p => { p with resetPending := true }))) ∧
  (∀ (bay : Nat) (s : State), (s.bay bay).runsSlot = none → exec (.bayReset bay) s = .next (s.resetBay bay)) ∧
  (∀ s : State, s.fab.fab.alive = false → s.sys.photHb + 10000000 ≤ s.now → s.sys.internalOsc = false →
    exec .photonicRestart s = .next s.restartPhotonic) ∧
  (∀ s : State, s.grid.state = .parked → s.grid.delayEnd ≤ s.now → s.sys.dormant = false → s.sys.wakeTime = none →
    Runs .dormantEntry s fun t => t.sys.dormant = true ∧ OnlyParts [.sys, .own, .tw, .cool] s t) ∧
  (∀ s : State, s.sys.dormant = true → s.sys.wakePending = true → exec .wake s = .next (
    let t := s.modSys fun p => { p with dormant := false, wakePending := false, wakeTime := some s.now }
    let t := forUpTo 24 (fun s n => s.modTwPort n fun p => { p with matcher := false }) t
    let t := forUpTo 2 (fun s b => s.modGranary b fun g => { g with gleanStart := s.now, gleanStarved := false, ceCount := [] }) t.rearmTimers
    (forUpTo 24 (fun s n => s.postNotes n) t.releaseDoorbells.raiseWaiting).followDrives)) ∧
  (∀ (bay t : Nat) (s : State), s.sys.wakeTime = some t → t + 1000000 ≤ s.now → (s.bay bay).hbFrozen.isSome = true → s.sys.dormant = false →
    exec (.wakeWatchdog bay) s = .next (s.modBay bay fun b => { b with hbFrozen := none, hbTime := some s.now, wdArmed := true, wakeWd := true }))

/-- With trim, settings and the bay in reset, the window opens with WANT_HASH, or the bay enters Fallow mode with FALLOW_N low, and after
250 ms with no image to stream. The first allowed claim makes it PUSHING and fixes AGENT. GO of that agent with good bounds starts the
copy, with bad ones sets XSTAT 4. A copy whose CRC matches stores its bytes at the offset, marks its pages and sets XSTAT 2, another
sets 3. 20 ms without progress reopens the window with one attempt more. RELEASE before DONE_TO reaches the length sets XSTAT 5, else
VERIFYING. Stage 0 that passes starts lane 0 of the 32 cores at the entry, RELEASED; a failed check ends the attempt. The streamer
claims and writes the image. Stage 1 places the sections and starts the ROM hands. -/
def Obligations.PushWindowRows : Prop :=
  (∀ (bay : Nat) (s : State), s.mayOpen bay = true →
    (s.sys.fallowN = false → exec (.pushWindowOpen bay) s = .next (s.enterFallow bay)) ∧
    (s.sys.fallowN = true → exec (.pushWindowOpen bay) s =
      .next (s.modPush bay fun _ => { state := .opened, wantHash := s.wantFor bay, openTime := s.now, progressTime := s.now }))) ∧
  (∀ (bay : Nat) (s : State), (s.push bay).state = .opened →
    ((s.push bay).openTime + 250000000 ≤ s.now → s.slotOfHash (s.push bay).wantHash = none → exec (.fallowEntry bay) s = .next (s.enterFallow bay)) ∧
    (∀ agent, s.mayClaim bay agent = true → exec (.claimWrite bay agent) s =
      .next (s.modPush bay fun p => { p with state := .pushing, agent := agent, claimTime := s.now, progressTime := s.now })) ∧
    (∀ n, s.mayClaim bay 4 = true → s.slotOfHash (s.push bay).wantHash = some n → exec (.streamerClaim bay) s =
      .next ([bay, peer bay].foldl (fun t b => if (t.push b).state = .opened && (t.push b).wantHash = (s.push bay).wantHash && t.mayClaim b 4 then
        (t.claimWindow b 4).streamImage b (t.slot n).bytes else t) s))) ∧
  (∀ (bay agent : Nat) (s : State), (s.push bay).state = .pushing → (s.push bay).agent = agent →
    ((s.push bay).xstat ≠ 1 → agent ≠ 1 → imageMax < (s.push bay).imgOff + (s.push bay).len ∨ (s.push bay).imgOff % 4096 ≠ 0 ∨ (s.push bay).len % 4096 ≠ 0 ∨
        (s.push bay).len < 4096 ∨ 520192 < (s.push bay).len →
      exec (.go bay agent) s = .next (s.modPush bay fun p => { p with xstat := 4, progressTime := if p.xstat = 4 then p.progressTime else s.now })) ∧
    ((s.push bay).xstat ≠ 1 → agent ≠ 1 → (s.push bay).imgOff + (s.push bay).len ≤ imageMax → (s.push bay).imgOff % 4096 = 0 → (s.push bay).len % 4096 = 0 →
        4096 ≤ (s.push bay).len → (s.push bay).len ≤ 520192 →
      exec (.go bay agent) s = .next (s.modPush bay fun p => { p with xstat := 1, copy := some (p.imgOff, p.len, p.crc, p.half), progressTime := s.now })) ∧
    (∀ off len crc half, (s.push bay).copy = some (off, len, crc, half) → (s.push bay).xstat = 1 →
      (crc32c (memRead (s.granary bay).mem (halfBase half) len) = crc → exec (.apertureCopyDone bay) s =
        .next ((s.modGranary bay fun g => g.fill (imageBase + off) (memRead (s.granary bay).mem (halfBase half) len)).modPush bay fun p =>
          { p.markGood (off / 4096) (len / 4096) s.now with xstat := 2, copy := none, progressTime := s.now })) ∧
      (crc32c (memRead (s.granary bay).mem (halfBase half) len) ≠ crc → exec (.apertureCopyDone bay) s =
        .next (s.modPush bay fun p => { p with xstat := 3, copy := none, progressTime := s.now }))) ∧
    ((s.push bay).progressTime + 20000000 ≤ s.now → agent ≠ 3 → exec (.pushAbandonExpiry bay) s = .next (s.modPush bay fun p =>
      { p with state := .opened, agent := 0, attempt := satAdd 4 p.attempt 1, copy := none, xstat := if p.xstat = 1 then 0 else p.xstat })) ∧
    (let need := if agent ≤ 2 then (s.push bay).imgLen else imgLen (s.imageBytes bay 0 16);
      ((s.push bay).doneTo < need → exec (.release bay agent) s =
        .next (s.modPush bay fun p => { p with xstat := 5, progressTime := if p.xstat = 5 then p.progressTime else s.now })) ∧
      (need ≤ (s.push bay).doneTo → exec (.release bay agent) s = .next (s.modPush bay fun p => { p with state := .verifying, copy := none })))) ∧
  (∀ (bay : Nat) (s : State), (s.push bay).state = .verifying →
    let img := s.imageBytes bay 0 (min (imgLen (s.imageBytes bay 0 16)) imageMax)
    (∀ c, s.stage0Check bay = some c → exec (.stage0Done bay) s = .next (s.attemptFailed bay { s.push bay with check := c } c (hashOf img))) ∧
    (s.stage0Check bay = none → exec (.stage0Done bay) s = .next (
      let entry := BitVec.ofNat 32 (imageBase + fieldAt img 0x24 4)
      let t := forUpTo 32 (fun s c => s.modHand bay (128 * c) fun _ => { state := .ready, pc := entry, entry := entry, lastCkpt := s.devNow })
        ((s.fixDebug bay).measureStage0 bay img)
      (t.modPush bay fun p => { p with state := .released, stage1 := true, check := 0 }).modMeasure bay fun m => { m with imgEpoch := fieldAt img 0x00C 1 }))) ∧
  (∀ (bay : Nat) (s : State), (s.push bay).state = .released → (s.push bay).stage1 = true → (s.bay bay).alive = true →
    let img := s.imageBytes bay 0 (min (imgLen (s.imageBytes bay 0 16)) imageMax)
    (sectionsOk img = false → exec (.stage1Done bay) s = .next ((s.resetBay bay).attemptFailed bay (s.push bay) 8 (hashOf img))) ∧
    (sectionsOk img = true → exec (.stage1Done bay) s = .next (
      let t := (sectionsOf img).foldl (fun s x => s.extendTally bay 4 ((img.drop x.1).take x.2.1)) s
      let t := t.extendTally bay 5 (memRead t.loft.die.cal 0 131072 ++ Config.settingsBytes t.sys.freshCount)
      let t := (t.modSys fun y => { y with freshCount := y.freshCount + 1 }).modBarn fun b => { b with hands := b.hands.filter fun e => e.1 / 4096 != bay }
      let t := forUpTo 256 (fun s n => s.modHand bay n fun _ =>
        { state := .ready, pc := Config.romEntry false n, entry := Config.romEntry false n, shadow := true, lastCkpt := s.devNow })
        ((t.modGranary bay Granary.bootPages).placeSections bay img)
      (((((t.loadFromLoft bay).modPush bay fun p => { p with stage1 := false }).runsImage bay (hashOf img)).freshGovernor bay).bayReleased bay).showMeasures bay)))

/-- Light on an enabled DOWN port starts TRAIN, which starts again after 1 ms; loss of light takes the port DOWN, and the last one isolates
the node. A port silent for DEAD_TIMEOUT is lost: a member's up port sends it to look for another way, a child is removed. A due beacon
goes out on every port that is not DOWN, the root's with RTICK one higher. The backoff's end floods the claim; a claim that settled as
its own makes the node root. A stale root tick, or ROOT_TIMEOUT re-attaching, ends the way up. After twice ROOT_TIMEOUT the root drops
members that did not re-attach. Time exchanges go every 125 us, reports every 1 ms, records every period. -/
def Obligations.FabricPortRows : Prop :=
  (∀ (p : Nat) (s : State), s.fab.fab.alive = true →
    (p < 4 → s.portEnabled p = true → (s.port p).pstate = .down →
      exec (.portLightLock p) s = .next (s.modPort p fun x => { x with pstate := .train, good := 0, trainStart := s.now })) ∧
    ((s.port p).pstate = .train → (s.port p).trainStart + 1000000 ≤ s.now →
      exec (.portTrainTimeout p) s = .next (s.modPort p fun x => { x with good := 0, trainStart := s.now, attempts := satAdd 16 x.attempts 1 })) ∧
    ((s.port p).pstate ≠ .down → let t := s.modPort p fun x => { x with pstate := .down, good := 0 }
      (((List.range 4).all fun q => (t.port q).pstate = .down) = false → exec (.portLossOfLight p) s = .next t) ∧
      (((List.range 4).all fun q => (t.port q).pstate = .down) = true → exec (.portLossOfLight p) s = .next ((t.modFabric fun f => { f with
        state := .isolated, upPort := none, joinPort := none, claimStart := none, backoffEnd := none }).modGrid fun g =>
          { g with pathLost := g.pathLost || s.fab.fab.mepoch != 0 }))) ∧
    ((s.port p).lost = false → (s.port p).lastValid + s.fab.param.deadTimeout * 1000 ≤ s.now →
      let t := s.modPort p fun x => { x with lost := true, neighbour := 0, nbRoot := 0, nbParent := 0, nbAncestors := [], nbMepoch := 0, nbRoleEpoch := 0 }
      (s.isMember = true → s.fab.fab.upPort = some p → (s.children.any fun m => m.node = (s.port p).neighbour) = false →
        exec (.deadTimeoutExpiry p) s = .next t.lostUp) ∧
      (s.isMember = true → s.isRoot = true → (s.children.any fun m => m.node = (s.port p).neighbour) = true →
        exec (.deadTimeoutExpiry p) s = .next (t.removeMember (s.port p).neighbour)))) ∧
  (∀ s : State, s.fab.fab.alive = true →
    ((∀ t, s.fab.fab.beaconTime = some t → t + s.fab.param.beaconPeriod * 1000 ≤ s.now) → exec .beaconSend s = .next (
      let t := s.modFabric fun f => { f with beaconTime := some s.now, rtick := if s.isRoot then f.rtick + 1 else f.rtick }
      ((List.range 4).filter fun p => (t.port p).pstate ≠ .down).foldl (fun s p => s.originate p 0 0 0 (.beacon s.beaconBody)) t)) ∧
    (∀ t, s.fab.fab.backoffEnd = some t → t ≤ s.now → s.fab.fab.state = .isolated ∨ s.fab.fab.state = .claiming → (List.range 4).any s.portUp = true →
      exec .claimBackoffExpiry s = .next s.floodClaim) ∧
    (∀ t, s.fab.fab.claimStart = some t → s.fab.fab.state = .claiming → t + s.fab.param.claimSettle * 1000 ≤ s.now → s.fab.fab.claimSeen = s.nodeId →
      exec .claimSettleExpiry s = .next s.becomeRoot) ∧
    (∀ p, s.fab.fab.state = .member → s.fab.fab.upPort = some p → (s.port p).nbTickTime + s.fab.param.rootTimeout * 1000 ≤ s.now →
      exec .rootTimeoutExpiry s = .next s.lostUp) ∧
    (s.fab.fab.state = .reattaching → s.fab.fab.reattachStart + s.fab.param.rootTimeout * 1000 ≤ s.now → exec .rootTimeoutExpiry s = .next
      ((s.modFabric fun f => { f with state := .claiming, upPort := none, joinPort := none, claimSeen := 0 }).drawBackoff 0)) ∧
    (∀ t, s.fab.fab.becameRoot = some t → s.isRoot = true → t + 2 * s.fab.param.rootTimeout * 1000 ≤ s.now → exec .staleMemberRemoval s = .next (
      let u := s.modFabric fun f => { f with becameRoot := none }
      (u.setTable (u.fab.fab.members.filter fun m => m.node = u.nodeId || u.fab.fab.reattached.contains m.node)).modFabric fun f => { f with reattached := [] })) ∧
    (∀ p, s.fab.fab.upPort = some p → s.isMember = true →
      ((∀ t, s.fab.fab.exchangeTime = some t → t + 125000 ≤ s.now) → exec .timeExchangeSend s =
        .next ((s.modFabric fun f => { f with exchangeTime := some s.now }).originate p 0 0 0 (.time { t1 := s.devNow }))) ∧
      ((∀ t, s.fab.fab.reportTime = some t → t + 1000000 ≤ s.now) → exec .reportSend s =
        .next ((s.modFabric fun f => { f with reportTime := some s.now }).originate p 0 0 0 (.report s.groupReport.1 s.groupReport.2.1 s.groupReport.2.2))))) ∧
  (∀ s : State, s.serving.isSome = true → (∀ t, s.fab.fab.recordTime = some t → t + s.fab.param.recordPeriod * 1000 ≤ s.now) →
    exec .fabricRecord s = .next ((s.modFabric fun f => { f with recordTime := some s.now }).telemetry 6 s.nodeRecord))

/-- A frame is accepted where the photonic die runs, the port is not DOWN, the CRC holds, VER is 1 and SRC is not 0, and, as its type needs,
its source is a member of that epoch with no older owner epoch; it then refreshes its port. A bad CRC, version or source is discarded
and counted. An accepted BEACON is noted and trains its port; an accepted higher CLAIM is kept and relayed; a JOIN at the root admits
the node under the next membership epoch; an ADMIT makes the node a member; a MEMBER frame on the up port changes the table and is
relayed; a TIME frame aligns or is stamped; a REPORT of a child is kept; a NAK for this node acts by its reason. -/
def Obligations.FabricFrames : Prop :=
  (∀ (p : Nat) (hdr : FabHdr) (s : State), s.fab.fab.alive = true → (s.port p).pstate ≠ .down →
    let up := s.modPort p fun x => { x with lastValid := s.now, lost := false, rxFrames := x.rxFrames + 1 }
    (hdr.crcOk = true → hdr.ver = 1 → hdr.src ≠ 0 → s.accept p hdr false false false = (up, true)) ∧
    (∀ m e, hdr.crcOk = true → hdr.ver = 1 → hdr.src ≠ 0 → (s.fab.fab.members.find? fun m => m.node = hdr.src && m.mepoch = hdr.mepoch) = some m →
      m.ownerEpoch.toNat ≤ hdr.ownerEpoch.toNat → (s.accept p hdr true e false).2 = true) ∧
    (hdr.crcOk = false → ∀ n e a, s.accept p hdr n e a = ((s.modPort p fun x => { x with crcErr := satAdd 32 x.crcErr 1, good := 0 }).discard, false)) ∧
    (hdr.crcOk = true → hdr.ver ≠ 1 ∨ hdr.src = 0 → ∀ n e a, s.accept p hdr n e a = ((s.modPort p fun x => { x with good := 0 }).discard, false))) ∧
  (∀ (p : Nat) (hdr : FabHdr) (s t : State), s.accept p hdr false false false = (t, true) →
    (∀ b, b.root = 0 → exec (.beacon p hdr b) s = .next ((t.noteBeacon p hdr b).trainPort p)) ∧
    (idAbove hdr.src t.fab.fab.claimSeen = true → exec (.claim p hdr) s = .next (
      let u := t.modFabric fun f => { f with claimSeen := hdr.src, claimStart := none }
      ((List.range 4).filter fun q => u.portUp q && q ≠ p).foldl (fun s q => s.relay q hdr .claim) u)) ∧
    (∀ (top parent), t.isRoot = true → hdr.mepoch = 0 → t.fab.fab.members.length < 59049 → exec (.join p hdr top parent) s = .next (
      let ep := (if t.fab.fab.maxMepoch.toNat < top.toNat then top else t.fab.fab.maxMepoch) + 1
      let m : Member := { node := hdr.src, mepoch := ep, parent := parent, ownerEpoch := hdr.ownerEpoch, proxyPrio := Config.proxyPrio hdr.src }
      let u := (t.modFabric fun f => { f with maxMepoch := ep, reattached := hdr.src :: f.reattached }).setTable
        (t.fab.fab.members.filter (fun m => m.node ≠ hdr.src) ++ [m])
      u.originate p 0 hdr.src 0 (.admitted ep u.fab.fab.members))) ∧
    (∀ st, t.isMember = true → t.fab.fab.upPort = some p → exec (.timeFrame p hdr st) s = .next (t.align p st)) ∧
    (∀ st, t.isMember = true → t.fab.fab.upPort ≠ some p → t.isDown p = true →
      exec (.timeFrame p hdr st) s = .next (t.originate p 0 0 0 (.time { st with t2 := t.fabNow, t3 := t.fabNow })))) ∧
  (∀ (p : Nat) (hdr : FabHdr) (s t : State), s.accept p hdr false false true = (t, true) →
    (∀ ep table m, t.fab.fab.state = .joining → (table.find? fun m => m.node = t.nodeId) = some m → Runs (.admitFrame p hdr ep table) s fun u =>
      u.isMember = true ∧ u.fab.fab.mepoch = ep ∧ u.fab.fab.members = table ∧ u.fab.fab.roles = m.roles.toNat ∧ u.grid.pathLost = false) ∧
    (∀ roles re, hdr.dst = t.nodeId → exec (.nak p hdr 1 roles re) s = .next (t.roleNak hdr.src roles re) ∧ exec (.nak p hdr 2 roles re) s = .next (t.rejoin p))) ∧
  (∀ (p : Nat) (hdr : FabHdr) (cs : List MemberChange) (s t : State), s.accept p hdr true false false = (t, true) → t.fab.fab.upPort = some p →
    (∀ c ∈ cs, ∃ id, c = .remove id) → exec (.memberFrame p hdr cs) s = .next (
      let u := (t.modFabric fun f => { f with members := cs.foldl (fun ms c => MemberChange.apply c ms) f.members }).pruneChildren
      u.downPorts.foldl (fun s q => s.relay q hdr (.member cs)) u)) ∧
  (∀ (p want keep flr : Nat) (hdr : FabHdr) (s t : State), s.accept p hdr true true false = (t, true) → t.isDown p = true →
    exec (.report p hdr want keep flr) s =
      .next (t.modGrid fun g => { g with children := tset g.children p { want := want, keep := keep, flr := flr, time := t.now } }))

/-- An accepted message for this node is delivered, one for another is sent on, and one whose role this node does not hold is answered by
NAK 1. A GDOWN from the up port goes down the tree and is acted on; one addressed to the proxy completes its FAB_GLOBAL. A request
starts at the root, a contribution of a child is kept. REDUCE samples its quantity and SNAPSHOT writes its record and contributes at AT.
The hall reset with no port up leaves the node isolated with no role, table or epoch. A wait with no result in OP_TIMEOUT ends with
TIMEOUT. The oldest held target is journalled, or refused as late; one past its DEADLINE is refused as late. FEED_WARN_N asserts, and
without a fabric nothing is sent. -/
def Obligations.FabricOperations : Prop :=
  (∀ (p : Nat) (hdr : FabHdr) (msg : List (BitVec 8)) (reply : Bool) (hand : Nat) (s t : State), s.accept p hdr true true false = (t, true) →
    (hdr.dst = t.nodeId → t.roleRefused hdr = false → exec (.msg p hdr msg reply hand) s = .next (t.messageArrives hdr msg reply hand)) ∧
    (hdr.dst = t.nodeId → t.roleRefused hdr = true → exec (.msg p hdr msg reply hand) s = .next (t.sendNak p hdr.src 1)) ∧
    (hdr.dst ≠ t.nodeId → exec (.msg p hdr msg reply hand) s = .next (t.route hdr (.msg msg reply hand))) ∧
    (∀ d b, hdr.dst = t.nodeId → t.roleRefused hdr = false → t.isRoot = true →
      exec (.gup p hdr (.request d b)) s = .next (t.startOp d b hdr.src (some p))) ∧
    (∀ n c, t.isDown p = true → exec (.gup p hdr (.contribution n c)) s = .next ((t.modFabric fun f => { f with ops := f.ops.map fun o =>
      if o.desc.tseq = n then { o with contrib := tset o.contrib p c } else o }).progressOps))) ∧
  (∀ (p : Nat) (hdr : FabHdr) (d : GDesc) (body : List (BitVec 8)) (s t : State), s.accept p hdr true false false = (t, true) →
    t.roleRefused hdr = false → t.nodeId ≠ 0 →
    (hdr.dst = 0 → t.fab.fab.upPort = some p → exec (.gdown p hdr d body) s = .next (t.descend d body (some p) hdr.src 0)) ∧
    (hdr.dst = t.nodeId → exec (.gdown p hdr d body) s = .next (t.completeWait d 0 d.share (d.value0.toNat * 2 ^ 32 + d.value1.toNat)))) ∧
  (∀ (op : BitVec 32) (s : State),
    (s.sampleDue 2 op = true → exec (.reduceSample op) s = .next (s.contribute 2 op fun o =>
      { value := s.quantity o.desc.sel, contributors := 1, notAligned := bit s.fab.fab.alignLost })) ∧
    (∀ bay, s.sampleDue 4 op = true → s.serving = some bay → exec (.snapshotLatch op) s = .next (
      let t := s.almanac (baySource bay) 0x8801 [(4, op.toNat), (4, twos 32 s.drawWatts), (4, s.grid.aTray.floor.toNat),
        (4, s.grid.tseqInForce.toNat), (8, twos 64 s.feedEnergy.floor)];
      t.contribute 4 op fun _ => { value := t.drawWatts, contributors := 1, notAligned := bit t.fab.fab.alignLost })) ∧
    exec (.opTimeoutExpiry op) s = .next (
      let t := (s.fab.fab.waits.filter fun w => w.desc.tseq = op && s.passed w.start (s.fab.param.opTimeout * 1000)).foldl
        (fun s w => s.completeWait w.desc 0x0502 0 0) s;
      t.modFabric fun f => { f with ops := f.ops.filter fun o => !(o.desc.tseq = op && t.passed o.start (s.fab.param.opTimeout * 1000)) })) ∧
  (∀ (t : Nat) (s : State), s.fab.fab.hallResetAt = some t → s.fab.fab.alive = true → t ≤ s.fabNow → s.fab.fab.waits = [] →
    (∀ p < 4, (s.port p).pstate = .down) → Runs .hallReset s fun u =>
      u.fab.fab.state = .isolated ∧ u.fab.fab.mepoch = 0 ∧ u.fab.fab.roles = 0 ∧ u.fab.fab.members = [] ∧ u.fab.fab.ops = [] ∧
      u.fab.fab.hallResetAt = none ∧ u.fab.fab.prioInForce = s.fab.param.priority ∧ u.fab.fab.maskInForce = s.fab.param.portMask) ∧
  (∀ (op : GridOp) (x : Target) (s : State), s.grid.held.head? = some (op, x) → s.serving.isSome = true → s.journalFree = true →
    let t := s.modGrid fun g => { g with held := g.held.drop 1 }
    (t.gridRefusal true op x [] = none → exec (.targetCommit op x) s = .next (t.journalChange (.grid op x)).progressOps) ∧
    (∀ r, t.gridRefusal true op x [] = some (0x0202, r) → exec (.targetCommit op x) s = .next (t.lateTarget true x).progressOps)) ∧
  (∀ (x : Target) (s : State), x.deadline ≠ 0 → x.deadline < s.fabNow →
    (s.pendingGrid.find? fun (g : Nat × Bool × GridOp × Target) => g.2.1 = true && g.2.2.2 = x && !(s.entry g.1).acked) = none →
    (s.grid.held.any fun h => h.2 = x) = true → exec (.targetDeadlineExpiry true x) s =
      .next (((s.modGrid fun g => { g with held := g.held.filter fun h => h.2 ≠ x }).lateTarget true x).progressOps)) ∧
  (∀ (f : Nat) (s : State), s.warnDue = some f →
    ((s.warnAssert f).fab.fab.alive = false → exec .feedWarnAssert s = .next (s.warnAssert f)) ∧
    (∀ to_, (s.warnAssert f).fab.fab.alive = true → (s.warnAssert f).isMember = true → (s.warnAssert f).resolve 4 0 = some to_ →
      to_.1 ≠ (s.warnAssert f).nodeId → exec .feedWarnAssert s = .next
        (((s.warnAssert f).sendRouted 4 to_ (.msg ((s.warnAssert f).warningMessage f) false 0) 1 none).getD (s.warnAssert f))))

/-- Every 10 ms, with no offer taken, a PUSHREQ of the wanted hash goes out on every UP port. A node with PUSH_SERVE and the image offers
it. An offer from the up port is taken at once, another is kept for 1 ms and then taken. An acknowledgement at offset n makes the pusher
go on from n, and at the image's end ends its push; after 1 ms with none the unacknowledged blocks go again. A block on the port of the
offer goes into the open window's image area, or into the session's slot of a Fallow bay. A Fallow push of the whole image is hashed and
committed, 20 ms without progress abandon it, and 10 ms after the commit the Fallow bays are reset. -/
def Obligations.ImagePushRows : Prop :=
  (∀ (s : State) (b hash : Nat), s.fab.fab.alive = true → s.fab.fab.offerTaken = none → (∀ t, s.fab.fab.pushReqTime = some t → t + 10000000 ≤ s.now) →
    s.pushWanted = some (b, hash) → exec .pushreqSend s = .next (
      let t := s.modFabric fun f => { f with
        pushReqBay := some b, pushHash := hash, pushReqTime := some s.now, firstOffer := if f.pushReqBay = some b then f.firstOffer else none };
      (List.range 4).foldl (fun u q => if u.portUp q then u.originate q 0 0 0 (.pushreq hash b) else u) t)) ∧
  (∀ (p hash bay n : Nat) (hdr : FabHdr) (s t : State), s.accept p hdr false false false = (t, true) → t.fab.param.pushServe = true →
    t.serving.isSome = true → t.fab.fab.pushTo = none → t.offerSlot hash = some n → exec (.pushreq p hdr hash bay) s = .next (
      (t.modFabric fun f => { f with pushTo := some p, pushTaken := false, pushSlot := n, pushNext := 0, pushAcked := 0, pushAckTime := t.now }).originate
        p 0 hdr.src 0 (.offer (t.slot n).hash false))) ∧
  (∀ (p hash : Nat) (s : State), s.fab.fab.alive = true → s.portUp p = true → s.fab.fab.pushReqBay.isSome = true →
    s.fab.fab.pushHash = 0 ∨ hash = s.fab.fab.pushHash →
    (s.fab.fab.offerTaken = none → s.fab.fab.firstOffer = none →
      (s.fab.fab.upPort = some p → exec (.pushOffer p hash) s = .next (s.takeOffer p)) ∧
      (s.fab.fab.upPort ≠ some p → exec (.pushOffer p hash) s = .next (s.modFabric fun f => { f with firstOffer := some (p, s.now) }))) ∧
    (s.fab.fab.offerTaken.isSome = true → exec (.pushOffer p hash) s = .next (s.declineOffer p))) ∧
  (∀ (p t : Nat) (s : State), s.fab.fab.firstOffer = some (p, t) → s.fab.fab.alive = true → s.fab.fab.offerTaken = none → t + 1000000 ≤ s.now →
    exec .offerWaitExpiry s = .next (s.takeOffer p)) ∧
  (∀ (p off : Nat) (s : State), s.fab.fab.alive = true → s.fab.fab.pushTo = some p →
    ((s.slot s.fab.fab.pushSlot).len ≤ off → exec (.pushAcknowledge p off) s = .next (s.modFabric fun f => { f with pushTo := none, pushAcked := off })) ∧
    (off < (s.slot s.fab.fab.pushSlot).len → s.serving.isSome = true → exec (.pushAcknowledge p off) s = .next
      ((s.modFabric fun f => { f with pushTaken := true, pushAcked := off, pushAckTime := s.now }).sendImageBlocks p off)) ∧
    (s.fab.fab.pushAckTime + 1000000 ≤ s.now →
      (s.fab.fab.pushTaken = false → exec .pushAckTimeout s = .next (s.modFabric fun f => { f with pushTo := none })) ∧
      (s.fab.fab.pushTaken = true → s.portUp p = true → s.serving.isSome = true → exec .pushAckTimeout s = .next
        ((s.modFabric fun f => { f with pushAckTime := s.now }).sendImageBlocks p s.fab.fab.pushAcked)))) ∧
  (∀ (p off b : Nat) (hdr : FabHdr) (data : List (BitVec 8)) (s t : State), s.accept p hdr false false false = (t, true) →
    t.fab.fab.pushReqBay = some b → t.fab.fab.offerTaken = some p → data ≠ [] → data.length ≤ pushBlockBytes → off + data.length ≤ imageMax →
    let stamp := fun u : State => if u.fab.fab.pushRecv = t.fab.fab.pushRecv then u else u.modFabric fun f => { f with pushRecvTime := u.now };
    let c := t.modFabric fun f => { f with pushBlocks := f.pushBlocks + 1 };
    ((t.push b).state = .pushing → (t.push b).agent = 3 → exec (.push p hdr off data) s = .next (stamp (c.windowBlock b p off data))) ∧
    (∀ n, (t.push b).state ≠ .pushing → (t.bay b).bstate = .fallow → t.loft.upd.session0 = some n →
      exec (.push p hdr off data) s = .next (stamp (c.fallowBlock n p off data)))) ∧
  (∀ (n : Nat) (s : State), s.fallowPush = true →
    (s.loft.upd.session0 = some n → 0 < (s.slot n).len → (s.slot n).complete = true → s.endOffer.canStand n = true → exec .fallowPushCommit s = .next
      ((s.endOffer.commitSlot n (hashOf (s.slot n).bytes) true).modUpd fun u => { u with fallowCommit := some s.endOffer.now, pushSession := false })) ∧
    (s.fab.fab.pushRecvTime + 20000000 ≤ s.now → exec .fallowPushStall s = .next s.endOffer)) ∧
  (∀ (t : Nat) (s : State), s.loft.upd.fallowCommit = some t → t + 10000000 ≤ s.now → exec .fallowResetExpiry s = .next
    ((List.range 2).foldl (fun u b => if (u.bay b).bstate = .fallow then u.resetBay b else u) (s.modUpd fun u => { u with fallowCommit := none })))

/-- With the trim held, a burn raises the fuse counter by one; the burn that reaches the requested value also varnishes the slot that waits
for it and completes its command. A bay that runs the field image U and neither stands by nor owns 10 s after its release has U refused.
Every 10 s the serving bay's accelerometer is read, and a deviation above 300 mg sets the time of the last movement. A Loft die that
stops answering is noted, with the event and the record, once. -/
def Obligations.ImageRows : Prop :=
  (∀ s : State, s.sys.trimValid = true → s.boot.fuse.counter < s.boot.fuse.burnTo →
    let t := ((s.modFuse fun f => { f with counter := f.counter + 1 }).showMeasures 0).showMeasures 1;
    (s.boot.fuse.counter + 1 < s.boot.fuse.burnTo → exec .fuseCounterBurn s = .next t) ∧
    (∀ n, s.boot.fuse.burnTo = s.boot.fuse.counter + 1 → s.boot.fuse.burnSlot = some n → exec .fuseCounterBurn s = .next
      (((t.varnish n).modFuse fun f => { f with burnSlot := none, burnJseq := 0 }).completeIf s.boot.fuse.burnJseq 0 []))) ∧
  (∀ (bay t n : Nat) (s : State), (s.bay bay).releasedAt = some t → (s.bay bay).runsSlot = some n → s.slotU = some n → t + 10000000000 ≤ s.now →
    (s.bay bay).bstate ≠ .standby → (s.bay bay).bstate ≠ .owner → exec (.standbyLimitExpiry bay) s = .next ((s.refuseSlot n bay 0).shedRefused)) ∧
  (∀ (dev : Nat) (s : State), s.serving.isSome = true → s.loft.upd.accel.isSome = true → (∀ t, s.loft.upd.accelTime = some t → t + 10000000 ≤ s.now) →
    exec (.accelerometerRead dev) s = .next (s.modUpd fun u => { u with accelTime := some s.now, moveTime := if 300 < dev then some s.now else u.moveTime })) ∧
  (∀ s : State, (s.loft.die.lost0 = false → exec (.loftDieLost 0) s = .next ((s.modDie fun d => { d with lost0 := true }).raiseAndRecord 0 0x0004 [(1, 0)])) ∧
    (s.loft.die.lost1 = false → exec (.loftDieLost 1) s = .next ((s.modDie fun d => { d with lost1 := true }).raiseAndRecord 0 0x0004 [(1, 1)])) ∧
    (s.loft.die.lost0 = true → exec (.loftDieLost 0) s = .next s))

/-- At its start the keeper writes its start record, with the count of torn slots, after the newest record it finds. Each write takes the
oldest queued record to both dies under the next ASEQ, and writes a records-dropped record before it where records were dropped. A full
queue of 256 drops its new record and counts it. The collapse sets the flag once, and writes the energies and, during a shutdown for
input loss, its record. The end of the hold-up stops the keeper: with nothing queued the last stop was orderly, else the head record is
cut and the queue is lost. -/
def Obligations.AlmanacRows : Prop :=
  (∀ s : State, s.alm.started = true → s.sys.keeperStopped = false → s.sys.resetPending = false →
    (∀ r q, s.alm.queue = r :: q → s.alm.dropped = 0 → s.loft.die.lost0 = false → s.loft.die.lost1 = false →
      let w := { r with aseq := s.alm.nextAseq, single := false, holdup := r.holdup || s.sys.collapsed };
      exec .almanacWrite s = .next (s.modAlm fun a => { a with
        queue := q, die0 := tset (eraseFor a.die0 a.nextAseq) (a.nextAseq % almSlots) w, die1 := tset (eraseFor a.die1 a.nextAseq) (a.nextAseq % almSlots) w
        memory := (w :: a.memory).take almMemory, nextAseq := a.nextAseq + 1 })) ∧
    (∀ r q, s.alm.queue = r :: q → s.alm.dropped ≠ 0 → exec .almanacWrite s = .next (
      let t := (s.writeRecord (s.ownRecord 0x8A02 [(4, s.alm.dropped)])).modAlm fun a => { a with dropped := 0 };
      (t.modAlm fun a => { a with queue := q }).writeRecord r)) ∧
    (s.alm.queue = [] → exec .almanacWrite s = .next s)) ∧
  (∀ (source code : Nat) (payload : List (BitVec 8)) (s : State), 256 ≤ s.alm.queue.length →
    exec (.almanacDrop source code payload) s = .next (s.almanac source code (payload.map fun b => (1, b.toNat)))) ∧
  (∀ s : State, s.alm.started = false → s.sys.trimValid = true → s.alm.die0 = [] → s.alm.die1 = [] → exec .keeperStart s = .next (
      let t := s.modAlm fun a => { a with nextAseq := 1, started := true, torn := tornSlots [] [] };
      t.writeRecord (t.ownRecord 0x8A01 [(1, bit s.alm.prevOnHoldup), (4, tornSlots [] [])]))) ∧
  (∀ s : State, s.sys.collapsed = false → s.sys.suppliesValid = true →
    (s.loftLost = true → s.rail.seq.kind ≠ .inputLoss → exec .holdupCollapse s = .next (s.modSys fun p => { p with collapsed := true })) ∧
    (s.loftLost = false → s.rail.seq.kind ≠ .inputLoss → (((s.modSys fun p => { p with collapsed := true }).modUpd fun u =>
        { u with loftEpoch := s.own.latch.epoch }).writeEnergy).rail.seq.kind ≠ .inputLoss → exec .holdupCollapse s =
      .next (((s.modSys fun p => { p with collapsed := true }).modUpd fun u => { u with loftEpoch := s.own.latch.epoch }).writeEnergy))) ∧
  (∀ s : State, s.sys.collapsed = true → s.sys.keeperStopped = false →
    let t := s.modSys fun p => { p with keeperStopped := true, holdup := 0 };
    (s.alm.queue = [] → exec .holdupExhausted s = .next (t.modAlm fun a => { a with prevOnHoldup := true })) ∧
    (∀ r q, s.alm.queue = r :: q → s.loft.die.lost0 = false → exec .holdupExhausted s = .next (t.modAlm fun a => { a with
      prevOnHoldup := false, queue := [], die0 := tset (eraseFor a.die0 a.nextAseq) (a.nextAseq % almSlots) { r with torn := true } })))

/-- A counter frame with a bad CRC or on a lane that is not its slot's is counted or raised and discarded; a valid newer one trains the
lane, becomes the bay's view and says what R30, R84 and R88 name. READ_PIN adds the decoded inputs to both bays' sums, the last value
standing for one not read. The pass of each millisecond fuses every started slot. The window evaluates and asks for each started slot,
allocates, judges the shortfall at the owner, and forms the frames. ESC_SAT in SATURATE goes to SHED; SHED_WAIT in SHED picks the slot
to park, or reports the cap unreachable, which is repeated every 100 ms. -/
def Obligations.GovernorRows : Prop :=
  (∀ (bay stalk : Nat) (f : CounterFrame) (s : State), (s.bay bay).alive = true → (s.lane stalk bay).lstate ≠ .down →
    (f.crc ≠ counterCrc f → exec (.counterFrame bay stalk f) s =
      .next (s.modLane stalk bay fun l => { l with crcErr := satAdd 32 l.crcErr 1, goodFrames := 0 })) ∧
    (f.crc = counterCrc f → f.slot ≠ stalk → exec (.counterFrame bay stalk f) s =
      .next ((s.modLane stalk bay fun l => { l with goodFrames := 0 }).raise 0x0101 [(1, stalk), (1, f.slot)])) ∧
    (f.crc = counterCrc f → f.slot = stalk →
      (f.wseq ≠ 0 → (∃ w, ((s.trainLane stalk bay).lane stalk bay).lastWseq = some w ∧ wsAbove f.wseq w = false) →
        exec (.counterFrame bay stalk f) s = .next (s.trainLane stalk bay)) ∧
      (f.wseq = 0 ∨ ((s.trainLane stalk bay).lane stalk bay).lastWseq = none ∨
          (∃ w, ((s.trainLane stalk bay).lane stalk bay).lastWseq = some w ∧ wsAbove f.wseq w = true) →
        exec (.counterFrame bay stalk f) s = .next (
          let t := (s.trainLane stalk bay).modLane stalk bay fun l => { l with lastWseq := some f.wseq };
          (t.modView stalk bay fun v => v.place f t.now).frameSays bay stalk f)))) ∧
  (∀ (slot : Nat) (words : List (Option (BitVec 16 × Bool))) (s : State), s.serving.isSome = true → slot < 8 → exec (.readPin slot words) s =
    .next ((List.range 2).foldl (fun s bay => s.modGovSlot bay slot fun g =>
      let vals := words.zipIdx.map fun w => match w.1.bind fun x => pmbusValue x.1 x.2 with | some v => v | none => g.lastPin.getD w.2 0;
      { g with lastPin := vals, pmbusSum := g.pmbusSum + ratSum vals / 1000 }) s)) ∧
  (∀ (bay : Nat) (s : State), s.runs bay = true → s.sys.dormant = false →
    (tget s.gov.passTime bay 0 + 1000000 ≤ s.now → exec (.fusionPass bay) s = .next (
      (List.range 8).foldl (fun s n =>
        let t := if (s.govSlot bay n).started && !s.parked n then s.fuseSlot bay n
          else s.modGovSlot bay n fun g => { g with eSum := 0, pmbusSum := 0, branchSum := (s.branch n).energy };
        let d := (t.chg bay n).droops;
        let t := if t.isOwner bay && decide ((t.govParam n).droopStorm < d) then t.raise 0x010C [(1, n), (4, d)] else t;
        t.modChg bay n fun c => { c with droops := 0 }) (s.modGov fun g => { g with passTime := tset g.passTime bay s.now }))) ∧
    exec (.governorWindow bay) s = .next (
      let ns := (List.range 8).filter fun n => (s.gridStep.govSlot bay n).started && s.gridStep.branchOn n;
      let t := (ns.foldl (fun s n => (s.evaluate bay n).wants bay n) s.gridStep).allocateTray bay;
      let t := if t.isOwner bay && decide (t.grid.state ≠ .parkFuses) then t.judgeShortfall bay else t;
      let t := ns.foldl (fun s n => s.formFrame bay n) t;
      let t := t.modGov fun g => { g with windowDone := tset g.windowDone bay t.dwn };
      if t.isOwner bay then t.escalationPark else t)) ∧
  (∀ (b : Nat) (s : State), s.serving = some b →
    (s.recordDue = true → exec .governorRecord s = .next ((List.range 8).foldl (fun s n => s.telemetry 0 (s.govRecord b n)) s)) ∧
    (s.gov.esc.state = .saturate → s.gov.esc.since + s.gov.tray.escSat * 1000 ≤ s.now → exec .escSatExpiry s =
      .next ((s.modEsc fun e => { e with state := .shed, since := s.now }).raise 0x0107 [(1, s.gov.esc.slots), (4, watts s.gov.esc.shortfall)])) ∧
    (s.gov.esc.state = .shed → s.gov.esc.since + s.gov.tray.shedWait * 1000 ≤ s.now → 0 < s.gov.esc.shortfall →
      (∀ n, s.parkChoice b = some n → exec .shedWaitExpiry s = .next (
        ((s.modEsc fun e => { e with state := .parking, since := s.now, parkSlot := n, noticeTime := s.now, ackPark := setBit e.ackPark n false }).setQuiesce
          n true).raise 0x0108 [(1, 2 ^ n), (1, 0)])) ∧
      (s.parkChoice b = none → exec .shedWaitExpiry s = .next ((s.modEsc fun e => { e with state := .unreachable, since := s.now }).reportUnreachable))) ∧
    (s.gov.esc.state = .parking → s.gov.esc.noticeTime + s.gov.tray.parkWait * 1000 ≤ s.now → exec .parkWaitExpiry s = .next s.escalationPark) ∧
    (s.gov.esc.state = .unreachable → s.gov.esc.unreachTime + 100000000 ≤ s.now → exec .unreachableRepeat s = .next s.reportUnreachable))

/-- IDLE with the use low, or at its limit, for OPDN_T or OPUP_T picks the next lower point, or the next higher that is not forbidden. A
step not answered in OPC_TIMEOUT halts the change, with an event of the owner. After DROOP_RESUME with no burst, a frozen change, or one
halted by bursts, sends RESUME. Each owner reading of a slot's margins goes to its points, those below critical forbidding them. A bay's
reading below critical starts a handover where the other bay is ready. Each 24 hours a point's trim is evaluated: its lowest margin
clears, and a trim that moves is journalled and recorded. -/
def Obligations.OperatingPointRows : Prop :=
  (∀ (bay slot t : Nat) (s : State), s.runs bay = true → (s.chg bay slot).cst = .idle →
    ((s.chg bay slot).highSince = some t → 0 < (s.chg bay slot).fIndex → t + (s.govParam slot).opdnT * 1000 ≤ s.now →
      exec (.opdnExpiry bay slot) s = .next (s.pickTarget bay slot ((s.chg bay slot).fIndex - 1))) ∧
    ((s.chg bay slot).zeroSince = some t → (s.chg bay slot).fIndex + 1 < (s.opPoints slot).length →
      (s.trimOf slot ((s.chg bay slot).fIndex + 1)).forbidden = false → t + (s.govParam slot).opupT * 1000 ≤ s.now →
      exec (.opupExpiry bay slot) s = .next (s.pickTarget bay slot ((s.chg bay slot).fIndex + 1)))) ∧
  (∀ (bay slot : Nat) (s : State), s.runs bay = true →
    let c := s.chg bay slot;
    let t := s.modChg bay slot fun c => { c with cst := .halted, target := none, trimDue := false, holdFrames := false, sendResume := false };
    (c.cst = .stepping → c.stepNew = false → c.stepTime + (s.govParam slot).opcTimeout * 1000 ≤ s.now →
      (t.isOwner bay = true → exec (.opcTimeout bay slot) s = .next (t.raise 0x010B [(1, slot), (1, c.stepPoint), (1, if c.stepVolt then 1 else 2)])) ∧
      (t.isOwner bay = false → exec (.opcTimeout bay slot) s = .next t)) ∧
    (c.cst = .resuming → c.resumeTime + (s.govParam slot).opcTimeout * 1000 ≤ s.now → t.isOwner bay = true →
      exec (.opcTimeout bay slot) s = .next (t.raise 0x010B [(1, slot), (1, c.stepPoint), (1, 4)])) ∧
    (∀ b, c.lastBurst = some b → c.cst = .frozen ∨ (c.cst = .halted ∧ c.holdFrames = true) → b + (s.govParam slot).droopResume * 1000 ≤ s.now →
      exec (.droopResumeExpiry bay slot) s = .next (s.modChg bay slot fun c => { c with sendResume := true }))) ∧
  (∀ (slot : Nat) (ms : List Int) (s : State), s.serving.isSome = true → s.branchOn slot = true → (s.calSlot slot).marginPort.isSome = true →
    exec (.ageingRead slot ms) s = .next ((ms.take 32).zipIdx.foldl (fun s x => s.marginRead slot x.2 x.1) s)) ∧
  (∀ (who p : Nat) (m : Int) (s : State), m ≠ noMargin → 0 < p → who < 8 → m * 5 < (s.marginParam who).crit → (s.trimOf who p).lowest = none →
    s.marginRead who p m = (List.range 2).foldl (fun s bay => if s.runs bay && (s.chg bay who).fIndex = p then s.pickTarget bay who (p - 1) else s)
      (((s.modTrimOf who p fun t => { t with lowest := lowerMargin none m }).raise 0x010D [(1, who), (1, p), (4, twos 32 (m * 5))]).modTrimOf who p fun t =>
        { t with forbidden := true })) ∧
  (∀ (bay : Nat) (m : Int) (s : State), s.runs bay = true → s.serving.isSome = true → s.isOwner bay = true → m ≠ noMargin →
    let t := (s.modBay bay fun b => { b with margin := some m, marginSeen := true }).marginRead (0x10 + bay) 0 m;
    t.isOwner bay = true →
    ((t.marginParam (0x10 + bay)).crit ≤ m * 5 → exec (.bayAgeingRead bay m) s = .next t) ∧
    (∀ m', m * 5 < (t.marginParam (0x10 + bay)).crit → (t.bay (peer bay)).marginSeen = true → (t.bay (peer bay)).margin = some m' →
      (t.marginParam (0x10 + peer bay)).tgt ≤ m' * 5 → exec (.bayAgeingRead bay m) s = .next (t.startHandover 0 none))) ∧
  (∀ (slot p : Nat) (s : State), s.serving.isSome = true → slot < 8 → p < (s.opPoints slot).length → (s.trimOf slot p).evalTime + 86400000000000 ≤ s.now →
    let x := s.trimOf slot p;
    let good := match x.lowest with | some l => decide ((s.marginParam slot).tgt ≤ l * 5) | none => false;
    let t := s.modTrimOf slot p fun t => { t with evalTime := s.now, lowest := none, forbidden := t.forbidden && !good };
    (s.evaluated slot p = x.trim → exec (.trimEvaluation slot p) s = .next t) ∧
    (s.evaluated slot p ≠ x.trim → exec (.trimEvaluation slot p) s = .next ((t.journalChange (.trim slot p (s.evaluated slot p))).almanac
      (baySource t.formingBay) 0x8102 [(1, slot), (1, p), (4, twos 32 (25 * x.trim)), (4, twos 32 (25 * s.evaluated slot p)), (4, twos 32 (x.lowest.getD 0 * 5))])))

/-- An obeyed df later than the last is taken for the next window, or kept where no bay serves. After FREQ_STALE with no df while a curve is
set, f_r holds, with event and record. Each window with children builds the share table. A child's report older than REPORT_STALE is
stale. PARK_DELAY's end sets QUIESCE on every slot not parked, sends the notice and enters PARK_FUSES, which opens the fuses from the
highest slot, once quiet, answered for and spaced by PFLOOR / SLOPE. UNPARK_DELAY's end starts the rails; with the rails up the tray
follows from its present draw. -/
def Obligations.GridRows : Prop :=
  (∀ (df : Int) (issue arrival : Nat) (s : State), s.source.obeys true = true → s.dfLater issue = true →
    (s.serving.isSome = true → exec (.frequencyFrame df issue arrival) s =
      .next (s.modGrid fun g => { g with dfNext := some (df, issue, arrival), dfTime := s.now, freqHold := false })) ∧
    (s.serving = none → s.grid.heldDf = none → exec (.frequencyFrame df issue arrival) s = .next (s.modGrid fun g => { g with heldDf := some (df, issue) }))) ∧
  (∀ (df : Int) (issue arrival : Nat) (s : State), s.source.obeys true = false ∨ s.dfLater issue = false → exec (.frequencyFrame df issue arrival) s = .next s) ∧
  (∀ s : State, s.serving.isSome = true →
    (s.grid.curve ≠ [] → s.source ≠ .none → s.grid.freqHold = false → max s.grid.curveFrom s.grid.dfTime + s.grid.freqStale * 1000 ≤ s.now →
      exec .freqStaleExpiry s = .next ((s.modGrid fun g => { g with freqHold := true }).raiseAndRecord (baySource (s.owner.getD 0)) 0x0201
        [(4, (BitVec.ofInt 32 (s.grid.df.getD 0)).toNat)])) ∧
    (s.grid.children ≠ [] → exec .shareTableBuild s = .next (s.modGrid fun g => { g with
      shares := shareTable s.shareParties, groupHeadroom := match g.lastGroup with | some a => a - s.groupReport.1 | none => 0 })) ∧
    (s.recordDue = true → exec .gridRecord s = .next (s.telemetry 1 s.gridRecord)) ∧
    (s.grid.state = .parkDelay → s.grid.delayEnd ≤ s.now → exec .parkDelayExpiry s = .next (
      let slots := (List.range 8).filter fun n => !s.parked n;
      let t := slots.foldl (fun s n => (s.modGovSlot 0 n fun g => { g with quiesce := true }).modGovSlot 1 n fun g => { g with quiesce := true }) s;
      let t := t.modEsc fun e => { e with state := .none, slots := 0, capUnreach := false, ackPark := 0, noticeTime := t.now };
      let t := t.modGrid fun g => { g with lastOpenSlot := none };
      ((t.raise 0x0108 [(1, slots.foldl (fun m n => m + 2 ^ n) 0), (1, 1)]).setGstate .parkFuses).parkSettled)) ∧
    (∀ n, s.grid.state = .parkFuses → ((List.range 8).reverse.find? fun n => s.branchOn n) = some n → s.quiet n = true → s.parkAnswered n = true →
      s.own.latch.hold = false →
      (∀ i, s.grid.lastOpenSlot = some i → s.grid.lastOpen * s.grid.parkSlope + (s.govParam i).pfloor * 1000000 ≤ s.now * s.grid.parkSlope) →
      exec .parkFuseOpen s = .next ((((s.modEsc fun e => { e with gridParked := setBit e.gridParked n true }).modGrid fun g =>
        { g with lastOpen := s.now, lastOpenSlot := some n }).commandOpen n).parkSettled)) ∧
    (s.grid.state = .unparking → s.rail.seq.kind = .idle → exec .unparkRailsUp s = .next
      ((s.modGrid fun g => { g with tR := s.trayDraw, p := s.trayDraw, closeNext := some 0, closeBase := s.trayDraw }).setGstate .following))) ∧
  (∀ s : State, s.grid.state = .unparkDelay → s.grid.delayEnd ≤ s.now →
    (s.sys.dormant = false → exec .unparkDelayExpiry s = .next (((s.startUp s.usedRails 0).setGstate .unparking).railRun)) ∧
    (s.sys.dormant = true → exec .unparkDelayExpiry s = .next (
      let t := s.modSys fun p => { p with wakePending := true };
      ((t.startUp t.usedRails 0).setGstate .unparking).railRun))) ∧
  (∀ (p : Nat) (c : Child) (s : State), tfind s.grid.children p = some c → c.stale = false → c.time + s.grid.reportStale * 1000 ≤ s.now →
    exec (.reportStaleExpiry p) s = .next (s.modGrid fun g => { g with children := tset g.children p { c with stale := true } }))

/-- A command frame with a bad CRC counts in CF_BAD; a good one of this slot, of an epoch not below EPOCH_SEEN, with a newer CSEQ, has its
grants taken and its density, safe density, ballast floor, lease and quiesce kept. A burst frame freezes the step and sets BURST_DENS
until its end. Block 0 starts a push and the next block in order continues it. A lease of 500 us lapses with its effective density and
drops speculative grants. Each window the draw follows demand or ballast under the rise in use, the counter frame goes out, and WSEQ
rises by one. A completed step takes effect; the verification sets PUSH_ST; reset leaves the values of R33. -/
def Obligations.AcceleratorRows : Prop :=
  (∀ (slot : Nat) (f : CommandFrame) (s : State), (s.accel slot).powered = true →
    let a := s.accel slot;
    (f.crc ≠ commandCrc f → exec (.acceptCommandFrame slot f) s = .next (s.modAccel slot fun _ => { a with cfBad := satAdd 8 a.cfBad 1 })) ∧
    (f.crc = commandCrc f → f.slot ≠ slot ∨ f.epoch.toNat < a.epochSeen.toNat → exec (.acceptCommandFrame slot f) s = .next (s.modAccel slot fun _ => a)) ∧
    (f.crc = commandCrc f → f.slot = slot → a.epochSeen.toNat ≤ f.epoch.toNat →
      let b := a.newOwner f.epoch;
      (seqOk b.lastCseq f.cseq = false → exec (.acceptCommandFrame slot f) s = .next (s.modAccel slot fun _ => a)) ∧
      (seqOk b.lastCseq f.cseq = true → exec (.acceptCommandFrame slot f) s = .next (s.modAccel slot fun _ =>
        s.takeOpc slot { b.takeGrants f with
          lastCseq := some f.cseq, density := min f.density 240, safeDensity := min f.safeDensity 240, ballastFloor := f.ballastW
          acceptedThisWindow := true, leaseTime := s.now, lapsed := false, quiesce := f.quiesce, quiesced := b.quiesced && f.quiesce } f)))) ∧
  (∀ (slot : Nat) (f : BurstFrame) (s : State), (s.accel slot).takes slot f.slot f.epoch = true → f.crc = burstCrc f →
    let b := (s.accel slot).newOwner f.epoch;
    seqOk b.lastBseq f.bseq = true → exec (.acceptBurstFrame slot f) s = .next (s.modAccel slot fun _ =>
      { b with opcFrozen := true, lastBseq := some f.bseq, burstDens := some (min f.dens 240), burstEnd := s.now + f.len * 250 })) ∧
  (∀ (slot : Nat) (x : PushBlock) (s : State), (s.accel slot).takes slot x.slot x.epoch = true → x.crc = blockCrc x →
    let a := s.accel slot;
    (x.first = true → x.block = 0 → a.pushSt ≠ 2 → exec (.acceptPushBlock slot x) s = .next (s.modAccel slot fun _ =>
      { a.newOwner x.epoch with pushSt := 1, pushNext := 1, pushLast := x.last })) ∧
    (x.first = false → x.block = a.pushNext → exec (.acceptPushBlock slot x) s = .next (s.modAccel slot fun _ =>
      { a.newOwner x.epoch with pushNext := a.pushNext + 1, pushSt := if a.pushSt = 0 then 1 else a.pushSt, pushLast := a.pushLast || x.last })) ∧
    (x.first = false → x.block ≠ a.pushNext → exec (.acceptPushBlock slot x) s = .next (s.modAccel slot fun _ => a))) ∧
  (∀ (slot : Nat) (sense : AccelSense) (ok : Bool) (s : State), (s.accel slot).powered = true →
    let a := s.accel slot;
    (a.lapsed = false → a.leaseTime + 500000 ≤ s.now → exec (.leaseLapse slot) s = .next (s.modAccel slot fun _ =>
      { a.dropSpeculative with lapseDensity := a.effective, lapsed := true })) ∧
    (a.lapsed = false → exec (.acceleratorWindow slot sense) s = .next (
      let draw := min (max sense.demand (if sense.ballastOn then a.ballastFloor else 0)) (a.draw + a.riseNow);
      let b := if a.acceptedThisWindow then a else a.decay;
      (s.modAccel slot fun _ => Accel.pruneGrants { b with
        draw := draw, ballastOn := sense.ballastOn, droop := sense.droop, acceptedThisWindow := false
        wseq := wsAdd a.wseq 1, tslice := (a.tslice + 1) % 8, lapseDensity := b.lapseDensity }).emit (.counter (a.frame slot s.now sense)))) ∧
    (a.burstDens.isSome = true → a.burstEnd ≤ s.now → exec (.burstEnd slot) s = .next (s.modAccel slot fun _ => { a with burstDens := none })) ∧
    (exec (.acceleratorReset slot) s = .next (s.modAccel slot fun _ => { powered := true, safeDensity := 240, lapseDensity := 240, density := 240 })) ∧
    (a.opcBusy = true → a.opcFrozen = false → a.lapsed = false →
      exec (.acceleratorStepComplete slot) s = .next (s.modAccel slot fun _ => s.finishStep slot a)) ∧
    (a.quiesce = true → exec (.acceleratorQuiesced slot) s = .next (s.modAccel slot fun _ => { a with quiesced := true })) ∧
    (a.pushLast = true → a.pushSt = 1 → exec (.firmwareVerifyDone slot ok) s = .next (s.modAccel slot fun _ =>
      { a with pushSt := if ok then 2 else 3, fwReady := ok, pushLast := false })))

/-- Signal takes a DOWN lane of a bay that runs to TRAIN. 100 us in TRAIN without block lock is a failed attempt, the tenth in a row reports
the lane failed, and after 10 ms it tries once more. A lane UP with no valid frame for the windows of R42 goes back to TRAIN and is
reported, and loss of signal takes it DOWN. An owner with fewer lanes UP than the standby for 16 us starts a handover. A push not
verified 100 ms after block 0 restarts, and its third failure ends it with the event. -/
def Obligations.LaneRows : Prop :=
  (∀ (bay slot : Nat) (s : State), (s.bay bay).alive = true →
    let l := s.lane slot bay;
    (l.lstate = .down → exec (.laneSignalDetected bay slot) s = .next (s.modLane slot bay fun l =>
      { l with lstate := .train, trainStart := s.now, blockLock := false, goodFrames := 0 })) ∧
    (l.lstate = .train → l.blockLock = false →
      (l.failedAttempts < 9 → l.trainStart + 100000 ≤ s.now → exec (.laneTrainTimeout bay slot) s = .next (s.modLane slot bay fun l =>
        { l with failedAttempts := l.failedAttempts + 1, trainStart := s.now, failed := l.failed || 9 ≤ l.failedAttempts })) ∧
      (l.failedAttempts = 9 → l.failed = false → l.trainStart + 100000 ≤ s.now → exec (.laneTrainTimeout bay slot) s = .next ((s.modLane slot bay fun l =>
        { l with failedAttempts := l.failedAttempts + 1, trainStart := s.now, failed := l.failed || 9 ≤ l.failedAttempts }).reportLane slot bay 2)) ∧
      (10 ≤ l.failedAttempts → l.trainStart + 10000000 ≤ s.now → exec (.laneRetry bay slot) s = .next (s.modLane slot bay fun l =>
        { l with failedAttempts := 9, trainStart := s.now }))) ∧
    (l.lstate = .up → (l.lastValid + s.sys.timeBase).toNat / 2000 + 5 ≤ s.dwn → exec (.laneLost bay slot) s = .next
      (((s.modLane slot bay fun l => { l with lstate := .train, trainStart := s.now, blockLock := false, goodFrames := 0 }).reportLane slot bay 1).noteLanes)) ∧
    (l.lstate ≠ .down → exec (.laneLossOfSignal bay slot) s = .next (((s.modLane slot bay fun l =>
      { l with lstate := .down, blockLock := false, goodFrames := 0, failedAttempts := 0, failed := false }).reportLane slot bay 1).noteLanes))) ∧
  (∀ (b t : Nat) (s : State), s.serving = some b → (s.bay (peer b)).bstate = .standby → s.lanesUp b < s.lanesUp (peer b) → (s.bay b).fewLanes = some t →
    t + 16000 ≤ s.now → exec .laneCountYield s = .next (s.startHandover 0 none)) ∧
  (∀ (slot : Nat) (s : State), s.serving.isSome = true → (s.pushJob slot).active = true → 0 < (s.pushJob slot).nextBlock →
    (s.pushJob slot).startTime + 100000000 ≤ s.now →
    ((s.pushJob slot).attempts < 2 → exec (.pushRestartTimeout slot) s = .next (s.modPushJob slot fun p =>
      { p with attempts := p.attempts + 1, nextBlock := 0, startTime := s.now })) ∧
    (2 ≤ (s.pushJob slot).attempts → exec (.pushRestartTimeout slot) s = .next (
      let t := (s.modPushJob slot fun p => { p with attempts := 3, active := false }).raise 0x0103 [(1, slot), (1, 3)];
      if (t.slot (s.pushJob slot).imageSlot).state = 2 ∨ (t.slot (s.pushJob slot).imageSlot).state = 3 then
        (t.setSlot (s.pushJob slot).imageSlot 7).startPush slot else t)))

/-- TWI queues the descriptor at rs1, and the hand waits for the result with the next TSEQ; an invalid descriptor, a disabled port or a
stuck bus completes it at once with 0x08, 0x06 or 0x07, and a full queue leaves the hand where it is. On a free bus the engine takes up
the next descriptor, or the active one again. A result ends it with its status, its count and the bytes read; lost arbitration tries
again up to four attempts, then ends it with 0x03; TOUT ends it with 0x04. A bus that its pulses do not clear is stuck: all end with
0x07 and the event is raised. A try each second recovers it. A descriptor for the port's own page is served within the keeper. -/
def Obligations.TwoWireRows : Prop :=
  (∀ (bay hand rd rs1 : Nat) (imm : BitVec 18) (s : State), s.issues bay hand = true →
    let h := s.hand bay hand;
    let a := (h.reg rs1).toNat;
    let g := s.granary bay;
    let d0 := twDescAt (memRead g.mem a 16);
    let d := { d0 with
      issuer := .hand bay hand, tag := (h.tseq + 1).toNat, wdata := memRead g.mem d0.buf d0.wlen
      ownPage := d0.addr = (s.twPort d0.port).target && d0.addr ≠ 0 };
    let waits := s.modHand bay hand fun h => { h with tseq := h.tseq + 1, pc := h.pc + 4, state := .wait, wait := some (.twoWire rd d0.buf s.now) };
    h.accessOk hand a 8 = true → h.accessOk hand (a + 8) 8 = true → g.poisoned a = false → g.poisoned (a + 8) = false → s.isOwner bay = true ∨ h.shadow = false →
    (d.invalid = true → exec (.twi bay hand rd rs1 imm) s = .next (waits.completeTwi bay hand rd d0.buf (twiWord 0x08 0 d.tag) [])) ∧
    (d.invalid = false → (s.twPort d.port).enable = false →
      exec (.twi bay hand rd rs1 imm) s = .next (waits.completeTwi bay hand rd d0.buf (twiWord 0x06 0 d.tag) [])) ∧
    (d.invalid = false → (s.twPort d.port).enable = true →
      ((s.twPort d.port).stuck = true → d.ownPage = false →
        exec (.twi bay hand rd rs1 imm) s = .next (waits.completeTwi bay hand rd d0.buf (twiWord 0x07 0 d.tag) [])) ∧
      ((s.twPort d.port).stuck = false → 64 ≤ (s.twPort d.port).queued → exec (.twi bay hand rd rs1 imm) s = .next s) ∧
      ((s.twPort d.port).stuck = false → (s.twPort d.port).queued < 64 →
        exec (.twi bay hand rd rs1 imm) s = .next (waits.modTwPort d.port fun p => p.enqueue d)))) ∧
  (∀ (bay hand rd buf since : Nat) (s : State), (s.hand bay hand).state = .wait → (s.hand bay hand).wait = some (.twoWire rd buf since) →
    (s.hand bay hand).shadow = true → s.isOwner bay = false → since + 10000000 ≤ s.now →
    exec (.shadowResultTimeout bay hand) s = .next (s.resyncHand bay hand)) ∧
  (∀ (port : Nat) (s : State), (s.twPort port).started = false → (s.twPort port).busTarget = false → (s.twPort port).pendingCfg = none →
    (s.twPort port).enable = true → (s.twPort port).stuck = false → s.sys.trimValid = true →
    (∀ d, (s.twPort port).active = some d → exec (.twiDescriptorStart port) s =
      .next ((s.modTwPort port fun p => { p with started := true, attempts := p.attempts + 1 }).emit (.twoWire port d))) ∧
    (∀ d p, (s.twPort port).active = none → (s.twPort port).pick = some (d, p) → exec (.twiDescriptorStart port) s =
      .next ((s.modTwPort port fun _ => { p.admitWaiting with active := some d, started := true, attempts := 1, startTime := s.now }).emit (.twoWire port d)))) ∧
  (∀ (port status count : Nat) (data : List (BitVec 8)) (d : TwDesc) (s : State), (s.twPort port).active = some d →
    ((s.twPort port).started = true →
      ((s.twPort port).attempts < 4 → exec (.twiResult port status true count data) s = .next (s.modTwPort port fun p => { p with started := false })) ∧
      (4 ≤ (s.twPort port).attempts → exec (.twiResult port status true count data) s = .next (s.twEnd port 0x03 count [])) ∧
      (status ≠ 0 → exec (.twiResult port status false count data) s = .next (s.twEnd port status count [])) ∧
      (exec (.twiResult port 0 false count data) s = .next (
        let r := d.result data; s.twEnd port r.1 (d.wlen + r.2.length) (if r.1 = 0 || d.block then r.2 else [])))) ∧
    ((s.twPort port).startTime + d.timeout ≤ s.now → exec (.toutExpiry port) s = .next (s.twEnd port 0x04 0 []))) ∧
  (∀ (port : Nat) (s : State),
    ((s.twPort port).stuck = false → (s.twPort port).enable = true →
      exec (.busStuck port true) s = .next (s.modTwPort port fun p => { p with started := false }) ∧
      exec (.busStuck port false) s = .next (((s.modTwPort port fun p => { p with stuck := true, stuckTime := s.now }).twFlush port 0x07 true).raise
        0x0B02 [(1, port)])) ∧
    ((s.twPort port).stuck = true → (s.twPort port).stuckTime + 1000000000 ≤ s.now →
      exec (.busRecoveryRetry port true) s = .next (s.modTwPort port fun p => { p with stuck := false }) ∧
      exec (.busRecoveryRetry port false) s = .next (s.modTwPort port fun p => { p with stuckTime := s.now })) ∧
    (∀ d p, (s.twPort port).busTarget = false → (s.twPort port).enable = true → (s.twPort port).pickLocal = some (d, p) →
      exec (.targetLocalAccess port) s = .next (
        let r := p.localAccess d; (s.modTwPort port fun _ => r.1.admitWaiting).twDeliver d 0 (d.wlen + r.2.length) r.2)))

/-- A write to the TARGET address sets the pointer by its first byte, stores the others that fall in 0x80 to 0xFB, counts the stored write
at 0xFC, keeps its start at 0xFD and signals the port's alert channel; a read returns the bytes from the pointer on. A hung transfer is
abandoned. Three bytes written to 0x08 are kept while one of 8 places is free and posted to the owner; another length has no effect. In
Dormant a match ends the matcher, and the TARGET address also asks the bays to wake; 100 ms after the last transaction the port goes
back to its matcher. -/
def Obligations.TwoWireTargetRows : Prop :=
  (∀ (port readLen : Nat) (data : List (BitVec 8)) (stop : Bool) (s : State), (s.twPort port).enable = true → (s.twPort port).target ≠ 0 →
    (s.twPort port).matcher = false →
    let p := s.twPort port;
    (exec (.targetTransfer port false data 0 stop) s = .next (s.modTwPort port fun p => { p with busPtr := p.busPtr % 256, lastTarget := s.now, busTarget := !stop })) ∧
    (0 < readLen → exec (.targetTransfer port false data readLen stop) s = .next ((s.modTwPort port fun p =>
      { p with busPtr := (p.busPtr + readLen) % 256, lastTarget := s.now, busTarget := !stop }).emit (.twoWireRead port (p.pageRead p.busPtr readLen)))) ∧
    (∀ ptr b, 0x80 ≤ BitVec.toNat ptr → BitVec.toNat ptr ≤ 0xFB → exec (.targetTransfer port true [ptr, b] 0 stop) s = .next (
      let page := setPage p.page ptr.toNat b;
      let q := { p with page := page, busPtr := (ptr.toNat + 1) % 256 };
      let page := setPage (setPage page 0xFC (q.pageByte 0xFC + 1)) 0xFD (BitVec.ofNat 8 ptr.toNat);
      (s.modTwPort port fun _ => { q with page := page, busPtr := q.busPtr % 256, lastTarget := s.now, busTarget := !stop }).signalChannel (0x94 + port))) ∧
    (∀ ptr b, BitVec.toNat ptr < 0x80 → exec (.targetTransfer port true [ptr, b] 0 stop) s = .next (
      s.modTwPort port fun _ => { p with
        page := setPage p.page 0xFE (BitVec.ofNat 8 (satAdd 8 (p.pageByte 0xFE).toNat 1)), busPtr := (ptr.toNat + 1) % 256 % 256
        lastTarget := s.now, busTarget := !stop }))) ∧
  (∀ (port : Nat) (s : State), (s.twPort port).busTarget = true → exec (.targetAbandon port) s = .next ((s.modTwPort port fun p => { p with busTarget := false }).twApplyCfg port)) ∧
  (∀ (port : Nat) (data : List (BitVec 8)) (s : State), (s.twPort port).enable = true → (s.twPort port).matcher = false →
    (data.length = 3 → (s.twPort port).notes.length < 8 → exec (.hostNotify port data) s = .next ((s.modTwPort port fun p =>
      { p with notes := p.notes ++ [((data.getD 0 0).toNat / 2, fieldAt data 1 2)], lastTarget := s.now }).postNotes port)) ∧
    (data.length ≠ 3 → exec (.hostNotify port data) s = .next s)) ∧
  (∀ (port : Nat) (s : State), s.sys.dormant = true → (s.twPort port).enable = true →
    ((s.twPort port).matcher = true →
      let t := s.modTwPort port fun p => { p with matcher := false, lastTarget := s.now };
      (exec (.dormantAddressMatch port 0x08) s = .next t) ∧
      (∀ addr, addr = (s.twPort port).target → addr ≠ 0 → addr ≠ 0x08 →
        exec (.dormantAddressMatch port addr) s = .next (t.modSys fun y => { y with wakePending := true }))) ∧
    ((s.twPort port).matcher = false → (s.twPort port).lastTarget + 100000000 ≤ s.now →
      exec (.matcherReturn port) s = .next (s.modTwPort port fun p => { p with matcher := true })))

/-- For hand 7 of bay 1: one word of each format and family of R183, its bits written out from the encoding table: ADD, MAX, ADDI with a
negative immediate, SRAI, LUI, LW, SD, AADD, ASWP, BLTU backwards, JAL, WAIT, EVB, SIG, TWI, LSEND with a reply, TSET, TIME, YIELD,
CKPT, HALT and SELF; then words that no instruction has: an R word with a reserved bit, LD to an odd register, a shift by 32, a WAIT for
no slot, and the first and the last unused op code. -/
def Obligations.BarnWordsDecode : Prop :=
  let d := decodeBarn 1 7
  d 0b000000_0011_0101_1001_00000000_000000 = some (.add 1 7 3 5 9) ∧
  d 0b000000_1111_0001_0010_00000000_001110 = some (.max 1 7 15 1 2) ∧
  d 0b000001_0001_0010_111111111111111111 = some (.addi 1 7 1 2 (-1)) ∧
  d 0b000111_0001_0010_0000000000000_11111 = some (.srai 1 7 1 2 31) ∧
  d 0b001001_0100_1000000000000000000001 = some (.lui 1 7 4 0x200001) ∧
  d 0b010000_0001_0010_000000000000001000 = some (.lw 1 7 1 2 8 .clean) ∧
  d 0b010101_0100_0010_000000000000010000 = some (.sd 1 7 4 2 16 .clean) ∧
  d 0b011000_0001_0010_0011_00000000000100 = some (.aadd 1 7 1 2 3 4 .clean) ∧
  d 0b011010_0001_0010_0011_11111111111100 = some (.aswp 1 7 1 2 3 0x3FFC .clean) ∧
  d 0b100100_0001_0010_111111111111111110 = some (.bltu 1 7 1 2 (-2)) ∧
  d 0b100110_1111_0000000000000000000100 = some (.jal 1 7 15 4) ∧
  d 0b110000_0001_0000_0000000000_01111111 = some (.wait 1 7 1 0 127) ∧
  d 0b110001_0000_0010_000000000000000_110 = some (.evb 1 7 0 2 6) ∧
  d 0b110010_0000_0010_000000000000000_001 = some (.sig 1 7 0 2 1) ∧
  d 0b110100_0001_0010_000000000000000000 = some (.twi 1 7 1 2 0) ∧
  d 0b110101_0001_0010_0011_00000000_000001 = some (.lsend 1 7 1 2 3 1) ∧
  d 0b111000_0000_0010_0000000000000000_10 = some (.tset 1 7 0 2 2) ∧
  d 0b111001_0100_0000_000000000000000000 = some (.time 1 7 4 0 0) ∧
  d 0b111010_0000_0000_00000000_1111111111 = some (.yieldHand 1 7 0 0 1023) ∧
  d 0b111100_0000_0000_00000000000000000_1 = some (.ckpt 1 7 0 0 1) ∧
  d 0b111101_0000_0000_000000000000000000 = some (.halt 1 7 0 0 0) ∧
  d 0b111110_0001_0000_00000000000000_0111 = some (.self 1 7 1 0 7) ∧
  d 0b000000_0011_0101_1001_00000001_000000 = none ∧
  d 0b010100_0101_0010_000000000000001000 = none ∧
  d 0b000101_0001_0010_000000000000_100000 = none ∧
  d 0b110000_0001_0000_0000000000_00000000 = none ∧
  d 0b001010_0000_0000_000000000000000000 = none ∧
  d 0b111111_0000_0000_000000000000000000 = none

/-- A 32-bit word that decodes, for any bay and hand, to an instruction is that instruction's encoding, so every bit of it is an operand, an
operation code or a reserved 0. And every well-formed instruction that has an encoding, with every register, immediate, offset, mask,
selector and function code its fields admit, decodes from it, for its own bay and hand, to itself, but for the operand that says whether
the word an access finds has a flipped bit, which no encoding carries. -/
def Obligations.BarnRoundTrip : Prop :=
  (∀ (bay hand : Nat) (w : Word32) (i : Instr), decodeBarn bay hand w = some i → encodeBarn i = some w) ∧
  (∀ (i : Instr) (w : Word32), wellFormed i = true → encodeBarn i = some w → ∃ bay hand, decodeBarn bay hand w = some (spelledBarn i))

/-- State.reset holds the defaults of the parameter tables: governor (R79) and operating point, droop and margin (R100) of every slot and
the tray, grid (R121), Easel (R148), hands (R193), Granary (R222), ownership (R245), fabric (R332), feeds and branches (R385), cooling
(R408), two-wire ports (R431), in the units of each field; no ring exists but as DISABLED (R259, R260), no rail or gate is driven on,
and no command waits. -/
def Obligations.ParametersAtReset : Prop :=
  (∀ n, let p := State.reset.govParam n;
    p.kp = 2000 ∧ p.riseSlope = 450 ∧ p.fallSlope = 450 ∧ p.cap = 3600 ∧ p.headroom = 180 ∧ p.pfloor = 400 ∧ p.critical = false ∧ p.linear = false ∧
    p.linRadius = 72 ∧ p.radLimit = 360 ∧ p.vrail = 0 ∧ p.laneMargin = 360 ∧ p.runAhead = true ∧ p.missTol = 36 ∧ p.raHold = 16 ∧ p.safeDensity = 160 ∧
    p.opdnDens = 128 ∧ p.opdnT = 1000 ∧ p.opupMargin = 360 ∧ p.opupT = 10000 ∧
    p.opcTimeout = 200 ∧ p.droopDens = 192 ∧ p.droopLen = 16 ∧ p.droopResume = 50 ∧ p.droopDi = 15 ∧ p.droopStorm = 8) ∧
  (let p := State.reset.gov.tray;
    p.trayCap = 31000 ∧ p.osf = 1000 ∧ p.platMargin = 200 ∧ p.escSat = 100 ∧ p.shedWait = 20000 ∧ p.parkWait = 50000 ∧ p.parkMarked = true ∧
    p.recordPeriod = 1000) ∧
  (∀ n, let p := State.reset.marginParam n;
    p.tgt = 150 ∧ p.band = 50 ∧ p.crit = 50 ∧ p.gbFloor = 100 ∧ p.trimMax = 500 ∧ p.regulator = none) ∧
  (let g := State.reset.grid;
    g.source = .byMembership ∧ g.frSlope = 20000 ∧ g.freqStale = 100000 ∧ g.curve = [] ∧ g.reportStale = 5000) ∧
  State.reset.easel.cfg.reseedPeriod = 60000000 ∧ State.reset.easel.cfg.kacPeriod = 1000000 ∧
  (∀ b n, let h := State.reset.hand b n;
    h.shadow = false ∧ h.restartMax = 3 ∧ h.restartWindow = 1000000 ∧ h.ckptWd = 0) ∧
  (∀ b, let g := State.reset.granary b;
    g.gleanPeriod = 8000000 ∧ g.ceThresh = 16 ∧ g.autotest = true) ∧
  (let p := State.reset.own.param;
    p.hbPeriod = 100 ∧ p.wdTimeout = 1500 ∧ p.claimGuard = 200 ∧ p.applyLead = 8 ∧ p.retainMin = 100000 ∧ p.shadowMismatch = 16 ∧ p.handoverWait = 100 ∧
    p.recordPeriod = 100000) ∧
  (let p := State.reset.fab.param;
    p.priority = 0x8000 ∧ p.proxyPrio = 0 ∧ p.portMask = 0xFF ∧ p.beaconPeriod = 10 ∧ p.deadTimeout = 100 ∧ p.rootTimeout = 500 ∧ p.claimSettle = 2000 ∧
    p.pushServe = true ∧ p.alignTol = 50 ∧ p.opTimeout = 10000 ∧ p.recordPeriod = 100000) ∧
  (∀ ch, (State.reset.chan ch).retries = 3 ∧ (State.reset.chan ch).gate = false ∧ (State.reset.chan ch).inrushSlew = 10) ∧
  (∀ ch, ch < 0x32 → (State.reset.chan ch).thresh = 100 ∧ (State.reset.chan ch).inrushLimit = 10) ∧
  (∀ ch, 0x32 ≤ ch → (State.reset.chan ch).thresh = 800 ∧ (State.reset.chan ch).inrushLimit = 20 ∧ (State.reset.chan ch).warn = 460000) ∧
  (∀ n, (State.reset.zone n).target = 85 * 128 ∧ (State.reset.zone n).trip = 95 * 128 ∧ (State.reset.point n).n = 8 ∧ (State.reset.point n).thresh = 5 * 128 ∧
    (State.reset.drive n).fixed = 700) ∧
  (∀ p, (State.reset.twPort p).enable = true ∧ (State.reset.twPort p).speed = 0 ∧ (State.reset.twPort p).filter = 0 ∧ (State.reset.twPort p).target = 0) ∧
  (∀ n, (State.reset.ring n).state = .disabled) ∧ (∀ nn, (State.reset.rail_ nn).en = false) ∧ State.reset.pending = []

/-- On a powered accelerator a reset leaves WSEQ 0. The end of a window answers a next state with WSEQ 1 after 0 and after 0xFFFFFFFF and
one more otherwise, so never 0; the counter frame then sent carries the WSEQ of the window just closed, so n windows after a reset WSEQ
is (n - 1) modulo 2^32 - 1, plus 1. The other rows of the accelerator keep WSEQ. For window sequences in the cycle, w + n is n steps on;
a is above b when the steps from b to a lie in 1 .. 2^31 - 1, and below it when they lie in 2^31 .. 2^32 - 2; 0 is below every other.
One CSEQ or BSEQ is greater than another when the difference modulo 2^32 lies in 1 .. 2^31 - 1. -/
def Obligations.WindowSequences : Prop :=
  (∀ (slot : Nat) (s : State), (s.accel slot).powered = true →
    Runs (.acceleratorReset slot) s fun t => (t.accel slot).powered = true ∧ (t.accel slot).wseq = 0) ∧
  (∀ (slot : Nat) (sense : AccelSense) (s : State), (s.accel slot).powered = true →
    Runs (.acceleratorWindow slot sense) s fun t =>
      (t.accel slot).powered = true ∧ (t.accel slot).wseq ≠ 0 ∧
      (t.accel slot).wseq = (if (s.accel slot).wseq = 0xFFFFFFFF then 1 else (s.accel slot).wseq + 1) ∧
      ∃ f, t.out = .counter f :: s.out ∧ f.slot = slot ∧ f.wseq = (s.accel slot).wseq) ∧
  (∀ (slot : Nat) (s : State) (cf : CommandFrame) (bf : BurstFrame) (pb : PushBlock) (ok : Bool), ∀ c ∈ [Instr.acceptCommandFrame slot cf,
      .acceptBurstFrame slot bf, .acceptPushBlock slot pb, .firmwareVerifyDone slot ok, .leaseLapse slot, .burstEnd slot,
      .acceleratorStepComplete slot, .acceleratorQuiesced slot],
    Runs c s fun t => (t.accel slot).wseq = (s.accel slot).wseq) ∧
  (∀ (slot : Nat) (senses : List AccelSense) (s : State), (s.accel slot).powered = true → (s.accel slot).wseq = 0 → senses ≠ [] →
    ∃ t, senses.foldl (fun o x => match o with
        | .next u => exec (.acceleratorWindow slot x) u
        | o => o) (Host.Outcome.next s : Host.Outcome State Fault Refusal) = .next t ∧
      (t.accel slot).wseq.toNat = (senses.length - 1) % (2 ^ 32 - 1) + 1) ∧
  (∀ (w : Word32) (n : Nat), w ≠ 0 → wsAdd w n ≠ 0 ∧ (wsAdd w n).toNat = (w.toNat - 1 + n) % (2 ^ 32 - 1) + 1 ∧ wsSub (wsAdd w n) n = w) ∧
  (∀ a b : Word32, a ≠ 0 → b ≠ 0 →
    let steps := (a.toNat + (2 ^ 32 - 1) - b.toNat) % (2 ^ 32 - 1);
    (wsAbove a b = true ↔ 1 ≤ steps ∧ steps ≤ 2 ^ 31 - 1) ∧ (wsAbove b a = true ↔ 2 ^ 31 ≤ steps ∧ steps ≤ 2 ^ 32 - 2)) ∧
  (∀ a : Word32, a ≠ 0 → wsAbove a 0 = true ∧ wsAbove 0 a = false) ∧
  (∀ a b : Word32, seqNewer a b = true ↔ 1 ≤ (a.toNat + 2 ^ 32 - b.toNat) % 2 ^ 32 ∧ (a.toNat + 2 ^ 32 - b.toNat) % 2 ^ 32 ≤ 2 ^ 31 - 1)

/-- At reset every slot's SAFE_DENSITY is 160. A GOV_SET_SAFE_DENSITY that is ready and names slot 0 to 7 (or 0xFE, all slots, R284) with a
value from 64 to 240 is accepted, and at its window the named slots hold that value, the other slots theirs, and its entry completes OK.
Outside the range it is answered OUT_OF_RANGE with the offset 1 and no slot's SAFE_DENSITY changes. -/
def Obligations.SafeDensityCommand : Prop :=
  (∀ n, (State.reset.govParam n).safeDensity = 160) ∧
  (∀ h slot dens s, ready (.govSetSafeDensity h slot dens) 2 0 s = true → slotOk slot = true → 64 ≤ dens → dens ≤ 240 →
    Carries (.govSetSafeDensity h slot dens) s fun j u => (u.modSlots slot fun p => { p with safeDensity := dens }).ok j) ∧
  (∀ (u : State) (slot dens j : Nat), slot < 8 →
    ((((u.modSlots slot fun p => { p with safeDensity := dens }).ok j).govParam slot).safeDensity = dens) ∧
    ∀ n, n ≠ slot → ((u.modSlots slot fun p => { p with safeDensity := dens }).ok j).govParam n = u.govParam n) ∧
  (∀ (u : State) (dens j n : Nat), n < 8 →
    (((u.modSlots 0xFE fun p => { p with safeDensity := dens }).ok j).govParam n).safeDensity = dens) ∧
  (∀ h slot dens s, ready (.govSetSafeDensity h slot dens) 2 0 s = true → slotOk slot = true → (dens < 64 ∨ 240 < dens) →
    Runs (.govSetSafeDensity h slot dens) s fun t =>
      t = s.drawFree.2.answer h.ring (completionWords h.seq 0x0106 0x0104 [1]) ∧ ∀ n, t.govParam n = s.govParam n)

/-- A command frame that the accelerator accepts leaves the lease running from now, not lapsed. A burst frame or a push block, accepted or
not, leaves the lease's start and whether it has lapsed as they were. On a powered accelerator whose lease has not lapsed, LEASE_LAPSE
lapses it where 500 us have passed since the latest accepted command frame, and leaves it running where they have not. -/
def Obligations.LeaseRenewal : Prop :=
  (∀ (slot : Nat) (f : CommandFrame) (s : State), (s.accel slot).takes slot f.slot f.epoch = true → f.crc = commandCrc f →
    seqOk ((s.accel slot).newOwner f.epoch).lastCseq f.cseq = true →
    Runs (.acceptCommandFrame slot f) s fun t => (t.accel slot).leaseTime = s.now ∧ (t.accel slot).lapsed = false ∧ (t.accel slot).acceptedThisWindow = true) ∧
  (∀ (slot : Nat) (f : BurstFrame) (s : State), Runs (.acceptBurstFrame slot f) s fun t =>
    (t.accel slot).leaseTime = (s.accel slot).leaseTime ∧ (t.accel slot).lapsed = (s.accel slot).lapsed) ∧
  (∀ (slot : Nat) (x : PushBlock) (s : State), Runs (.acceptPushBlock slot x) s fun t =>
    (t.accel slot).leaseTime = (s.accel slot).leaseTime ∧ (t.accel slot).lapsed = (s.accel slot).lapsed) ∧
  (∀ (slot : Nat) (s : State), (s.accel slot).powered = true → (s.accel slot).lapsed = false →
    Runs (.leaseLapse slot) s fun t => (t.accel slot).lapsed = decide ((s.accel slot).leaseTime + 500000 ≤ s.now) ∧
      (t.accel slot).leaseTime = (s.accel slot).leaseTime)

/-- Where bay b serves as owner, its peer stands by, b has fewer lanes in UP and has had for 16 us, and no handover or hold stands in the
way, LANE_COUNT_YIELD starts the planned handover with no command waiting on it. With equal counts, or more on the owner, it changes
nothing, nor before 16 us are over. The time since when the owner has fewer lanes is noted once, kept while that lasts, and dropped when
it ends; the noting happens at every lane that goes up or is lost. -/
def Obligations.LaneCountYield : Prop :=
  (∀ (b t : Nat) (s : State), s.serving = some b → (s.bay (peer b)).bstate = .standby → s.lanesUp b < s.lanesUp (peer b) →
    (s.bay b).fewLanes = some t →
    (t + 16000 ≤ s.now → exec .laneCountYield s = .next (s.startHandover 0 none) ∧
      (s.handoverOk = true → s.startHandover 0 none =
        (s.modJournal fun j => { j with handover := .acks, handoverJseq := 0, restartAfter := none }).handoverAdvance)) ∧
    (s.now < t + 16000 → exec .laneCountYield s = .next s)) ∧
  (∀ (b : Nat) (s : State), s.serving = some b → s.lanesUp (peer b) ≤ s.lanesUp b → exec .laneCountYield s = .next s) ∧
  (∀ (b : Nat) (s : State), s.serving = some b → (s.bay (peer b)).bstate = .standby → s.lanesUp b < s.lanesUp (peer b) →
    (∀ t, (s.bay b).fewLanes = some t → (s.noteLanes.bay b).fewLanes = some t) ∧
    ((s.bay b).fewLanes = none → (s.noteLanes.bay b).fewLanes = some s.now)) ∧
  (∀ (b : Nat) (s : State), s.serving = some b → b < 2 → s.lanesUp (peer b) ≤ s.lanesUp b → (s.noteLanes.bay b).fewLanes = none) ∧
  (∀ (bay slot : Nat) (s : State), s.laneLives bay = true → (s.lane slot bay).lstate ≠ .down →
    exec (.laneLossOfSignal bay slot) s = .next (((s.modLane slot bay fun l => { l with
      lstate := .down, blockLock := false, goodFrames := 0, failedAttempts := 0, failed := false }).reportLane slot bay 1).noteLanes))

/-- State.reset keeps the invariant MemoryInv: in each bay the Granary's list of cells has strictly rising addresses and no cell that equals
what an unlisted address reads as (log entry 2), since it lists nothing. -/
def Obligations.ResetMemoryCanonical : Prop :=
  MemoryInv State.reset ∧ ∀ bay, (State.reset.granary bay).mem = []

/-- For every state whose Granary memories are in canonical form, with any queue of commands, a step that answers a next state answers one
whose Granary memories are in canonical form: addresses strictly rising, and no cell equal to what an unlisted address reads as (log
entry 2). Equal memories are so equal data. -/
def Obligations.StepKeepsMemoryCanonical : Prop :=
  ∀ s t : State, MemoryInv s → step s = .next t → MemoryInv t
end

