-- ==== Sys2Proof/Laws/State.lean ====
section
/-!
SUPPORT. One lemma per change operation and part: what it leaves as it was, and what reading back gives. Tables: reading after setting.
-/
namespace Sys2Proof.Machine
open Sys2Proof

/-! ### Tables -/

@[simp] theorem tget_tset_same {α : Type} (t : Tbl α) (k : Nat) (v d : α) : tget (tset t k v) k d = v := by
  induction t with
  | nil => simp [tset, tget]
  | cons e r ih =>
    obtain ⟨k', v'⟩ := e
    unfold tset
    split
    · simp [tget]
    · split
      · simp [tget]
      · rename_i h
        simp [tget, h, ih]

theorem tget_tset_ne {α : Type} (t : Tbl α) (k k' : Nat) (v d : α) (h : k' ≠ k) : tget (tset t k v) k' d = tget t k' d := by
  induction t with
  | nil => simp [tset, tget, Ne.symm h]
  | cons e r ih =>
    obtain ⟨j, w⟩ := e
    unfold tset
    split
    · simp [tget, Ne.symm h]
    · split
      · rename_i hj; subst hj; simp [tget, Ne.symm h]
      · simp [tget, ih]

@[simp] theorem tget_nil {α : Type} (k : Nat) (d : α) : tget ([] : Tbl α) k d = d := rfl

end Sys2Proof.Machine

namespace Sys2Proof
open Machine

/-! ### The relation of a change to the parts -/

theorem OnlyParts.refl (ps : List Part) (s : State) : OnlyParts ps s s := by intro p _; cases p <;> rfl

theorem OnlyParts.mono {ps qs : List Part} {s t : State} (h : OnlyParts ps s t) (hs : ps ⊆ qs) : OnlyParts qs s t :=
  fun p hp => h p fun hm => hp (hs hm)

theorem OnlyParts.trans {ps : List Part} {s t u : State} (h : OnlyParts ps s t) (k : OnlyParts ps t u) : OnlyParts ps s u := by
  intro p hp
  have a := h p hp
  have b := k p hp
  cases p <;> simp_all [samePart]

theorem OnlyParts.foldl {α : Type} {ps : List Part} (f : State → α → State) (hf : ∀ s a, OnlyParts ps s (f s a)) (l : List α) (s : State) :
    OnlyParts ps s (l.foldl f s) := by
  induction l generalizing s with
  | nil => exact .refl ps s
  | cons a r ih => exact (hf s a).trans (ih (f s a))

theorem OnlyParts.forUpTo {ps : List Part} (f : State → Nat → State) (hf : ∀ s a, OnlyParts ps s (f s a)) (n : Nat) (s : State) :
    OnlyParts ps s (forUpTo n f s) := OnlyParts.foldl f hf _ s

end Sys2Proof

namespace Sys2Proof.Machine
open Sys2Proof

/-! ### One change at a time -/

@[simp] theorem modLink_frame (s : State) (f : LinkSt → LinkSt) :
    (s.modLink f).gov = s.gov ∧ (s.modLink f).grid = s.grid ∧ (s.modLink f).easel = s.easel ∧ (s.modLink f).barn = s.barn ∧ (s.modLink f).gran = s.gran ∧ (s.modLink f).own = s.own ∧ (s.modLink f).host = s.host ∧ (s.modLink f).fab = s.fab ∧ (s.modLink f).rail = s.rail ∧ (s.modLink f).alm = s.alm ∧ (s.modLink f).pwr = s.pwr ∧ (s.modLink f).cool = s.cool ∧ (s.modLink f).tw = s.tw ∧ (s.modLink f).boot = s.boot ∧ (s.modLink f).loft = s.loft ∧ (s.modLink f).sys = s.sys ∧ (s.modLink f).out = s.out ∧ (s.modLink f).pending = s.pending := by
  refine ⟨rfl, rfl, rfl, rfl, rfl, rfl, rfl, rfl, rfl, rfl, rfl, rfl, rfl, rfl, rfl, rfl, rfl, rfl⟩

theorem modLink_only (s : State) (f : LinkSt → LinkSt) : OnlyParts [.link] s (s.modLink f) := by
  intro p hp; cases p <;> first | rfl | simp at hp

@[simp] theorem modGov_frame (s : State) (f : GovSt → GovSt) :
    (s.modGov f).link = s.link ∧ (s.modGov f).grid = s.grid ∧ (s.modGov f).easel = s.easel ∧ (s.modGov f).barn = s.barn ∧ (s.modGov f).gran = s.gran ∧ (s.modGov f).own = s.own ∧ (s.modGov f).host = s.host ∧ (s.modGov f).fab = s.fab ∧ (s.modGov f).rail = s.rail ∧ (s.modGov f).alm = s.alm ∧ (s.modGov f).pwr = s.pwr ∧ (s.modGov f).cool = s.cool ∧ (s.modGov f).tw = s.tw ∧ (s.modGov f).boot = s.boot ∧ (s.modGov f).loft = s.loft ∧ (s.modGov f).sys = s.sys ∧ (s.modGov f).out = s.out ∧ (s.modGov f).pending = s.pending := by
  refine ⟨rfl, rfl, rfl, rfl, rfl, rfl, rfl, rfl, rfl, rfl, rfl, rfl, rfl, rfl, rfl, rfl, rfl, rfl⟩

theorem modGov_only (s : State) (f : GovSt → GovSt) : OnlyParts [.gov] s (s.modGov f) := by
  intro p hp; cases p <;> first | rfl | simp at hp

@[simp] theorem modGrid_frame (s : State) (f : Grid → Grid) :
    (s.modGrid f).link = s.link ∧ (s.modGrid f).gov = s.gov ∧ (s.modGrid f).easel = s.easel ∧ (s.modGrid f).barn = s.barn ∧ (s.modGrid f).gran = s.gran ∧ (s.modGrid f).own = s.own ∧ (s.modGrid f).host = s.host ∧ (s.modGrid f).fab = s.fab ∧ (s.modGrid f).rail = s.rail ∧ (s.modGrid f).alm = s.alm ∧ (s.modGrid f).pwr = s.pwr ∧ (s.modGrid f).cool = s.cool ∧ (s.modGrid f).tw = s.tw ∧ (s.modGrid f).boot = s.boot ∧ (s.modGrid f).loft = s.loft ∧ (s.modGrid f).sys = s.sys ∧ (s.modGrid f).out = s.out ∧ (s.modGrid f).pending = s.pending := by
  refine ⟨rfl, rfl, rfl, rfl, rfl, rfl, rfl, rfl, rfl, rfl, rfl, rfl, rfl, rfl, rfl, rfl, rfl, rfl⟩

theorem modGrid_only (s : State) (f : Grid → Grid) : OnlyParts [.grid] s (s.modGrid f) := by
  intro p hp; cases p <;> first | rfl | simp at hp

@[simp] theorem modEasel_frame (s : State) (f : EaselSt → EaselSt) :
    (s.modEasel f).link = s.link ∧ (s.modEasel f).gov = s.gov ∧ (s.modEasel f).grid = s.grid ∧ (s.modEasel f).barn = s.barn ∧ (s.modEasel f).gran = s.gran ∧ (s.modEasel f).own = s.own ∧ (s.modEasel f).host = s.host ∧ (s.modEasel f).fab = s.fab ∧ (s.modEasel f).rail = s.rail ∧ (s.modEasel f).alm = s.alm ∧ (s.modEasel f).pwr = s.pwr ∧ (s.modEasel f).cool = s.cool ∧ (s.modEasel f).tw = s.tw ∧ (s.modEasel f).boot = s.boot ∧ (s.modEasel f).loft = s.loft ∧ (s.modEasel f).sys = s.sys ∧ (s.modEasel f).out = s.out ∧ (s.modEasel f).pending = s.pending := by
  refine ⟨rfl, rfl, rfl, rfl, rfl, rfl, rfl, rfl, rfl, rfl, rfl, rfl, rfl, rfl, rfl, rfl, rfl, rfl⟩

theorem modEasel_only (s : State) (f : EaselSt → EaselSt) : OnlyParts [.easel] s (s.modEasel f) := by
  intro p hp; cases p <;> first | rfl | simp at hp

@[simp] theorem modBarn_frame (s : State) (f : BarnSt → BarnSt) :
    (s.modBarn f).link = s.link ∧ (s.modBarn f).gov = s.gov ∧ (s.modBarn f).grid = s.grid ∧ (s.modBarn f).easel = s.easel ∧ (s.modBarn f).gran = s.gran ∧ (s.modBarn f).own = s.own ∧ (s.modBarn f).host = s.host ∧ (s.modBarn f).fab = s.fab ∧ (s.modBarn f).rail = s.rail ∧ (s.modBarn f).alm = s.alm ∧ (s.modBarn f).pwr = s.pwr ∧ (s.modBarn f).cool = s.cool ∧ (s.modBarn f).tw = s.tw ∧ (s.modBarn f).boot = s.boot ∧ (s.modBarn f).loft = s.loft ∧ (s.modBarn f).sys = s.sys ∧ (s.modBarn f).out = s.out ∧ (s.modBarn f).pending = s.pending := by
  refine ⟨rfl, rfl, rfl, rfl, rfl, rfl, rfl, rfl, rfl, rfl, rfl, rfl, rfl, rfl, rfl, rfl, rfl, rfl⟩

theorem modBarn_only (s : State) (f : BarnSt → BarnSt) : OnlyParts [.barn] s (s.modBarn f) := by
  intro p hp; cases p <;> first | rfl | simp at hp

@[simp] theorem modGran_frame (s : State) (f : GranSt → GranSt) :
    (s.modGran f).link = s.link ∧ (s.modGran f).gov = s.gov ∧ (s.modGran f).grid = s.grid ∧ (s.modGran f).easel = s.easel ∧ (s.modGran f).barn = s.barn ∧ (s.modGran f).own = s.own ∧ (s.modGran f).host = s.host ∧ (s.modGran f).fab = s.fab ∧ (s.modGran f).rail = s.rail ∧ (s.modGran f).alm = s.alm ∧ (s.modGran f).pwr = s.pwr ∧ (s.modGran f).cool = s.cool ∧ (s.modGran f).tw = s.tw ∧ (s.modGran f).boot = s.boot ∧ (s.modGran f).loft = s.loft ∧ (s.modGran f).sys = s.sys ∧ (s.modGran f).out = s.out ∧ (s.modGran f).pending = s.pending := by
  refine ⟨rfl, rfl, rfl, rfl, rfl, rfl, rfl, rfl, rfl, rfl, rfl, rfl, rfl, rfl, rfl, rfl, rfl, rfl⟩

theorem modGran_only (s : State) (f : GranSt → GranSt) : OnlyParts [.gran] s (s.modGran f) := by
  intro p hp; cases p <;> first | rfl | simp at hp

@[simp] theorem modOwn_frame (s : State) (f : OwnSt → OwnSt) :
    (s.modOwn f).link = s.link ∧ (s.modOwn f).gov = s.gov ∧ (s.modOwn f).grid = s.grid ∧ (s.modOwn f).easel = s.easel ∧ (s.modOwn f).barn = s.barn ∧ (s.modOwn f).gran = s.gran ∧ (s.modOwn f).host = s.host ∧ (s.modOwn f).fab = s.fab ∧ (s.modOwn f).rail = s.rail ∧ (s.modOwn f).alm = s.alm ∧ (s.modOwn f).pwr = s.pwr ∧ (s.modOwn f).cool = s.cool ∧ (s.modOwn f).tw = s.tw ∧ (s.modOwn f).boot = s.boot ∧ (s.modOwn f).loft = s.loft ∧ (s.modOwn f).sys = s.sys ∧ (s.modOwn f).out = s.out ∧ (s.modOwn f).pending = s.pending := by
  refine ⟨rfl, rfl, rfl, rfl, rfl, rfl, rfl, rfl, rfl, rfl, rfl, rfl, rfl, rfl, rfl, rfl, rfl, rfl⟩

theorem modOwn_only (s : State) (f : OwnSt → OwnSt) : OnlyParts [.own] s (s.modOwn f) := by
  intro p hp; cases p <;> first | rfl | simp at hp

@[simp] theorem modHost_frame (s : State) (f : HostSt → HostSt) :
    (s.modHost f).link = s.link ∧ (s.modHost f).gov = s.gov ∧ (s.modHost f).grid = s.grid ∧ (s.modHost f).easel = s.easel ∧ (s.modHost f).barn = s.barn ∧ (s.modHost f).gran = s.gran ∧ (s.modHost f).own = s.own ∧ (s.modHost f).fab = s.fab ∧ (s.modHost f).rail = s.rail ∧ (s.modHost f).alm = s.alm ∧ (s.modHost f).pwr = s.pwr ∧ (s.modHost f).cool = s.cool ∧ (s.modHost f).tw = s.tw ∧ (s.modHost f).boot = s.boot ∧ (s.modHost f).loft = s.loft ∧ (s.modHost f).sys = s.sys ∧ (s.modHost f).out = s.out ∧ (s.modHost f).pending = s.pending := by
  refine ⟨rfl, rfl, rfl, rfl, rfl, rfl, rfl, rfl, rfl, rfl, rfl, rfl, rfl, rfl, rfl, rfl, rfl, rfl⟩

theorem modHost_only (s : State) (f : HostSt → HostSt) : OnlyParts [.host] s (s.modHost f) := by
  intro p hp; cases p <;> first | rfl | simp at hp

@[simp] theorem modFab_frame (s : State) (f : FabSt → FabSt) :
    (s.modFab f).link = s.link ∧ (s.modFab f).gov = s.gov ∧ (s.modFab f).grid = s.grid ∧ (s.modFab f).easel = s.easel ∧ (s.modFab f).barn = s.barn ∧ (s.modFab f).gran = s.gran ∧ (s.modFab f).own = s.own ∧ (s.modFab f).host = s.host ∧ (s.modFab f).rail = s.rail ∧ (s.modFab f).alm = s.alm ∧ (s.modFab f).pwr = s.pwr ∧ (s.modFab f).cool = s.cool ∧ (s.modFab f).tw = s.tw ∧ (s.modFab f).boot = s.boot ∧ (s.modFab f).loft = s.loft ∧ (s.modFab f).sys = s.sys ∧ (s.modFab f).out = s.out ∧ (s.modFab f).pending = s.pending := by
  refine ⟨rfl, rfl, rfl, rfl, rfl, rfl, rfl, rfl, rfl, rfl, rfl, rfl, rfl, rfl, rfl, rfl, rfl, rfl⟩

theorem modFab_only (s : State) (f : FabSt → FabSt) : OnlyParts [.fab] s (s.modFab f) := by
  intro p hp; cases p <;> first | rfl | simp at hp

@[simp] theorem modRail_frame (s : State) (f : RailSt → RailSt) :
    (s.modRail f).link = s.link ∧ (s.modRail f).gov = s.gov ∧ (s.modRail f).grid = s.grid ∧ (s.modRail f).easel = s.easel ∧ (s.modRail f).barn = s.barn ∧ (s.modRail f).gran = s.gran ∧ (s.modRail f).own = s.own ∧ (s.modRail f).host = s.host ∧ (s.modRail f).fab = s.fab ∧ (s.modRail f).alm = s.alm ∧ (s.modRail f).pwr = s.pwr ∧ (s.modRail f).cool = s.cool ∧ (s.modRail f).tw = s.tw ∧ (s.modRail f).boot = s.boot ∧ (s.modRail f).loft = s.loft ∧ (s.modRail f).sys = s.sys ∧ (s.modRail f).out = s.out ∧ (s.modRail f).pending = s.pending := by
  refine ⟨rfl, rfl, rfl, rfl, rfl, rfl, rfl, rfl, rfl, rfl, rfl, rfl, rfl, rfl, rfl, rfl, rfl, rfl⟩

theorem modRail_only (s : State) (f : RailSt → RailSt) : OnlyParts [.rail] s (s.modRail f) := by
  intro p hp; cases p <;> first | rfl | simp at hp

@[simp] theorem modAlm_frame (s : State) (f : Almanac → Almanac) :
    (s.modAlm f).link = s.link ∧ (s.modAlm f).gov = s.gov ∧ (s.modAlm f).grid = s.grid ∧ (s.modAlm f).easel = s.easel ∧ (s.modAlm f).barn = s.barn ∧ (s.modAlm f).gran = s.gran ∧ (s.modAlm f).own = s.own ∧ (s.modAlm f).host = s.host ∧ (s.modAlm f).fab = s.fab ∧ (s.modAlm f).rail = s.rail ∧ (s.modAlm f).pwr = s.pwr ∧ (s.modAlm f).cool = s.cool ∧ (s.modAlm f).tw = s.tw ∧ (s.modAlm f).boot = s.boot ∧ (s.modAlm f).loft = s.loft ∧ (s.modAlm f).sys = s.sys ∧ (s.modAlm f).out = s.out ∧ (s.modAlm f).pending = s.pending := by
  refine ⟨rfl, rfl, rfl, rfl, rfl, rfl, rfl, rfl, rfl, rfl, rfl, rfl, rfl, rfl, rfl, rfl, rfl, rfl⟩

theorem modAlm_only (s : State) (f : Almanac → Almanac) : OnlyParts [.alm] s (s.modAlm f) := by
  intro p hp; cases p <;> first | rfl | simp at hp

@[simp] theorem modPwr_frame (s : State) (f : PowerSt → PowerSt) :
    (s.modPwr f).link = s.link ∧ (s.modPwr f).gov = s.gov ∧ (s.modPwr f).grid = s.grid ∧ (s.modPwr f).easel = s.easel ∧ (s.modPwr f).barn = s.barn ∧ (s.modPwr f).gran = s.gran ∧ (s.modPwr f).own = s.own ∧ (s.modPwr f).host = s.host ∧ (s.modPwr f).fab = s.fab ∧ (s.modPwr f).rail = s.rail ∧ (s.modPwr f).alm = s.alm ∧ (s.modPwr f).cool = s.cool ∧ (s.modPwr f).tw = s.tw ∧ (s.modPwr f).boot = s.boot ∧ (s.modPwr f).loft = s.loft ∧ (s.modPwr f).sys = s.sys ∧ (s.modPwr f).out = s.out ∧ (s.modPwr f).pending = s.pending := by
  refine ⟨rfl, rfl, rfl, rfl, rfl, rfl, rfl, rfl, rfl, rfl, rfl, rfl, rfl, rfl, rfl, rfl, rfl, rfl⟩

theorem modPwr_only (s : State) (f : PowerSt → PowerSt) : OnlyParts [.pwr] s (s.modPwr f) := by
  intro p hp; cases p <;> first | rfl | simp at hp

@[simp] theorem modCool_frame (s : State) (f : Cool → Cool) :
    (s.modCool f).link = s.link ∧ (s.modCool f).gov = s.gov ∧ (s.modCool f).grid = s.grid ∧ (s.modCool f).easel = s.easel ∧ (s.modCool f).barn = s.barn ∧ (s.modCool f).gran = s.gran ∧ (s.modCool f).own = s.own ∧ (s.modCool f).host = s.host ∧ (s.modCool f).fab = s.fab ∧ (s.modCool f).rail = s.rail ∧ (s.modCool f).alm = s.alm ∧ (s.modCool f).pwr = s.pwr ∧ (s.modCool f).tw = s.tw ∧ (s.modCool f).boot = s.boot ∧ (s.modCool f).loft = s.loft ∧ (s.modCool f).sys = s.sys ∧ (s.modCool f).out = s.out ∧ (s.modCool f).pending = s.pending := by
  refine ⟨rfl, rfl, rfl, rfl, rfl, rfl, rfl, rfl, rfl, rfl, rfl, rfl, rfl, rfl, rfl, rfl, rfl, rfl⟩

theorem modCool_only (s : State) (f : Cool → Cool) : OnlyParts [.cool] s (s.modCool f) := by
  intro p hp; cases p <;> first | rfl | simp at hp

@[simp] theorem modTw_frame (s : State) (f : TwSt → TwSt) :
    (s.modTw f).link = s.link ∧ (s.modTw f).gov = s.gov ∧ (s.modTw f).grid = s.grid ∧ (s.modTw f).easel = s.easel ∧ (s.modTw f).barn = s.barn ∧ (s.modTw f).gran = s.gran ∧ (s.modTw f).own = s.own ∧ (s.modTw f).host = s.host ∧ (s.modTw f).fab = s.fab ∧ (s.modTw f).rail = s.rail ∧ (s.modTw f).alm = s.alm ∧ (s.modTw f).pwr = s.pwr ∧ (s.modTw f).cool = s.cool ∧ (s.modTw f).boot = s.boot ∧ (s.modTw f).loft = s.loft ∧ (s.modTw f).sys = s.sys ∧ (s.modTw f).out = s.out ∧ (s.modTw f).pending = s.pending := by
  refine ⟨rfl, rfl, rfl, rfl, rfl, rfl, rfl, rfl, rfl, rfl, rfl, rfl, rfl, rfl, rfl, rfl, rfl, rfl⟩

theorem modTw_only (s : State) (f : TwSt → TwSt) : OnlyParts [.tw] s (s.modTw f) := by
  intro p hp; cases p <;> first | rfl | simp at hp

@[simp] theorem modBoot_frame (s : State) (f : BootSt → BootSt) :
    (s.modBoot f).link = s.link ∧ (s.modBoot f).gov = s.gov ∧ (s.modBoot f).grid = s.grid ∧ (s.modBoot f).easel = s.easel ∧ (s.modBoot f).barn = s.barn ∧ (s.modBoot f).gran = s.gran ∧ (s.modBoot f).own = s.own ∧ (s.modBoot f).host = s.host ∧ (s.modBoot f).fab = s.fab ∧ (s.modBoot f).rail = s.rail ∧ (s.modBoot f).alm = s.alm ∧ (s.modBoot f).pwr = s.pwr ∧ (s.modBoot f).cool = s.cool ∧ (s.modBoot f).tw = s.tw ∧ (s.modBoot f).loft = s.loft ∧ (s.modBoot f).sys = s.sys ∧ (s.modBoot f).out = s.out ∧ (s.modBoot f).pending = s.pending := by
  refine ⟨rfl, rfl, rfl, rfl, rfl, rfl, rfl, rfl, rfl, rfl, rfl, rfl, rfl, rfl, rfl, rfl, rfl, rfl⟩

theorem modBoot_only (s : State) (f : BootSt → BootSt) : OnlyParts [.boot] s (s.modBoot f) := by
  intro p hp; cases p <;> first | rfl | simp at hp

@[simp] theorem modLoft_frame (s : State) (f : LoftSt → LoftSt) :
    (s.modLoft f).link = s.link ∧ (s.modLoft f).gov = s.gov ∧ (s.modLoft f).grid = s.grid ∧ (s.modLoft f).easel = s.easel ∧ (s.modLoft f).barn = s.barn ∧ (s.modLoft f).gran = s.gran ∧ (s.modLoft f).own = s.own ∧ (s.modLoft f).host = s.host ∧ (s.modLoft f).fab = s.fab ∧ (s.modLoft f).rail = s.rail ∧ (s.modLoft f).alm = s.alm ∧ (s.modLoft f).pwr = s.pwr ∧ (s.modLoft f).cool = s.cool ∧ (s.modLoft f).tw = s.tw ∧ (s.modLoft f).boot = s.boot ∧ (s.modLoft f).sys = s.sys ∧ (s.modLoft f).out = s.out ∧ (s.modLoft f).pending = s.pending := by
  refine ⟨rfl, rfl, rfl, rfl, rfl, rfl, rfl, rfl, rfl, rfl, rfl, rfl, rfl, rfl, rfl, rfl, rfl, rfl⟩

theorem modLoft_only (s : State) (f : LoftSt → LoftSt) : OnlyParts [.loft] s (s.modLoft f) := by
  intro p hp; cases p <;> first | rfl | simp at hp

@[simp] theorem modSys_frame (s : State) (f : Power → Power) :
    (s.modSys f).link = s.link ∧ (s.modSys f).gov = s.gov ∧ (s.modSys f).grid = s.grid ∧ (s.modSys f).easel = s.easel ∧ (s.modSys f).barn = s.barn ∧ (s.modSys f).gran = s.gran ∧ (s.modSys f).own = s.own ∧ (s.modSys f).host = s.host ∧ (s.modSys f).fab = s.fab ∧ (s.modSys f).rail = s.rail ∧ (s.modSys f).alm = s.alm ∧ (s.modSys f).pwr = s.pwr ∧ (s.modSys f).cool = s.cool ∧ (s.modSys f).tw = s.tw ∧ (s.modSys f).boot = s.boot ∧ (s.modSys f).loft = s.loft ∧ (s.modSys f).out = s.out ∧ (s.modSys f).pending = s.pending := by
  refine ⟨rfl, rfl, rfl, rfl, rfl, rfl, rfl, rfl, rfl, rfl, rfl, rfl, rfl, rfl, rfl, rfl, rfl, rfl⟩

theorem modSys_only (s : State) (f : Power → Power) : OnlyParts [.sys] s (s.modSys f) := by
  intro p hp; cases p <;> first | rfl | simp at hp

@[simp] theorem emit_frame (s : State) (o : Out) :
    (s.emit o).link = s.link ∧ (s.emit o).gov = s.gov ∧ (s.emit o).grid = s.grid ∧ (s.emit o).easel = s.easel ∧ (s.emit o).barn = s.barn ∧ (s.emit o).gran = s.gran ∧ (s.emit o).own = s.own ∧ (s.emit o).host = s.host ∧ (s.emit o).fab = s.fab ∧ (s.emit o).rail = s.rail ∧ (s.emit o).alm = s.alm ∧ (s.emit o).pwr = s.pwr ∧ (s.emit o).cool = s.cool ∧ (s.emit o).tw = s.tw ∧ (s.emit o).boot = s.boot ∧ (s.emit o).loft = s.loft ∧ (s.emit o).sys = s.sys ∧ (s.emit o).pending = s.pending := by
  refine ⟨rfl, rfl, rfl, rfl, rfl, rfl, rfl, rfl, rfl, rfl, rfl, rfl, rfl, rfl, rfl, rfl, rfl, rfl⟩

theorem emit_only (s : State) (o : Out) : OnlyParts [.out] s (s.emit o) := by
  intro p hp; cases p <;> first | rfl | simp at hp

@[simp] theorem modAccel_frame (s : State) (slot : Nat) (f : Accel → Accel) :
    (s.modAccel slot f).gov = s.gov ∧ (s.modAccel slot f).grid = s.grid ∧ (s.modAccel slot f).easel = s.easel ∧ (s.modAccel slot f).barn = s.barn ∧ (s.modAccel slot f).gran = s.gran ∧ (s.modAccel slot f).own = s.own ∧ (s.modAccel slot f).host = s.host ∧ (s.modAccel slot f).fab = s.fab ∧ (s.modAccel slot f).rail = s.rail ∧ (s.modAccel slot f).alm = s.alm ∧ (s.modAccel slot f).pwr = s.pwr ∧ (s.modAccel slot f).cool = s.cool ∧ (s.modAccel slot f).tw = s.tw ∧ (s.modAccel slot f).boot = s.boot ∧ (s.modAccel slot f).loft = s.loft ∧ (s.modAccel slot f).sys = s.sys ∧ (s.modAccel slot f).out = s.out ∧ (s.modAccel slot f).pending = s.pending := by
  refine ⟨rfl, rfl, rfl, rfl, rfl, rfl, rfl, rfl, rfl, rfl, rfl, rfl, rfl, rfl, rfl, rfl, rfl, rfl⟩

theorem modAccel_only (s : State) (slot : Nat) (f : Accel → Accel) : OnlyParts [.link] s (s.modAccel slot f) := by
  intro p hp; cases p <;> first | rfl | simp at hp

@[simp] theorem modLane_frame (s : State) (slot bay : Nat) (f : Lane → Lane) :
    (s.modLane slot bay f).gov = s.gov ∧ (s.modLane slot bay f).grid = s.grid ∧ (s.modLane slot bay f).easel = s.easel ∧ (s.modLane slot bay f).barn = s.barn ∧ (s.modLane slot bay f).gran = s.gran ∧ (s.modLane slot bay f).own = s.own ∧ (s.modLane slot bay f).host = s.host ∧ (s.modLane slot bay f).fab = s.fab ∧ (s.modLane slot bay f).rail = s.rail ∧ (s.modLane slot bay f).alm = s.alm ∧ (s.modLane slot bay f).pwr = s.pwr ∧ (s.modLane slot bay f).cool = s.cool ∧ (s.modLane slot bay f).tw = s.tw ∧ (s.modLane slot bay f).boot = s.boot ∧ (s.modLane slot bay f).loft = s.loft ∧ (s.modLane slot bay f).sys = s.sys ∧ (s.modLane slot bay f).out = s.out ∧ (s.modLane slot bay f).pending = s.pending := by
  refine ⟨rfl, rfl, rfl, rfl, rfl, rfl, rfl, rfl, rfl, rfl, rfl, rfl, rfl, rfl, rfl, rfl, rfl, rfl⟩

theorem modLane_only (s : State) (slot bay : Nat) (f : Lane → Lane) : OnlyParts [.link] s (s.modLane slot bay f) := by
  intro p hp; cases p <;> first | rfl | simp at hp

@[simp] theorem modView_frame (s : State) (slot bay : Nat) (f : FrameView → FrameView) :
    (s.modView slot bay f).gov = s.gov ∧ (s.modView slot bay f).grid = s.grid ∧ (s.modView slot bay f).easel = s.easel ∧ (s.modView slot bay f).barn = s.barn ∧ (s.modView slot bay f).gran = s.gran ∧ (s.modView slot bay f).own = s.own ∧ (s.modView slot bay f).host = s.host ∧ (s.modView slot bay f).fab = s.fab ∧ (s.modView slot bay f).rail = s.rail ∧ (s.modView slot bay f).alm = s.alm ∧ (s.modView slot bay f).pwr = s.pwr ∧ (s.modView slot bay f).cool = s.cool ∧ (s.modView slot bay f).tw = s.tw ∧ (s.modView slot bay f).boot = s.boot ∧ (s.modView slot bay f).loft = s.loft ∧ (s.modView slot bay f).sys = s.sys ∧ (s.modView slot bay f).out = s.out ∧ (s.modView slot bay f).pending = s.pending := by
  refine ⟨rfl, rfl, rfl, rfl, rfl, rfl, rfl, rfl, rfl, rfl, rfl, rfl, rfl, rfl, rfl, rfl, rfl, rfl⟩

theorem modView_only (s : State) (slot bay : Nat) (f : FrameView → FrameView) : OnlyParts [.link] s (s.modView slot bay f) := by
  intro p hp; cases p <;> first | rfl | simp at hp

@[simp] theorem modPushJob_frame (s : State) (slot : Nat) (f : PushJob → PushJob) :
    (s.modPushJob slot f).gov = s.gov ∧ (s.modPushJob slot f).grid = s.grid ∧ (s.modPushJob slot f).easel = s.easel ∧ (s.modPushJob slot f).barn = s.barn ∧ (s.modPushJob slot f).gran = s.gran ∧ (s.modPushJob slot f).own = s.own ∧ (s.modPushJob slot f).host = s.host ∧ (s.modPushJob slot f).fab = s.fab ∧ (s.modPushJob slot f).rail = s.rail ∧ (s.modPushJob slot f).alm = s.alm ∧ (s.modPushJob slot f).pwr = s.pwr ∧ (s.modPushJob slot f).cool = s.cool ∧ (s.modPushJob slot f).tw = s.tw ∧ (s.modPushJob slot f).boot = s.boot ∧ (s.modPushJob slot f).loft = s.loft ∧ (s.modPushJob slot f).sys = s.sys ∧ (s.modPushJob slot f).out = s.out ∧ (s.modPushJob slot f).pending = s.pending := by
  refine ⟨rfl, rfl, rfl, rfl, rfl, rfl, rfl, rfl, rfl, rfl, rfl, rfl, rfl, rfl, rfl, rfl, rfl, rfl⟩

theorem modPushJob_only (s : State) (slot : Nat) (f : PushJob → PushJob) : OnlyParts [.link] s (s.modPushJob slot f) := by
  intro p hp; cases p <;> first | rfl | simp at hp

@[simp] theorem modGovParam_frame (s : State) (slot : Nat) (f : GovParam → GovParam) :
    (s.modGovParam slot f).link = s.link ∧ (s.modGovParam slot f).grid = s.grid ∧ (s.modGovParam slot f).easel = s.easel ∧ (s.modGovParam slot f).barn = s.barn ∧ (s.modGovParam slot f).gran = s.gran ∧ (s.modGovParam slot f).own = s.own ∧ (s.modGovParam slot f).host = s.host ∧ (s.modGovParam slot f).fab = s.fab ∧ (s.modGovParam slot f).rail = s.rail ∧ (s.modGovParam slot f).alm = s.alm ∧ (s.modGovParam slot f).pwr = s.pwr ∧ (s.modGovParam slot f).cool = s.cool ∧ (s.modGovParam slot f).tw = s.tw ∧ (s.modGovParam slot f).boot = s.boot ∧ (s.modGovParam slot f).loft = s.loft ∧ (s.modGovParam slot f).sys = s.sys ∧ (s.modGovParam slot f).out = s.out ∧ (s.modGovParam slot f).pending = s.pending := by
  refine ⟨rfl, rfl, rfl, rfl, rfl, rfl, rfl, rfl, rfl, rfl, rfl, rfl, rfl, rfl, rfl, rfl, rfl, rfl⟩

theorem modGovParam_only (s : State) (slot : Nat) (f : GovParam → GovParam) : OnlyParts [.gov] s (s.modGovParam slot f) := by
  intro p hp; cases p <;> first | rfl | simp at hp

@[simp] theorem modMarginParam_frame (s : State) (who : Nat) (f : MarginParam → MarginParam) :
    (s.modMarginParam who f).link = s.link ∧ (s.modMarginParam who f).grid = s.grid ∧ (s.modMarginParam who f).easel = s.easel ∧ (s.modMarginParam who f).barn = s.barn ∧ (s.modMarginParam who f).gran = s.gran ∧ (s.modMarginParam who f).own = s.own ∧ (s.modMarginParam who f).host = s.host ∧ (s.modMarginParam who f).fab = s.fab ∧ (s.modMarginParam who f).rail = s.rail ∧ (s.modMarginParam who f).alm = s.alm ∧ (s.modMarginParam who f).pwr = s.pwr ∧ (s.modMarginParam who f).cool = s.cool ∧ (s.modMarginParam who f).tw = s.tw ∧ (s.modMarginParam who f).boot = s.boot ∧ (s.modMarginParam who f).loft = s.loft ∧ (s.modMarginParam who f).sys = s.sys ∧ (s.modMarginParam who f).out = s.out ∧ (s.modMarginParam who f).pending = s.pending := by
  refine ⟨rfl, rfl, rfl, rfl, rfl, rfl, rfl, rfl, rfl, rfl, rfl, rfl, rfl, rfl, rfl, rfl, rfl, rfl⟩

theorem modMarginParam_only (s : State) (who : Nat) (f : MarginParam → MarginParam) : OnlyParts [.gov] s (s.modMarginParam who f) := by
  intro p hp; cases p <;> first | rfl | simp at hp

@[simp] theorem modTrimOf_frame (s : State) (who point : Nat) (f : Trim → Trim) :
    (s.modTrimOf who point f).link = s.link ∧ (s.modTrimOf who point f).grid = s.grid ∧ (s.modTrimOf who point f).easel = s.easel ∧ (s.modTrimOf who point f).barn = s.barn ∧ (s.modTrimOf who point f).gran = s.gran ∧ (s.modTrimOf who point f).own = s.own ∧ (s.modTrimOf who point f).host = s.host ∧ (s.modTrimOf who point f).fab = s.fab ∧ (s.modTrimOf who point f).rail = s.rail ∧ (s.modTrimOf who point f).alm = s.alm ∧ (s.modTrimOf who point f).pwr = s.pwr ∧ (s.modTrimOf who point f).cool = s.cool ∧ (s.modTrimOf who point f).tw = s.tw ∧ (s.modTrimOf who point f).boot = s.boot ∧ (s.modTrimOf who point f).loft = s.loft ∧ (s.modTrimOf who point f).sys = s.sys ∧ (s.modTrimOf who point f).out = s.out ∧ (s.modTrimOf who point f).pending = s.pending := by
  refine ⟨rfl, rfl, rfl, rfl, rfl, rfl, rfl, rfl, rfl, rfl, rfl, rfl, rfl, rfl, rfl, rfl, rfl, rfl⟩

theorem modTrimOf_only (s : State) (who point : Nat) (f : Trim → Trim) : OnlyParts [.gov] s (s.modTrimOf who point f) := by
  intro p hp; cases p <;> first | rfl | simp at hp

@[simp] theorem modCalSlot_frame (s : State) (slot : Nat) (f : CalSlot → CalSlot) :
    (s.modCalSlot slot f).link = s.link ∧ (s.modCalSlot slot f).grid = s.grid ∧ (s.modCalSlot slot f).easel = s.easel ∧ (s.modCalSlot slot f).barn = s.barn ∧ (s.modCalSlot slot f).gran = s.gran ∧ (s.modCalSlot slot f).own = s.own ∧ (s.modCalSlot slot f).host = s.host ∧ (s.modCalSlot slot f).fab = s.fab ∧ (s.modCalSlot slot f).rail = s.rail ∧ (s.modCalSlot slot f).alm = s.alm ∧ (s.modCalSlot slot f).pwr = s.pwr ∧ (s.modCalSlot slot f).cool = s.cool ∧ (s.modCalSlot slot f).tw = s.tw ∧ (s.modCalSlot slot f).boot = s.boot ∧ (s.modCalSlot slot f).loft = s.loft ∧ (s.modCalSlot slot f).sys = s.sys ∧ (s.modCalSlot slot f).out = s.out ∧ (s.modCalSlot slot f).pending = s.pending := by
  refine ⟨rfl, rfl, rfl, rfl, rfl, rfl, rfl, rfl, rfl, rfl, rfl, rfl, rfl, rfl, rfl, rfl, rfl, rfl⟩

theorem modCalSlot_only (s : State) (slot : Nat) (f : CalSlot → CalSlot) : OnlyParts [.gov] s (s.modCalSlot slot f) := by
  intro p hp; cases p <;> first | rfl | simp at hp

@[simp] theorem modChg_frame (s : State) (bay slot : Nat) (f : Chg → Chg) :
    (s.modChg bay slot f).link = s.link ∧ (s.modChg bay slot f).grid = s.grid ∧ (s.modChg bay slot f).easel = s.easel ∧ (s.modChg bay slot f).barn = s.barn ∧ (s.modChg bay slot f).gran = s.gran ∧ (s.modChg bay slot f).own = s.own ∧ (s.modChg bay slot f).host = s.host ∧ (s.modChg bay slot f).fab = s.fab ∧ (s.modChg bay slot f).rail = s.rail ∧ (s.modChg bay slot f).alm = s.alm ∧ (s.modChg bay slot f).pwr = s.pwr ∧ (s.modChg bay slot f).cool = s.cool ∧ (s.modChg bay slot f).tw = s.tw ∧ (s.modChg bay slot f).boot = s.boot ∧ (s.modChg bay slot f).loft = s.loft ∧ (s.modChg bay slot f).sys = s.sys ∧ (s.modChg bay slot f).out = s.out ∧ (s.modChg bay slot f).pending = s.pending := by
  refine ⟨rfl, rfl, rfl, rfl, rfl, rfl, rfl, rfl, rfl, rfl, rfl, rfl, rfl, rfl, rfl, rfl, rfl, rfl⟩

theorem modChg_only (s : State) (bay slot : Nat) (f : Chg → Chg) : OnlyParts [.gov] s (s.modChg bay slot f) := by
  intro p hp; cases p <;> first | rfl | simp at hp

@[simp] theorem modGovSlot_frame (s : State) (bay slot : Nat) (f : GovSlot → GovSlot) :
    (s.modGovSlot bay slot f).link = s.link ∧ (s.modGovSlot bay slot f).grid = s.grid ∧ (s.modGovSlot bay slot f).easel = s.easel ∧ (s.modGovSlot bay slot f).barn = s.barn ∧ (s.modGovSlot bay slot f).gran = s.gran ∧ (s.modGovSlot bay slot f).own = s.own ∧ (s.modGovSlot bay slot f).host = s.host ∧ (s.modGovSlot bay slot f).fab = s.fab ∧ (s.modGovSlot bay slot f).rail = s.rail ∧ (s.modGovSlot bay slot f).alm = s.alm ∧ (s.modGovSlot bay slot f).pwr = s.pwr ∧ (s.modGovSlot bay slot f).cool = s.cool ∧ (s.modGovSlot bay slot f).tw = s.tw ∧ (s.modGovSlot bay slot f).boot = s.boot ∧ (s.modGovSlot bay slot f).loft = s.loft ∧ (s.modGovSlot bay slot f).sys = s.sys ∧ (s.modGovSlot bay slot f).out = s.out ∧ (s.modGovSlot bay slot f).pending = s.pending := by
  refine ⟨rfl, rfl, rfl, rfl, rfl, rfl, rfl, rfl, rfl, rfl, rfl, rfl, rfl, rfl, rfl, rfl, rfl, rfl⟩

theorem modGovSlot_only (s : State) (bay slot : Nat) (f : GovSlot → GovSlot) : OnlyParts [.gov] s (s.modGovSlot bay slot f) := by
  intro p hp; cases p <;> first | rfl | simp at hp

@[simp] theorem modEaselBay_frame (s : State) (bay : Nat) (f : Easel → Easel) :
    (s.modEaselBay bay f).link = s.link ∧ (s.modEaselBay bay f).gov = s.gov ∧ (s.modEaselBay bay f).grid = s.grid ∧ (s.modEaselBay bay f).barn = s.barn ∧ (s.modEaselBay bay f).gran = s.gran ∧ (s.modEaselBay bay f).own = s.own ∧ (s.modEaselBay bay f).host = s.host ∧ (s.modEaselBay bay f).fab = s.fab ∧ (s.modEaselBay bay f).rail = s.rail ∧ (s.modEaselBay bay f).alm = s.alm ∧ (s.modEaselBay bay f).pwr = s.pwr ∧ (s.modEaselBay bay f).cool = s.cool ∧ (s.modEaselBay bay f).tw = s.tw ∧ (s.modEaselBay bay f).boot = s.boot ∧ (s.modEaselBay bay f).loft = s.loft ∧ (s.modEaselBay bay f).sys = s.sys ∧ (s.modEaselBay bay f).out = s.out ∧ (s.modEaselBay bay f).pending = s.pending := by
  refine ⟨rfl, rfl, rfl, rfl, rfl, rfl, rfl, rfl, rfl, rfl, rfl, rfl, rfl, rfl, rfl, rfl, rfl, rfl⟩

theorem modEaselBay_only (s : State) (bay : Nat) (f : Easel → Easel) : OnlyParts [.easel] s (s.modEaselBay bay f) := by
  intro p hp; cases p <;> first | rfl | simp at hp

@[simp] theorem modHand_frame (s : State) (bay hand : Nat) (f : Hand → Hand) :
    (s.modHand bay hand f).link = s.link ∧ (s.modHand bay hand f).gov = s.gov ∧ (s.modHand bay hand f).grid = s.grid ∧ (s.modHand bay hand f).easel = s.easel ∧ (s.modHand bay hand f).gran = s.gran ∧ (s.modHand bay hand f).own = s.own ∧ (s.modHand bay hand f).host = s.host ∧ (s.modHand bay hand f).fab = s.fab ∧ (s.modHand bay hand f).rail = s.rail ∧ (s.modHand bay hand f).alm = s.alm ∧ (s.modHand bay hand f).pwr = s.pwr ∧ (s.modHand bay hand f).cool = s.cool ∧ (s.modHand bay hand f).tw = s.tw ∧ (s.modHand bay hand f).boot = s.boot ∧ (s.modHand bay hand f).loft = s.loft ∧ (s.modHand bay hand f).sys = s.sys ∧ (s.modHand bay hand f).out = s.out ∧ (s.modHand bay hand f).pending = s.pending := by
  refine ⟨rfl, rfl, rfl, rfl, rfl, rfl, rfl, rfl, rfl, rfl, rfl, rfl, rfl, rfl, rfl, rfl, rfl, rfl⟩

theorem modHand_only (s : State) (bay hand : Nat) (f : Hand → Hand) : OnlyParts [.barn] s (s.modHand bay hand f) := by
  intro p hp; cases p <;> first | rfl | simp at hp

@[simp] theorem modGranary_frame (s : State) (bay : Nat) (f : Granary → Granary) :
    (s.modGranary bay f).link = s.link ∧ (s.modGranary bay f).gov = s.gov ∧ (s.modGranary bay f).grid = s.grid ∧ (s.modGranary bay f).easel = s.easel ∧ (s.modGranary bay f).barn = s.barn ∧ (s.modGranary bay f).own = s.own ∧ (s.modGranary bay f).host = s.host ∧ (s.modGranary bay f).fab = s.fab ∧ (s.modGranary bay f).rail = s.rail ∧ (s.modGranary bay f).alm = s.alm ∧ (s.modGranary bay f).pwr = s.pwr ∧ (s.modGranary bay f).cool = s.cool ∧ (s.modGranary bay f).tw = s.tw ∧ (s.modGranary bay f).boot = s.boot ∧ (s.modGranary bay f).loft = s.loft ∧ (s.modGranary bay f).sys = s.sys ∧ (s.modGranary bay f).out = s.out ∧ (s.modGranary bay f).pending = s.pending := by
  refine ⟨rfl, rfl, rfl, rfl, rfl, rfl, rfl, rfl, rfl, rfl, rfl, rfl, rfl, rfl, rfl, rfl, rfl, rfl⟩

theorem modGranary_only (s : State) (bay : Nat) (f : Granary → Granary) : OnlyParts [.gran] s (s.modGranary bay f) := by
  intro p hp; cases p <;> first | rfl | simp at hp

@[simp] theorem modBist_frame (s : State) (bay bank : Nat) (f : Bist → Bist) :
    (s.modBist bay bank f).link = s.link ∧ (s.modBist bay bank f).gov = s.gov ∧ (s.modBist bay bank f).grid = s.grid ∧ (s.modBist bay bank f).easel = s.easel ∧ (s.modBist bay bank f).barn = s.barn ∧ (s.modBist bay bank f).own = s.own ∧ (s.modBist bay bank f).host = s.host ∧ (s.modBist bay bank f).fab = s.fab ∧ (s.modBist bay bank f).rail = s.rail ∧ (s.modBist bay bank f).alm = s.alm ∧ (s.modBist bay bank f).pwr = s.pwr ∧ (s.modBist bay bank f).cool = s.cool ∧ (s.modBist bay bank f).tw = s.tw ∧ (s.modBist bay bank f).boot = s.boot ∧ (s.modBist bay bank f).loft = s.loft ∧ (s.modBist bay bank f).sys = s.sys ∧ (s.modBist bay bank f).out = s.out ∧ (s.modBist bay bank f).pending = s.pending := by
  refine ⟨rfl, rfl, rfl, rfl, rfl, rfl, rfl, rfl, rfl, rfl, rfl, rfl, rfl, rfl, rfl, rfl, rfl, rfl⟩

theorem modBist_only (s : State) (bay bank : Nat) (f : Bist → Bist) : OnlyParts [.gran] s (s.modBist bay bank f) := by
  intro p hp; cases p <;> first | rfl | simp at hp

@[simp] theorem modBay_frame (s : State) (b : Nat) (f : Bay → Bay) :
    (s.modBay b f).link = s.link ∧ (s.modBay b f).gov = s.gov ∧ (s.modBay b f).grid = s.grid ∧ (s.modBay b f).easel = s.easel ∧ (s.modBay b f).barn = s.barn ∧ (s.modBay b f).gran = s.gran ∧ (s.modBay b f).host = s.host ∧ (s.modBay b f).fab = s.fab ∧ (s.modBay b f).rail = s.rail ∧ (s.modBay b f).alm = s.alm ∧ (s.modBay b f).pwr = s.pwr ∧ (s.modBay b f).cool = s.cool ∧ (s.modBay b f).tw = s.tw ∧ (s.modBay b f).boot = s.boot ∧ (s.modBay b f).loft = s.loft ∧ (s.modBay b f).sys = s.sys ∧ (s.modBay b f).out = s.out ∧ (s.modBay b f).pending = s.pending := by
  refine ⟨rfl, rfl, rfl, rfl, rfl, rfl, rfl, rfl, rfl, rfl, rfl, rfl, rfl, rfl, rfl, rfl, rfl, rfl⟩

theorem modBay_only (s : State) (b : Nat) (f : Bay → Bay) : OnlyParts [.own] s (s.modBay b f) := by
  intro p hp; cases p <;> first | rfl | simp at hp

@[simp] theorem modEndpoint_frame (s : State) (e : Nat) (f : Endpoint → Endpoint) :
    (s.modEndpoint e f).link = s.link ∧ (s.modEndpoint e f).gov = s.gov ∧ (s.modEndpoint e f).grid = s.grid ∧ (s.modEndpoint e f).easel = s.easel ∧ (s.modEndpoint e f).barn = s.barn ∧ (s.modEndpoint e f).gran = s.gran ∧ (s.modEndpoint e f).own = s.own ∧ (s.modEndpoint e f).fab = s.fab ∧ (s.modEndpoint e f).rail = s.rail ∧ (s.modEndpoint e f).alm = s.alm ∧ (s.modEndpoint e f).pwr = s.pwr ∧ (s.modEndpoint e f).cool = s.cool ∧ (s.modEndpoint e f).tw = s.tw ∧ (s.modEndpoint e f).boot = s.boot ∧ (s.modEndpoint e f).loft = s.loft ∧ (s.modEndpoint e f).sys = s.sys ∧ (s.modEndpoint e f).out = s.out ∧ (s.modEndpoint e f).pending = s.pending := by
  refine ⟨rfl, rfl, rfl, rfl, rfl, rfl, rfl, rfl, rfl, rfl, rfl, rfl, rfl, rfl, rfl, rfl, rfl, rfl⟩

theorem modEndpoint_only (s : State) (e : Nat) (f : Endpoint → Endpoint) : OnlyParts [.host] s (s.modEndpoint e f) := by
  intro p hp; cases p <;> first | rfl | simp at hp

@[simp] theorem modRailEntry_frame (s : State) (nn : Nat) (f : Rail → Rail) :
    (s.modRail_ nn f).link = s.link ∧ (s.modRail_ nn f).gov = s.gov ∧ (s.modRail_ nn f).grid = s.grid ∧ (s.modRail_ nn f).easel = s.easel ∧ (s.modRail_ nn f).barn = s.barn ∧ (s.modRail_ nn f).gran = s.gran ∧ (s.modRail_ nn f).own = s.own ∧ (s.modRail_ nn f).host = s.host ∧ (s.modRail_ nn f).fab = s.fab ∧ (s.modRail_ nn f).alm = s.alm ∧ (s.modRail_ nn f).pwr = s.pwr ∧ (s.modRail_ nn f).cool = s.cool ∧ (s.modRail_ nn f).tw = s.tw ∧ (s.modRail_ nn f).boot = s.boot ∧ (s.modRail_ nn f).loft = s.loft ∧ (s.modRail_ nn f).sys = s.sys ∧ (s.modRail_ nn f).out = s.out ∧ (s.modRail_ nn f).pending = s.pending := by
  refine ⟨rfl, rfl, rfl, rfl, rfl, rfl, rfl, rfl, rfl, rfl, rfl, rfl, rfl, rfl, rfl, rfl, rfl, rfl⟩

theorem modRailEntry_only (s : State) (nn : Nat) (f : Rail → Rail) : OnlyParts [.rail] s (s.modRail_ nn f) := by
  intro p hp; cases p <;> first | rfl | simp at hp

@[simp] theorem modChan_frame (s : State) (ch : Nat) (f : Chan → Chan) :
    (s.modChan ch f).link = s.link ∧ (s.modChan ch f).gov = s.gov ∧ (s.modChan ch f).grid = s.grid ∧ (s.modChan ch f).easel = s.easel ∧ (s.modChan ch f).barn = s.barn ∧ (s.modChan ch f).gran = s.gran ∧ (s.modChan ch f).own = s.own ∧ (s.modChan ch f).host = s.host ∧ (s.modChan ch f).fab = s.fab ∧ (s.modChan ch f).rail = s.rail ∧ (s.modChan ch f).alm = s.alm ∧ (s.modChan ch f).cool = s.cool ∧ (s.modChan ch f).tw = s.tw ∧ (s.modChan ch f).boot = s.boot ∧ (s.modChan ch f).loft = s.loft ∧ (s.modChan ch f).sys = s.sys ∧ (s.modChan ch f).out = s.out ∧ (s.modChan ch f).pending = s.pending := by
  refine ⟨rfl, rfl, rfl, rfl, rfl, rfl, rfl, rfl, rfl, rfl, rfl, rfl, rfl, rfl, rfl, rfl, rfl, rfl⟩

theorem modChan_only (s : State) (ch : Nat) (f : Chan → Chan) : OnlyParts [.pwr] s (s.modChan ch f) := by
  intro p hp; cases p <;> first | rfl | simp at hp

@[simp] theorem modTwPort_frame (s : State) (port : Nat) (f : TwPort → TwPort) :
    (s.modTwPort port f).link = s.link ∧ (s.modTwPort port f).gov = s.gov ∧ (s.modTwPort port f).grid = s.grid ∧ (s.modTwPort port f).easel = s.easel ∧ (s.modTwPort port f).barn = s.barn ∧ (s.modTwPort port f).gran = s.gran ∧ (s.modTwPort port f).own = s.own ∧ (s.modTwPort port f).host = s.host ∧ (s.modTwPort port f).fab = s.fab ∧ (s.modTwPort port f).rail = s.rail ∧ (s.modTwPort port f).alm = s.alm ∧ (s.modTwPort port f).pwr = s.pwr ∧ (s.modTwPort port f).cool = s.cool ∧ (s.modTwPort port f).boot = s.boot ∧ (s.modTwPort port f).loft = s.loft ∧ (s.modTwPort port f).sys = s.sys ∧ (s.modTwPort port f).out = s.out ∧ (s.modTwPort port f).pending = s.pending := by
  refine ⟨rfl, rfl, rfl, rfl, rfl, rfl, rfl, rfl, rfl, rfl, rfl, rfl, rfl, rfl, rfl, rfl, rfl, rfl⟩

theorem modTwPort_only (s : State) (port : Nat) (f : TwPort → TwPort) : OnlyParts [.tw] s (s.modTwPort port f) := by
  intro p hp; cases p <;> first | rfl | simp at hp

@[simp] theorem modPush_frame (s : State) (bay : Nat) (f : Push → Push) :
    (s.modPush bay f).link = s.link ∧ (s.modPush bay f).gov = s.gov ∧ (s.modPush bay f).grid = s.grid ∧ (s.modPush bay f).easel = s.easel ∧ (s.modPush bay f).barn = s.barn ∧ (s.modPush bay f).gran = s.gran ∧ (s.modPush bay f).own = s.own ∧ (s.modPush bay f).host = s.host ∧ (s.modPush bay f).fab = s.fab ∧ (s.modPush bay f).rail = s.rail ∧ (s.modPush bay f).alm = s.alm ∧ (s.modPush bay f).pwr = s.pwr ∧ (s.modPush bay f).cool = s.cool ∧ (s.modPush bay f).tw = s.tw ∧ (s.modPush bay f).loft = s.loft ∧ (s.modPush bay f).sys = s.sys ∧ (s.modPush bay f).out = s.out ∧ (s.modPush bay f).pending = s.pending := by
  refine ⟨rfl, rfl, rfl, rfl, rfl, rfl, rfl, rfl, rfl, rfl, rfl, rfl, rfl, rfl, rfl, rfl, rfl, rfl⟩

theorem modPush_only (s : State) (bay : Nat) (f : Push → Push) : OnlyParts [.boot] s (s.modPush bay f) := by
  intro p hp; cases p <;> first | rfl | simp at hp

@[simp] theorem modMeasure_frame (s : State) (bay : Nat) (f : Measure → Measure) :
    (s.modMeasure bay f).link = s.link ∧ (s.modMeasure bay f).gov = s.gov ∧ (s.modMeasure bay f).grid = s.grid ∧ (s.modMeasure bay f).easel = s.easel ∧ (s.modMeasure bay f).barn = s.barn ∧ (s.modMeasure bay f).gran = s.gran ∧ (s.modMeasure bay f).own = s.own ∧ (s.modMeasure bay f).host = s.host ∧ (s.modMeasure bay f).fab = s.fab ∧ (s.modMeasure bay f).rail = s.rail ∧ (s.modMeasure bay f).alm = s.alm ∧ (s.modMeasure bay f).pwr = s.pwr ∧ (s.modMeasure bay f).cool = s.cool ∧ (s.modMeasure bay f).tw = s.tw ∧ (s.modMeasure bay f).loft = s.loft ∧ (s.modMeasure bay f).sys = s.sys ∧ (s.modMeasure bay f).out = s.out ∧ (s.modMeasure bay f).pending = s.pending := by
  refine ⟨rfl, rfl, rfl, rfl, rfl, rfl, rfl, rfl, rfl, rfl, rfl, rfl, rfl, rfl, rfl, rfl, rfl, rfl⟩

theorem modMeasure_only (s : State) (bay : Nat) (f : Measure → Measure) : OnlyParts [.boot] s (s.modMeasure bay f) := by
  intro p hp; cases p <;> first | rfl | simp at hp

@[simp] theorem modZone_frame (s : State) (z : Nat) (f : Zone → Zone) :
    (s.modZone z f).link = s.link ∧ (s.modZone z f).gov = s.gov ∧ (s.modZone z f).grid = s.grid ∧ (s.modZone z f).easel = s.easel ∧ (s.modZone z f).barn = s.barn ∧ (s.modZone z f).gran = s.gran ∧ (s.modZone z f).own = s.own ∧ (s.modZone z f).host = s.host ∧ (s.modZone z f).fab = s.fab ∧ (s.modZone z f).rail = s.rail ∧ (s.modZone z f).alm = s.alm ∧ (s.modZone z f).pwr = s.pwr ∧ (s.modZone z f).tw = s.tw ∧ (s.modZone z f).boot = s.boot ∧ (s.modZone z f).loft = s.loft ∧ (s.modZone z f).sys = s.sys ∧ (s.modZone z f).out = s.out ∧ (s.modZone z f).pending = s.pending := by
  refine ⟨rfl, rfl, rfl, rfl, rfl, rfl, rfl, rfl, rfl, rfl, rfl, rfl, rfl, rfl, rfl, rfl, rfl, rfl⟩

theorem modZone_only (s : State) (z : Nat) (f : Zone → Zone) : OnlyParts [.cool] s (s.modZone z f) := by
  intro p hp; cases p <;> first | rfl | simp at hp

@[simp] theorem modPoint_frame (s : State) (p : Nat) (f : Point → Point) :
    (s.modPoint p f).link = s.link ∧ (s.modPoint p f).gov = s.gov ∧ (s.modPoint p f).grid = s.grid ∧ (s.modPoint p f).easel = s.easel ∧ (s.modPoint p f).barn = s.barn ∧ (s.modPoint p f).gran = s.gran ∧ (s.modPoint p f).own = s.own ∧ (s.modPoint p f).host = s.host ∧ (s.modPoint p f).fab = s.fab ∧ (s.modPoint p f).rail = s.rail ∧ (s.modPoint p f).alm = s.alm ∧ (s.modPoint p f).pwr = s.pwr ∧ (s.modPoint p f).tw = s.tw ∧ (s.modPoint p f).boot = s.boot ∧ (s.modPoint p f).loft = s.loft ∧ (s.modPoint p f).sys = s.sys ∧ (s.modPoint p f).out = s.out ∧ (s.modPoint p f).pending = s.pending := by
  refine ⟨rfl, rfl, rfl, rfl, rfl, rfl, rfl, rfl, rfl, rfl, rfl, rfl, rfl, rfl, rfl, rfl, rfl, rfl⟩

theorem modPoint_only (s : State) (p : Nat) (f : Point → Point) : OnlyParts [.cool] s (s.modPoint p f) := by
  intro p hp; cases p <;> first | rfl | simp at hp

@[simp] theorem modDrive_frame (s : State) (ch : Nat) (f : Drive → Drive) :
    (s.modDrive ch f).link = s.link ∧ (s.modDrive ch f).gov = s.gov ∧ (s.modDrive ch f).grid = s.grid ∧ (s.modDrive ch f).easel = s.easel ∧ (s.modDrive ch f).barn = s.barn ∧ (s.modDrive ch f).gran = s.gran ∧ (s.modDrive ch f).own = s.own ∧ (s.modDrive ch f).host = s.host ∧ (s.modDrive ch f).fab = s.fab ∧ (s.modDrive ch f).rail = s.rail ∧ (s.modDrive ch f).alm = s.alm ∧ (s.modDrive ch f).pwr = s.pwr ∧ (s.modDrive ch f).tw = s.tw ∧ (s.modDrive ch f).boot = s.boot ∧ (s.modDrive ch f).loft = s.loft ∧ (s.modDrive ch f).sys = s.sys ∧ (s.modDrive ch f).out = s.out ∧ (s.modDrive ch f).pending = s.pending := by
  refine ⟨rfl, rfl, rfl, rfl, rfl, rfl, rfl, rfl, rfl, rfl, rfl, rfl, rfl, rfl, rfl, rfl, rfl, rfl⟩

theorem modDrive_only (s : State) (ch : Nat) (f : Drive → Drive) : OnlyParts [.cool] s (s.modDrive ch f) := by
  intro p hp; cases p <;> first | rfl | simp at hp

@[simp] theorem modInput_frame (s : State) (ch : Nat) (f : Input → Input) :
    (s.modInput ch f).link = s.link ∧ (s.modInput ch f).gov = s.gov ∧ (s.modInput ch f).grid = s.grid ∧ (s.modInput ch f).easel = s.easel ∧ (s.modInput ch f).barn = s.barn ∧ (s.modInput ch f).gran = s.gran ∧ (s.modInput ch f).own = s.own ∧ (s.modInput ch f).host = s.host ∧ (s.modInput ch f).fab = s.fab ∧ (s.modInput ch f).rail = s.rail ∧ (s.modInput ch f).alm = s.alm ∧ (s.modInput ch f).pwr = s.pwr ∧ (s.modInput ch f).tw = s.tw ∧ (s.modInput ch f).boot = s.boot ∧ (s.modInput ch f).loft = s.loft ∧ (s.modInput ch f).sys = s.sys ∧ (s.modInput ch f).out = s.out ∧ (s.modInput ch f).pending = s.pending := by
  refine ⟨rfl, rfl, rfl, rfl, rfl, rfl, rfl, rfl, rfl, rfl, rfl, rfl, rfl, rfl, rfl, rfl, rfl, rfl⟩

theorem modInput_only (s : State) (ch : Nat) (f : Input → Input) : OnlyParts [.cool] s (s.modInput ch f) := by
  intro p hp; cases p <;> first | rfl | simp at hp

@[simp] theorem modDiode_frame (s : State) (d : Nat) (f : Diode → Diode) :
    (s.modDiode d f).link = s.link ∧ (s.modDiode d f).gov = s.gov ∧ (s.modDiode d f).grid = s.grid ∧ (s.modDiode d f).easel = s.easel ∧ (s.modDiode d f).barn = s.barn ∧ (s.modDiode d f).gran = s.gran ∧ (s.modDiode d f).own = s.own ∧ (s.modDiode d f).host = s.host ∧ (s.modDiode d f).fab = s.fab ∧ (s.modDiode d f).rail = s.rail ∧ (s.modDiode d f).alm = s.alm ∧ (s.modDiode d f).pwr = s.pwr ∧ (s.modDiode d f).tw = s.tw ∧ (s.modDiode d f).boot = s.boot ∧ (s.modDiode d f).loft = s.loft ∧ (s.modDiode d f).sys = s.sys ∧ (s.modDiode d f).out = s.out ∧ (s.modDiode d f).pending = s.pending := by
  refine ⟨rfl, rfl, rfl, rfl, rfl, rfl, rfl, rfl, rfl, rfl, rfl, rfl, rfl, rfl, rfl, rfl, rfl, rfl⟩

theorem modDiode_only (s : State) (d : Nat) (f : Diode → Diode) : OnlyParts [.cool] s (s.modDiode d f) := by
  intro p hp; cases p <;> first | rfl | simp at hp

@[simp] theorem modValve_frame (s : State) (v : Nat) (f : Valve → Valve) :
    (s.modValve v f).link = s.link ∧ (s.modValve v f).gov = s.gov ∧ (s.modValve v f).grid = s.grid ∧ (s.modValve v f).easel = s.easel ∧ (s.modValve v f).barn = s.barn ∧ (s.modValve v f).gran = s.gran ∧ (s.modValve v f).own = s.own ∧ (s.modValve v f).host = s.host ∧ (s.modValve v f).fab = s.fab ∧ (s.modValve v f).rail = s.rail ∧ (s.modValve v f).alm = s.alm ∧ (s.modValve v f).pwr = s.pwr ∧ (s.modValve v f).tw = s.tw ∧ (s.modValve v f).boot = s.boot ∧ (s.modValve v f).loft = s.loft ∧ (s.modValve v f).sys = s.sys ∧ (s.modValve v f).out = s.out ∧ (s.modValve v f).pending = s.pending := by
  refine ⟨rfl, rfl, rfl, rfl, rfl, rfl, rfl, rfl, rfl, rfl, rfl, rfl, rfl, rfl, rfl, rfl, rfl, rfl⟩

theorem modValve_only (s : State) (v : Nat) (f : Valve → Valve) : OnlyParts [.cool] s (s.modValve v f) := by
  intro p hp; cases p <;> first | rfl | simp at hp

@[simp] theorem modThermal_frame (s : State) (slot : Nat) (f : Thermal → Thermal) :
    (s.modThermal slot f).link = s.link ∧ (s.modThermal slot f).gov = s.gov ∧ (s.modThermal slot f).grid = s.grid ∧ (s.modThermal slot f).easel = s.easel ∧ (s.modThermal slot f).barn = s.barn ∧ (s.modThermal slot f).gran = s.gran ∧ (s.modThermal slot f).own = s.own ∧ (s.modThermal slot f).host = s.host ∧ (s.modThermal slot f).fab = s.fab ∧ (s.modThermal slot f).rail = s.rail ∧ (s.modThermal slot f).alm = s.alm ∧ (s.modThermal slot f).pwr = s.pwr ∧ (s.modThermal slot f).tw = s.tw ∧ (s.modThermal slot f).boot = s.boot ∧ (s.modThermal slot f).loft = s.loft ∧ (s.modThermal slot f).sys = s.sys ∧ (s.modThermal slot f).out = s.out ∧ (s.modThermal slot f).pending = s.pending := by
  refine ⟨rfl, rfl, rfl, rfl, rfl, rfl, rfl, rfl, rfl, rfl, rfl, rfl, rfl, rfl, rfl, rfl, rfl, rfl⟩

theorem modThermal_only (s : State) (slot : Nat) (f : Thermal → Thermal) : OnlyParts [.cool] s (s.modThermal slot f) := by
  intro p hp; cases p <;> first | rfl | simp at hp

@[simp] theorem modLatch_frame (s : State) (f : Latch → Latch) :
    (s.modLatch f).link = s.link ∧ (s.modLatch f).gov = s.gov ∧ (s.modLatch f).grid = s.grid ∧ (s.modLatch f).easel = s.easel ∧ (s.modLatch f).barn = s.barn ∧ (s.modLatch f).gran = s.gran ∧ (s.modLatch f).host = s.host ∧ (s.modLatch f).fab = s.fab ∧ (s.modLatch f).rail = s.rail ∧ (s.modLatch f).alm = s.alm ∧ (s.modLatch f).pwr = s.pwr ∧ (s.modLatch f).cool = s.cool ∧ (s.modLatch f).tw = s.tw ∧ (s.modLatch f).boot = s.boot ∧ (s.modLatch f).loft = s.loft ∧ (s.modLatch f).sys = s.sys ∧ (s.modLatch f).out = s.out ∧ (s.modLatch f).pending = s.pending := by
  refine ⟨rfl, rfl, rfl, rfl, rfl, rfl, rfl, rfl, rfl, rfl, rfl, rfl, rfl, rfl, rfl, rfl, rfl, rfl⟩

theorem modLatch_only (s : State) (f : Latch → Latch) : OnlyParts [.own] s (s.modLatch f) := by
  intro p hp; cases p <;> first | rfl | simp at hp

@[simp] theorem modJournal_frame (s : State) (f : Journal → Journal) :
    (s.modJournal f).link = s.link ∧ (s.modJournal f).gov = s.gov ∧ (s.modJournal f).grid = s.grid ∧ (s.modJournal f).easel = s.easel ∧ (s.modJournal f).barn = s.barn ∧ (s.modJournal f).gran = s.gran ∧ (s.modJournal f).host = s.host ∧ (s.modJournal f).fab = s.fab ∧ (s.modJournal f).rail = s.rail ∧ (s.modJournal f).alm = s.alm ∧ (s.modJournal f).pwr = s.pwr ∧ (s.modJournal f).cool = s.cool ∧ (s.modJournal f).tw = s.tw ∧ (s.modJournal f).boot = s.boot ∧ (s.modJournal f).loft = s.loft ∧ (s.modJournal f).sys = s.sys ∧ (s.modJournal f).out = s.out ∧ (s.modJournal f).pending = s.pending := by
  refine ⟨rfl, rfl, rfl, rfl, rfl, rfl, rfl, rfl, rfl, rfl, rfl, rfl, rfl, rfl, rfl, rfl, rfl, rfl⟩

theorem modJournal_only (s : State) (f : Journal → Journal) : OnlyParts [.own] s (s.modJournal f) := by
  intro p hp; cases p <;> first | rfl | simp at hp

@[simp] theorem modOwnParam_frame (s : State) (f : OwnParam → OwnParam) :
    (s.modOwnParam f).link = s.link ∧ (s.modOwnParam f).gov = s.gov ∧ (s.modOwnParam f).grid = s.grid ∧ (s.modOwnParam f).easel = s.easel ∧ (s.modOwnParam f).barn = s.barn ∧ (s.modOwnParam f).gran = s.gran ∧ (s.modOwnParam f).host = s.host ∧ (s.modOwnParam f).fab = s.fab ∧ (s.modOwnParam f).rail = s.rail ∧ (s.modOwnParam f).alm = s.alm ∧ (s.modOwnParam f).pwr = s.pwr ∧ (s.modOwnParam f).cool = s.cool ∧ (s.modOwnParam f).tw = s.tw ∧ (s.modOwnParam f).boot = s.boot ∧ (s.modOwnParam f).loft = s.loft ∧ (s.modOwnParam f).sys = s.sys ∧ (s.modOwnParam f).out = s.out ∧ (s.modOwnParam f).pending = s.pending := by
  refine ⟨rfl, rfl, rfl, rfl, rfl, rfl, rfl, rfl, rfl, rfl, rfl, rfl, rfl, rfl, rfl, rfl, rfl, rfl⟩

theorem modOwnParam_only (s : State) (f : OwnParam → OwnParam) : OnlyParts [.own] s (s.modOwnParam f) := by
  intro p hp; cases p <;> first | rfl | simp at hp

@[simp] theorem modEsc_frame (s : State) (f : Esc → Esc) :
    (s.modEsc f).link = s.link ∧ (s.modEsc f).grid = s.grid ∧ (s.modEsc f).easel = s.easel ∧ (s.modEsc f).barn = s.barn ∧ (s.modEsc f).gran = s.gran ∧ (s.modEsc f).own = s.own ∧ (s.modEsc f).host = s.host ∧ (s.modEsc f).fab = s.fab ∧ (s.modEsc f).rail = s.rail ∧ (s.modEsc f).alm = s.alm ∧ (s.modEsc f).pwr = s.pwr ∧ (s.modEsc f).cool = s.cool ∧ (s.modEsc f).tw = s.tw ∧ (s.modEsc f).boot = s.boot ∧ (s.modEsc f).loft = s.loft ∧ (s.modEsc f).sys = s.sys ∧ (s.modEsc f).out = s.out ∧ (s.modEsc f).pending = s.pending := by
  refine ⟨rfl, rfl, rfl, rfl, rfl, rfl, rfl, rfl, rfl, rfl, rfl, rfl, rfl, rfl, rfl, rfl, rfl, rfl⟩

theorem modEsc_only (s : State) (f : Esc → Esc) : OnlyParts [.gov] s (s.modEsc f) := by
  intro p hp; cases p <;> first | rfl | simp at hp

@[simp] theorem modTrayParam_frame (s : State) (f : TrayParam → TrayParam) :
    (s.modTrayParam f).link = s.link ∧ (s.modTrayParam f).grid = s.grid ∧ (s.modTrayParam f).easel = s.easel ∧ (s.modTrayParam f).barn = s.barn ∧ (s.modTrayParam f).gran = s.gran ∧ (s.modTrayParam f).own = s.own ∧ (s.modTrayParam f).host = s.host ∧ (s.modTrayParam f).fab = s.fab ∧ (s.modTrayParam f).rail = s.rail ∧ (s.modTrayParam f).alm = s.alm ∧ (s.modTrayParam f).pwr = s.pwr ∧ (s.modTrayParam f).cool = s.cool ∧ (s.modTrayParam f).tw = s.tw ∧ (s.modTrayParam f).boot = s.boot ∧ (s.modTrayParam f).loft = s.loft ∧ (s.modTrayParam f).sys = s.sys ∧ (s.modTrayParam f).out = s.out ∧ (s.modTrayParam f).pending = s.pending := by
  refine ⟨rfl, rfl, rfl, rfl, rfl, rfl, rfl, rfl, rfl, rfl, rfl, rfl, rfl, rfl, rfl, rfl, rfl, rfl⟩

theorem modTrayParam_only (s : State) (f : TrayParam → TrayParam) : OnlyParts [.gov] s (s.modTrayParam f) := by
  intro p hp; cases p <;> first | rfl | simp at hp

@[simp] theorem modRings_frame (s : State) (f : Rings → Rings) :
    (s.modRings f).link = s.link ∧ (s.modRings f).gov = s.gov ∧ (s.modRings f).grid = s.grid ∧ (s.modRings f).easel = s.easel ∧ (s.modRings f).barn = s.barn ∧ (s.modRings f).gran = s.gran ∧ (s.modRings f).own = s.own ∧ (s.modRings f).fab = s.fab ∧ (s.modRings f).rail = s.rail ∧ (s.modRings f).alm = s.alm ∧ (s.modRings f).pwr = s.pwr ∧ (s.modRings f).cool = s.cool ∧ (s.modRings f).tw = s.tw ∧ (s.modRings f).boot = s.boot ∧ (s.modRings f).loft = s.loft ∧ (s.modRings f).sys = s.sys ∧ (s.modRings f).out = s.out ∧ (s.modRings f).pending = s.pending := by
  refine ⟨rfl, rfl, rfl, rfl, rfl, rfl, rfl, rfl, rfl, rfl, rfl, rfl, rfl, rfl, rfl, rfl, rfl, rfl⟩

theorem modRings_only (s : State) (f : Rings → Rings) : OnlyParts [.host] s (s.modRings f) := by
  intro p hp; cases p <;> first | rfl | simp at hp

@[simp] theorem modAdmin_frame (s : State) (f : Admin → Admin) :
    (s.modAdmin f).link = s.link ∧ (s.modAdmin f).gov = s.gov ∧ (s.modAdmin f).grid = s.grid ∧ (s.modAdmin f).easel = s.easel ∧ (s.modAdmin f).barn = s.barn ∧ (s.modAdmin f).gran = s.gran ∧ (s.modAdmin f).own = s.own ∧ (s.modAdmin f).fab = s.fab ∧ (s.modAdmin f).rail = s.rail ∧ (s.modAdmin f).alm = s.alm ∧ (s.modAdmin f).pwr = s.pwr ∧ (s.modAdmin f).cool = s.cool ∧ (s.modAdmin f).tw = s.tw ∧ (s.modAdmin f).boot = s.boot ∧ (s.modAdmin f).loft = s.loft ∧ (s.modAdmin f).sys = s.sys ∧ (s.modAdmin f).out = s.out ∧ (s.modAdmin f).pending = s.pending := by
  refine ⟨rfl, rfl, rfl, rfl, rfl, rfl, rfl, rfl, rfl, rfl, rfl, rfl, rfl, rfl, rfl, rfl, rfl, rfl⟩

theorem modAdmin_only (s : State) (f : Admin → Admin) : OnlyParts [.host] s (s.modAdmin f) := by
  intro p hp; cases p <;> first | rfl | simp at hp

@[simp] theorem modFabric_frame (s : State) (f : Fabric → Fabric) :
    (s.modFabric f).link = s.link ∧ (s.modFabric f).gov = s.gov ∧ (s.modFabric f).grid = s.grid ∧ (s.modFabric f).easel = s.easel ∧ (s.modFabric f).barn = s.barn ∧ (s.modFabric f).gran = s.gran ∧ (s.modFabric f).own = s.own ∧ (s.modFabric f).host = s.host ∧ (s.modFabric f).rail = s.rail ∧ (s.modFabric f).alm = s.alm ∧ (s.modFabric f).pwr = s.pwr ∧ (s.modFabric f).cool = s.cool ∧ (s.modFabric f).tw = s.tw ∧ (s.modFabric f).boot = s.boot ∧ (s.modFabric f).loft = s.loft ∧ (s.modFabric f).sys = s.sys ∧ (s.modFabric f).out = s.out ∧ (s.modFabric f).pending = s.pending := by
  refine ⟨rfl, rfl, rfl, rfl, rfl, rfl, rfl, rfl, rfl, rfl, rfl, rfl, rfl, rfl, rfl, rfl, rfl, rfl⟩

theorem modFabric_only (s : State) (f : Fabric → Fabric) : OnlyParts [.fab] s (s.modFabric f) := by
  intro p hp; cases p <;> first | rfl | simp at hp

@[simp] theorem modFabParam_frame (s : State) (f : FabParam → FabParam) :
    (s.modFabParam f).link = s.link ∧ (s.modFabParam f).gov = s.gov ∧ (s.modFabParam f).grid = s.grid ∧ (s.modFabParam f).easel = s.easel ∧ (s.modFabParam f).barn = s.barn ∧ (s.modFabParam f).gran = s.gran ∧ (s.modFabParam f).own = s.own ∧ (s.modFabParam f).host = s.host ∧ (s.modFabParam f).rail = s.rail ∧ (s.modFabParam f).alm = s.alm ∧ (s.modFabParam f).pwr = s.pwr ∧ (s.modFabParam f).cool = s.cool ∧ (s.modFabParam f).tw = s.tw ∧ (s.modFabParam f).boot = s.boot ∧ (s.modFabParam f).loft = s.loft ∧ (s.modFabParam f).sys = s.sys ∧ (s.modFabParam f).out = s.out ∧ (s.modFabParam f).pending = s.pending := by
  refine ⟨rfl, rfl, rfl, rfl, rfl, rfl, rfl, rfl, rfl, rfl, rfl, rfl, rfl, rfl, rfl, rfl, rfl, rfl⟩

theorem modFabParam_only (s : State) (f : FabParam → FabParam) : OnlyParts [.fab] s (s.modFabParam f) := by
  intro p hp; cases p <;> first | rfl | simp at hp

@[simp] theorem modSeq_frame (s : State) (f : Seq → Seq) :
    (s.modSeq f).link = s.link ∧ (s.modSeq f).gov = s.gov ∧ (s.modSeq f).grid = s.grid ∧ (s.modSeq f).easel = s.easel ∧ (s.modSeq f).barn = s.barn ∧ (s.modSeq f).gran = s.gran ∧ (s.modSeq f).own = s.own ∧ (s.modSeq f).host = s.host ∧ (s.modSeq f).fab = s.fab ∧ (s.modSeq f).alm = s.alm ∧ (s.modSeq f).pwr = s.pwr ∧ (s.modSeq f).cool = s.cool ∧ (s.modSeq f).tw = s.tw ∧ (s.modSeq f).boot = s.boot ∧ (s.modSeq f).loft = s.loft ∧ (s.modSeq f).sys = s.sys ∧ (s.modSeq f).out = s.out ∧ (s.modSeq f).pending = s.pending := by
  refine ⟨rfl, rfl, rfl, rfl, rfl, rfl, rfl, rfl, rfl, rfl, rfl, rfl, rfl, rfl, rfl, rfl, rfl, rfl⟩

theorem modSeq_only (s : State) (f : Seq → Seq) : OnlyParts [.rail] s (s.modSeq f) := by
  intro p hp; cases p <;> first | rfl | simp at hp

@[simp] theorem modFeed_frame (s : State) (f : Feed → Feed) :
    (s.modFeed f).link = s.link ∧ (s.modFeed f).gov = s.gov ∧ (s.modFeed f).grid = s.grid ∧ (s.modFeed f).easel = s.easel ∧ (s.modFeed f).barn = s.barn ∧ (s.modFeed f).gran = s.gran ∧ (s.modFeed f).own = s.own ∧ (s.modFeed f).host = s.host ∧ (s.modFeed f).fab = s.fab ∧ (s.modFeed f).rail = s.rail ∧ (s.modFeed f).alm = s.alm ∧ (s.modFeed f).cool = s.cool ∧ (s.modFeed f).tw = s.tw ∧ (s.modFeed f).boot = s.boot ∧ (s.modFeed f).loft = s.loft ∧ (s.modFeed f).sys = s.sys ∧ (s.modFeed f).out = s.out ∧ (s.modFeed f).pending = s.pending := by
  refine ⟨rfl, rfl, rfl, rfl, rfl, rfl, rfl, rfl, rfl, rfl, rfl, rfl, rfl, rfl, rfl, rfl, rfl, rfl⟩

theorem modFeed_only (s : State) (f : Feed → Feed) : OnlyParts [.pwr] s (s.modFeed f) := by
  intro p hp; cases p <;> first | rfl | simp at hp

@[simp] theorem modFuse_frame (s : State) (f : Fuse → Fuse) :
    (s.modFuse f).link = s.link ∧ (s.modFuse f).gov = s.gov ∧ (s.modFuse f).grid = s.grid ∧ (s.modFuse f).easel = s.easel ∧ (s.modFuse f).barn = s.barn ∧ (s.modFuse f).gran = s.gran ∧ (s.modFuse f).own = s.own ∧ (s.modFuse f).host = s.host ∧ (s.modFuse f).fab = s.fab ∧ (s.modFuse f).rail = s.rail ∧ (s.modFuse f).alm = s.alm ∧ (s.modFuse f).pwr = s.pwr ∧ (s.modFuse f).cool = s.cool ∧ (s.modFuse f).tw = s.tw ∧ (s.modFuse f).loft = s.loft ∧ (s.modFuse f).sys = s.sys ∧ (s.modFuse f).out = s.out ∧ (s.modFuse f).pending = s.pending := by
  refine ⟨rfl, rfl, rfl, rfl, rfl, rfl, rfl, rfl, rfl, rfl, rfl, rfl, rfl, rfl, rfl, rfl, rfl, rfl⟩

theorem modFuse_only (s : State) (f : Fuse → Fuse) : OnlyParts [.boot] s (s.modFuse f) := by
  intro p hp; cases p <;> first | rfl | simp at hp

@[simp] theorem modEntropy_frame (s : State) (f : Entropy → Entropy) :
    (s.modEntropy f).link = s.link ∧ (s.modEntropy f).gov = s.gov ∧ (s.modEntropy f).grid = s.grid ∧ (s.modEntropy f).easel = s.easel ∧ (s.modEntropy f).barn = s.barn ∧ (s.modEntropy f).gran = s.gran ∧ (s.modEntropy f).own = s.own ∧ (s.modEntropy f).host = s.host ∧ (s.modEntropy f).fab = s.fab ∧ (s.modEntropy f).rail = s.rail ∧ (s.modEntropy f).alm = s.alm ∧ (s.modEntropy f).pwr = s.pwr ∧ (s.modEntropy f).cool = s.cool ∧ (s.modEntropy f).tw = s.tw ∧ (s.modEntropy f).loft = s.loft ∧ (s.modEntropy f).sys = s.sys ∧ (s.modEntropy f).out = s.out ∧ (s.modEntropy f).pending = s.pending := by
  refine ⟨rfl, rfl, rfl, rfl, rfl, rfl, rfl, rfl, rfl, rfl, rfl, rfl, rfl, rfl, rfl, rfl, rfl, rfl⟩

theorem modEntropy_only (s : State) (f : Entropy → Entropy) : OnlyParts [.boot] s (s.modEntropy f) := by
  intro p hp; cases p <;> first | rfl | simp at hp

@[simp] theorem modUpd_frame (s : State) (f : Update → Update) :
    (s.modUpd f).link = s.link ∧ (s.modUpd f).gov = s.gov ∧ (s.modUpd f).grid = s.grid ∧ (s.modUpd f).easel = s.easel ∧ (s.modUpd f).barn = s.barn ∧ (s.modUpd f).gran = s.gran ∧ (s.modUpd f).own = s.own ∧ (s.modUpd f).host = s.host ∧ (s.modUpd f).fab = s.fab ∧ (s.modUpd f).rail = s.rail ∧ (s.modUpd f).alm = s.alm ∧ (s.modUpd f).pwr = s.pwr ∧ (s.modUpd f).cool = s.cool ∧ (s.modUpd f).tw = s.tw ∧ (s.modUpd f).boot = s.boot ∧ (s.modUpd f).sys = s.sys ∧ (s.modUpd f).out = s.out ∧ (s.modUpd f).pending = s.pending := by
  refine ⟨rfl, rfl, rfl, rfl, rfl, rfl, rfl, rfl, rfl, rfl, rfl, rfl, rfl, rfl, rfl, rfl, rfl, rfl⟩

theorem modUpd_only (s : State) (f : Update → Update) : OnlyParts [.loft] s (s.modUpd f) := by
  intro p hp; cases p <;> first | rfl | simp at hp

@[simp] theorem modDie_frame (s : State) (f : Loft → Loft) :
    (s.modDie f).link = s.link ∧ (s.modDie f).gov = s.gov ∧ (s.modDie f).grid = s.grid ∧ (s.modDie f).easel = s.easel ∧ (s.modDie f).barn = s.barn ∧ (s.modDie f).gran = s.gran ∧ (s.modDie f).own = s.own ∧ (s.modDie f).host = s.host ∧ (s.modDie f).fab = s.fab ∧ (s.modDie f).rail = s.rail ∧ (s.modDie f).alm = s.alm ∧ (s.modDie f).pwr = s.pwr ∧ (s.modDie f).cool = s.cool ∧ (s.modDie f).tw = s.tw ∧ (s.modDie f).boot = s.boot ∧ (s.modDie f).sys = s.sys ∧ (s.modDie f).out = s.out ∧ (s.modDie f).pending = s.pending := by
  refine ⟨rfl, rfl, rfl, rfl, rfl, rfl, rfl, rfl, rfl, rfl, rfl, rfl, rfl, rfl, rfl, rfl, rfl, rfl⟩

theorem modDie_only (s : State) (f : Loft → Loft) : OnlyParts [.loft] s (s.modDie f) := by
  intro p hp; cases p <;> first | rfl | simp at hp

@[simp] theorem modEaselCfg_frame (s : State) (f : EaselCfg → EaselCfg) :
    (s.modEaselCfg f).link = s.link ∧ (s.modEaselCfg f).gov = s.gov ∧ (s.modEaselCfg f).grid = s.grid ∧ (s.modEaselCfg f).barn = s.barn ∧ (s.modEaselCfg f).gran = s.gran ∧ (s.modEaselCfg f).own = s.own ∧ (s.modEaselCfg f).host = s.host ∧ (s.modEaselCfg f).fab = s.fab ∧ (s.modEaselCfg f).rail = s.rail ∧ (s.modEaselCfg f).alm = s.alm ∧ (s.modEaselCfg f).pwr = s.pwr ∧ (s.modEaselCfg f).cool = s.cool ∧ (s.modEaselCfg f).tw = s.tw ∧ (s.modEaselCfg f).boot = s.boot ∧ (s.modEaselCfg f).loft = s.loft ∧ (s.modEaselCfg f).sys = s.sys ∧ (s.modEaselCfg f).out = s.out ∧ (s.modEaselCfg f).pending = s.pending := by
  refine ⟨rfl, rfl, rfl, rfl, rfl, rfl, rfl, rfl, rfl, rfl, rfl, rfl, rfl, rfl, rfl, rfl, rfl, rfl⟩

theorem modEaselCfg_only (s : State) (f : EaselCfg → EaselCfg) : OnlyParts [.easel] s (s.modEaselCfg f) := by
  intro p hp; cases p <;> first | rfl | simp at hp

@[simp] theorem modRing_frame (s : State) (n : Nat) (f : Ring → Ring) :
    (s.modRing n f).link = s.link ∧ (s.modRing n f).gov = s.gov ∧ (s.modRing n f).grid = s.grid ∧ (s.modRing n f).easel = s.easel ∧ (s.modRing n f).barn = s.barn ∧ (s.modRing n f).gran = s.gran ∧ (s.modRing n f).own = s.own ∧ (s.modRing n f).fab = s.fab ∧ (s.modRing n f).rail = s.rail ∧ (s.modRing n f).alm = s.alm ∧ (s.modRing n f).pwr = s.pwr ∧ (s.modRing n f).cool = s.cool ∧ (s.modRing n f).tw = s.tw ∧ (s.modRing n f).boot = s.boot ∧ (s.modRing n f).loft = s.loft ∧ (s.modRing n f).sys = s.sys ∧ (s.modRing n f).out = s.out ∧ (s.modRing n f).pending = s.pending := by
  refine ⟨rfl, rfl, rfl, rfl, rfl, rfl, rfl, rfl, rfl, rfl, rfl, rfl, rfl, rfl, rfl, rfl, rfl, rfl⟩

theorem modRing_only (s : State) (n : Nat) (f : Ring → Ring) : OnlyParts [.host] s (s.modRing n f) := by
  intro p hp; cases p <;> first | rfl | simp at hp

@[simp] theorem modEntry_frame (s : State) (jseq : Nat) (f : Entry → Entry) :
    (s.modEntry jseq f).link = s.link ∧ (s.modEntry jseq f).gov = s.gov ∧ (s.modEntry jseq f).grid = s.grid ∧ (s.modEntry jseq f).easel = s.easel ∧ (s.modEntry jseq f).barn = s.barn ∧ (s.modEntry jseq f).gran = s.gran ∧ (s.modEntry jseq f).host = s.host ∧ (s.modEntry jseq f).fab = s.fab ∧ (s.modEntry jseq f).rail = s.rail ∧ (s.modEntry jseq f).alm = s.alm ∧ (s.modEntry jseq f).pwr = s.pwr ∧ (s.modEntry jseq f).cool = s.cool ∧ (s.modEntry jseq f).tw = s.tw ∧ (s.modEntry jseq f).boot = s.boot ∧ (s.modEntry jseq f).loft = s.loft ∧ (s.modEntry jseq f).sys = s.sys ∧ (s.modEntry jseq f).out = s.out ∧ (s.modEntry jseq f).pending = s.pending := by
  refine ⟨rfl, rfl, rfl, rfl, rfl, rfl, rfl, rfl, rfl, rfl, rfl, rfl, rfl, rfl, rfl, rfl, rfl, rfl⟩

theorem modEntry_only (s : State) (jseq : Nat) (f : Entry → Entry) : OnlyParts [.own] s (s.modEntry jseq f) := by
  intro p hp; cases p <;> first | rfl | simp at hp

@[simp] theorem modPort_frame (s : State) (p : Nat) (f : Port → Port) :
    (s.modPort p f).link = s.link ∧ (s.modPort p f).gov = s.gov ∧ (s.modPort p f).grid = s.grid ∧ (s.modPort p f).easel = s.easel ∧ (s.modPort p f).barn = s.barn ∧ (s.modPort p f).gran = s.gran ∧ (s.modPort p f).own = s.own ∧ (s.modPort p f).host = s.host ∧ (s.modPort p f).rail = s.rail ∧ (s.modPort p f).alm = s.alm ∧ (s.modPort p f).pwr = s.pwr ∧ (s.modPort p f).cool = s.cool ∧ (s.modPort p f).tw = s.tw ∧ (s.modPort p f).boot = s.boot ∧ (s.modPort p f).loft = s.loft ∧ (s.modPort p f).sys = s.sys ∧ (s.modPort p f).out = s.out ∧ (s.modPort p f).pending = s.pending := by
  refine ⟨rfl, rfl, rfl, rfl, rfl, rfl, rfl, rfl, rfl, rfl, rfl, rfl, rfl, rfl, rfl, rfl, rfl, rfl⟩

theorem modPort_only (s : State) (p : Nat) (f : Port → Port) : OnlyParts [.fab] s (s.modPort p f) := by
  intro p hp; cases p <;> first | rfl | simp at hp

@[simp] theorem modSlot_frame (s : State) (n : Nat) (f : Slot → Slot) :
    (s.modSlot n f).link = s.link ∧ (s.modSlot n f).gov = s.gov ∧ (s.modSlot n f).grid = s.grid ∧ (s.modSlot n f).easel = s.easel ∧ (s.modSlot n f).barn = s.barn ∧ (s.modSlot n f).gran = s.gran ∧ (s.modSlot n f).own = s.own ∧ (s.modSlot n f).host = s.host ∧ (s.modSlot n f).fab = s.fab ∧ (s.modSlot n f).rail = s.rail ∧ (s.modSlot n f).alm = s.alm ∧ (s.modSlot n f).pwr = s.pwr ∧ (s.modSlot n f).cool = s.cool ∧ (s.modSlot n f).tw = s.tw ∧ (s.modSlot n f).boot = s.boot ∧ (s.modSlot n f).sys = s.sys ∧ (s.modSlot n f).out = s.out ∧ (s.modSlot n f).pending = s.pending := by
  refine ⟨rfl, rfl, rfl, rfl, rfl, rfl, rfl, rfl, rfl, rfl, rfl, rfl, rfl, rfl, rfl, rfl, rfl, rfl⟩

theorem modSlot_only (s : State) (n : Nat) (f : Slot → Slot) : OnlyParts [.loft] s (s.modSlot n f) := by
  intro p hp; cases p <;> first | rfl | simp at hp

@[simp] theorem modInst_frame (s : State) (bay n : Nat) (f : Inst → Inst) :
    (s.modInst bay n f).link = s.link ∧ (s.modInst bay n f).gov = s.gov ∧ (s.modInst bay n f).grid = s.grid ∧ (s.modInst bay n f).barn = s.barn ∧ (s.modInst bay n f).gran = s.gran ∧ (s.modInst bay n f).own = s.own ∧ (s.modInst bay n f).host = s.host ∧ (s.modInst bay n f).fab = s.fab ∧ (s.modInst bay n f).rail = s.rail ∧ (s.modInst bay n f).alm = s.alm ∧ (s.modInst bay n f).pwr = s.pwr ∧ (s.modInst bay n f).cool = s.cool ∧ (s.modInst bay n f).tw = s.tw ∧ (s.modInst bay n f).boot = s.boot ∧ (s.modInst bay n f).loft = s.loft ∧ (s.modInst bay n f).sys = s.sys ∧ (s.modInst bay n f).out = s.out ∧ (s.modInst bay n f).pending = s.pending := by
  refine ⟨rfl, rfl, rfl, rfl, rfl, rfl, rfl, rfl, rfl, rfl, rfl, rfl, rfl, rfl, rfl, rfl, rfl, rfl⟩

theorem modInst_only (s : State) (bay n : Nat) (f : Inst → Inst) : OnlyParts [.easel] s (s.modInst bay n f) := by
  intro p hp; cases p <;> first | rfl | simp at hp

/-! ### Reading back -/

@[simp] theorem modAccel_same (s : State) (slot : Nat) (f : Accel → Accel) : (s.modAccel slot f).accel slot = f (s.accel slot) :=
  tget_tset_same _ _ _ _

theorem modAccel_ne (s : State) (slot : Nat) (f : Accel → Accel) (k : Nat) (h : k ≠ slot) : (s.modAccel slot f).accel k = s.accel k :=
  tget_tset_ne _ _ _ _ _ h

@[simp] theorem modLane_same (s : State) (slot bay : Nat) (f : Lane → Lane) : (s.modLane slot bay f).lane slot bay = f (s.lane slot bay) :=
  tget_tset_same _ _ _ _

@[simp] theorem modView_same (s : State) (slot bay : Nat) (f : FrameView → FrameView) : (s.modView slot bay f).view slot bay = f (s.view slot bay) :=
  tget_tset_same _ _ _ _

@[simp] theorem modPushJob_same (s : State) (slot : Nat) (f : PushJob → PushJob) : (s.modPushJob slot f).pushJob slot = f (s.pushJob slot) :=
  tget_tset_same _ _ _ _

theorem modPushJob_ne (s : State) (slot : Nat) (f : PushJob → PushJob) (k : Nat) (h : k ≠ slot) : (s.modPushJob slot f).pushJob k = s.pushJob k :=
  tget_tset_ne _ _ _ _ _ h

@[simp] theorem modGovParam_same (s : State) (slot : Nat) (f : GovParam → GovParam) : (s.modGovParam slot f).govParam slot = f (s.govParam slot) :=
  tget_tset_same _ _ _ _

theorem modGovParam_ne (s : State) (slot : Nat) (f : GovParam → GovParam) (k : Nat) (h : k ≠ slot) : (s.modGovParam slot f).govParam k = s.govParam k :=
  tget_tset_ne _ _ _ _ _ h

@[simp] theorem modMarginParam_same (s : State) (who : Nat) (f : MarginParam → MarginParam) : (s.modMarginParam who f).marginParam who = f (s.marginParam who) :=
  tget_tset_same _ _ _ _

theorem modMarginParam_ne (s : State) (who : Nat) (f : MarginParam → MarginParam) (k : Nat) (h : k ≠ who) : (s.modMarginParam who f).marginParam k = s.marginParam k :=
  tget_tset_ne _ _ _ _ _ h

@[simp] theorem modTrimOf_same (s : State) (who point : Nat) (f : Trim → Trim) : (s.modTrimOf who point f).trimOf who point = f (s.trimOf who point) :=
  tget_tset_same _ _ _ _

@[simp] theorem modCalSlot_same (s : State) (slot : Nat) (f : CalSlot → CalSlot) : (s.modCalSlot slot f).calSlot slot = f (s.calSlot slot) :=
  tget_tset_same _ _ _ _

theorem modCalSlot_ne (s : State) (slot : Nat) (f : CalSlot → CalSlot) (k : Nat) (h : k ≠ slot) : (s.modCalSlot slot f).calSlot k = s.calSlot k :=
  tget_tset_ne _ _ _ _ _ h

@[simp] theorem modChg_same (s : State) (bay slot : Nat) (f : Chg → Chg) : (s.modChg bay slot f).chg bay slot = f (s.chg bay slot) :=
  tget_tset_same _ _ _ _

@[simp] theorem modGovSlot_same (s : State) (bay slot : Nat) (f : GovSlot → GovSlot) : (s.modGovSlot bay slot f).govSlot bay slot = f (s.govSlot bay slot) :=
  tget_tset_same _ _ _ _

@[simp] theorem modEaselBay_same (s : State) (bay : Nat) (f : Easel → Easel) : (s.modEaselBay bay f).easelBay bay = f (s.easelBay bay) :=
  tget_tset_same _ _ _ _

theorem modEaselBay_ne (s : State) (bay : Nat) (f : Easel → Easel) (k : Nat) (h : k ≠ bay) : (s.modEaselBay bay f).easelBay k = s.easelBay k :=
  tget_tset_ne _ _ _ _ _ h

@[simp] theorem modHand_same (s : State) (bay hand : Nat) (f : Hand → Hand) : (s.modHand bay hand f).hand bay hand = f (s.hand bay hand) :=
  tget_tset_same _ _ _ _

@[simp] theorem modGranary_same (s : State) (bay : Nat) (f : Granary → Granary) : (s.modGranary bay f).granary bay = f (s.granary bay) :=
  tget_tset_same _ _ _ _

theorem modGranary_ne (s : State) (bay : Nat) (f : Granary → Granary) (k : Nat) (h : k ≠ bay) : (s.modGranary bay f).granary k = s.granary k :=
  tget_tset_ne _ _ _ _ _ h

@[simp] theorem modBist_same (s : State) (bay bank : Nat) (f : Bist → Bist) : (s.modBist bay bank f).bist bay bank = f (s.bist bay bank) :=
  tget_tset_same _ _ _ _

@[simp] theorem modBay_same (s : State) (b : Nat) (f : Bay → Bay) : (s.modBay b f).bay b = f (s.bay b) :=
  tget_tset_same _ _ _ _

theorem modBay_ne (s : State) (b : Nat) (f : Bay → Bay) (k : Nat) (h : k ≠ b) : (s.modBay b f).bay k = s.bay k :=
  tget_tset_ne _ _ _ _ _ h

@[simp] theorem modEndpoint_same (s : State) (e : Nat) (f : Endpoint → Endpoint) : (s.modEndpoint e f).endpoint e = f (s.endpoint e) :=
  tget_tset_same _ _ _ _

theorem modEndpoint_ne (s : State) (e : Nat) (f : Endpoint → Endpoint) (k : Nat) (h : k ≠ e) : (s.modEndpoint e f).endpoint k = s.endpoint k :=
  tget_tset_ne _ _ _ _ _ h

@[simp] theorem modRailEntry_same (s : State) (nn : Nat) (f : Rail → Rail) : (s.modRail_ nn f).rail_ nn = f (s.rail_ nn) :=
  tget_tset_same _ _ _ _

theorem modRailEntry_ne (s : State) (nn : Nat) (f : Rail → Rail) (k : Nat) (h : k ≠ nn) : (s.modRail_ nn f).rail_ k = s.rail_ k :=
  tget_tset_ne _ _ _ _ _ h

@[simp] theorem modChan_same (s : State) (ch : Nat) (f : Chan → Chan) : (s.modChan ch f).chan ch = f (s.chan ch) :=
  tget_tset_same _ _ _ _

theorem modChan_ne (s : State) (ch : Nat) (f : Chan → Chan) (k : Nat) (h : k ≠ ch) : (s.modChan ch f).chan k = s.chan k :=
  tget_tset_ne _ _ _ _ _ h

@[simp] theorem modTwPort_same (s : State) (port : Nat) (f : TwPort → TwPort) : (s.modTwPort port f).twPort port = f (s.twPort port) :=
  tget_tset_same _ _ _ _

theorem modTwPort_ne (s : State) (port : Nat) (f : TwPort → TwPort) (k : Nat) (h : k ≠ port) : (s.modTwPort port f).twPort k = s.twPort k :=
  tget_tset_ne _ _ _ _ _ h

@[simp] theorem modPush_same (s : State) (bay : Nat) (f : Push → Push) : (s.modPush bay f).push bay = f (s.push bay) :=
  tget_tset_same _ _ _ _

theorem modPush_ne (s : State) (bay : Nat) (f : Push → Push) (k : Nat) (h : k ≠ bay) : (s.modPush bay f).push k = s.push k :=
  tget_tset_ne _ _ _ _ _ h

@[simp] theorem modMeasure_same (s : State) (bay : Nat) (f : Measure → Measure) : (s.modMeasure bay f).measure bay = f (s.measure bay) :=
  tget_tset_same _ _ _ _

theorem modMeasure_ne (s : State) (bay : Nat) (f : Measure → Measure) (k : Nat) (h : k ≠ bay) : (s.modMeasure bay f).measure k = s.measure k :=
  tget_tset_ne _ _ _ _ _ h

@[simp] theorem modZone_same (s : State) (z : Nat) (f : Zone → Zone) : (s.modZone z f).zone z = f (s.zone z) :=
  tget_tset_same _ _ _ _

theorem modZone_ne (s : State) (z : Nat) (f : Zone → Zone) (k : Nat) (h : k ≠ z) : (s.modZone z f).zone k = s.zone k :=
  tget_tset_ne _ _ _ _ _ h

@[simp] theorem modPoint_same (s : State) (p : Nat) (f : Point → Point) : (s.modPoint p f).point p = f (s.point p) :=
  tget_tset_same _ _ _ _

theorem modPoint_ne (s : State) (p : Nat) (f : Point → Point) (k : Nat) (h : k ≠ p) : (s.modPoint p f).point k = s.point k :=
  tget_tset_ne _ _ _ _ _ h

@[simp] theorem modDrive_same (s : State) (ch : Nat) (f : Drive → Drive) : (s.modDrive ch f).drive ch = f (s.drive ch) :=
  tget_tset_same _ _ _ _

theorem modDrive_ne (s : State) (ch : Nat) (f : Drive → Drive) (k : Nat) (h : k ≠ ch) : (s.modDrive ch f).drive k = s.drive k :=
  tget_tset_ne _ _ _ _ _ h

@[simp] theorem modInput_same (s : State) (ch : Nat) (f : Input → Input) : (s.modInput ch f).input ch = f (s.input ch) :=
  tget_tset_same _ _ _ _

theorem modInput_ne (s : State) (ch : Nat) (f : Input → Input) (k : Nat) (h : k ≠ ch) : (s.modInput ch f).input k = s.input k :=
  tget_tset_ne _ _ _ _ _ h

@[simp] theorem modDiode_same (s : State) (d : Nat) (f : Diode → Diode) : (s.modDiode d f).diode d = f (s.diode d) :=
  tget_tset_same _ _ _ _

theorem modDiode_ne (s : State) (d : Nat) (f : Diode → Diode) (k : Nat) (h : k ≠ d) : (s.modDiode d f).diode k = s.diode k :=
  tget_tset_ne _ _ _ _ _ h

@[simp] theorem modValve_same (s : State) (v : Nat) (f : Valve → Valve) : (s.modValve v f).valve v = f (s.valve v) :=
  tget_tset_same _ _ _ _

theorem modValve_ne (s : State) (v : Nat) (f : Valve → Valve) (k : Nat) (h : k ≠ v) : (s.modValve v f).valve k = s.valve k :=
  tget_tset_ne _ _ _ _ _ h

@[simp] theorem modThermal_same (s : State) (slot : Nat) (f : Thermal → Thermal) : (s.modThermal slot f).thermal slot = f (s.thermal slot) :=
  tget_tset_same _ _ _ _

theorem modThermal_ne (s : State) (slot : Nat) (f : Thermal → Thermal) (k : Nat) (h : k ≠ slot) : (s.modThermal slot f).thermal k = s.thermal k :=
  tget_tset_ne _ _ _ _ _ h

@[simp] theorem modRing_same (s : State) (n : Nat) (f : Ring → Ring) : (s.modRing n f).ring n = f (s.ring n) :=
  tget_tset_same _ _ _ _

theorem modRing_ne (s : State) (n : Nat) (f : Ring → Ring) (k : Nat) (h : k ≠ n) : (s.modRing n f).ring k = s.ring k :=
  tget_tset_ne _ _ _ _ _ h

@[simp] theorem modEntry_same (s : State) (jseq : Nat) (f : Entry → Entry) : (s.modEntry jseq f).entry jseq = f (s.entry jseq) :=
  tget_tset_same _ _ _ _

theorem modEntry_ne (s : State) (jseq : Nat) (f : Entry → Entry) (k : Nat) (h : k ≠ jseq) : (s.modEntry jseq f).entry k = s.entry k :=
  tget_tset_ne _ _ _ _ _ h

@[simp] theorem modPort_same (s : State) (p : Nat) (f : Port → Port) : (s.modPort p f).port p = f (s.port p) :=
  tget_tset_same _ _ _ _

theorem modPort_ne (s : State) (p : Nat) (f : Port → Port) (k : Nat) (h : k ≠ p) : (s.modPort p f).port k = s.port k :=
  tget_tset_ne _ _ _ _ _ h

@[simp] theorem modSlot_same (s : State) (n : Nat) (f : Slot → Slot) : (s.modSlot n f).slot n = f (s.slot n) :=
  tget_tset_same _ _ _ _

theorem modSlot_ne (s : State) (n : Nat) (f : Slot → Slot) (k : Nat) (h : k ≠ n) : (s.modSlot n f).slot k = s.slot k :=
  tget_tset_ne _ _ _ _ _ h

end Sys2Proof.Machine
end

