-- ==== Sys2Proof/Laws/Barn.lean ====
section
/-!
SUPPORT. The Barn's shared operations said once: what an issued instruction writes, with the operands as they were before (R183).
-/
namespace Sys2Proof.Machine
open Sys2Proof

theorem issue_of_issues {s : State} {bay hand : Nat} (h : s.issues bay hand = true) (f : Hand → Hand) :
    s.issue bay hand f = s.modHand bay hand f := by simp only [State.issue, h, if_true]

theorem modHand_alu (s : State) (bay hand rd rs1 rs2 : Nat) (f : Word32 → Word32 → Word32) :
    s.modHand bay hand (fun h => h.result rd (aluR f h rs1 rs2)) =
      s.modHand bay hand fun h => { h.setReg rd (f ((s.hand bay hand).reg rs1) ((s.hand bay hand).reg rs2)) with pc := h.pc + 4 } := id rfl

theorem modHand_alu_imm (s : State) (bay hand rd rs1 : Nat) (f : Word32 → Word32) :
    s.modHand bay hand (fun h => h.result rd (f (h.reg rs1))) =
      s.modHand bay hand fun h => { h.setReg rd (f ((s.hand bay hand).reg rs1)) with pc := h.pc + 4 } := id rfl

theorem modHand_branch (s : State) (bay hand rs1 rs2 : Nat) (c : Word32 → Word32 → Bool) (off : BitVec 18) :
    s.modHand bay hand (fun h => h.branch (c (h.reg rs1) (h.reg rs2)) off) =
      s.modHand bay hand fun h =>
        { h with pc := if c ((s.hand bay hand).reg rs1) ((s.hand bay hand).reg rs2) then h.pc + off.signExtend 32 * 4 else h.pc + 4 } := id rfl

theorem mulHigh_eq (a b : Word32) : mulHigh a b = BitVec.ofInt 32 (a.toInt * b.toInt / 2 ^ 32) := by
  have hs : ∀ c : Word32, c.signExtend 64 = BitVec.ofInt 64 c.toInt := fun c => rfl
  have e : a.signExtend 64 * b.signExtend 64 = BitVec.ofInt 64 (a.toInt * b.toInt) := by rw [hs, hs, ← BitVec.ofInt_mul]
  unfold mulHigh
  rw [e]
  generalize a.toInt * b.toInt = p
  apply BitVec.eq_of_toNat_eq
  simp only [BitVec.toNat_setWidth, BitVec.toNat_ushiftRight, BitVec.toNat_ofInt, Nat.shiftRight_eq_div_pow]
  omega

theorem mulHighU_eq (a b : Word32) : mulHighU a b = BitVec.ofNat 32 (a.toNat * b.toNat / 2 ^ 32) := by
  apply BitVec.eq_of_toNat_eq
  have h : a.toNat * b.toNat < 2 ^ 32 * 2 ^ 32 := Nat.mul_lt_mul'' a.isLt b.isLt
  simp only [mulHighU, BitVec.toNat_setWidth, BitVec.toNat_ushiftRight, BitVec.toNat_mul, Nat.shiftRight_eq_div_pow, BitVec.toNat_ofNat]
  rw [Nat.mod_eq_of_lt (show a.toNat < 2 ^ 64 by have := a.isLt; omega), Nat.mod_eq_of_lt (show b.toNat < 2 ^ 64 by have := b.isLt; omega),
    Nat.mod_eq_of_lt (show a.toNat * b.toNat < 2 ^ 64 by omega)]

/-! ### Bit fields and the words of R183 -/

theorem field_lt (w lo n : Nat) : field w lo n < 2 ^ n := Nat.mod_lt _ (Nat.two_pow_pos n)

/-- A field is its upper and its lower part. -/
theorem field_split (w lo m n : Nat) : field w lo (m + n) = field w (lo + m) n * 2 ^ m + field w lo m := by
  unfold field
  rw [Nat.shiftRight_eq_div_pow, Nat.shiftRight_eq_div_pow, Nat.pow_add, Nat.mod_mul, Nat.pow_add, ← Nat.div_div_eq_div_mul, Nat.mul_comm (2 ^ m), Nat.add_comm]

/-- A word is its op code, its two register fields and its low 18 bits. -/
theorem word_fields (w : Word32) :
    w.toNat = field w.toNat 26 6 * 2 ^ 26 + field w.toNat 22 4 * 2 ^ 22 + field w.toNat 18 4 * 2 ^ 18 + field w.toNat 0 18 := by
  have h1 : w.toNat = field w.toNat 0 32 := by unfold field; rw [Nat.shiftRight_zero, Nat.mod_eq_of_lt w.isLt]
  have h2 := field_split w.toNat 0 26 6
  have h3 := field_split w.toNat 0 22 4
  have h4 := field_split w.toNat 0 18 4
  simp only [Nat.zero_add, Nat.reduceAdd] at h2 h3 h4
  omega

/-- The word built from a word's own fields is that word. -/
theorem barnWord_fields (w : Word32) {op a b low : Nat} (ho : field w.toNat 26 6 = op) (ha : field w.toNat 22 4 = a) (hb : field w.toNat 18 4 = b)
    (hl : field w.toNat 0 18 = low) : barnWord op a b low = w := by
  have h := word_fields w
  have l1 := field_lt w.toNat 26 6
  have l2 := field_lt w.toNat 22 4
  have l3 := field_lt w.toNat 18 4
  have l4 := field_lt w.toNat 0 18
  apply BitVec.eq_of_toNat_eq
  unfold barnWord
  rw [BitVec.toNat_ofNat]
  subst ho ha hb hl
  omega

/-- A word with a 22-bit immediate, built from a word's own fields, is that word. -/
theorem immWord_fields (w : Word32) {op : Nat} (ho : field w.toNat 26 6 = op) :
    BitVec.ofNat 32 (op * 2 ^ 26 + field w.toNat 22 4 % 16 * 2 ^ 22 + field w.toNat 0 22) = w := by
  have h := word_fields w
  have l2 := field_lt w.toNat 22 4
  have s := field_split w.toNat 0 18 4
  have lw := w.isLt
  simp only [Nat.reduceAdd, Nat.zero_add] at s
  apply BitVec.eq_of_toNat_eq
  rw [BitVec.toNat_ofNat]
  generalize field w.toNat 26 6 = x1 at *
  generalize field w.toNat 22 4 = x2 at *
  generalize field w.toNat 0 22 = x3 at *
  generalize field w.toNat 18 4 = x4 at *
  generalize field w.toNat 0 18 = x5 at *
  omega

/-- The op code is its group and its place in the group. -/
theorem op_fields {w k n m : Nat} (hk : field w 30 2 = k) (hn : field w 26 4 = n) (hm : k * 16 + n = m) : field w 26 6 = m := by
  rw [← hm, ← hk, ← hn]
  exact field_split w 26 4 2

/-- The low 18 bits are the third register field and the low 14 bits. -/
theorem low_fields {w low : Nat} (h : low = field w 0 14) : field w 0 18 = field w 14 4 % 16 * 2 ^ 14 + low := by
  have s := field_split w 0 14 4
  have l := field_lt w 14 4
  simp only [Nat.reduceAdd, Nat.zero_add] at s
  rw [h, s, Nat.mod_eq_of_lt (show field w 14 4 < 16 from l)]

/-- The low 14 bits are the function code where the reserved bits above it are 0. -/
theorem fn_fields {w fn : Nat} (h6 : field w 6 8 = 0) (h : fn = field w 0 6) : fn = field w 0 14 := by
  have s := field_split w 0 6 8
  simp only [Nat.reduceAdd, Nat.zero_add] at s
  rw [s, h6, h, Nat.zero_mul, Nat.zero_add]

/-- A built word as a number. -/
theorem barnWord_toNat {op a b low : Nat} (ho : op < 64) (ha : a < 16) (hb : b < 16) (hl : low < 2 ^ 18) :
    (barnWord op a b low).toNat = op * 2 ^ 26 + a * 2 ^ 22 + b * 2 ^ 18 + low := by
  unfold barnWord
  rw [BitVec.toNat_ofNat]
  omega

/-- The fields of a built word. -/
theorem barnWord_field {op a b low : Nat} (ho : op < 64) (ha : a < 16) (hb : b < 16) (hl : low < 2 ^ 18) :
    field (barnWord op a b low).toNat 30 2 = op / 16 ∧ field (barnWord op a b low).toNat 26 4 = op % 16 ∧ field (barnWord op a b low).toNat 22 4 = a ∧
    field (barnWord op a b low).toNat 18 4 = b ∧ field (barnWord op a b low).toNat 0 18 = low := by
  rw [barnWord_toNat ho ha hb hl]
  simp only [field, Nat.shiftRight_eq_div_pow]
  omega

/-- A field within the low 18 bits of a built word. -/
theorem barnWord_low {op a b low lo n : Nat} (ho : op < 64) (ha : a < 16) (hb : b < 16) (hl : low < 2 ^ 18) (h : lo + n ≤ 18) :
    field (barnWord op a b low).toNat lo n = field low lo n := by
  have e : (barnWord op a b low).toNat = (op * 2 ^ 8 + a * 2 ^ 4 + b) * 2 ^ (18 - lo) * 2 ^ lo + low := by
    rw [barnWord_toNat ho ha hb hl, Nat.mul_assoc, ← Nat.pow_add, show 18 - lo + lo = 18 by omega]
    omega
  have k : ∀ x : Nat, x * 2 ^ (18 - lo) % 2 ^ n = 0 := by
    intro x
    have : 2 ^ (18 - lo) = 2 ^ (18 - lo - n) * 2 ^ n := by rw [← Nat.pow_add]; congr 1; omega
    rw [this, ← Nat.mul_assoc, Nat.mul_mod_left]
  rw [field, field, Nat.shiftRight_eq_div_pow, Nat.shiftRight_eq_div_pow, e, Nat.add_comm, Nat.add_mul_div_right _ _ (Nat.two_pow_pos lo), Nat.add_mod, k,
    Nat.add_zero, Nat.mod_mod]

/-- The fields of a word of format R. -/
theorem barnWordR_field {a b c fn : Nat} (ha : a < 16) (hb : b < 16) (hc : c < 16) (hf : fn < 2 ^ 6) :
    field (barnWordR a b c fn).toNat 30 2 = 0 ∧ field (barnWordR a b c fn).toNat 26 4 = 0 ∧ field (barnWordR a b c fn).toNat 22 4 = a ∧
    field (barnWordR a b c fn).toNat 18 4 = b ∧ field (barnWordR a b c fn).toNat 14 4 = c ∧ field (barnWordR a b c fn).toNat 6 8 = 0 ∧
    field (barnWordR a b c fn).toNat 0 6 = fn := by
  have hl : c % 16 * 2 ^ 14 + fn % 2 ^ 6 < 2 ^ 18 := by omega
  unfold barnWordR
  rw [barnWord_toNat (by decide) ha hb hl]
  simp only [field, Nat.shiftRight_eq_div_pow]
  omega

/-- A word of format R built from a word's own fields is that word. -/
theorem barnWordR_fields (w : Word32) {a b c fn : Nat} (ho : field w.toNat 26 6 = 0) (ha : field w.toNat 22 4 = a) (hb : field w.toNat 18 4 = b)
    (hc : field w.toNat 14 4 = c) (h6 : field w.toNat 6 8 = 0) (hf : field w.toNat 0 6 = fn) : barnWordR a b c fn = w := by
  have l : fn % 2 ^ 6 = fn := Nat.mod_eq_of_lt (hf ▸ field_lt w.toNat 0 6)
  unfold barnWordR
  rw [l, ← hc]
  exact barnWord_fields w ho ha hb (low_fields (fn_fields h6 hf.symm))

/-- A word of format R decodes by its function code. -/
theorem decodeBarn_barnWordR (bay hand : Nat) {a b c fn : Nat} (ha : a < 16) (hb : b < 16) (hc : c < 16) (hf : fn < 2 ^ 6) :
    decodeBarn bay hand (barnWordR a b c fn) = decodeR bay hand a b c fn := by
  obtain ⟨f1, f2, f3, f4, f5, f6, f7⟩ := barnWordR_field ha hb hc hf
  unfold decodeBarn
  simp only [f1, decodeImm, f2, f3, f4, f5, f6, f7, if_true]

end Sys2Proof.Machine
end

