-- ==== Sys2Proof/Laws/Memory.lean ====
section
/-!
SUPPORT. Memory: reading after writing, and that every write keeps the canonical form (log entry 2).
-/
namespace Sys2Proof.Machine
open Sys2Proof

theorem memWfFrom_mono {lo lo' : Nat} {m : List Host.Cell} (h : memWfFrom lo' m = true) (hl : lo ≤ lo') : memWfFrom lo m = true := by
  cases m with
  | nil => rfl
  | cons e r =>
    simp only [memWfFrom, Bool.and_eq_true, decide_eq_true_eq] at h ⊢
    exact ⟨⟨by omega, h.1.2⟩, h.2⟩

theorem memGet_below {lo a : Nat} {m : List Host.Cell} (h : memWfFrom lo m = true) (ha : a < lo) : memGet m a = 0 := by
  induction m generalizing lo with
  | nil => rfl
  | cons e r ih =>
    simp only [memWfFrom, Bool.and_eq_true, decide_eq_true_eq, bne_iff_ne, ne_eq, BitVec.ofNat_eq_ofNat] at h
    have hne : e.1 ≠ a := by omega
    simp only [memGet, hne, if_false]
    exact ih h.2 (by omega)

theorem memSet_wfFrom {lo a : Nat} {m : List Host.Cell} (b : Byte) (h : memWfFrom lo m = true) (ha : lo ≤ a) :
    memWfFrom lo (memSet m a b) = true := by
  induction m generalizing lo with
  | nil => by_cases hb : b = 0#8 <;> simp [memSet, memWfFrom, hb, ha]
  | cons e r ih =>
    obtain ⟨k, v⟩ := e
    simp only [memWfFrom, Bool.and_eq_true, decide_eq_true_eq, bne_iff_ne, ne_eq, BitVec.ofNat_eq_ofNat] at h
    simp only [memSet]
    by_cases h1 : a < k
    · by_cases hb : b = 0#8
      · simp [h1, hb, memWfFrom, h]
      · simp [h1, hb, memWfFrom, h, ha, show a + 1 ≤ k by omega]
    · by_cases h2 : k = a
      · subst h2
        by_cases hb : b = 0#8
        · simpa [hb] using memWfFrom_mono h.2 (by omega)
        · simp [hb, memWfFrom, h]
      · simp [h1, h2, memWfFrom, h, ih h.2 (by omega)]

/-- Writing a byte keeps the canonical form. -/
theorem memSet_wf {m : List Host.Cell} (h : Memory.wf m = true) (a : Nat) (b : Byte) : Memory.wf (memSet m a b) = true :=
  memSet_wfFrom b h (Nat.zero_le a)

/-- Writing bytes keeps the canonical form. -/
theorem memWrite_wf (bs : List Byte) {m : List Host.Cell} (h : Memory.wf m = true) (a : Nat) : Memory.wf (memWrite m a bs) = true := by
  induction bs generalizing m a with
  | nil => exact h
  | cons b r ih => exact ih (memSet_wf h a b) (a + 1)

theorem memFilter_wfFrom {lo : Nat} {m : List Host.Cell} (p : Host.Cell → Bool) (h : memWfFrom lo m = true) :
    memWfFrom lo (m.filter p) = true := by
  induction m generalizing lo with
  | nil => rfl
  | cons e r ih =>
    simp only [memWfFrom, Bool.and_eq_true, decide_eq_true_eq, bne_iff_ne, ne_eq, BitVec.ofNat_eq_ofNat] at h
    by_cases hp : p e = true
    · simp [hp, memWfFrom, h.1, ih h.2]
    · simpa [hp] using memWfFrom_mono (ih h.2) (by omega)

/-- Dropping cells keeps the canonical form. -/
theorem memFilter_wf {m : List Host.Cell} (h : Memory.wf m = true) (p : Host.Cell → Bool) : Memory.wf (m.filter p) = true :=
  memFilter_wfFrom p h

theorem memGet_memSet_wfFrom {lo a : Nat} {m : List Host.Cell} (b : Byte) (h : memWfFrom lo m = true) : memGet (memSet m a b) a = b := by
  induction m generalizing lo with
  | nil => by_cases hb : b = 0#8 <;> simp [memSet, memGet, hb]
  | cons e r ih =>
    obtain ⟨k, v⟩ := e
    simp only [memWfFrom, Bool.and_eq_true, decide_eq_true_eq, bne_iff_ne, ne_eq, BitVec.ofNat_eq_ofNat] at h
    simp only [memSet]
    by_cases h1 : a < k
    · by_cases hb : b = 0#8
      · have hk : ¬ k = a := by omega
        simp [h1, hb, memGet, hk, memGet_below h.2 (show a < k + 1 by omega)]
      · simp [h1, hb, memGet]
    · by_cases h2 : k = a
      · subst h2
        by_cases hb : b = 0#8
        · simp [hb, memGet_below h.2 (show k < k + 1 by omega)]
        · simp [hb, memGet]
      · simp [h1, h2, memGet, ih h.2]

/-- A byte reads as it was written. -/
theorem memGet_memSet {m : List Host.Cell} (h : Memory.wf m = true) (a : Nat) (b : Byte) : memGet (memSet m a b) a = b :=
  memGet_memSet_wfFrom b h

/-- A write leaves every other byte alone. -/
theorem memGet_memSet_ne (m : List Host.Cell) {a c : Nat} (b : Byte) (hc : c ≠ a) : memGet (memSet m a b) c = memGet m c := by
  induction m with
  | nil => by_cases hb : b = 0#8 <;> simp [memSet, memGet, hb, Ne.symm hc]
  | cons e r ih =>
    obtain ⟨k, v⟩ := e
    simp only [memSet]
    by_cases h1 : a < k
    · by_cases hb : b = 0#8 <;> simp [h1, hb, memGet, Ne.symm hc]
    · by_cases h2 : k = a
      · subst h2
        by_cases hb : b = 0#8 <;> simp [hb, memGet, Ne.symm hc]
      · simp [h1, h2, memGet, ih]

/-- Bytes outside a range written read as before. -/
theorem memGet_memWrite_ne (bs : List Byte) (m : List Host.Cell) {a c : Nat} (hc : c < a ∨ a + bs.length ≤ c) :
    memGet (memWrite m a bs) c = memGet m c := by
  induction bs generalizing m a with
  | nil => rfl
  | cons b r ih =>
    simp only [List.length_cons] at hc
    rw [memWrite, ih _ (by omega), memGet_memSet_ne m b (by omega)]

/-- A byte inside a range written reads as written. -/
theorem memGet_memWrite (bs : List Byte) {m : List Host.Cell} (h : Memory.wf m = true) {a i : Nat} (hi : i < bs.length) :
    memGet (memWrite m a bs) (a + i) = bs[i] := by
  induction bs generalizing m a i with
  | nil => simp at hi
  | cons b r ih =>
    rw [memWrite]
    cases i with
    | zero =>
      rw [memGet_memWrite_ne r _ (by omega)]
      simpa using memGet_memSet h a b
    | succ n =>
      have e : a + (n + 1) = a + 1 + n := by omega
      rw [e, ih (memSet_wf h a b) (by simpa using hi)]
      simp

/-- Reading back what was written. -/
theorem memRead_memWrite (bs : List Byte) {m : List Host.Cell} (h : Memory.wf m = true) (a : Nat) :
    memRead (memWrite m a bs) a bs.length = bs := by
  apply List.ext_getElem
  · simp [memRead]
  · intro i h1 h2
    simp only [memRead, List.getElem_map, List.getElem_range]
    exact memGet_memWrite bs h h2

end Sys2Proof.Machine
end

