-- ==== Sys2Proof/Laws/Ops.lean ====
section
/-!
SUPPORT. What each shared operation can change: host memory writes, rings, events, records, event sources, the journal and the fetch of a command.
-/
namespace Sys2Proof
open Machine

theorem OnlyParts.ite {ps : List Part} {s t u : State} {c : Prop} [Decidable c] (h : OnlyParts ps s t) (k : OnlyParts ps s u) :
    OnlyParts ps s (if c then t else u) := by split <;> assumption

end Sys2Proof

namespace Sys2Proof.Machine
open Sys2Proof

/-! ### Host memory, rings, telemetry and events -/

theorem dma_only (s : State) (n addr : Nat) (bytes : List Byte) : OnlyParts [.out] s (s.dma n addr bytes) := by
  unfold State.dma
  split
  · exact emit_only _ _
  · exact .refl _ _

theorem writeStatus_only (s : State) (n : Nat) : OnlyParts [.out] s (s.writeStatus n) := dma_only _ _ _ _

theorem sendVector_only (s : State) (n v : Nat) : OnlyParts [.host, .out] s (s.sendVector n v) := by
  unfold State.sendVector
  split
  · exact .refl _ _
  · split
    · exact (modEndpoint_only _ _ _).mono (by simp)
    · exact (emit_only _ _).mono (by simp)

theorem signalRing_only (s : State) (n : Nat) : OnlyParts [.host, .out] s (s.signalRing n) := by
  unfold State.signalRing
  dsimp only
  split
  · exact (sendVector_only _ _ _).trans ((modRing_only _ _ _).mono (by simp))
  · exact .refl _ _

theorem ringWrite_only (s : State) (n : Nat) (words : List Word64) : OnlyParts [.host, .out] s (s.ringWrite n words) := by
  unfold State.ringWrite
  exact ((dma_only _ _ _ _).mono (by simp)).trans (((modRing_only _ _ _).mono (by simp)).trans
    (((writeStatus_only _ _).mono (by simp)).trans (signalRing_only _ _)))

theorem telemetry_only (s : State) (cls : Nat) (words : List Word64) : OnlyParts [.host, .out] s (s.telemetry cls words) := by
  unfold State.telemetry
  refine OnlyParts.foldl _ (fun s e => ?_) _ _
  dsimp only
  split
  · split
    · exact ringWrite_only _ _ _
    · exact ((modRing_only _ _ _).mono (by simp)).trans ((writeStatus_only _ _).mono (by simp))
  · exact .refl _ _

theorem eventTo_only (s : State) (n bay code sev : Nat) (eseq : Word32) (jseq : Nat) (payload : List Byte) :
    OnlyParts [.host, .out] s (s.eventTo n bay code sev eseq jseq payload) := by
  unfold State.eventTo
  dsimp only
  split
  · exact (ringWrite_only _ _ _).trans ((modRing_only _ _ _).mono (by simp))
  · split
    · exact (modRing_only _ _ _).mono (by simp)
    · exact ((modRing_only _ _ _).mono (by simp)).trans ((writeStatus_only _ _).mono (by simp))

theorem raiseSev_only (s : State) (bay code sev jseq : Nat) (payload : List (Nat × Nat)) :
    OnlyParts [.host, .out] s (s.raiseSev bay code sev jseq payload) := by
  unfold State.raiseSev
  dsimp only
  split
  · exact .refl _ _
  · refine ((modRings_only _ _).mono (by simp)).trans (OnlyParts.foldl _ (fun s e => ?_) _ _)
    split
    · exact eventTo_only _ _ _ _ _ _ _ _
    · exact .refl _ _

/-- An event changes rings and host memory, and nothing else (R268). -/
theorem raise_only (s : State) (code : Nat) (payload : List (Nat × Nat)) : OnlyParts [.host, .out] s (s.raise code payload) :=
  raiseSev_only _ _ _ _ _ _

theorem raiseLater_only (s : State) (code : Nat) (payload : List (Nat × Nat)) : OnlyParts [.host, .out, .sys] s (s.raiseLater code payload) := by
  unfold State.raiseLater
  split
  · exact (raise_only _ _ _).mono (by simp)
  · exact (modSys_only _ _).mono (by simp)

/-- A record changes the keeper's queue, and nothing else (R352). -/
theorem almanac_only (s : State) (source code : Nat) (payload : List (Nat × Nat)) : OnlyParts [.alm] s (s.almanac source code payload) := by
  unfold State.almanac
  split
  · exact .refl _ _
  · split <;> exact modAlm_only _ _

theorem raiseAndRecord_only (s : State) (source code : Nat) (payload : List (Nat × Nat)) :
    OnlyParts [.host, .out, .alm] s (s.raiseAndRecord source code payload) :=
  ((raise_only _ _ _).mono (by simp)).trans ((almanac_only _ _ _ _).mono (by simp))

theorem drawFree_only (s : State) : OnlyParts [.sys] s s.drawFree.2 := modSys_only _ _

/-! ### Event sources -/

theorem signal_only (s : State) (src : Nat) : OnlyParts [.barn] s (s.signal src) := (modBarn_only _ _).trans (modBarn_only _ _)

theorem signalChannel_only (s : State) (ch : Nat) : OnlyParts [.barn] s (s.signalChannel ch) := signal_only _ _

/-! ### Registers of a hand (R179) -/

@[simp] theorem Hand.reg_zero (h : Hand) : h.reg 0 = 0 := rfl

@[simp] theorem Hand.setReg_zero (h : Hand) (v : Word32) : h.setReg 0 v = h := rfl

theorem Hand.reg_setReg (h : Hand) {r : Nat} (v : Word32) (hr : r ≠ 0) : (h.setReg r v).reg r = v := by simp [Hand.reg, Hand.setReg, hr]

theorem Hand.reg_setReg_ne (h : Hand) {r q : Nat} (v : Word32) (hq : q ≠ r) : (h.setReg r v).reg q = h.reg q := by
  unfold Hand.reg Hand.setReg
  split
  · rfl
  · split
    · rfl
    · exact tget_tset_ne _ _ _ _ _ hq

/-! ### The journal and the fetch of a command -/

theorem journalWrite_only (s : State) (kind ring : Nat) (seq : Word32) (applyDwn : Nat) (w : Work) :
    OnlyParts [.own] s (s.journalWrite kind ring seq applyDwn w) := by
  unfold State.journalWrite
  dsimp only
  split
  · exact modJournal_only _ _
  · split
    · exact (modJournal_only _ _).trans ((modBay_only _ _ _).trans (modBay_only _ _ _))
    · exact (modJournal_only _ _).trans (modBay_only _ _ _)

theorem journalChange_only (s : State) (c : Change) : OnlyParts [.own] s (s.journalChange c) := by
  unfold State.journalChange
  split
  · exact journalWrite_only _ _ _ _ _ _
  · exact .refl _ _

theorem complete_only (s : State) (jseq status : Nat) (res : List Nat) : OnlyParts [.own] s (s.complete jseq status res) := by
  unfold State.complete
  dsimp only
  split
  · exact modEntry_only _ _ _
  · exact .refl _ _

theorem ok_only (s : State) (jseq : Nat) : OnlyParts [.own] s (s.ok jseq) := complete_only _ _ _ _

theorem bufferOut_only (s : State) (jseq addr : Nat) (bytes : List Byte) : OnlyParts [.own] s (s.bufferOut jseq addr bytes) :=
  modEntry_only _ _ _

theorem postAcceptance_only (s : State) (n : Nat) (seq : Word32) : OnlyParts [.host, .out] s (s.postAcceptance n seq) := by
  unfold State.postAcceptance
  split
  · exact ((modRing_only _ _ _).mono (by simp)).trans ((writeStatus_only _ _).mono (by simp))
  · exact .refl _ _

theorem acknowledge_only (s : State) (jseq : Nat) : OnlyParts [.own, .host, .out] s (s.acknowledge jseq) := by
  unfold State.acknowledge
  dsimp only
  split
  · exact ((modEntry_only _ _ _).mono (by simp)).trans ((postAcceptance_only _ _ _).mono (by simp))
  · exact (modEntry_only _ _ _).mono (by simp)

theorem passEntry_only (s : State) (n : Nat) : OnlyParts [.host] s (s.passEntry n) := modRing_only _ _ _

theorem answer_only (s : State) (n : Nat) (words : List Word64) : OnlyParts [.host, .out] s (s.answer n words) :=
  ((passEntry_only _ _).mono (by simp)).trans (((writeStatus_only _ _).mono (by simp)).trans (ringWrite_only _ _ _))

/-- A fetched command changes the journal and the bays' share of it, rings, host memory and the count of free values, and nothing else: what
the command does, it does at its window (R235, R278). -/
theorem submit_only (s : State) (i : Instr) (h : CmdHdr) (c : CmdSpec) : OnlyParts [.own, .host, .out, .sys] s (s.submit i h c) := by
  unfold State.submit
  split
  · exact .refl _ _
  · split
    · exact ((drawFree_only _).mono (by simp)).trans ((answer_only _ _ _).mono (by simp))
    · exact (answer_only _ _ _).mono (by simp)
    · split
      · exact (answer_only _ _ _).mono (by simp)
      · exact ((passEntry_only _ _).mono (by simp)).trans (((writeStatus_only _ _).mono (by simp)).trans ((modEntry_only _ _ _).mono (by simp)))
    · extract_lets j s1 s2
      have h1 : OnlyParts [.own, .host, .out, .sys] s s2 :=
        ((journalWrite_only _ _ _ _ _ _).mono (by simp)).trans ((modRing_only _ _ _).mono (by simp))
      split
      · exact h1.trans ((acknowledge_only _ _).mono (by simp))
      · exact h1.trans ((writeStatus_only _ _).mono (by simp))

/-! ### Time, repetition and drives -/

theorem passed_of {s : State} {t d : Nat} (h : t + d ≤ s.now) : s.passed t d = true := by simpa [State.passed, State.now] using h

theorem foldl_only {α : Type} {ps : List Part} {f : State → α → State} (h : ∀ s a, OnlyParts ps s (f s a)) (l : List α) (s : State) :
    OnlyParts ps s (l.foldl f s) := by
  induction l generalizing s with
  | nil => exact .refl _ _
  | cons i r ih => exact (h s i).trans (ih _)

theorem forUpTo_only {ps : List Part} {f : State → Nat → State} (h : ∀ s i, OnlyParts ps s (f s i)) (n : Nat) (s : State) :
    OnlyParts ps s (forUpTo n f s) := foldl_only h _ s

theorem followDrive_only (s : State) (ch : Nat) : OnlyParts [.cool] s (s.followDrive ch) := modDrive_only _ _ _

theorem followDrives_only (s : State) : OnlyParts [.cool] s s.followDrives := by
  unfold State.followDrives
  split
  · exact forUpTo_only followDrive_only 20 s
  · exact .refl _ _

end Sys2Proof.Machine
end

