-- ==== Sys2Proof/Laws/Bays.lean ====
section
/-!
SUPPORT. The bays' shared operations said once: the keeper-hold (R17) and the copies of a join (R244).
-/
namespace Sys2Proof.Machine
open Sys2Proof

theorem enterHold_own_only {s : State} (h : s.own.latch.hold = false) (pair : Nat) (running : Bool) :
    (s.enterHold pair running).own = { s.own with latch := { s.own.latch with hold := true } } ∧
    OnlyParts [.own, .boot, .cool, .host, .out, .alm] s (s.enterHold pair running) := by
  unfold State.enterHold
  rw [if_neg (by simp [h])]
  extract_lets s1 s2 s3
  have e2 : OnlyParts [.boot] s1 s2 := forUpTo_only (fun t b => by
    split
    · exact modPush_only _ _ _
    · exact modPush_only _ _ _
    · exact modPush_only _ _ _
    · exact .refl _ _) 2 s1
  have e3 : OnlyParts [.cool] s2 s3 := followDrives_only s2
  have e4 : ∀ t : State, OnlyParts [.host, .out, .alm] t ((if running then t.raise 0x0E01 [(1, pair)] else t).almanac 0 0x0E01 [(1, pair)]) := by
    intro t
    split
    · exact ((raise_only _ _ _).mono (by simp)).trans ((almanac_only _ _ _ _).mono (by simp))
    · exact (almanac_only _ _ _ _).mono (by simp)
  have e : OnlyParts [.boot, .cool, .host, .out, .alm] s1 ((if running then s3.raise 0x0E01 [(1, pair)] else s3).almanac 0 0x0E01 [(1, pair)]) :=
    (e2.mono (by simp)).trans ((e3.mono (by simp)).trans ((e4 s3).mono (by simp)))
  exact ⟨e .own (by decide), ((modLatch_only _ _).mono (by simp)).trans (e.mono (by simp))⟩

theorem copyPages_only (s : State) (src dst : Nat) : OnlyParts [.gran] s (s.copyPages src dst) :=
  foldl_only (fun t e => by
    split
    · exact modGranary_only _ _ _
    · exact .refl _ _) _ s

theorem copyCheckpoints_only (s : State) (src dst : Nat) : OnlyParts [.gran] s (s.copyCheckpoints src dst) :=
  foldl_only (fun _ _ => modGranary_only _ _ _) _ s

theorem copyHands_only (s : State) (src dst : Nat) : OnlyParts [.barn] s (s.copyHands src dst) :=
  foldl_only (fun _ _ => modHand_only _ _ _ _) _ s

theorem copyGovernor_only (s : State) (src dst : Nat) : OnlyParts [.gov, .link] s (s.copyGovernor src dst) := by
  unfold State.copyGovernor
  extract_lets t
  have e : OnlyParts [.gov, .link] s t := by
    refine forUpTo_only (fun u n => ?_) 8 s
    extract_lets u1 u2
    have e1 : OnlyParts [.gov] u u1 := modGovSlot_only _ _ _ _
    have e2 : OnlyParts [.gov] u1 u2 := modChg_only _ _ _ _
    split
    · exact (e1.trans e2).mono (by simp)
    · exact ((e1.trans e2).mono (by simp)).trans ((modView_only u2 _ _ _).mono (by simp))
  exact e.trans ((modGov_only t _).mono (by simp))

end Sys2Proof.Machine
end

