-- ==== Sys2Proof/Laws/Ring.lean ====
section
/-!
SUPPORT. Ring commands as a family: the row of each, the fetch of one that passes every check, and what that leaves for each command to
say.
-/
namespace Sys2Proof.Machine
open Sys2Proof

/-- A row's OPCODE is the one that its command carries (R283 to R291). -/
theorem specOf_opcode {s : State} {i : Instr} {c : CmdSpec} (h : s.specOf i = some c) : opcodeOf i = some c.opcode := by
  cases i <;> simp only [State.specOf, Option.some.injEq, reduceCtorEq] at h <;> subst h <;> rfl

/-- A ring command whose verdict is to accept is submitted and does nothing more when it is fetched. -/
theorem exec_of_accept {s : State} {i : Instr} {c : CmdSpec} (h : s.specOf i = some c) (ha : s.verdict i (hdrOf i) c = .accept) :
    exec i s = .next (s.submit i (hdrOf i) c) := by
  cases i <;> simp only [State.specOf, Option.some.injEq, reduceCtorEq] at h <;> subst h <;>
    first
    | rfl
    | (simp only [hdrOf] at ha ⊢
       simp only [exec, execGridSetTarget, execGridPark, execGridUnpark, State.submitGrid, ha, Bool.and_false, if_false, Bool.false_eq_true])

theorem firstBad_append_none {a b : List Chk} (h : firstBad a = none) : firstBad (a ++ b) = firstBad b := by
  induction a with
  | nil => rfl
  | cons c r ih =>
    simp only [firstBad, List.cons_append] at h ⊢
    split at h
    · simp at h
    · rename_i hc
      simp [hc, ih h]

theorem firstBad_none_append {a b : List Chk} (h : firstBad (a ++ b) = none) : firstBad a = none ∧ firstBad b = none := by
  induction a with
  | nil => exact ⟨rfl, h⟩
  | cons c r ih =>
    simp only [firstBad, List.cons_append] at h ⊢
    split at h
    · simp at h
    · rename_i hc
      simp [hc, ih h]

/-- A ready command whose own checks pass is accepted by the verdict. -/
theorem verdict_of_ready {s : State} {i : Instr} {c : CmdSpec} (h : s.specOf i = some c) (hr : ready i c.plen c.optMask s = true)
    (hg : c.grid = none) (hb : firstBad (c.params ++ c.states ++ c.late) = none) :
    s.canFetch (hdrOf i).ring c.opcode = true ∧ s.verdict i (hdrOf i) c = .accept := by
  unfold ready at hr
  rw [specOf_opcode h] at hr
  simp only [Bool.and_eq_true, decide_eq_true_eq, Bool.not_eq_true', beq_iff_eq, Option.isNone_iff_eq_none] at hr
  obtain ⟨⟨⟨⟨⟨⟨h1, h2⟩, h3⟩, h4⟩, h5⟩, h6⟩, h7⟩ := hr
  refine ⟨h1, ?_⟩
  obtain ⟨hps, hl⟩ := firstBad_none_append hb
  obtain ⟨hp, hst⟩ := firstBad_none_append hps
  have hall : firstBad (c.params ++ s.deviceState i c.opcode (hdrOf i).ring ++ c.states ++ c.late) = none := by
    rw [List.append_assoc, List.append_assoc, firstBad_append_none hp, firstBad_append_none h7, firstBad_append_none hst, hl]
  simp only [State.verdict, h2, Bool.not_true, Bool.false_eq_true, if_false, hg, h3, ne_eq, not_true_eq_false, h4, h5, Bool.false_or, decide_false,
    h6, hall]

/-- The journal after a write: the entry stands under the next JSEQ (R234, R235). -/
theorem journalWrite_journal (s : State) (kind ring : Nat) (seq : Word32) (d : Nat) (w : Work) :
    (s.journalWrite kind ring seq d w).own.journal = { s.own.journal with
      entries := tset s.own.journal.entries s.own.journal.nextJseq {
        epoch := s.own.latch.epoch, ring := ring, kind := kind, state := 1, applyDwn := d, seq := seq
        acked := s.own.journal.single, written := s.now, body := w, prevSeq := (s.ring ring).lastSeq, prevIdx := (s.ring ring).ctrlIdx }
      nextJseq := s.own.journal.nextJseq + 1 } := by
  unfold State.journalWrite
  dsimp only
  split
  · rfl
  · split <;> rfl

theorem writeStatus_own (s : State) (n : Nat) : (s.writeStatus n).own = s.own := writeStatus_only s n .own (by simp)

theorem writeStatus_host (s : State) (n : Nat) : (s.writeStatus n).host = s.host := writeStatus_only s n .host (by simp)

theorem modRing_own (s : State) (n : Nat) (f : Ring → Ring) : (s.modRing n f).own = s.own := rfl

theorem modRing_ring (s : State) (n : Nat) (f : Ring → Ring) : (s.modRing n f).ring n = f (s.ring n) := tget_tset_same _ _ _ _

theorem modEntry_entry (s : State) (j : Nat) (f : Entry → Entry) : (s.modEntry j f).entry j = f (s.entry j) := tget_tset_same _ _ _ _

theorem postAcceptance_ring (s : State) (n : Nat) (seq : Word32) :
    ((s.postAcceptance n seq).ring n).lastSeq = (s.ring n).lastSeq ∧ ((s.postAcceptance n seq).ring n).ctrlIdx = (s.ring n).ctrlIdx := by
  unfold State.postAcceptance
  split
  · have h : ((s.modRing n fun r => { r with accSeq := seq }).writeStatus n).ring n = { s.ring n with accSeq := seq } := by
      rw [← modRing_ring s n fun r => { r with accSeq := seq }]
      unfold State.ring
      rw [writeStatus_host]
    rw [h]
    exact ⟨rfl, rfl⟩
  · exact ⟨rfl, rfl⟩

/-- Acknowledging an entry marks it and changes nothing else of the journal (R239). -/
theorem acknowledge_journal (s : State) (j : Nat) :
    (s.acknowledge j).own.journal = (s.modEntry j fun e => { e with acked := true }).own.journal := by
  unfold State.acknowledge
  dsimp only
  split
  · rw [postAcceptance_only _ _ _ .own (by simp)]
  · rfl

theorem acknowledge_ring (s : State) (j n : Nat) (hn : (s.entry j).ring = n) :
    ((s.acknowledge j).ring n).lastSeq = (s.ring n).lastSeq ∧ ((s.acknowledge j).ring n).ctrlIdx = (s.ring n).ctrlIdx := by
  subst hn
  unfold State.acknowledge
  dsimp only
  split
  · exact postAcceptance_ring _ _ _
  · exact ⟨rfl, rfl⟩

/-- An entry accepted under the next JSEQ stands in the journal, and the ring has passed it (R235, R236, R263). -/
theorem submit_accept {s : State} {i : Instr} {c : CmdSpec} (hf : s.canFetch (hdrOf i).ring c.opcode = true)
    (ha : s.verdict i (hdrOf i) c = .accept) : Accepts i s (s.submit i (hdrOf i) c) := by
  unfold State.submit
  simp only [hf, Bool.not_true, Bool.false_eq_true, if_false, ha]
  generalize hd : (if (hdrOf i).ring < 0x10000 then s.applyWindow else s.dwn) = d
  generalize h1 : s.journalWrite 0 (hdrOf i).ring (hdrOf i).seq d (.cmd i) = s1
  have hj1 : s1.own.journal = _ := h1 ▸ journalWrite_journal s 0 (hdrOf i).ring (hdrOf i).seq d (.cmd i)
  have ho1 : OnlyParts [.own] s s1 := h1 ▸ journalWrite_only s 0 (hdrOf i).ring (hdrOf i).seq d (.cmd i)
  have hr1 : s1.ring (hdrOf i).ring = s.ring (hdrOf i).ring := by unfold State.ring; rw [ho1 .host (by simp)]
  generalize h2 : s1.modRing (hdrOf i).ring (fun r => { r with ctrlIdx := r.ctrlIdx + 1, lastSeq := (hdrOf i).seq, fetchedOpen := r.fetchedOpen + 1 }) = s2
  have hj2 : s2.own.journal = s1.own.journal := h2 ▸ rfl
  have hr2 : s2.ring (hdrOf i).ring = { s.ring (hdrOf i).ring with
      ctrlIdx := (s.ring (hdrOf i).ring).ctrlIdx + 1, lastSeq := (hdrOf i).seq, fetchedOpen := (s.ring (hdrOf i).ring).fetchedOpen + 1 } := by
    rw [← h2, modRing_ring, hr1]
  have ho2 : OnlyParts [.own, .host, .out] s s2 := (ho1.mono (by simp)).trans (h2 ▸ (modRing_only _ _ _).mono (by simp))
  have he2 : s2.entry s.own.journal.nextJseq = {
      epoch := s.own.latch.epoch, ring := (hdrOf i).ring, kind := 0, state := 1, applyDwn := d, seq := (hdrOf i).seq
      acked := s.own.journal.single, written := s.now, body := .cmd i, prevSeq := (s.ring (hdrOf i).ring).lastSeq
      prevIdx := (s.ring (hdrOf i).ring).ctrlIdx } := by
    unfold State.entry
    rw [hj2, hj1]
    exact tget_tset_same _ _ _ _
  have hs2 : s2.own.journal.single = s.own.journal.single := by rw [hj2, hj1]
  have hn2 : s2.own.journal.nextJseq = s.own.journal.nextJseq + 1 := by rw [hj2, hj1]
  simp only [hs2]
  unfold Accepts
  dsimp only
  rw [hd]
  by_cases hc : (s.own.journal.single || decide (0x10000 ≤ (hdrOf i).ring)) = true
  · simp only [hc, if_true]
    have hj3 := acknowledge_journal s2 s.own.journal.nextJseq
    have he3 : (s2.acknowledge s.own.journal.nextJseq).entry s.own.journal.nextJseq = { s2.entry s.own.journal.nextJseq with acked := true } := by
      rw [← modEntry_entry s2 s.own.journal.nextJseq fun e => { e with acked := true }]
      unfold State.entry
      rw [hj3]
    have hr3 := acknowledge_ring s2 s.own.journal.nextJseq (hdrOf i).ring (by rw [he2])
    refine ⟨?_, ?_, ?_, ?_, ?_, ?_, ?_, ?_, ?_, ?_, ?_, ?_, ho2.trans (acknowledge_only _ _)⟩
    all_goals first | rw [he3, he2] | (rw [hj3]; exact hn2) | (rw [hr3.1, hr2]) | (rw [hr3.2, hr2])
  · simp only [hc, if_false, Bool.false_eq_true]
    have hsing : s.own.journal.single = false := by simp only [Bool.or_eq_true, not_or, Bool.not_eq_true] at hc; exact hc.1
    have he3 : (s2.writeStatus (hdrOf i).ring).entry s.own.journal.nextJseq = s2.entry s.own.journal.nextJseq := by unfold State.entry; rw [writeStatus_own]
    have hr3 : (s2.writeStatus (hdrOf i).ring).ring (hdrOf i).ring = s2.ring (hdrOf i).ring := by unfold State.ring; rw [writeStatus_host]
    refine ⟨?_, ?_, ?_, ?_, ?_, ?_, ?_, ?_, ?_, ?_, ?_, ?_, ho2.trans ((writeStatus_only _ _).mono (by simp))⟩
    all_goals first | (rw [he3, he2]; exact hsing) | rw [he3, he2] | (rw [writeStatus_own]; exact hn2) | (rw [hr3, hr2])

/-- An entry that is due takes effect as its command's row says (R237). -/
theorem applyEntry_cmd {u : State} {j : Nat} {i : Instr} (hd : u.entryDue j = true) (hb : (u.entry j).body = .cmd i) :
    u.applyEntry j = (u.modEntry j fun e => { e with applied := true }).effectOf j i := by
  simp only [State.applyEntry, hd, Bool.not_true, Bool.false_eq_true, if_false, hb]

/-- A ready command whose own checks pass is accepted, and does at its window what its row says. -/
theorem carries_of {i : Instr} {s : State} {c : CmdSpec} {eff : Nat → State → State} (h : s.specOf i = some c)
    (hr : ready i c.plen c.optMask s = true) (hg : c.grid = none) (hb : firstBad (c.params ++ c.states ++ c.late) = none)
    (he : ∀ j u, State.effectOf u j i = eff j u) : Carries i s eff := by
  obtain ⟨hf, ha⟩ := verdict_of_ready h hr hg hb
  exact ⟨⟨_, exec_of_accept h ha, submit_accept hf ha⟩, fun u j hd hbody => by rw [applyEntry_cmd hd hbody, he]⟩

/-! ### What writing one entry of a produced ring leaves (R254, R256, R269) -/

theorem ring_modRing_ne (s : State) {n m : Nat} (f : Ring → Ring) (h : m ≠ n) : (s.modRing n f).ring m = s.ring m := tget_tset_ne _ _ _ _ _ h

theorem writeStatus_ring (s : State) (n m : Nat) : (s.writeStatus n).ring m = s.ring m := by unfold State.ring; rw [writeStatus_host]

theorem sendVector_ring (s : State) (n v m : Nat) : (s.sendVector n v).ring m = s.ring m := by
  unfold State.sendVector
  split
  · rfl
  · split <;> rfl

theorem signalRing_ring (s : State) (n m : Nat) (h : m ≠ n) : (s.signalRing n).ring m = s.ring m := by
  unfold State.signalRing
  dsimp only
  split
  · rw [ring_modRing_ne _ _ h, sendVector_ring]
  · rfl

theorem signalRing_ctrlIdx (s : State) (n : Nat) : ((s.signalRing n).ring n).ctrlIdx = (s.ring n).ctrlIdx := by
  unfold State.signalRing
  dsimp only
  split
  · rw [modRing_ring, sendVector_ring]
  · rfl

theorem ringWrite_ring (s : State) (n m : Nat) (w : List Word64) (h : m ≠ n) : (s.ringWrite n w).ring m = s.ring m := by
  unfold State.ringWrite
  rw [signalRing_ring _ _ _ h, writeStatus_ring, ring_modRing_ne _ _ h]
  unfold State.ring
  rw [dma_only _ _ _ _ .host (by simp)]

theorem ringWrite_ctrlIdx (s : State) (n : Nat) (w : List Word64) : ((s.ringWrite n w).ring n).ctrlIdx = (s.ring n).ctrlIdx + 1 := by
  unfold State.ringWrite
  rw [signalRing_ctrlIdx, writeStatus_ring, modRing_ring]
  show ((State.dma _ _ _ _).ring n).ctrlIdx + 1 = _
  unfold State.ring
  rw [dma_only _ _ _ _ .host (by simp)]

theorem mem_emit_out (s : State) (o x : Out) (h : x ∈ s.out) : x ∈ (s.emit o).out := List.mem_cons_of_mem _ h

theorem mem_writeStatus_out (s : State) (n : Nat) (x : Out) (h : x ∈ s.out) : x ∈ (s.writeStatus n).out := by
  unfold State.writeStatus State.dma
  split
  · exact mem_emit_out _ _ _ h
  · exact h

theorem mem_signalRing_out (s : State) (n : Nat) (x : Out) (h : x ∈ s.out) : x ∈ (s.signalRing n).out := by
  unfold State.signalRing
  dsimp only
  split
  · rw [modRing_only _ _ _ .out (by simp)]
    unfold State.sendVector
    split
    · exact h
    · split
      · exact h
      · exact mem_emit_out _ _ _ h
  · exact h

/-- The entry is written at the producer's place (R254). -/
theorem ringWrite_out (s : State) (n e : Nat) (w : List Word64) (h : s.ringCarrier n = some e) :
    Out.dma e ((s.ring n).desc.base.toNat + (s.ring n).ctrlIdx.toNat % (s.ring n).size * (s.ring n).entryBytes) (wordsBytes w) ∈
      (s.ringWrite n w).out := by
  unfold State.ringWrite
  refine mem_signalRing_out _ _ _ (mem_writeStatus_out _ _ _ ?_)
  rw [modRing_only _ _ _ .out (by simp)]
  simp [State.dma, h, State.emit]

end Sys2Proof.Machine
end

