-- ==== Sys2Proof/Tests/Slice0.lean ====
section
/-!
SUPPORT. Small states for each statement's hypotheses, ill-formed commands that WellFormed refuses, and words and arithmetic written out from
the manual.
-/
set_option Elab.async false

namespace Sys2Proof.Tests
open Sys2Proof Sys2Proof.Machine

/-- Bay 0 owns and serves alone; ring 0 is a command ring with one entry to fetch, and ring 1 its completion ring. -/
def served : State :=
  { State.reset with
    own := { State.reset.own with
      latch := { epoch := 1, valid := true, owner := 0 }
      bays := [(0, { bstate := .owner, hbTime := some 0 })]
      journal := { State.reset.own.journal with single := true } }
    host := { State.reset.host with
      rings := { State.reset.host.rings with
        rings := [(0, { desc := { kind := 0, peer := 1 }, state := .active, hostIdx := 1 }), (1, { desc := { kind := 1 }, state := .active }),
          (2, { state := .disabled }), (3, { desc := { kind := 3 }, state := .active }), (4, { state := .stopped })] } }
    pwr := { State.reset.pwr with feed := { State.reset.pwr.feed with seatA := true, seatB := true } }
    sys := { State.reset.sys with holdup := 100, counting := true, devTime := 4000000000 }
    boot := { State.reset.boot with entropy := { State.reset.boot.entropy with ready := true } } }

/-- The header of the entry that ring 0 holds, with a row's PLEN. -/
def hdr (plen : Nat) : CmdHdr := { ring := 0, seq := 1, plen := plen }

/-! ### Ill-formed commands that WellFormed refuses, one for each check -/

theorem test_wf_header : wellFormed (.admNop (hdr 65536)) = false ∧ wellFormed (.admNop { hdr 0 with rsvAt := some 48 }) = false ∧
    wellFormed (.admNop (hdr 0)) = true := by decide

theorem test_wf_ring_parameters : wellFormed (.admRingDelete (hdr 2) 65536) = false ∧ wellFormed (.admRingQuery (hdr 16) 3 (2 ^ 64)) = false ∧
    wellFormed (.admRingSubscribe (hdr 9) 3 (2 ^ 32) 0) = false ∧ wellFormed (.govSetCap (hdr 8) 256 0) = false ∧
    wellFormed (.updCommit (hdr 48) (2 ^ 384)) = false := by decide +kernel

theorem test_wf_lists : wellFormed (.handStart (hdr 32) 0 []) = false ∧ wellFormed (.pwrSetRail (hdr 12) 0 0 [1] 0) = false ∧
    wellFormed (.twXfer (hdr 24) 0 0x48 0 1 0 0 0 []) = false ∧ wellFormed (.twXfer (hdr 24) 0 0x48 0 1 0 0 0 [0x55]) = true := by decide

theorem test_wf_barn_registers : wellFormed (.add 2 0 1 1 1) = false ∧ wellFormed (.add 0 4096 1 1 1) = false ∧ wellFormed (.add 0 0 16 1 1) = false ∧
    wellFormed (.add 0 0 1 16 1) = false ∧ wellFormed (.add 0 0 1 1 16) = false ∧ wellFormed (.add 1 4095 15 15 15) = true := by decide

theorem test_wf_barn_pairs : wellFormed (.ld 0 0 3 1 0 .clean) = false ∧ wellFormed (.sd 0 0 3 1 0 .clean) = false ∧
    wellFormed (.aadd64 0 0 2 1 3 0 .clean) = false ∧ wellFormed (.aadd64 0 0 3 1 2 0 .clean) = false ∧ wellFormed (.time 0 0 3 0 0) = false := by decide

theorem test_wf_barn_immediates : wellFormed (.shli 0 0 1 1 32) = false ∧ wellFormed (.wait 0 0 1 0 0) = false ∧ wellFormed (.wait 0 0 1 0 256) = false ∧
    wellFormed (.evb 0 0 0 1 7) = false ∧ wellFormed (.evb 0 0 1 1 0) = false ∧ wellFormed (.sig 0 0 0 1 7) = false ∧ wellFormed (.twi 0 0 1 1 1) = false ∧
    wellFormed (.lsend 0 0 1 1 1 2) = false ∧ wellFormed (.tset 0 0 0 1 3) = false ∧ wellFormed (.time 0 0 2 0 1) = false ∧
    wellFormed (.yieldHand 0 0 0 0 1024) = false ∧ wellFormed (.ckpt 0 0 0 0 2) = false ∧ wellFormed (.halt 0 0 0 1 0) = false ∧
    wellFormed (.self 0 0 1 0 8) = false := by decide

theorem test_wf_frames : wellFormed (.counterFrame 0 0 { slot := 16 }) = false ∧ wellFormed (.counterFrame 0 0 { tslice := 8 }) = false ∧
    wellFormed (.counterFrame 0 0 { count := 2049 }) = false ∧ wellFormed (.counterFrame 0 0 { counters := [65536] }) = false ∧
    wellFormed (.counterFrame 2 0 {}) = false ∧ wellFormed (.counterFrame 0 8 {}) = false ∧ wellFormed (.counterFrame 1 7 {}) = true ∧
    wellFormed (.acceptCommandFrame 0 { density := 256 }) = false ∧ wellFormed (.acceptCommandFrame 0 { opc := 16 }) = false ∧
    wellFormed (.acceptBurstFrame 0 { len := 256 }) = false ∧ wellFormed (.acceptPushBlock 0 { data := [] }) = false := by decide +kernel

theorem test_wf_entries : wellFormed (.commandFetch 32768 []) = false ∧ wellFormed (.commandFetch 0 [{ words := [0] }]) = false ∧
    wellFormed (.commandFetch 0 (List.replicate 9 { words := List.replicate 8 0 })) = false ∧
    wellFormed (.commandFetch 0 [{ words := List.replicate 8 0 }]) = true := by decide +kernel

theorem test_wf_names : wellFormed (.laneLost 0 8) = false ∧ wellFormed (.easelPhaseClose 0 32) = false ∧ wellFormed (.knownAnswerCheck 0 16 .starved) = false ∧
    wellFormed (.doorbell 2 0 0 0) = false ∧ wellFormed (.selfTestCopyDone 0 256) = false ∧ wellFormed (.portLightLock 4) = false ∧
    wellFormed (.pgCountedUp 64) = false ∧ wellFormed (.tripRetry 256) = false ∧ wellFormed (.targetAbandon 24) = false ∧
    wellFormed (.perst 2) = false ∧ wellFormed (.dieFailure 2) = false ∧ wellFormed (.go 0 16) = false := by decide +kernel

/-! ### The manual's own figures -/

/-- R21: the check value of this CRC-32C, over the digits 1 to 9, is the published one of the polynomial 0x1EDC6F41. -/
theorem test_crc32c_check : crc32c [0x31, 0x32, 0x33, 0x34, 0x35, 0x36, 0x37, 0x38, 0x39] = 0xE3069283 := by decide +kernel

/-- R23: the cycle goes on at 1 after 0xFFFFFFFF. -/
theorem test_wseq_wraps : wsAdd 0xFFFFFFFF 1 = 1 ∧ wsAdd 0 1 = 1 ∧ wsSub 1 1 = 0xFFFFFFFF ∧ wsAbove 1 0xFFFFFFFF = true ∧ wsAbove 5 0 = true := by
  decide +kernel

/-- R23, R236: sequence numbers go on at 0 after 0xFFFFFFFF. -/
theorem test_seq_wraps : seqNewer 0 0xFFFFFFFF = true ∧ seqNewer 0x80000000 0 = false ∧ seqNewer 0x7FFFFFFF 0 = true := by decide +kernel

/-- R60's example: 24.4 kW wanted of a pool of 21.6 kW, slots 0 and 1 marked. -/
theorem test_allocation_example : allocate 21600 (([(3600, true), (3600, true), (3600, false), (3600, false), (3000, false), (2200, false), (3600, false),
    (1200, false)] : List (Rat × Bool)).map fun p => { want := p.1, keep := if p.2 then p.1 else 400, flr := 400, cap := 3600 }) =
    [3600, 3600, 2750, 2750, 2750, 2200, 2750, 1200] := by decide +kernel

/-- R62 and R63's examples: DENSITY 64, with a ceiling of 99; 13 for an excess of 90 W. -/
theorem test_density_example : densityLaw 2 3200 2750 3600 = 64 ∧ ballastCap 200 2200 3600 = 99 ∧ ballastCap 64 2200 3600 = 64 ∧
    densityLaw 2 2840 2750 3600 = 13 := by decide +kernel

/-- R109's example: f is 0.800 at -200 mHz. -/
theorem test_curve_example : curveAt [(-1000, 500), (-200, 800), (-50, 1000), (1000, 1000)] (-200) = 4 / 5 ∧
    curveAt [(-1000, 500), (-200, 800), (-50, 1000), (1000, 1000)] (-3000) = 1 / 2 := by decide +kernel

/-- R106's example: 6.2 kW per ms is 12.4 W in a window. -/
theorem test_ramp_example : rampStep 31000 24800 6200 = 31000 - 62 / 5 := by decide +kernel

/-- R183's examples: WAIT g9, 0x80 and TWI g10, g1. -/
theorem test_barn_examples : decodeBarn 0 0 0xC2400080 = some (.wait 0 0 9 0 0x80) ∧ decodeBarn 0 0 0xD2840000 = some (.twi 0 0 10 1 0) := by
  decide +kernel

/-- R283's example: GOV_SET_CAP for slot 6 at 2,750 W with SEQ 501. -/
theorem test_entry_example : decodeCommand 12 { words := [0x000001F500000100, 0x0000000000000008, 0x00000ABE00000006, 0, 0, 0, 0, 0] } =
    some (.govSetCap { ring := 12, seq := 501, plen := 8 } 6 2750) := by decide +kernel

/-- The same example: 28,150 W is over a tray cap of 28,000 W, and within it once OSF is 1.100. -/
theorem test_cap_example :
    let caps : CapSet := { caps := [3600, 3600, 3600, 3600, 3600, 3600, 2750, 3600], tray := 28000, osf := 1000, margin := 200 }
    caps.ok = false ∧ { caps with osf := 1100 }.ok = true ∧ { caps with tray := 31000 }.ok = true := by decide +kernel

/-- R62's refusal in that example: the completion's word 0, and RES0 the offset of CAP. -/
theorem test_conflict_words : (completionWords 502 0x0100 0x0107 [4]).take 2 = [0x000001F601000107, 4] := by decide +kernel

/-- The chapter's hidden unit: 7.40625 with radius 9.25 converts to U8 as 7 with radius 9.65625, and stochastically to 8 with 9.84375 where the
draw is below 26,624 (R133, R141). -/
theorem test_conversion_example :
    let a : Bv := { m := .fin false (948 / 128), r := some (37 / 4) }
    (convertInt 3 0 0 0 a).code = 7 ∧ (convertInt 3 0 0 0 a).v.r = some (309 / 32) ∧
    (convertInt 3 0 2 26623 a).code = 8 ∧ (convertInt 3 0 2 26623 a).v.r = some (315 / 32) ∧ (convertInt 3 0 2 26624 a).code = 7 := by decide +kernel

theorem witness_IdleStepCountsTime : (served.pending = [] ∧ served.sys.counting = true) ∧
    (State.reset.pending = [] ∧ State.reset.sys.counting = false) := by decide +kernel

theorem witness_RingCommandAccepted : served.canFetch 0 0 = true ∧ served.verdict (.admNop (hdr 0)) (hdr 0) (specAdmNop (hdr 0) served) = .accept := by
  decide +kernel

theorem witness_RingCommandRefused_fetch : served.canFetch 0 5 = true ∧ State.reset.canFetch 0 5 = false ∧
    seqNewer 1 (served.ring 0).lastSeq = true ∧ seqNewer 0 (served.ring 0).lastSeq = false ∧ served.heldEntry 0 0 = none := by decide +kernel

theorem witness_RingCommandRefused_checks :
    (specAdmRingSubscribe (hdr 9) 3 0 4 served).plen = 9 ∧
    firstBad ((specAdmRingSubscribe (hdr 9) 3 0 4 served).params ++ served.deviceState (.admRingSubscribe (hdr 9) 3 0 4) 5 0 ++
      (specAdmRingSubscribe (hdr 9) 3 0 4 served).states ++ (specAdmRingSubscribe (hdr 9) 3 0 4 served).late) = some (0x0104, 8) := by
  decide +kernel

/-- Ring 0 holds an entry of SEQ 1, its completion posted or not. -/
def repeated (posted : Bool) : State :=
  (served.modRing 0 fun r => { r with lastSeq := 1 }).modJournal fun j => { j with
    entries := [(1, { ring := 0, seq := 1, state := if posted then 2 else 1, posted := posted })] }

theorem witness_DuplicateAnswered : ∀ p, (repeated p).canFetch 0 0 = true ∧ seqNewer 1 ((repeated p).ring 0).lastSeq = false ∧
    (repeated p).heldEntry 0 1 = some 1 ∧ (((repeated p).entry 1).state = 2 ∧ ((repeated p).entry 1).posted = true ↔ p = true) := by
  decide +kernel

/-- The journal holds one entry, accepted and at its window. -/
def due (b : Work) : State := served.modJournal fun j => { j with entries := [(1, { state := 1, acked := true, body := b })] }

theorem witness_EntriesTakeEffectInOrder : (due .nothing).entryDue 1 = true ∧ (due .nothing).dueEntries = [1] ∧
    (due (.change (.thermal 0 900))).entryDue 1 = true ∧ (due (.change .handover)).entryDue 1 = true ∧ served.entryDue 1 = false := by decide +kernel

theorem witness_EntriesTakeEffectInOrder_order : (due .nothing).own.journal.entries.Pairwise (fun a b => a.1 < b.1) ∧
    ∀ n, (due .nothing).fallowServes n = false := by
  refine ⟨by decide +kernel, fun n => ?_⟩
  have : (due .nothing).serving = some 0 := by decide +kernel
  simp [State.fallowServes, this]

theorem witness_AdminCommands : ready (.admNop (hdr 0)) 0 0 served = true ∧
    (ready (.admRingCreate (hdr 40) 2 { kind := 3 }) 40 0 served = true ∧ descBadAt { kind := 3 } = none ∧
      (served.ring (ringKey 0 2)).state = .disabled) ∧
    (ready (.admRingDelete (hdr 2) 3) 2 0 served = true ∧ served.deletable (ringKey 0 3) = true) ∧
    (ready (.admRingReset (hdr 2) 4) 2 0 served = true ∧ (served.ring (ringKey 0 4)).state = .stopped) ∧
    ready (.admRingQuery (hdr 16) 3 64) 16 0 served = true ∧ ready (.admRingSubscribe (hdr 9) 3 1 3) 9 0 served = true ∧
    ready (.admHealth (hdr 0)) 0 0 served = true ∧ ready (.admEntropy (hdr 1) 24) 1 0 served = true := by decide +kernel

theorem witness_GovernorSettings : (ready (.govSetCap (hdr 8) 0xFE 1) 8 0 served = true ∧
      (served.everySlot 0xFE fun s n => decide (1 ≤ (s.calSlot n).pMax)) = true ∧ (served.capSet.after (.govSetCap (hdr 8) 0xFE 1)).ok = true) ∧
    (ready (.govSetSlope (hdr 12) 7 50 20000) 12 0 served = true ∧ slotOk 7 = true) ∧ ready (.govSetPriority (hdr 2) 0 1) 2 0 served = true ∧
    ready (.govSetGain (hdr 8) 0 250) 8 0 served = true ∧ ready (.govSetModel (hdr 2) 0 1) 2 0 served = true ∧
    ready (.govSetSafeDensity (hdr 2) 0 64) 2 0 served = true ∧
    (ready (.govSetOversub (hdr 8) 2000) 8 0 served = true ∧ (served.capSet.after (.govSetOversub (hdr 8) 2000)).ok = true) ∧
    (ready (.govSetLimits (hdr 8) 0xFF 0 2000) 8 0 served = true ∧ served.limitOk 0 0 2000 = true) ∧
    (ready (.govSetRunahead (hdr 12) 0 1 0 1024) 12 0 served = true ∧ (served.everySlot 0 fun s n => decide (0 ≤ s.scaled n 360)) = true) ∧
    ready (.govSetEscalation (hdr 17) 10 1000 5000 1) 17 0 served = true ∧ ready (.govSetTelemetry (hdr 8) 100) 8 0 served = true := by
  decide +kernel

/-- Slot 0 asks to be drained, and the escalation parked slot 1. -/
def parking : State := (served.modGovSlot 0 0 fun g => { g with quiesce := true }).modEsc fun e => { e with escParked := 2 }

theorem witness_GovernorActions : ready (.govLoadWeights (hdr 24) 0 0 31 0 64 8204 0) 24 1 served = true ∧
    (ready (.govParkAck (hdr 1) 0) 1 0 parking = true ∧ (parking.everySlot 0 fun s n => (s.govSlot s.govBay n).quiesce) = true) ∧
    (ready (.govUnpark (hdr 1) 1) 1 0 parking = true ∧ (parking.everySlot 1 fun s n => s.gov.esc.escParked.testBit n) = true) ∧
    ready (.govSetOp (hdr 8) 0 1 20) 8 0 served = true ∧ ready (.govSetDroop (hdr 16) 0 240 255 1000 60 64) 16 0 served = true ∧
    (ready (.govSetMargin (hdr 8) 0x10 5 0xFFFF) 8 0 served = true ∧ marginItemOk 5 0xFFFF = true ∧ slotOk 0x10 = false) ∧
    (ready (.govTrimReset (hdr 1) 0x11) 1 0 served = true ∧ whoOk 0x11 = true) ∧ ready (.govStatus (hdr 16) 7 64) 16 0 served = true := by
  decide +kernel

theorem witness_CoolingCommands : ready (.coolSetZone (hdr 16) 15 15 0 0 2560 2561) 16 0 served = true ∧
    (ready (.coolSetSensor { hdr 32 with buf := some [1, 0] } 0 0 255 64 64 2) 32 0 served = true ∧ pointExists 0 = true ∧
      (neighbourPoints [1, 0] 2).all pointExists = true) ∧
    (ready (.coolSetDrive (hdr 8) 0 1 1000) 8 0 served = true ∧ isDrive 0 = true) ∧
    (ready (.coolSetValve (hdr 3) 0x20 1) 3 0 served = true ∧ isValve 0x20 = true ∧ served.leaking = false) := by decide +kernel

theorem witness_CoolingCommands_input : (ready (.coolSetInput (hdr 16) 0x14 100 1000000 1) 16 0 served = true ∧ isInput 0x14 = true ∧
      isLeak 0x14 = true) ∧ (ready (.coolSetInput (hdr 16) 0x1C 10000 0 10) 16 0 served = true ∧ isInput 0x1C = true ∧ isLeak 0x1C = false ∧
      isFlow 0x1C = true) ∧ (ready (.coolSetInput (hdr 16) 0x34 1 10000 1) 16 0 served = true ∧ isInput 0x34 = true ∧ isLeak 0x34 = false ∧
      isFlow 0x34 = false) ∧ ready (.coolStatus (hdr 16) 64) 16 0 served = true := by decide +kernel

/-- Branch 0 is latched off, and feed A too. -/
def latched : State := (served.modChan 0x2A fun c => { c with cstate := .latched }).modChan 0x32 fun c => { c with cstate := .latched }

theorem witness_PowerCommands : (ready (.pwrSetTrip (hdr 9) 0x32 600 7) 9 0 served = true ∧ isFeed 0x32 = true ∧ isPower 0x32 = true) ∧
    (ready (.pwrSetTrip (hdr 9) 0x2A 80 0) 9 0 served = true ∧ isFeed 0x2A = false ∧ isPower 0x2A = true) ∧
    (ready (.pwrResetTrip (hdr 2) 0x2A) 2 0 latched = true ∧ (latched.chan 0x2A).cstate = .latched ∧ (latched.chan 0x32).cstate = .latched) ∧
    ready (.pwrBranch (hdr 2) 0 0) 2 0 served = true ∧
    (ready (.pwrBranch (hdr 2) 0 1) 2 0 served = true ∧ served.parked 0 = false ∧ (served.branch 0).cstate = .off ∧ (served.thermal 0).hold = 0) := by
  decide +kernel

theorem witness_PowerCommands_rails : (ready (.pwrSetRail (hdr 16) 3 1 [] 10) 16 0 served = true ∧
      firstBad ((specPwrSetRail (hdr 16) 3 1 [] 10 served).params ++ (specPwrSetRail (hdr 16) 3 1 [] 10 served).states) = none) ∧
    (ready (.pwrRailCtrl (hdr 9) 1 1) 9 0 served = true ∧ served.rail.seq.kind ≠ .inputLoss ∧ served.rail.seq.afterLoss = false) ∧
    ready (.pwrSetWarn (hdr 8) 1 520000) 8 0 served = true ∧ ready (.pwrStatus (hdr 16) 64) 16 0 served = true := by decide +kernel

/-- The host is the grid's source. -/
def hosted : State := served.modGrid fun g => { g with source := .host }

theorem witness_GridCommands : (ready (.gridSetTarget (hdr 32) 1 40000 100 0 0) 32 0 hosted = true ∧ hosted.source.obeys false = true ∧
      hosted.lastTseq false [] = none ∧ hosted.source ≠ .either) ∧
    (ready (.gridPark (hdr 24) 1 100 0 0) 24 0 hosted = true ∧ hosted.grid.state = .following) ∧ ready (.gridUnpark (hdr 16) 1 0) 16 0 hosted = true ∧
    (ready (.gridSetCurve { hdr 24 with buf := some (List.replicate 4 0 ++ [1, 0, 0, 0] ++ [1, 0, 0, 0, 2, 0, 0, 0]) } 2 100 10000 64) 24 0 hosted = true ∧
      curvePoints (List.replicate 4 0 ++ [1, 0, 0, 0] ++ [1, 0, 0, 0, 2, 0, 0, 0]) 2 = [(0, 1), (1, 2)] ∧ dfRises [(0, 1), (1, 2)] = true) ∧
    ready (.gridSetFreq (hdr 16) (-5000) 0) 16 0 hosted = true ∧ ready (.gridSetSource (hdr 8) 3 2000) 8 0 hosted = true ∧
    ready (.gridSetPark (hdr 12) 0 60000000) 12 0 hosted = true ∧ ready (.gridStatus (hdr 16) 64) 16 0 hosted = true ∧
    (ready (.gridSetTarget (hdr 32) 1 0 40000 1 0) 32 0 hosted = true ∧ 1 < hosted.fabNow) := by decide +kernel

/-- A program of class 0 is loaded, and instance 3 is bound to another. -/
def painted : State := ((served.modEaselCfg fun c => { c with programs := [{ progId := 7, rev := 1 }, { progId := 8, rev := 1 }] }).modEaselBay 0 fun e =>
  { e with insts := [(3, { prog := { progId := 8, rev := 1 } })] }).modEntry 9 fun e => { e with state := 1, stepsDue := 1, body := .cmd (.easelLoad (hdr 20) 0 0) }

theorem witness_EaselCommands : (ready (.easelUnbind (hdr 2) 3) 2 0 painted = true ∧ painted.instBound 3 = true) ∧
    (ready (.easelDelete (hdr 8) 7 1) 8 0 painted = true ∧ (painted.program 7 1).isSome = true ∧ painted.programBound 7 1 = false) ∧
    (ready (.easelStatus (hdr 16) 0 64) 16 0 painted = true ∧ isGovSlot 0 = true) ∧
    ready (.easelConfig (hdr 12) 1000000 100000) 12 0 painted = true ∧ ((painted.entry 9).state = 1 ∧ (painted.entry 9).stepsDue = 1) := by
  decide +kernel

theorem witness_EaselCommands_bind : ready (.easelBind (hdr 12) 7 1 0) 12 1 painted = true ∧ painted.program 7 1 = some { progId := 7, rev := 1 } ∧
    (painted.bindInst { progId := 7, rev := 1 } (some 0)).isSome = true ∧ (painted.bindPlace { progId := 7, rev := 1 } (some 0)).isSome = true ∧
    painted.bindFits { progId := 7, rev := 1 } (some 0) = true := by decide +kernel

/-- A container of two strokes, a fence of panel slot 0 and an end, over one tensor of 64 values; its hash and signature are bytes of 0. -/
def easelBytes : List Byte :=
  leBytes 4 0xEA5E1701 ++ leBytes 2 1 ++ leBytes 2 0 ++ leBytes 4 7 ++ leBytes 4 2 ++ leBytes 2 1 ++ leBytes 2 1 ++ leBytes 2 2 ++ leBytes 2 1 ++
  leBytes 4 0 ++ leBytes 4 128 ++ leBytes 4 160 ++ leBytes 4 0 ++ leBytes 4 0 ++ leBytes 212 0 ++
  leBytes 64 (0x08 * 2 ^ 56) ++ leBytes 64 (0x0F * 2 ^ 56) ++ leBytes 32 ((64 * 2 ^ 32 + 1) * 2 ^ 64)

/-- With a hash and a signature that verify (constants of Config, with no value), the other checks pass. -/
theorem witness_EaselCommands_load : ready (.easelLoad { hdr 20 with buf := some easelBytes } 64 416) 20 1 painted = true ∧
    painted.containerRoom 416 = true ∧
    (painted.containerSigned (easelBytes.take 416) = true → painted.loadFault (easelBytes.take 416) false = none) := by
  refine ⟨by decide +kernel, by decide +kernel, fun h => ?_⟩
  unfold State.loadFault
  rw [h]
  decide +kernel

/-- Hand 1024 of bay 0 is loaded, and hand 1025 has no code. -/
def manned : State := served.modHand 0 1024 fun h => { h with state := .loaded }

theorem witness_HandCommands : (ready (.handStart (hdr 32) 1024 []) 32 1 manned = true ∧ userHand 1024 = true ∧
      startable (manned.hand manned.handBay 1024) = true) ∧
    (ready (.handStop (hdr 2) 1024) 2 0 manned = true ∧ (manned.hand manned.handBay 1024).state ≠ .free) ∧
    ready (.handConfig (hdr 12) 1024 1 15 100000 0) 12 0 manned = true ∧ ready (.handStatus (hdr 3) 4095 1) 3 0 manned = true ∧
    (ready (.handLoad (hdr 32) 1025 1 0 64 0 0 0) 32 1 manned = true ∧
      (handRange 1025 1).find? (fun n => !loadable (manned.hand manned.handBay n)) = none) := by decide +kernel

/-- A code container of one instruction and no data; its hash and signature are bytes of 0. -/
def codeBytes : List Byte :=
  leBytes 4 0xBA4EC0DE ++ leBytes 4 1 ++ leBytes 4 7 ++ leBytes 4 2 ++ leBytes 4 0 ++ leBytes 4 4 ++ leBytes 232 0 ++ leBytes 4 0

/-- With a hash and a signature that verify (constants of Config, with no value), the other checks pass. -/
theorem witness_HandCommands_load : ready (.handLoad { hdr 32 with buf := some codeBytes } 1025 1 0 64 260 0 0) 32 1 manned = true ∧
    (codeHeader (codeBytes.take 260)).dataMin ≤ 0 ∧ manned.containerRoom 260 = true ∧
    (manned.freeRun (loadPages (codeHeader (codeBytes.take 260)).codeLen 1 0)).isSome = true ∧
    (manned.containerSigned (codeBytes.take 260) = true → manned.codeFault (codeBytes.take 260) false = none) := by
  refine ⟨by decide +kernel, by decide +kernel, by decide +kernel, by decide +kernel, fun h => ?_⟩
  unfold State.codeFault
  rw [h]
  decide +kernel

/-- A soft row repair of bank 0 stands, and entry 9 is a keeper step of its fuse repair. -/
def mended : State := (served.modGran fun g => { g with repairs := [{ bay := 0, bank := 0, pos := 5 }] }).modEntry 9 fun e =>
  { e with state := 1, stepsDue := 1, body := .cmd (.repairApply (hdr 8) 0 0 3 5) }

/-- The tray is root and proxy of its own tree. -/
def rooted : State := served.modFabric fun f => { f with state := .member, roles := 9 }

theorem witness_GranaryAndFabricCommands : (ready (.bistRun (hdr 2) 0 0) 2 0 mended = true ∧ bankExists 0 = true ∧ mended.testFree 0 0 = true ∧
      mended.noTest 0 = true) ∧ ready (.bistResult (hdr 16) 0 0 64) 16 0 mended = true ∧
    (ready (.repairApply (hdr 8) 0 0 1 6143) 8 0 mended = true ∧ mended.repairsOf 0 0 false < 16 ∧ mended.repairsOf 0 0 true < 8) ∧
    (ready (.repairApply (hdr 8) 0 0 3 5) 8 0 mended = true ∧ mended.gran.repairs.any (softRepair 0 0 5) = true ∧ 0 < mended.fuseLeft 0) ∧
    (ready (.granStatus (hdr 16) 1 0 1 64) 16 0 mended = true ∧ 0 < pageCount) ∧ ready (.granConfig (hdr 13) 0xFF 2000000 65535 1) 13 0 mended = true := by
  decide +kernel

theorem witness_GranaryAndFabricCommands_fabric : (ready (.fabGlobal { hdr 32 with buf := some (leBytes 64 (0x1180 * 2 ^ 48)) } 0x11 0 64 64) 32 0 rooted = true ∧
      rooted.fab.fab.roles.testBit 0 = true ∧ rooted.isMember = true ∧ descOf (leBytes 64 (0x1180 * 2 ^ 48)) = { op := 0x11 } ∧
      scopeOk { op := 0x11 } = true ∧ rooted.gridFieldsOk { op := 0x11 } = true) ∧
    ready (.fabStatus (hdr 16) 64) 16 0 rooted = true ∧
    (ready (.fabConfig (hdr 16) 1 3) 16 0 rooted = true ∧ fabItemOk 1 3 = true ∧
      4 * (rooted.fab.param.set 1 3).beaconPeriod ≤ (rooted.fab.param.set 1 3).deadTimeout ∧
      2 * (rooted.fab.param.set 1 3).deadTimeout ≤ (rooted.fab.param.set 1 3).rootTimeout) := by decide +kernel

/-- Slot 1 takes a field image of one page; a keeper step of a block is due under JSEQ 9. -/
def sketching : State := ((served.modUpd fun u => { u with slots := [(1, { state := 1, len := 4096 })] }).openSession 0 1 4096 0).modEntry 9 fun e =>
  { e with state := 1, stepsDue := 1, body := .cmd (.updBlock (hdr 20) 0 4096 64 0) }

theorem witness_UpdateCommands : (ready (.updBegin (hdr 8) 0 4096) 8 0 served = true ∧ served.updating 0 = false ∧ served.fab.fab.offerTaken = none ∧
      (served.freeSlot 0).isSome = true ∧ 4096 ≤ slotSize 0) ∧ ready (.updLock (hdr 1) 1) 1 0 served = true ∧ ready (.updStatus (hdr 0)) 0 0 served = true ∧
    (ready (.updAbort (hdr 1) 0) 1 0 sketching = true ∧ (sketching.abortable 0).isSome = true) ∧ sketching.sessionSlot 0 = some 1 := by decide +kernel

theorem witness_UpdateCommands_block : ready (.updBlock { hdr 20 with buf := some (List.replicate 4096 0) } 0 4096 64
      (crc32c ((List.replicate 4096 0).take 4096))) 20 0 sketching = true ∧ 0 + 4096 ≤ (sketching.slot 1).len ∧
    ((sketching.entry 9).state = 1 ∧ (sketching.entry 9).stepsDue = 1 ∧
      (sketching.modEntry 9 fun e => { e with stepsDue := 0, stepStarted := 1 }).sessionSlot 0 = some 1) := by decide +kernel

/-- Slot 3 holds a firmware image, received whole and then to be confirmed. -/
def inked (state : Nat) : State := (served.modUpd fun u => { u with slots := [(3, { state := state, len := 4096, pages := [0] })] }).openSession 1 3 4096 0

theorem witness_UpdateCommands_commit : (ready (.updCommit (hdr 48) 0) 48 0 ((inked 1).modSlot 3 fun x => { x with pages := [0] }) = true ∧
      ((inked 1).modSlot 3 fun x => { x with pages := [0] }).sessionSlot 0 = some 3 ∧
      (((inked 1).modSlot 3 fun x => { x with pages := [0] }).slot 3).complete = true ∧ kindOf 3 ≠ 0) ∧
    (ready (.updConfirm (hdr 1) 1) 1 0 ((inked 1).modSlot 3 fun x => { x with state := 3 }) = true ∧
      (((inked 1).modSlot 3 fun x => { x with state := 3 }).confirmable 1).isSome = true) := by decide +kernel

/-- Bay 1 stands by. -/
def paired : State := served.modBay 1 fun b => { b with bstate := .standby }

theorem witness_BayLogPortCommands : ready (.logRead (hdr 24) 1 16384 64) 24 0 served = true ∧ ready (.logStatus (hdr 0)) 0 0 served = true ∧
    ready (.twXfer (hdr 17) 0 0x50 0 1 0 0 0 [1]) 17 0 served = true ∧
    (ready (.twConfig (hdr 5) 23 1 0 0 0) 5 0 served = true ∧ targetOk 0 = true ∧ 0 ≤ maxFilter 0) ∧
    ready (.calRead (hdr 16) 0 64 64) 16 0 served = true ∧ ready (.bayStatus (hdr 0)) 0 0 served = true ∧
    (ready (.bayHandover (hdr 8) 10) 8 0 paired = true ∧ paired.serving = some 0 ∧ (paired.bay (peer 0)).bstate = .standby) ∧
    (ready (.bayRestart (hdr 1) 1) 1 0 paired = true ∧ paired.serving ≠ some 1) ∧
    (ready (.bayConfig (hdr 8) 0 250) 8 0 served = true ∧ bayItemOk 0 250 = true) := by decide +kernel

theorem witness_BayLogPortCommands_cal : ready (.calWrite { hdr 16 with opt := 1 } 0x40 64 64) 16 1 served = true ∧
    served.calKeepsOrder 0x40 64 { hdr 16 with opt := 1 } = true := by decide +kernel

/-- An admin NOP with SEQ 1 waits on ring 0; entry 1 has finished, and entry 2 waits for a keeper step. -/
def busy : State := ((served.modRings fun r => { r with rings := [(0, { desc := { kind := 0, peer := 1 }, state := .active, hostIdx := 1 }),
    (1, { desc := { kind := 1, irqEn := true }, state := .active, unsignalled := 1 })] }).modEntry 1 fun e => { e with state := 2 }).modEntry 2 fun e =>
  { e with state := 1, stepsDue := 1 }

/-- The entry of an admin NOP (R272, R283): OPCODE 0x0000 in bits 15-0 and SEQ in bits 63-32 of word 0. -/
def nop : RawEntry := { words := [0x0000000100000000, 0, 0, 0, 0, 0, 0, 0] }

theorem witness_CompletionsAndFetches : (busy.mayFetch 0 = true ∧ busy.canFetch 0 0x0D01 = true ∧ decodeCommand 0 nop = some (.admNop { seq := 1 })) ∧
    ((busy.entry 1).kind = 0 ∧ (busy.entry 1).state = 2 ∧ (busy.entry 1).posted = false ∧ (busy.entry 1).bufOut = [] ∧ busy.ringRoom 1 = true ∧
      (busy.ring 0).state = .active ∧ (busy.ring 0).desc.peer = 1) ∧
    ((busy.entry 2).state = 1 ∧ (busy.entry 2).stepsDue = 1) ∧
    ((busy.ring 1).desc.irqEn = true ∧ (busy.ring 1).desc.kind = 1 ∧ (busy.ring 1).unsignalled = 1 ∧ (busy.ring 1).firstUnsig + 0 * 1000 ≤ busy.now) := by
  decide +kernel

theorem witness_DoorbellsAndEndpoints : (served.hostReaches 0 = true ∧ (served.bay 0).bstate = .owner ∧ served.sys.dormant = false ∧ served.serving = some 0 ∧
      (served.ring 0).state = .active ∧ (served.ring 0).desc.kind = 0 ∧ 0 < ((64#64).setWidth 32 - (served.ring 0).hostIdx).toNat ∧
      ((64#64).setWidth 32 - (served.ring 0).ctrlIdx).toNat ≤ (served.ring 0).size) ∧
    ((served.modBay 1 fun b => { b with bstate := .standby }).hostReaches 1 = true ∧ served.serving ≠ some 1) ∧
    (0x0F02 ∈ eventCodes ∧ served.runs 0 = true) ∧ (served.host.admin.busy = false ∧ served.host.admin.enable = false ∧ served.journalFree = true) ∧
    ((served.endpoint 0).linkUp = true ∧ served.carrier.isSome = true) ∧
    ((served.modSys fun p => { p with dormant := true }).hostReaches 0 = true) := by decide +kernel

/-- Bay 0 has been released, its page 0 of the Porch is the host's, and its debug port is open or locked. -/
def porch (dbg : Nat) : State := ((served.modBay 0 fun b => { b with releasedAt := some 0 }).modGranary 0 fun g => { g with
  pageMap := [(pageOf 0x02000000, 0x90000000)] }).modMeasure 0 fun m => { m with dbg := dbg, haltedHands := [(1024, none)], qreqSeen := 1 }

theorem witness_WindowAndTrust : ((porch 2).hostReaches 0 = true ∧ ((porch 2).bay 0).releasedAt.isSome = true ∧
      pageOwner (((porch 2).granary 0).pageEntry 0x02000000) = 9 ∧ ((porch 2).granary 0).poisoned 0x02000000 = false) ∧
    ((porch 1).measure 0).dbg = 1 ∧ (porch 1).boot.entropy.ready = true ∧ ((porch 1).measure 0).pollTime = none ∧ (porch 1).boot.fuse.erased = false ∧ (porch 1).qreq 0 ≠ ((porch 1).measure 0).qreqSeen ∧ State.reset.boot.entropy.ready = false ∧
    ((porch 2).measure 0).dbg = 2 ∧ (((porch 2).measure 0).haltedHands.any fun e => e.1 = 1024) = true ∧
    (served.boot.entropy.ready = true ∧ served.boot.entropy.reseedTime + 1000000000 ≤ served.now) := by decide +kernel

theorem witness_WindowAndTrust_entropy : ((State.reset.modSys fun p => { p with suppliesValid := true }).sys.suppliesValid = true ∧
      (State.reset.modSys fun p => { p with suppliesValid := true }).boot.entropy.ready = false ∧
      ((State.reset.modSys fun p => { p with suppliesValid := true }).measure 0).challengeDue = false ∧
      ((State.reset.modSys fun p => { p with suppliesValid := true }).measure 1).challengeDue = false) := by decide +kernel

/-- Hand 1 of bay 0 stands READY with some registers, its data region and its checkpoint area in the Granary. -/
def ploughing : State := served.modHand 0 1 fun h => { h with
  state := .ready, regs := [(1, 0x1000), (2, 5), (3, 0)], pc := 0x100, dataBase := 0x1000, dataLen := 4096, ckptPtr := 0x3000, ckptWd := 1000
  slots := [(0, { source := 7, pending := true })] }

theorem witness_BarnRegisterArithmetic : ploughing.issues 0 1 = true := by decide +kernel

theorem witness_BarnImmediateArithmetic : ploughing.issues 0 1 = true := by decide +kernel

/-- The same hand with its data word at 0x1000 poisoned, and hand 2 waiting for an access. -/
def blighted : State := (ploughing.modGranary 0 fun g => { g with poison := [0x1000] }).modHand 0 2 fun h => { h with state := .wait, wait := some .access }

theorem witness_BarnLoadsAndStores : (ploughing.hand 0 1).accessOk 1 (ploughing.addressOf 0 1 1 (0 : BitVec 18)) 8 = true ∧
    (ploughing.granary 0).poisoned 0x1000 = false ∧ (ploughing.hand 0 1).accessOk 1 (ploughing.addressOf 0 1 1 (2 : BitVec 18)) 4 = false ∧
    (ploughing.hand 0 1).storeOk 1 (ploughing.addressOf 0 1 1 (0 : BitVec 18)) 8 = true ∧
    (ploughing.hand 0 1).storeOk 1 (ploughing.addressOf 0 1 1 (2 : BitVec 18)) 4 = false ∧
    (ploughing.hand 0 1).atomicOk 1 (ploughing.addressOf 0 1 1 (0 : BitVec 14)) 8 = true ∧
    (ploughing.hand 0 1).atomicOk 1 (ploughing.addressOf 0 1 1 (2 : BitVec 14)) 4 = false := by decide +kernel

theorem witness_BarnLoadsAndStores_poison : blighted.issues 0 1 = true ∧ (blighted.hand 0 1).accessOk 1 (blighted.addressOf 0 1 1 (0 : BitVec 18)) 4 = true ∧
    (blighted.hand 0 1).storeOk 1 (blighted.addressOf 0 1 1 (0 : BitVec 18)) 2 = true ∧ (blighted.granary 0).poisoned 0x1000 = true ∧
    wordOf 0x1000 ∉ (blighted.granary 0).waitRestore ∧ (blighted.hand 0 2).state = .wait ∧ (blighted.hand 0 2).wait = some .access := by decide +kernel

/-- The tray with its standby bay 1. -/
def mirrored : State := (ploughing.modBay 1 fun b => { b with bstate := .standby }).modJournal fun j => { j with single := false, breezeUp := true }

/-- Hand 1 restarted as often as it may. -/
def spent : State := ploughing.modHand 0 1 fun h => { h with restartMax := 0 }

theorem witness_BarnControl : ploughing.issues 0 1 = true ∧ (ploughing.hand 0 1).pendingMask ((1#18).setWidth 8) ≠ 0 ∧
    (ploughing.hand 0 1).pendingMask ((2#18).setWidth 8) = 0 ∧ 1000 ≤ ((ploughing.hand 0 1).reg 1).toNat ∧ ((ploughing.hand 0 1).reg 3).toNat = 0 ∧
    ploughing.takesMirror 0 = false ∧ mirrored.issues 0 1 = true ∧ mirrored.takesMirror 0 = true ∧ mirrored.isOwner 0 = true ∧
    decodeBarn 0 1 0xFFFFFFFF#32 = none ∧ ((ploughing.hand 0 1).recentRestarts ploughing.devNow).length < (ploughing.hand 0 1).restartMax ∧
    spent.issues 0 1 = true ∧ (spent.hand 0 1).restartMax ≤ ((spent.hand 0 1).recentRestarts spent.devNow).length := by decide +kernel

/-- Hands of bay 0 that wait for a line, an acknowledgement, the end of a YIELD and a reply. -/
def waiting : State := (((ploughing.modHand 0 2 fun h => { h with state := .wait, wait := some (.icache 5) }).modHand 0 3 fun h =>
  { h with state := .wait, wait := some (.mirror 0) }).modHand 0 4 fun h => { h with state := .wait, wait := some (.yielded 0) }).modHand 0 5 fun h =>
  { h with state := .wait, wait := some (.reply 1 64 0), timerMode := 1, timerVal := 1000, ckptWd := 1, dataBase := 0x8000, dataLen := 256 }

theorem witness_BarnEventsAndMail : (waiting.hand 0 2).state = .wait ∧ (waiting.hand 0 2).wait = some (.icache 5) ∧
    (waiting.hand 0 3).wait = some (.mirror 0) ∧ (waiting.hand 0 4).wait = some (.yielded 0) ∧ 2000 ≤ waiting.now ∧
    (waiting.hand 0 5).wait = some (.reply 1 64 0) ∧ waiting.sys.dormant = false ∧ 1000000 ≤ waiting.now ∧
    ((waiting.hand 0 5).timerDeadline ≤ waiting.devNow ∧ (waiting.hand 0 5).timerMode = 1) ∧
    (0 < (waiting.hand 0 5).ckptWd ∧ (waiting.hand 0 5).lastCkpt + (waiting.hand 0 5).ckptWd * 1000 ≤ waiting.devNow) ∧
    ((waiting.hand 0 5).hasMailbox = true ∧ waiting.freeMailSlot 0 5 = some 0) := by decide +kernel

theorem witness_BarnEventsAndMail_send : ploughing.issues 0 1 = true ∧
    ((List.range 8).map fun i => ((ploughing.hand 0 1).reg 1).toNat + 8 * i).all (fun w => (ploughing.hand 0 1).storeOk 1 w 8) = true ∧
    ((List.range 8).map fun i => ((ploughing.hand 0 1).reg 2).toNat + 8 * i).all (fun w => (ploughing.hand 0 1).accessOk 1 w 8) = false ∧
    (∀ w ∈ (List.range 8).map fun i => ((ploughing.hand 0 1).reg 1).toNat + 8 * i, (ploughing.granary 0).poisoned w = false) := by decide +kernel

/-- The standby's guard runs on a silent owner, a claim is admitted, a restart has run out, and a record is due. -/
def contested : State := ((mirrored.modBay 0 fun b => { b with hbTime := some 0, wdArmed := true, restartAt := some 0 }).modBay 1 fun b =>
  { b with guardStart := some 0 }).modOwnParam fun p => { p with wdTimeout := 1000, recordPeriod := 1000 }

theorem witness_HeartbeatsAndClaims : ((served.modGov fun g => { g with windowDone := [(0, served.dwn)] }).beats 0 = true ∧ served.sys.wakeTime = none) ∧
    ((contested.bay 0).hbTime = some 0 ∧ (contested.bay 0).wdArmed = true ∧ (contested.bay 0).hbFrozen = none ∧
      0 + contested.own.param.wdTimeout * 1000 ≤ contested.now ∧ (contested.bay 0).wakeWd = false) ∧
    (mirrored.owner = some 0 ∧ mirrored.sys.dormant = false ∧ mirrored.silent 0 = true ∧ (mirrored.bay 1).bstate = .standby ∧ (mirrored.bay 1).guardStart = none) ∧
    ((contested.bay 1).guardStart = some 0 ∧ 0 + contested.own.param.claimGuard * 1000 ≤ contested.now ∧ contested.owner = some (peer 1) ∧
      contested.silent 0 = true ∧ contested.canClaim 1 = true) ∧
    (contested.claimAdmitted 1 2 = true ∧ contested.claimAdmitted 1 1 = false) ∧ (contested.serving = some 0 ∧ contested.own.latch.hold = false) ∧
    ((contested.bay 0).restartAt = some 0 ∧ 1000000000 ≤ contested.now) ∧ (contested.bay 1).runsSlot = none ∧
    (contested.serving.isSome = true ∧ contested.own.recordTime + contested.own.param.recordPeriod * 1000 ≤ contested.now) := by decide +kernel

/-- Bay 0 serves in step with its standby: a frame of both, an entry to acknowledge, one to retire and a handover. -/
def pairedShadow : State := (((mirrored.modGovSlot 0 0 fun g => { g with frameOk := true }).modGovSlot 1 0 fun g => { g with frameOk := true }).modOwnParam fun p =>
  { p with shadowMismatch := 1, retainMin := 1000, handoverWait := 1000 }).modJournal fun j => { j with
    entries := [(5, { state := 1 }), (6, { state := 2, kind := 2, doneTime := some 0 })], nextJseq := 7 }

theorem witness_JournalAndMirror : (pairedShadow.own.journal.breezeUp = true ∧ (pairedShadow.bay 1).alive = true ∧ (pairedShadow.bay 1).bstate ≠ .down ∧
      mapped 0x1000 8 = true ∧ pairedShadow.own.latch.epoch.toNat = 1) ∧
    (pairedShadow.serving = some 0 ∧ pairedShadow.standby = some 1 ∧ (pairedShadow.govSlot 1 0).frameOk = true ∧ (pairedShadow.govSlot 0 0).frameOk = true ∧
      (pairedShadow.govSlot 1 0).k = (pairedShadow.govSlot 0 0).k ∧ (pairedShadow.govSlot 1 0).frameCrc = 0 ∧ (pairedShadow.bay 1).shadowMiss = []) ∧
    (pairedShadow.own.journal.handover = .none ∧ pairedShadow.journalFree = true) ∧
    ((pairedShadow.entry 5).state = 1 ∧ (pairedShadow.entry 5).acked = false ∧ pairedShadow.own.journal.single = false ∧ (pairedShadow.entry 5).written + 10000 ≤ pairedShadow.now) ∧
    ((pairedShadow.entry 6).doneTime = some 0 ∧ (pairedShadow.entry 6).state = 2 ∧ (pairedShadow.entry 6).owed = 0 ∧ (pairedShadow.entry 6).kind ≠ 0 ∧
      pairedShadow.own.param.retainMin * 1000 ≤ pairedShadow.now) ∧
    (let t := pairedShadow.modJournal fun j => { j with handover := .journalled }; t.serving = some 0 ∧ t.own.journal.handoverAt ≤ t.dwn ∧ t.own.latch.hold = false) ∧
    pairedShadow.own.journal.handoverStart + pairedShadow.own.param.handoverWait * 1000 ≤ pairedShadow.now ∧
    (let t := (pairedShadow.modBay 1 fun b => { b with bstate := .joining }).modJournal fun j => { j with single := true }; t.serving = some (peer 1) ∧ (t.bay 1).alive = true ∧ t.journalFree = true ∧ t.own.journal.breezeUp = true) := by decide +kernel

/-- Cooling at work: the Scarecrow live, points with neighbours, zones in use, a hold that may go, drives in each state, inputs of each kind. -/
def cooled : State :=
  (((((((served.modCool fun c => { c with scarecrow := true, stepWindow := 9 }).modZone 0 fun z => { z with slots := 1, okSince := some 0 }).modThermal 0 fun t =>
    { t with hold := 1 }).modDrive 0 fun d => { d with monitor := some (0, 0x40), dstate := .off, demand := 500 }).modDrive 1 fun d => { d with dstate := .kick }).modDrive 2 fun d =>
    { d with dstate := .stalled }).modDrive 3 fun d => { d with dstate := .running, drive := 500 }).modSys fun p => { p with devTime := 100000000000 }

theorem witness_SensorsAndZones : (cooled.cool.scarecrow = true ∧ cooled.cool.diodeTime = none) ∧
    (cooled.runs 0 = true ∧ cooled.sys.dormant = false ∧ tget cooled.cool.checkTick 0 0 ≠ cooled.tick) ∧
    (cooled.serving = some 0 ∧ cooled.cool.demandTick ≠ cooled.tick) ∧ (cooled.dwn % 5000 = 0 ∧ cooled.cool.stepWindow ≠ cooled.dwn + 1) ∧
    ((cooled.thermal 0).hold ≠ 0 ∧ (∀ z, z < 16 → (cooled.zone z).slots.testBit 0 = true →
      (cooled.zone z).okSince = some 0 ∧ 10000000000 ≤ cooled.now)) ∧
    ((cooled.drive 0).monitor.isSome = true ∧ (cooled.drive 0).readTime = none ∧ (cooled.drive 0).dstate ≠ .tachLost ∧
      (pmbusValue 0 false).isSome = true) ∧ cooled.cool.recordTime = none := by decide +kernel

theorem witness_FansPumpsAndInputs : ((cooled.drive 0).dstate = .off ∧ 0 < cooled.setDrive 0) ∧
    ((cooled.drive 1).dstate = .kick ∧ (cooled.drive 1).kickStart + 2000000000 ≤ cooled.now) ∧
    ((cooled.drive 2).dstate = .stalled ∧ (cooled.drive 2).stallTime + 60000000000 ≤ cooled.now) ∧
    ((cooled.drive 3).dstate = .running ∧ 200 ≤ (cooled.drive 3).drive ∧ (cooled.drive 3).lastEdge + 500000000 ≤ cooled.now ∧
      (cooled.drive 3).monitor = none) ∧ ((cooled.modDrive 4 fun d => { d with dstate := .tachLost }).drive 4).dstate = .tachLost ∧
    (3 ≠ (cooled.drive 16).ppr ∧ (cooled.drive 16).idxEventTime = none) ∧ (cooled.input 0x1C).gateTime = none ∧
    ((cooled.input 0x14).active = false ∧ (cooled.input 0x14).masked = false ∧ (cooled.input 0x14).chattering = false) ∧
    (isInput 0x34 = true ∧ isFlow 0x34 = false ∧ isLeak 0x34 = false ∧ (cooled.input 0x34).chattering = false) ∧ (cooled.valve 1).released = false := by
  decide +kernel

theorem witness_FansPumpsAndInputs_inputs : (let t := cooled.modInput 0x34 fun x => { x with active := true }; (t.input 0x34).active = true ∧
      (t.input 0x34).masked = false ∧ (t.input 0x34).activeSince + (t.input 0x34).stuck * 1000 ≤ t.now) ∧
    (let t := cooled.modInput 0x34 fun x => { x with masked := true, chattering := true }; (t.input 0x34).active = false ∧ (t.input 0x34).masked = true ∧
      (t.input 0x34).inactiveSince + 1000000000 ≤ t.now ∧ (t.input 0x34).chattering = true ∧ (t.input 0x34).calmSince + 10000000000 ≤ t.now) := by
  decide +kernel

/-- An instance in each of its moments, and a panel that may return. -/
def paintedGap : State := served.modEaselBay 0 fun e => { e with
  kacReturn := 1, insts := [(1, { prog := {}, running := true, gapWait := true, reloading := true, panels := [0] })] }

/-- An instance that draws and has no seeds yet. -/
def unsown : Inst := { panels := [0], seeded := false, prog := { strokes := [{ words := [0x0080000000000000#64] }] } }

theorem witness_EaselRows : (tfind (paintedGap.easelBay 0).insts 1 = some { prog := {}, running := true, gapWait := true, reloading := true, panels := [0] } ∧
      (paintedGap.bay 0).alive = true ∧ (paintedGap.easelBay 0).panelsOut.getLsbD 0 = false ∧ (paintedGap.easelBay 0).kacReturn.getLsbD 0 = true) ∧
    (paintedGap.instDue 0 { panels := [0] } = true ∧ paintedGap.instDue 0 {} = true ∧ paintedGap.instDue 0 unsown = true ∧ unsown.prog.stochastic = true ∧ unsown.seeded = false ∧ unsown.panels ≠ []) ∧
    (paintedGap.serving = some 0 ∧ paintedGap.boot.entropy.ready = true ∧ paintedGap.journalFree = true ∧
      paintedGap.easel.cfg.lastReseed + paintedGap.easel.cfg.reseedPeriod * 1000 ≤ (paintedGap.modSys fun p => { p with devTime := 100000000000 }).now) ∧
    (paintedGap.modSys fun p => { p with devTime := 4000000000 }).recordDue = true := by decide +kernel

/-- Bay 1 stands by with a page both bays hold; bay 0 has words and tests in each of their moments. -/
def gleaned : State := (((served.modGranary 0 fun g => { g with gleanPeriod := 1000, writeBack := [8], waitRestore := [16], pageMap := [(0, 0x70000000)] }).modBist 0 0 fun b =>
  { b with phase := .copy }).modBist 0 1 fun b => { b with phase := .march }).modBist 0 2 fun b => { b with phase := .restore }

theorem witness_GranaryRows : ((gleaned.bay 0).bstate ≠ .down ∧ gleaned.sys.dormant = false ∧ (gleaned.granary 0).gleanStarved = false ∧
      (gleaned.granary 0).gleanStart + 2 * (gleaned.granary 0).gleanPeriod * 1000 ≤ gleaned.now) ∧ wordOf 8 ∈ (gleaned.granary 0).writeBack ∧
    wordOf 16 ∈ (gleaned.granary 0).waitRestore ∧ (gleaned.bist 0 0).phase = .copy ∧ (gleaned.bist 0 0).repair = none ∧ (gleaned.bist 0 1).phase = .march ∧
    (gleaned.bist 0 2).phase = .restore ∧ pageOwner (tget (gleaned.granary 0).pageMap 0 0) = 7 := by decide +kernel

/-- Feed A stands READY and Feed B carries the tray, which is seated and had a warning. -/
def fed : State := ((served.modSys fun p => { p with trimValid := true, devTime := 100000000000 }).modChan 0x32 fun c =>
  { c with cstate := .ready, readySince := some 0, okSince := some 0, aboveSince := some 0 }).modChan 0x33 fun c =>
  { c with cstate := .on, gate := true, okSince := some 0 }

theorem witness_FeedRows : (fed.sys.trimValid = true ∧ fed.loftLost = false ∧ fed.own.latch.hold = false) ∧
    ((List.range 10).all fun n => !(served.chan (0x2A + n)).gate) = true ∧
    (let t := fed.modFeed fun f => { f with madeTime := some 0 }; t.pwr.feed.madeTime = some 0 ∧ t.pwr.feed.seated = false ∧ 100000000 ≤ t.now) ∧
    ((fed.chan 0x32).aboveSince = some 0 ∧ (fed.chan 0x32).valid = false ∧ 10000000 ≤ fed.now) ∧ fed.pwr.feed.switchTo = none ∧
    (let t := (fed.modFeed fun f => { f with switchTo := some 0x32 }).modChan 0x33 fun c => { c with gate := false }
    t.pwr.feed.switchTo = some 0x32 ∧ t.pwr.feed.gateFault = false ∧ (t.chan 0x32).cstate = .ready ∧ t.feedFree 0x32 = true) ∧
    (let t := fed.modFeed fun f => { f with inUse := some 0x33, warnPin := true }
    t.pwr.feed.inUse = some 0x33 ∧ (t.chan 0x33).okSince = some 0 ∧ t.pwr.feed.warnPin = true ∧ (t.chan 0x33).gate = true ∧ (t.chan 0x33).rampStart + 50000 ≤ t.now) ∧
    (let t := fed.modFeed fun f => { f with inUse := some 0x33, warnPin := false }
    (t.chan 0x32).readySince = some 0 ∧ (t.chan 0x33).cstate = .on ∧ (t.chan 0x32).cstate = .ready ∧ t.pwr.feed.warnPin = false ∧ 10000000000 ≤ t.now ∧
      t.pwr.feed.switchTo = none) ∧ ((fed.chan 0x32).gate = false ∧ (fed.chan 0x32).cstate ≠ .gateFault) := by decide +kernel

/-- Branch 0 in inrush, branch 1 tripped, branch 2 ON and branch 3 being opened; Feed B in inrush. -/
def wired : State := ((((served.modSys fun p => { p with devTime := 100000000000 }).modChan 0x2A fun c => { c with cstate := .inrush, gate := true }).modChan 0x2B fun c =>
  { c with cstate := .tripped, retryDue := some 0 }).modChan 0x2C fun c => { c with cstate := .on, openDue := true }).modChan 0x33 fun c =>
  { c with cstate := .inrush }

theorem witness_BranchRows : (isPower 0x2A = true ∧ isFeed 0x2A = false ∧ (wired.chan 0x2A).cstate = .inrush ∧ (wired.chan 0x2A).openDue = false ∧
      (wired.chan 0x2A).rampStart + 100000 ≤ wired.now ∧ (wired.chan 0x2A).gate = true ∧ (wired.chan 0x2A).limited = false ∧ (wired.chan 0x2A).closeJseq = [] ∧
      (wired.chan 0x2A).rampStart + (wired.chan 0x2A).inrushTimeout * 1000000 ≤ wired.now ∧ wired.own.latch.hold = false) ∧
    (isPower 0x33 = true ∧ isFeed 0x33 = true ∧ (wired.chan 0x33).cstate = .inrush ∧ (wired.chan 0x33).openDue = false ∧ (wired.chan 0x33).rampStart = 0) ∧
    ((wired.chan 0x2B).retryDue = some 0 ∧ (wired.chan 0x2B).cstate = .tripped) ∧
    ((wired.chan 0x2C).cstate = .on ∧ (wired.chan 0x2C).onSince + 60000000000 ≤ wired.now ∧ (wired.branch 2).openDue = true ∧
      (wired.branch 2).pgLowTime + 20000 ≤ wired.now ∧ wired.own.latch.hold = false) ∧ wired.serving.isSome = true := by decide +kernel

/-- Rails in each of their states, and an input loss under way. -/
def railed : State := (((((served.modSys fun p => { p with devTime := 100000000000 }).modRail_ 0 fun r => { r with rstate := .rising, en := true }).modRail_ 1 fun r =>
  { r with rstate := .up, pg := true, en := true }).modRail_ 2 fun r => { r with rstate := .falling, pg := true }).modSeq fun q =>
  { q with kind := .inputLoss, shutStart := some 0 }).modFeed fun f => { f with seated := true }

theorem witness_RailRows : ((railed.rail_ 0).pg = false ∧ (railed.rail_ 0).rstate = .rising ∧
      (railed.rail_ 0).riseStart + (railed.rail_ 0).riseTimeout * 1000 ≤ railed.now ∧ (railed.rail_ 0).released = false ∧ railed.own.latch.hold = false) ∧
    ((railed.rail_ 1).pg = true ∧ (railed.rail_ 1).rstate = .up ∧ (railed.rail_ 2).pg = true ∧ (railed.rail_ 2).rstate ≠ .up) ∧
    (railed.anyRail (BitVec.allOnes 64) .falling = true ∧ railed.rail.seq.levelTime + 100000 ≤ railed.now) ∧
    (railed.rail.seq.kind = .inputLoss ∧ railed.rail.seq.shutStart = some 0 ∧ railed.rail.seq.firstDone = false ∧ 250000 ≤ railed.now) ∧
    (let t := railed.modChan 0x32 fun c => { c with okSince := some 0 }; t.pwr.feed.seated = true ∧ (t.chan 0x32).okSince = some 0 ∧
      t.rail.seq.upSet = 0 ∧ t.rail.seq.downSet = 0 ∧ t.anyRail t.rail.seq.seqSet .rising = false) ∧
    railed.serving.isSome = true := by decide +kernel

/-- The tray parked with its bays asleep, or ready to sleep. -/
def sleepy : State := (served.modGrid fun g => { g with state := .parked }).modBay 0 fun b => { b with hbFrozen := some 5 }

theorem witness_PowerUpRows : (State.reset.sys.suppliesValid = false ∧ State.reset.sys.keeperStopped = false ∧ State.reset.own.latch.hold = false) ∧
    (let s := State.reset.modSys fun p => { p with suppliesValid := true, trimLoads := 7 }
    s.sys.trimValid = false ∧ s.sys.trimPass < 2 ∧ s.sys.trimLoads = 7 ∧ s.sys.counting = false) ∧
    (let s := State.reset.modSys fun p => { p with suppliesValid := true, trimPass := 2, trimLoads := 6 }
    2 ≤ s.sys.trimPass ∧ s.sys.trimValid = false ∧ s.sys.trimLoads < 7) ∧
    (let s := State.reset.modSys fun p => { p with trimValid := true, counting := true }
    s.cool.scarecrow = false ∧ s.loft.die.loaded = false ∧ s.own.latch.hold = false ∧ s.sys.collapsed = false ∧ (s.bay 0).runsSlot = none) ∧
    (let s := (State.reset.modSys fun p => { p with collapsed := true }).modAlm fun a => { a with queue := [{}] }
    s.sys.keeperStopped = false ∧ s.alm.queue ≠ []) ∧
    (let s := (sleepy.modFabric fun f => { f with alive := false }).modSys fun p => { p with internalOsc := false }
    s.sys.photHb + 10000000 ≤ s.now ∧ s.sys.internalOsc = false) ∧
    (sleepy.grid.state = .parked ∧ sleepy.grid.delayEnd ≤ sleepy.now ∧ sleepy.sys.dormant = false ∧ sleepy.sys.wakeTime = none ∧
      (sleepy.bay 0).hbFrozen.isSome = true ∧ 1000000 ≤ sleepy.now) := by decide +kernel

/-- A window in a state of its own, with a copy under way. -/
def windowed (p : Push) : State := ((served.modSys fun y => { y with trimValid := true, fallowN := true }).modDie fun d => { d with loaded := true }).modPush 1 fun _ => p

theorem witness_PushWindowRows : (windowed {}).mayOpen 1 = true ∧ (windowed {}).sys.fallowN = true ∧
    ((windowed {}).modSys fun y => { y with fallowN := false }).mayOpen 1 = true ∧
    (let s := windowed { state := .opened, wantHash := 5 }; s.slotOfHash (s.push 1).wantHash = none ∧ (s.push 1).openTime + 250000000 ≤ s.now ∧ s.mayClaim 1 1 = true) ∧
    (let s := (windowed { state := .opened, wantHash := 5 }).modSlot 0 fun x => { x with hash := 5, state := 5 }; s.slotOfHash (s.push 1).wantHash = some 0 ∧ s.mayClaim 1 4 = true) ∧
    (let s := windowed { state := .pushing, agent := 2, len := 4096, imgLen := 8192 }; (s.push 1).xstat ≠ 1 ∧ (s.push 1).imgOff + (s.push 1).len ≤ imageMax ∧
      (s.push 1).imgOff % 4096 = 0 ∧ (s.push 1).progressTime + 20000000 ≤ s.now ∧ (s.push 1).doneTo < (s.push 1).imgLen) ∧
    (let s := windowed { state := .pushing, agent := 2, len := 4095 }; (s.push 1).xstat ≠ 1 ∧ (s.push 1).len < 4096 ∧ (s.push 1).imgLen ≤ (s.push 1).doneTo) ∧
    (let s := windowed { state := .released, stage1 := true }; (s.push 1).state = .released ∧ (s.push 1).stage1 = true ∧ (s.bay 1).alive = true) := by decide +kernel

theorem witness_PushWindowRows_copy (bs : List Byte) (h : memRead ((windowed {}).granary 1).mem (halfBase 0) 4096 = bs) :
    let s := windowed { state := .pushing, agent := 2, xstat := 1, copy := some (0, 4096, crc32c bs, 0) }
    (s.push 1).copy = some (0, 4096, crc32c (memRead (s.granary 1).mem (halfBase 0) 4096), 0) ∧ (s.push 1).xstat = 1 := by subst h; exact ⟨rfl, rfl⟩

/-- A window that verifies: with nothing written its image is too short (check 2 fails), and stage 1 has no section to check. -/
theorem witness_PushWindowRows_stages : (let s := windowed { state := .verifying }; (s.push 1).state = .verifying) ∧
    sectionsOk ((windowed {}).imageBytes 1 0 0) = true := by decide +kernel

/-- A node of the fabric with an up port 0, in a state of its own. -/
def knotted (st : FState) : State := (served.modFabric fun f => { f with
  state := st, mepoch := 1, rootId := 9, upPort := some 0, members := [{ node := 9, mepoch := 1 }], backoffEnd := some 0, claimStart := some 0
  claimSeen := served.nodeId }).modPort 0 fun p => { p with pstate := .up, good := 3, neighbour := 9, lost := false }

/-- A root whose port 1 has its one child. -/
def rootNode : State := (served.modFabric fun f => { f with state := .member, roles := 8, mepoch := 1, rootId := served.nodeId, members :=
  [{ node := served.nodeId, mepoch := 1, roles := 8 }, { node := 9, mepoch := 1, parent := served.nodeId }] }).modPort 1 fun p =>
  { p with pstate := .up, good := 3, neighbour := 9, nbParent := served.nodeId }

theorem witness_FabricPortRows : (served.fab.fab.alive = true ∧ served.portEnabled 3 = true ∧ (served.port 3).pstate = .down) ∧
    (let s := served.modPort 1 fun p => { p with pstate := .train }; (s.port 1).pstate = .train ∧ (s.port 1).trainStart + 1000000 ≤ s.now) ∧
    (let s := knotted .member; (s.port 0).pstate ≠ .down ∧ (s.port 0).lost = false ∧ (s.port 0).lastValid + s.fab.param.deadTimeout * 1000 ≤ s.now ∧ s.isMember = true ∧
      s.fab.fab.upPort = some 0 ∧ (s.children.any fun m => m.node = (s.port 0).neighbour) = false ∧ s.fab.fab.beaconTime = none ∧
      (s.port 0).nbTickTime + s.fab.param.rootTimeout * 1000 ≤ s.now ∧ s.fab.fab.exchangeTime = none ∧ s.fab.fab.reportTime = none) ∧
    (let s := knotted .claiming; s.fab.fab.backoffEnd = some 0 ∧ (List.range 4).any s.portUp = true ∧ s.fab.fab.claimStart = some 0 ∧
      s.fab.param.claimSettle * 1000 ≤ s.now ∧ s.fab.fab.claimSeen = s.nodeId) ∧
    (let s := knotted .reattaching; s.fab.fab.reattachStart + s.fab.param.rootTimeout * 1000 ≤ s.now) ∧
    (let s := rootNode.modFabric fun f => { f with becameRoot := some 0 }; s.isRoot = true ∧ s.fab.fab.becameRoot = some 0 ∧ 2 * s.fab.param.rootTimeout * 1000 ≤ s.now ∧
      s.isMember = true ∧ (s.children.any fun m => m.node = (s.port 1).neighbour) = true) ∧ (served.serving.isSome = true ∧ served.fab.fab.recordTime = none) := by
  decide +kernel

/-- A frame of node 9, of the membership epoch it has, for this node. -/
def frame9 : FabHdr := { crcOk := true, ver := 1, src := 9, mepoch := 1, dst := served.nodeId }

theorem witness_FabricFrames : ((rootNode.port 1).pstate ≠ .down ∧ rootNode.fab.fab.alive = true ∧ frame9.crcOk = true ∧ frame9.ver = 1 ∧ frame9.src ≠ 0 ∧
      (rootNode.fab.fab.members.find? fun m => m.node = frame9.src && m.mepoch = frame9.mepoch).isSome = true) ∧
    ((rootNode.accept 1 { frame9 with mepoch := 0 } false false false).2 = true ∧
      (rootNode.accept 1 { frame9 with mepoch := 0 } false false false).1.isRoot = true ∧
      (rootNode.accept 1 { frame9 with mepoch := 0 } false false false).1.isDown 1 = true ∧
      (rootNode.accept 1 { frame9 with mepoch := 0 } false false false).1.fab.fab.upPort ≠ some 1 ∧
      idAbove frame9.src (rootNode.accept 1 frame9 false false false).1.fab.fab.claimSeen = true ∧ (rootNode.accept 1 frame9 true true false).2 = true ∧
      (rootNode.accept 1 frame9 true true false).1.isDown 1 = true) ∧
    (let s := knotted .member; (s.accept 0 frame9 false false false).2 = true ∧ (s.accept 0 frame9 false false false).1.isMember = true ∧
      (s.accept 0 frame9 true false false).2 = true ∧ (s.accept 0 frame9 true false false).1.fab.fab.upPort = some 0) ∧
    (let s := (knotted .joining).modFabric fun f => { f with joinPort := some 0 }; (s.accept 0 frame9 false false true).2 = true ∧
      (s.accept 0 frame9 false false true).1.fab.fab.state = .joining ∧ frame9.dst = (s.accept 0 frame9 false false true).1.nodeId) := by decide +kernel

/-- A member whose feed in use has been below its threshold for 20 us, with node 9 the conductor's proxy. -/
def warned : State := (((knotted .member).modFabric fun f => { f with members := [{ node := 9, mepoch := 1, roles := 1 }] }).modFeed fun x =>
  { x with inUse := some 0x32 }).modChan 0x32 fun c => { c with belowSince := some 0, gate := true }

theorem witness_FabricOperations : ((rootNode.accept 1 frame9 true true false).2 = true ∧ frame9.dst = (rootNode.accept 1 frame9 true true false).1.nodeId ∧
      (rootNode.accept 1 frame9 true true false).1.roleRefused frame9 = false ∧ (rootNode.accept 1 frame9 true true false).1.isRoot = true ∧
      (rootNode.accept 1 frame9 true true false).1.isDown 1 = true ∧
      (rootNode.accept 1 { frame9 with drole := 4, repoch := 7 } true true false).1.roleRefused { frame9 with drole := 4, repoch := 7 } = true) ∧
    (let s := knotted .member; (s.accept 0 frame9 true false false).2 = true ∧ (s.accept 0 frame9 true false false).1.roleRefused frame9 = false ∧
      (s.accept 0 frame9 true false false).1.nodeId ≠ 0 ∧ (s.accept 0 { frame9 with dst := 0 } true false false).2 = true ∧
      (s.accept 0 { frame9 with dst := 0 } true false false).1.fab.fab.upPort = some 0) ∧
    (let s := rootNode.modFabric fun f => { f with ops := [{ desc := { op := 2, scope := 2, tseq := 5 } }, { desc := { op := 4, scope := 2, tseq := 6 } }] };
      s.sampleDue 2 5 = true ∧ s.sampleDue 4 6 = true ∧ s.serving = some 0) ∧
    (let s := served.modFabric fun f => { f with hallResetAt := some 0 }; s.fab.fab.alive = true ∧ 0 ≤ s.fabNow ∧ s.fab.fab.waits = [] ∧
      ∀ p < 4, (s.port p).pstate = .down) ∧
    (let s := served.modGrid fun g => { g with source := .either, held := [(.target, { tseq := 1, target := 5, slope := 100 }), (.target, { tseq := 1, target := 5, slope := 100, deadline := 1 })] };
      let x : Target := { tseq := 1, target := 5, slope := 100, deadline := 1 };
      s.journalFree = true ∧ s.serving.isSome = true ∧ x.deadline ≠ 0 ∧ x.deadline < s.fabNow ∧ s.pendingGrid = [] ∧ (s.grid.held.any fun h => h.2 = x) = true) ∧
    (let s := served.modGrid fun g => { g with source := .either, held := [(.target, { tseq := 1, target := 5, slope := 100 })] };
      let x : Target := { tseq := 1, target := 5, slope := 100 };
      s.grid.held.head? = some (.target, x) ∧ (s.modGrid fun g => { g with held := g.held.drop 1 }).gridRefusal true .target x [] = none ∧
        ((s.modGrid fun g => { g with held := g.held.drop 1 }).gridRefusal true .target { x with deadline := 1 } []).map (·.1) = some 0x0202) ∧
    (warned.warnDue = some 0x32 ∧ (warned.warnAssert 0x32).isMember = true ∧ (warned.warnAssert 0x32).fab.fab.alive = true ∧
      ((warned.warnAssert 0x32).resolve 4 0).map (·.1) = some 9 ∧ 9 ≠ (warned.warnAssert 0x32).nodeId ∧
      ((warned.modFabric fun f => { f with alive := false }).warnAssert 0x32).fab.fab.alive = false) := by decide +kernel

/-- A member whose up port 0 leads to a pusher, with bay 1 in Fallow mode. -/
def asking : State := ((knotted .member).modFabric fun f => { f with pushReqBay := some 1 }).modBay 1 fun b => { b with bstate := .fallow }

/-- A node with a varnished image that pushes it on port 0. -/
def pushing : State := ((knotted .member).modFabric fun f => { f with pushTo := some 0, pushTaken := true }).modSlot 0 fun x => { x with state := 5, len := 8192 }

theorem witness_ImagePushRows : (asking.fab.fab.alive = true ∧ asking.fab.fab.offerTaken = none ∧ asking.fab.fab.pushReqTime = none ∧
      (asking.modLatch fun l => { l with valid := false }).pushWanted = some (1, 0)) ∧
    (let s := (pushing.modFabric fun f => { f with pushTo := none }).modFabParam fun p => { p with pushServe := true };
      (s.accept 0 frame9 false false false).2 = true ∧ (s.accept 0 frame9 false false false).1.serving.isSome = true ∧
      (s.accept 0 frame9 false false false).1.offerSlot 0 = some 0) ∧
    (asking.portUp 0 = true ∧ asking.fab.fab.pushReqBay.isSome = true ∧ asking.fab.fab.pushHash = 0 ∧ asking.fab.fab.firstOffer = none ∧
      asking.fab.fab.upPort = some 0) ∧
    (pushing.fab.fab.pushTo = some 0 ∧ (pushing.slot pushing.fab.fab.pushSlot).len = 8192 ∧ pushing.serving.isSome = true ∧
      pushing.fab.fab.pushAckTime + 1000000 ≤ pushing.now ∧ pushing.portUp 0 = true) ∧
    (let s := (asking.modFabric fun f => { f with offerTaken := some 0 }).modUpd fun u => { u with session0 := some 1, fallowCommit := some 0 };
      (s.accept 0 frame9 false false false).2 = true ∧ (s.push 1).state ≠ .pushing ∧ s.fallowPush = true ∧ s.fab.fab.pushRecvTime + 20000000 ≤ s.now ∧
      s.loft.upd.fallowCommit = some 0 ∧
      (let u := s.modSlot 1 fun _ => (({ len := 4096 } : Slot).write 0 [0x01, 0xD0, 0xE1, 0xF1]).mark 0 1;
        (u.slot 1).complete = true ∧ 0 < (u.slot 1).len ∧ u.endOffer.canStand 1 = true)) ∧
    (let s := (asking.modFabric fun f => { f with offerTaken := some 0 }).modPush 1 fun p => { p with state := .pushing, agent := 3 };
      (s.accept 0 frame9 false false false).2 = true ∧ (s.push 1).agent = 3) := by decide +kernel

theorem witness_ImageRows : (let s := (served.modSys fun p => { p with trimValid := true }).modFuse fun f => { f with burnTo := 1, burnSlot := some 0 };
      s.sys.trimValid = true ∧ s.boot.fuse.burnTo = s.boot.fuse.counter + 1 ∧ s.boot.fuse.burnSlot = some 0) ∧
    (let s := (((served.modSys fun p => { p with devTime := 20000000000 }).modSlot 0 fun x => { x with state := 2 }).modBay 1 fun b =>
        { b with releasedAt := some 0, runsSlot := some 0 });
      s.slotU = some 0 ∧ 10000000000 ≤ s.now ∧ (s.bay 1).bstate ≠ .standby ∧ (s.bay 1).bstate ≠ .owner) ∧
    (let s := served.modUpd fun u => { u with accel := some 3 }; s.serving.isSome = true ∧ s.loft.upd.accel.isSome = true ∧ s.loft.upd.accelTime = none) ∧
    (served.loft.die.lost0 = false ∧ served.loft.die.lost1 = false) := by decide +kernel

/-- A keeper that runs, with one record queued. -/
def keeping : State := (served.modAlm fun a => { a with started := true, queue := [{ code := 0x8801 }] }).modSys fun p => { p with collapsed := true }

theorem witness_AlmanacRows : (keeping.alm.started = true ∧ keeping.sys.keeperStopped = false ∧ keeping.sys.resetPending = false ∧ keeping.alm.queue = [{ code := 0x8801 }] ∧
      keeping.alm.dropped = 0 ∧ keeping.loft.die.lost0 = false ∧ keeping.loft.die.lost1 = false ∧ (keeping.modAlm fun a => { a with dropped := 3 }).alm.dropped ≠ 0) ∧
    256 ≤ (served.modAlm fun a => { a with queue := List.replicate 256 {} }).alm.queue.length ∧
    (let s := served.modSys fun p => { p with trimValid := true }; s.alm.started = false ∧ s.sys.trimValid = true ∧ s.alm.die0 = [] ∧ s.alm.die1 = []) ∧
    (let s := served.modSys fun p => { p with suppliesValid := true }; s.sys.collapsed = false ∧ s.loftLost = false ∧ s.rail.seq.kind ≠ .inputLoss ∧
      (((s.modSys fun p => { p with collapsed := true }).modUpd fun u => { u with loftEpoch := s.own.latch.epoch }).writeEnergy).rail.seq.kind ≠ .inputLoss) ∧
    (keeping.sys.collapsed = true) := by decide +kernel

/-- The escalation in a state since long ago, with a shortfall. -/
def escalating (st : EscState) : State := served.modEsc fun e => { e with state := st, shortfall := 5 }

/-- A counter frame for slot 2 with its CRC. -/
def frameFor2 (w : Word32) : CounterFrame := { ({ slot := 2, wseq := w } : CounterFrame) with crc := counterCrc { slot := 2, wseq := w } }

theorem witness_GovernorRows : (let s := served.modLane 2 0 fun l => { l with lstate := .train };
      (s.bay 0).alive = true ∧ (s.lane 2 0).lstate ≠ .down ∧ ((s.trainLane 2 0).lane 2 0).lastWseq = none ∧
      ((s.modLane 2 0 fun l => { l with lastWseq := some 5 }).trainLane 2 0).lane 2 0 = (({ lstate := .train, lastWseq := some 5, lastValid := s.now, blockLock := true, goodFrames := 1 } : Lane)) ∧
      wsAbove 5 5 = false ∧ wsAbove 6 5 = true) ∧
    ((frameFor2 6).slot = 2 ∧ (frameFor2 6).wseq ≠ 0) ∧
    (served.serving = some 0 ∧ served.runs 0 = true ∧ served.sys.dormant = false ∧ tget served.gov.passTime 0 0 + 1000000 ≤ served.now ∧
      (served.modGov fun g => { g with tray := { g.tray with recordPeriod := 2 } }).recordDue = true) ∧
    (let s := escalating .saturate; s.gov.esc.state = .saturate ∧ s.gov.esc.since + s.gov.tray.escSat * 1000 ≤ s.now) ∧
    (let s := escalating .shed; s.gov.esc.since + s.gov.tray.shedWait * 1000 ≤ s.now ∧ 0 < s.gov.esc.shortfall ∧ s.parkChoice 0 = none) ∧
    (let s := escalating .parking; s.gov.esc.noticeTime + s.gov.tray.parkWait * 1000 ≤ s.now) ∧
    (let s := escalating .unreachable; s.gov.esc.unreachTime + 100000000 ≤ s.now) := by decide +kernel

theorem witness_GovernorRows_frame (w : Word32) : (frameFor2 w).crc = counterCrc (frameFor2 w) := by
  have e : counterBytes (frameFor2 w) = counterBytes { slot := 2, wseq := w } := by unfold counterBytes frameFor2; rfl
  unfold counterCrc
  rw [e]
  rfl

/-- A change of operating point in a state since long ago, of a slot with three points. -/
def changing (f : Chg → Chg) : State := ((served.modChg 0 1 f).modGovParam 1 fun g => { g with opdnT := 1, opupT := 1, opcTimeout := 1, droopResume := 1 }).modCalSlot 1 fun c =>
  { c with opTable := [{ valid := true }, { valid := true }, { valid := true }], marginPort := some (3, 0x40) }

theorem witness_OperatingPointRows : (let s := changing fun c => { c with fIndex := 1, highSince := some 0, zeroSince := some 0 };
      s.runs 0 = true ∧ (s.chg 0 1).cst = .idle ∧ 0 < (s.chg 0 1).fIndex ∧ (s.govParam 1).opdnT * 1000 ≤ s.now ∧ (s.govParam 1).opupT * 1000 ≤ s.now ∧
      (s.chg 0 1).fIndex + 1 < (s.opPoints 1).length ∧ (s.trimOf 1 2).forbidden = false) ∧
    (let s := changing fun c => { c with cst := .stepping }; (s.chg 0 1).stepNew = false ∧ (s.chg 0 1).stepTime + (s.govParam 1).opcTimeout * 1000 ≤ s.now ∧
      (s.modChg 0 1 fun c => { c with cst := .halted, target := none, trimDue := false, holdFrames := false, sendResume := false }).isOwner 0 = true) ∧
    (let s := (changing fun c => { c with cst := .stepping }).modBay 1 fun b => { b with bstate := .standby }; (s.runs 1 = true ∧ s.isOwner 1 = false)) ∧
    (let s := changing fun c => { c with cst := .resuming }; (s.chg 0 1).resumeTime + (s.govParam 1).opcTimeout * 1000 ≤ s.now) ∧
    (let s := changing fun c => { c with cst := .frozen, lastBurst := some 0 }; (s.chg 0 1).lastBurst = some 0 ∧ (s.govParam 1).droopResume * 1000 ≤ s.now) ∧
    (let s := (changing id).modChan 0x2B fun c => { c with cstate := .on }; s.branchOn 1 = true ∧ (s.calSlot 1).marginPort.isSome = true ∧ s.serving.isSome = true) ∧
    (let s := served.modMarginParam 1 fun m => { m with crit := 100 }; (5 : Int) ≠ noMargin ∧ (5 : Int) * 5 < (s.marginParam 1).crit ∧ (s.trimOf 1 2).lowest = none) ∧
    (let s := (served.modMarginParam 0x10 fun m => { m with crit := 100 }).modBay 1 fun b => { b with margin := some 3000, marginSeen := true };
      let t := (s.modBay 0 fun b => { b with margin := some 5, marginSeen := true }).marginRead 0x10 0 5;
      t.isOwner 0 = true ∧ (5 : Int) * 5 < (t.marginParam 0x10).crit ∧ (t.bay 1).marginSeen = true ∧ (t.bay 1).margin = some 3000 ∧ (t.marginParam 0x11).tgt ≤ 3000 * 5) ∧
    (let s := ((changing id).modSys fun p => { p with devTime := 86400000000000 }).modTrimOf 1 0 fun t => { t with lowest := some 0 };
      0 < (s.opPoints 1).length ∧ (s.trimOf 1 0).evalTime + 86400000000000 ≤ s.now ∧ s.evaluated 1 0 ≠ (s.trimOf 1 0).trim ∧
      s.evaluated 1 1 = (s.trimOf 1 1).trim) := by decide +kernel

theorem witness_GridRows : (let s := served.modGrid fun g => { g with source := .either }; s.source.obeys true = true ∧ s.dfLater 5 = true ∧ s.serving.isSome = true ∧
      (s.modLatch fun l => { l with valid := false }).serving = none ∧ (s.modLatch fun l => { l with valid := false }).source.obeys true = true ∧
      (s.modLatch fun l => { l with valid := false }).dfLater 5 = true ∧ s.grid.heldDf = none ∧ (served.modGrid fun g => { g with source := .none }).source.obeys true = false) ∧
    (let s := served.modGrid fun g => { g with source := .either, curve := [(0, 0)], freqStale := 1, reportStale := 1, children := [(0, {})] };
      s.grid.curve ≠ [] ∧ s.source ≠ .none ∧ s.grid.freqHold = false ∧ max s.grid.curveFrom s.grid.dfTime + s.grid.freqStale * 1000 ≤ s.now ∧
      s.grid.children ≠ [] ∧ tfind s.grid.children 0 = some {} ∧ s.grid.reportStale * 1000 ≤ s.now) ∧
    (let s := served.modGrid fun g => { g with state := .parkDelay }; s.grid.delayEnd ≤ s.now) ∧
    (let s := (((served.modGrid fun g => { g with state := .parkFuses }).modChan 0x2C fun c => { c with cstate := .on }).modEsc fun e => { e with ackPark := 255 }).modView 2 0 fun v => { v with seen := true, frame := { v.frame with quiesced := true } };
      ((List.range 8).reverse.find? fun n => s.branchOn n) = some 2 ∧ s.quiet 2 = true ∧ s.parkAnswered 2 = true ∧ s.own.latch.hold = false ∧ s.grid.lastOpenSlot = none) ∧
    (served.rail.seq.kind = .idle) := by decide +kernel

/-- A served tray whose slot 3 has a powered accelerator. -/
def powered (f : Accel → Accel) : State := served.modAccel 3 fun a => f { a with powered := true }

theorem witness_AcceleratorRows : (let s := powered id; (s.accel 3).powered = true ∧ (s.accel 3).epochSeen.toNat ≤ (1 : Word32).toNat ∧
      seqOk ((s.accel 3).newOwner 1).lastCseq 1 = true ∧ seqOk (((powered fun a => { a with epochSeen := 1, lastCseq := some 1 }).accel 3).newOwner 1).lastCseq 1 = false) ∧
    (let s := powered id; (s.accel 3).takes 3 3 1 = true ∧ seqOk ((s.accel 3).newOwner 1).lastBseq 1 = true ∧ (s.accel 3).pushSt ≠ 2 ∧ (s.accel 3).pushNext = 0) ∧
    (let s := powered fun a => { a with lapsed := false }; (s.accel 3).lapsed = false ∧ (s.accel 3).leaseTime + 500000 ≤ s.now) ∧
    (let s := powered fun a => { a with lapsed := false, burstDens := some 1, opcBusy := true, quiesce := true, pushLast := true, pushSt := 1 };
      (s.accel 3).burstDens.isSome = true ∧ (s.accel 3).burstEnd ≤ s.now ∧ (s.accel 3).opcFrozen = false) := by decide +kernel

theorem witness_AcceleratorRows_frames (e : Word32) : (∃ f : CommandFrame, f.slot = 3 ∧ f.epoch = e ∧ f.crc = commandCrc f) ∧
    (∃ f : BurstFrame, f.slot = 3 ∧ f.epoch = e ∧ f.crc = burstCrc f) ∧ (∃ f : PushBlock, f.slot = 3 ∧ f.epoch = e ∧ f.crc = blockCrc f) :=
  ⟨⟨{ ({ slot := 3, epoch := e } : CommandFrame) with crc := commandCrc { slot := 3, epoch := e } }, rfl, rfl, by
      unfold commandCrc; exact congrArg crc32c (by unfold commandBytes; rfl)⟩,
    ⟨{ ({ slot := 3, epoch := e } : BurstFrame) with crc := burstCrc { slot := 3, epoch := e } }, rfl, rfl, by
      unfold burstCrc; exact congrArg crc32c (by unfold burstBytes; rfl)⟩,
    ⟨{ ({ slot := 3, epoch := e } : PushBlock) with crc := blockCrc { slot := 3, epoch := e } }, rfl, rfl, by
      unfold blockCrc; exact congrArg crc32c rfl⟩⟩

theorem witness_LaneRows : (let s := served.modLane 2 0 fun l => { l with lstate := .down }; (s.bay 0).alive = true ∧ (s.lane 2 0).lstate = .down) ∧
    (let s := served.modLane 2 0 fun l => { l with lstate := .train, blockLock := false, failedAttempts := 9, failed := false };
      (s.lane 2 0).trainStart + 10000000 ≤ s.now ∧ (s.lane 2 0).lstate = .train) ∧
    (let s := served.modLane 2 0 fun l => { l with lstate := .up }; (((s.lane 2 0).lastValid : Int) + s.sys.timeBase).toNat / 2000 + 5 ≤ s.dwn) ∧
    (let s := ((served.modBay 1 fun b => { b with bstate := .standby }).modBay 0 fun b => { b with fewLanes := some 0 }).modLane 2 1 fun l => { l with lstate := .up };
      s.serving = some 0 ∧ (s.bay (peer 0)).bstate = .standby ∧ s.lanesUp 0 < s.lanesUp (peer 0)) ∧
    (let s := served.modPushJob 2 fun p => { p with active := true, nextBlock := 1, attempts := 2 }; (s.pushJob 2).startTime + 100000000 ≤ s.now ∧ s.serving.isSome = true) := by
  decide +kernel

/-- ROM hand 3 of the owner is ready, port 2 is enabled, and the descriptor at 0x1000, where r1 points, reads one byte from port 2. -/
def twoWired (f : TwPort → TwPort) : State := (((served.modTwPort 2 fun p => f { p with enable := true, target := 0x20 }).modHand 0 3 fun h =>
  ({ h with state := .ready }).setReg 1 0x1000).modSys fun p => { p with trimValid := true }).modGranary 0 fun g =>
  g.fill 0x1000 [0, 0, 0, 0, 1, 0, 1, 0x13]

theorem witness_TwoWireRows : (let s := twoWired fun p => { p with active := some {} }; (s.twPort 2).started = false ∧ (s.twPort 2).busTarget = false ∧
      (s.twPort 2).pendingCfg = none ∧ (s.twPort 2).enable = true ∧ (s.twPort 2).stuck = false ∧ s.sys.trimValid = true ∧ (s.twPort 2).active = some {}) ∧
    (let s := twoWired fun p => { p with otherQ := [{ port := 2 }, { port := 2, ownPage := true }] }; (s.twPort 2).active = none ∧
      ((s.twPort 2).pick.map (·.1)) = some { port := 2 } ∧ ((s.twPort 2).pickLocal.map (·.1)) = some { port := 2, ownPage := true }) ∧
    (let s := twoWired fun p => { p with active := some {}, started := true }; (s.twPort 2).started = true ∧ (s.twPort 2).attempts < 4 ∧
      (s.twPort 2).startTime + ({} : TwDesc).timeout ≤ s.now) ∧
    (let s := twoWired fun p => { p with stuck := true }; (s.twPort 2).stuckTime + 1000000000 ≤ s.now) ∧
    (let s := (twoWired id).modHand 1 300 fun h => { h with state := .wait, wait := some (.twoWire 1 0 0), shadow := true };
      (s.hand 1 300).shadow = true ∧ s.isOwner 1 = false ∧ 0 + 10000000 ≤ s.now) := by decide +kernel

theorem witness_TwoWireRows_hand : (let s := twoWired id; s.issues 0 3 = true ∧ ((s.hand 0 3).reg 1).toNat = 0x1000 ∧ (s.hand 0 3).accessOk 3 0x1000 8 = true ∧
      (s.hand 0 3).accessOk 3 0x1008 8 = true ∧ (s.granary 0).poisoned 0x1000 = false ∧ (s.granary 0).poisoned 0x1008 = false ∧ s.isOwner 0 = true ∧
      (twDescAt (memRead (s.granary 0).mem 0x1000 16)).invalid = false ∧ (twDescAt (memRead (s.granary 0).mem 0x1000 16)).port = 2 ∧
      (s.twPort 2).enable = true ∧ (s.twPort 2).stuck = false ∧ (s.twPort 2).queued < 64) ∧
    (twDescAt (memRead (((twoWired id).modGranary 0 fun g => g.fill 0x1006 [4]).granary 0).mem 0x1000 16)).invalid = true ∧
    64 ≤ (((twoWired fun p => { p with otherQ := List.replicate 64 {} }).twPort 2).queued) := by decide +kernel

theorem witness_TwoWireTargetRows : (let s := twoWired id; (s.twPort 2).enable = true ∧ (s.twPort 2).target = 0x20 ∧ (s.twPort 2).matcher = false ∧
      (s.twPort 2).notes.length < 8) ∧
    (let s := (twoWired fun p => { p with matcher := true, busTarget := true }).modSys fun p => { p with dormant := true };
      s.sys.dormant = true ∧ (s.twPort 2).matcher = true ∧ (s.twPort 2).busTarget = true) ∧
    (twoWired id).now ≥ ((twoWired id).twPort 2).lastTarget + 100000000 := by decide +kernel

theorem witness_BarnRoundTrip : decodeBarn 1 7 0b011010_0001_0010_0011_11111111111100 = some (.aswp 1 7 1 2 3 0x3FFC .clean) ∧
    wellFormed (.self 1 4095 15 0 7) = true ∧ encodeBarn (.self 1 4095 15 0 7) = some 0b111110_1111_0000_00000000000000_0111 ∧
    wellFormed (.ld 0 0 14 15 0x3FFFF .single) = true := by decide +kernel

/-- The word of R183 for each format, read for hand 7 of bay 1. -/
theorem test_barn_words : decodeBarn 1 7 0b000000_0011_0101_1001_00000000_000000 = some (.add 1 7 3 5 9) ∧
    decodeBarn 1 7 0b000001_0001_0010_111111111111111111 = some (.addi 1 7 1 2 (-1)) ∧
    decodeBarn 1 7 0b010000_0001_0010_000000000000001000 = some (.lw 1 7 1 2 8 .clean) ∧
    decodeBarn 1 7 0b100110_1111_0000000000000000000100 = some (.jal 1 7 15 4) ∧
    decodeBarn 1 7 0b111101_0000_0000_000000000000000000 = some (.halt 1 7 0 0 0) := by decide +kernel

theorem witness_WindowSequences : ((served.modAccel 3 fun a => { a with powered := true }).accel 3).powered = true ∧
    ((served.modAccel 3 fun a => { a with powered := true }).accel 3).wseq = 0 ∧
    ((served.modAccel 3 fun a => { a with powered := true, wseq := 0xFFFFFFFF }).accel 3).powered = true ∧ ([({} : AccelSense)] ≠ []) ∧
    ((1 : Word32) ≠ 0 ∧ (0xFFFFFFFF : Word32) ≠ 0) := by decide +kernel

theorem witness_SafeDensityCommand : ready (.govSetSafeDensity (hdr 2) 0 64) 2 0 served = true ∧ slotOk 7 = true ∧ slotOk 0xFE = true ∧
    ready (.govSetSafeDensity (hdr 2) 7 240) 2 0 served = true ∧ ready (.govSetSafeDensity (hdr 2) 7 241) 2 0 served = true ∧
    ready (.govSetSafeDensity (hdr 2) 7 63) 2 0 served = true := by decide +kernel

theorem witness_LeaseRenewal :
    ((served.modAccel 3 fun a => { a with powered := true, lapsed := false }).accel 3).powered = true ∧
    ((served.modAccel 3 fun a => { a with powered := true, lapsed := false }).accel 3).lapsed = false ∧
    ((served.modAccel 3 fun a => { a with powered := true }).accel 3).takes 3 3 1 = true ∧
    seqOk (((served.modAccel 3 fun a => { a with powered := true }).accel 3).newOwner 1).lastCseq 5 = true := by decide +kernel

theorem witness_LeaseRenewal_crc : ∃ f : CommandFrame, f.slot = 3 ∧ f.epoch = 1 ∧ f.cseq = 5 ∧ f.crc = commandCrc f :=
  ⟨{ slot := 3, epoch := 1, cseq := 5, crc := commandCrc { slot := 3, epoch := 1, cseq := 5 } }, rfl, rfl, rfl, by unfold commandCrc; exact congrArg crc32c (by unfold commandBytes; rfl)⟩

/-- Bay 0 serves with no lane up, bay 1 stands by with one, since device time t. -/
def outnumbered (t : Nat) : State :=
  (((served.modBay 0 fun b => { b with fewLanes := some t }).modBay 1 fun b => { b with bstate := .standby, alive := true }).modLane 2 1 fun l =>
    { l with lstate := .up })

theorem witness_LaneCountYield : (outnumbered 0).serving = some 0 ∧ ((outnumbered 0).bay (peer 0)).bstate = .standby ∧
    (outnumbered 0).lanesUp 0 < (outnumbered 0).lanesUp (peer 0) ∧ ((outnumbered 0).bay 0).fewLanes = some 0 ∧ 0 + 16000 ≤ (outnumbered 0).now ∧
    (outnumbered 0).handoverOk = true ∧ (outnumbered 4000000000).now < 4000000000 + 16000 ∧ served.serving = some 0 ∧ served.lanesUp (peer 0) ≤ served.lanesUp 0 ∧
    (outnumbered 0).laneLives 1 = true ∧ ((outnumbered 0).lane 2 1).lstate ≠ .down := by decide +kernel

theorem witness_StepKeepsMemoryCanonical : Memory.wf (served.granary 0).mem = true ∧ Memory.wf (ploughing.granary 1).mem = true ∧
    ∃ t, step served = .next t := ⟨rfl, rfl, _, id rfl⟩

end Sys2Proof.Tests
end

/-!
SUPPORT. Doorbells and the registers of an endpoint (R248 to R269): one lemma for each case a host access can meet, and from them O21.
-/
namespace Sys2Proof.Machine
open Sys2Proof

/-! ### Rings -/

/-- Only the value at the ring as it stands decides what a change of it makes. -/
theorem modRing_congr {s : State} {n : Nat} {f g : Ring → Ring} (h : f (s.ring n) = g (s.ring n)) : s.modRing n f = s.modRing n g := by
  calc s.modRing n f = s.modRing n fun _ => f (s.ring n) := rfl
    _ = s.modRing n fun _ => g (s.ring n) := by rw [h]
    _ = s.modRing n g := rfl

/-! ### Doorbells (R255, R262, R269) -/

/-- A step forward within an ACTIVE command ring (R255). -/
theorem applyDoorbell_of_forward {s : State} {e key : Nat} {v : Word32} (hactive : (s.ring key).state = .active)
    (hkind : (s.ring key).desc.kind = 0) (hpos : 0 < (v - (s.ring key).hostIdx).toNat)
    (hlt : (v - (s.ring key).hostIdx).toNat < 2 ^ 31) (hroom : (v - (s.ring key).ctrlIdx).toNat ≤ (s.ring key).size) :
    s.applyDoorbell e key v = ((s.modRing key fun r => { r with
      hostIdx := v, arrivals := r.arrivals ++ [(v, s.now)] }).writeStatus key).signal (0x8000 + ringNo key) := by
  have hmoved : v - (s.ring key).hostIdx ≠ 0 := fun h0 => by simp [h0] at hpos
  have hring : (s.modRing key fun r => { r with hostIdx := v, arrivals := if r.desc.kind = 0 then r.arrivals ++ [(v, s.now)] else r.arrivals }) =
      s.modRing key fun r => { r with hostIdx := v, arrivals := r.arrivals ++ [(v, s.now)] } := modRing_congr (by simp [hkind])
  simp only [State.applyDoorbell, hactive, hkind, hmoved, Nat.not_le.2 hlt, Nat.not_lt.2 hroom, hring, reduceCtorEq, if_false, if_true,
    decide_false, Bool.false_eq_true, OfNat.zero_ne_ofNat, zero_ne_one]

/-- A doorbell of another size, or past 32 bits, only counts in BAD (R255). -/
theorem exec_doorbell_malformed {s : State} {e ring size : Nat} {value : Word64} (hreach : s.hostReaches e = true)
    (hup : (s.bay e).bstate ≠ .down) (hbad : (size ≠ 4 ∧ size ≠ 8) ∨ 2 ^ 32 ≤ value.toNat) :
    exec (.doorbell e ring size value) s = .next (s.modEndpoint e fun x => { x with dbBad := satAdd 16 x.dbBad 1, dbLast := ring }) := by
  show execDoorbell e ring size value s = _
  simp only [execDoorbell, hreach, hup, Bool.not_true, Bool.false_or, decide_false, Bool.false_eq_true, if_false]
  rw [if_pos (by simpa using hbad)]

/-- A well-formed doorbell outside Fallow mode waits in Dormant, acts on the serving owner's endpoint, and else waits to be forwarded
(R255, R262, R269). -/
theorem exec_doorbell_wellFormed {s : State} {e ring size : Nat} {value : Word64} (hreach : s.hostReaches e = true)
    (hup : (s.bay e).bstate ≠ .down) (hfal : (s.bay e).bstate ≠ .fallow) (hsize : size = 4 ∨ size = 8) (hval : value.toNat < 2 ^ 32) :
    exec (.doorbell e ring size value) s = .next (
      if s.sys.dormant then
        let t := s.modEndpoint e fun x => { x with heldDoorbells := x.heldDoorbells ++ [(ring, value.setWidth 32)] }
        if ring = 0 then t.modSys fun y => { y with wakePending := true } else t
      else if s.serving = some e then s.applyDoorbell e ring (value.setWidth 32)
      else s.modEndpoint e fun x => { x with fwdDoorbells := x.fwdDoorbells ++ [(ring, value.setWidth 32)] }) := by
  show execDoorbell e ring size value s = _
  have hform : ¬((size ≠ 4 && size ≠ 8) || 2 ^ 32 ≤ value.toNat) = true := by
    simp only [Bool.or_eq_true, Bool.and_eq_true, decide_eq_true_eq]; omega
  simp only [execDoorbell, hreach, hup, Bool.not_true, Bool.false_or, decide_false, Bool.false_eq_true, if_false]
  rw [if_neg hform, if_neg hfal]

/-! ### Events and registers -/

theorem eventSevOf_of_ne {code : Nat} (payload : List Byte) (h : code ≠ 0x0102) : eventSevOf code payload = eventSev code := if_neg h

theorem adminOf_of_not_fallow {s : State} {e : Nat} (h : (s.bay e).bstate ≠ .fallow) : s.adminOf e = s.host.admin := if_neg h

theorem modAdminAt_of_not_fallow {s : State} {e : Nat} (f : Admin → Admin) (h : (s.bay e).bstate ≠ .fallow) :
    s.modAdminAt e f = s.modAdmin f := if_neg h

/-- ENABLE written anew outside Fallow mode is journalled by the owner that serves (R260). -/
theorem exec_admCtrlWrite_journals {s : State} {e : Nat} {value : Word32} (hreach : s.hostReaches e = true)
    (hfal : (s.bay e).bstate ≠ .fallow) (hidle : s.host.admin.busy = false) (hnew : s.host.admin.enable ≠ value.getLsbD 0)
    (hserve : s.serving.isSome = true) (hfree : s.journalFree = true) :
    exec (.admCtrlWrite e value) s = .next ((s.modAdmin fun a => { a with enable := value.getLsbD 0, busy := true }).journalChange
      (if value.getLsbD 0 then .adminEnable else .adminDrain)) := by
  show execAdmCtrlWrite e value s = _
  simp only [execAdmCtrlWrite, hreach, adminOf_of_not_fallow hfal, hidle, hnew, hfal, hserve, hfree, Bool.not_true, Bool.false_or,
    Bool.and_true, decide_false, Bool.false_eq_true, if_false, if_true]

/-- The descriptor registers store a word while ENABLE is 0 (R250). -/
theorem exec_registerWrite_descriptor {s : State} {e offset : Nat} {value : Word64} (hreach : s.hostReaches e = true)
    (hfal : (s.bay e).bstate ≠ .fallow) (hoff : s.host.admin.enable = false) (hlo : 0x1040 ≤ offset) (hhi : offset < 0x1080) :
    exec (.registerWrite e offset value) s = .next (s.modAdmin fun a =>
      if offset < 0x1060 then { a with desc0 := descSetWord a.desc0 ((offset - 0x1040) / 8) value }
      else { a with desc1 := descSetWord a.desc1 ((offset - 0x1060) / 8) value }) := by
  show execRegisterWrite e offset value s = _
  simp [execRegisterWrite, hreach, hlo, hhi, adminOf_of_not_fallow hfal, hoff, modAdminAt_of_not_fallow _ hfal]

/-- The MSI-X table takes its words (R249). -/
theorem exec_registerWrite_msix {s : State} {e offset : Nat} {value : Word64} (hreach : s.hostReaches e = true)
    (hlo : 0x2000 ≤ offset) (hhi : offset < 0x2400) : exec (.registerWrite e offset value) s = .next (s.msixWrite e offset value) := by
  show execRegisterWrite e offset value s = _
  have hdesc : ¬offset < 0x1080 := by omega
  simp [execRegisterWrite, hreach, hdesc, hlo, hhi]

/-- A write outside the descriptors and the MSI-X table is ignored (R7). -/
theorem exec_registerWrite_reserved {s : State} {e offset : Nat} {value : Word64}
    (hout : offset < 0x1040 ∨ (0x1080 ≤ offset ∧ offset < 0x2000) ∨ 0x2400 ≤ offset) :
    exec (.registerWrite e offset value) s = .next s := by
  show execRegisterWrite e offset value s = _
  have hdesc : ¬(0x1040 ≤ offset ∧ offset < 0x1080) := by omega
  have hmsix : ¬(0x2000 ≤ offset ∧ offset < 0x2400) := by omega
  simp [execRegisterWrite, hdesc, hmsix]

/-! ### Links (R262) -/

/-- Where some endpoint carried the ring traffic already, a change of a link raises its event and resumes no ring (R262, R296). -/
theorem setLink_of_carried {s : State} {e : Nat} {up : Bool} (busMaster : Bool) (width speed : Nat) (hchange : (s.endpoint e).linkUp ≠ up)
    (hcarried : s.carrier.isSome = true) :
    s.setLink e up busMaster width speed =
      (s.modEndpoint e fun x => { x with linkUp := up, busMaster := busMaster, width := width, speed := speed }).raise 0x0F01
        [(1, e), (1, bit up), (1, width), (1, speed)] := by
  have hbefore : s.carrier.isNone = false := by rw [← Option.not_isSome, hcarried]; rfl
  simp only [State.setLink, hchange, if_false, hbefore, Bool.false_and, Bool.false_eq_true]

/-! ### O21 -/

/-- Settles O21: each access meets one branch of its command, which the lemmas above give. -/
theorem doorbellsAndEndpoints : Obligations.DoorbellsAndEndpoints := by
  unfold Obligations.DoorbellsAndEndpoints
  refine ⟨?stepForward, ?malformed, ?waits, ?forwards, ?event, ?admCtrl, ?winStatus, ?descriptor, ?msix, ?reserved, ?debugStatus, ?reset,
    ?perst, ?link⟩
  case stepForward =>
    intro e ring size value s hreach hup hfal hawake hsize hval hserve hactive hkind hpos hlt hroom
    rw [exec_doorbell_wellFormed hreach hup hfal hsize hval, if_neg (by simp [hawake]), if_pos hserve,
      applyDoorbell_of_forward hactive hkind hpos hlt hroom]
  case malformed => exact fun _ _ _ _ _ hreach hup hbad => exec_doorbell_malformed hreach hup hbad
  case waits =>
    intro e ring value s hreach hup hfal hval
    rw [exec_doorbell_wellFormed hreach hup hfal (.inl rfl) hval]
    exact ⟨fun hdormant => by rw [if_pos hdormant], fun hawake hserve => by rw [if_neg (by simp [hawake]), if_neg hserve]⟩
  case forwards =>
    intro b s hserve
    show execDoorbellForward s = _
    simp only [execDoorbellForward, hserve]
  case event =>
    intro bay code payload s hcode hlen hruns hlane
    show execEventPost bay code payload s = _
    simp [execEventPost, hcode, hlen, hruns, eventSevOf_of_ne payload hlane]
  case admCtrl => exact fun _ _ _ hreach hfal hidle hnew hserve hfree => exec_admCtrlWrite_journals hreach hfal hidle hnew hserve hfree
  case winStatus =>
    intro e value s hreach
    show execWinStatusWrite e value s = _
    rw [execWinStatusWrite, if_pos hreach]
  case descriptor => exact fun _ _ _ _ hreach hfal hoff hlo hhi => exec_registerWrite_descriptor hreach hfal hoff hlo hhi
  case msix => exact fun _ _ _ _ hreach hlo hhi => exec_registerWrite_msix hreach hlo hhi
  case reserved => exact fun _ _ _ _ hout => exec_registerWrite_reserved hout
  case debugStatus => exact fun _ _ => rfl
  case reset => exact fun _ _ => rfl
  case perst => exact fun _ _ => rfl
  case link =>
    intro e up busMaster width speed s hchange hcarried
    show execEndpointLinkChange e up busMaster width speed s = _
    rw [execEndpointLinkChange, setLink_of_carried _ _ _ hchange hcarried]

end Sys2Proof.Machine

/-!
SUPPORT. Heartbeats, watchdogs, claims and die failures (R14 to R17, R223 to R246, R293): one lemma for each case a bay's or the keeper's
event can meet, and from them O28.
-/
namespace Sys2Proof.Machine
open Sys2Proof

/-! ### Claims and guards (R227, R230) -/

theorem claim_of_admitted {s : State} {bay : Nat} {epoch : Word32} (h : s.claimAdmitted bay epoch = true) :
    s.claim bay epoch = (s.acceptClaim bay epoch).followDrives := if_pos h

theorem claim_of_not_admitted {s : State} {bay : Nat} {epoch : Word32} (h : s.claimAdmitted bay epoch = false) :
    s.claim bay epoch = (s.modLatch fun l => { l with refused := satAdd 8 l.refused 1 }).readLatch bay := if_neg (by simp [h])

/-- A silent owner starts the guard of a peer that is STANDBY or JOINING, unless that guard runs already (R230). -/
theorem startGuard_of_silent {s : State} {bay : Nat} (howner : s.owner = some bay) (hsilent : s.silent bay = true)
    (hpeer : (s.bay (peer bay)).bstate = .standby ∨ (s.bay (peer bay)).bstate = .joining)
    (hguard : (s.bay (peer bay)).guardStart = none) :
    s.startGuard bay = s.modBay (peer bay) fun x => { x with guardStart := some s.now } := by
  unfold State.startGuard
  exact if_pos (by simp [howner, hsilent, hpeer, hguard])

theorem exec_ownerHbAge5ms_starts_guard {s : State} {b : Nat} (howner : s.owner = some b) (hawake : s.sys.dormant = false)
    (hsilent : s.silent b = true) (hpeer : (s.bay (peer b)).bstate = .standby ∨ (s.bay (peer b)).bstate = .joining)
    (hguard : (s.bay (peer b)).guardStart = none) :
    exec .ownerHbAge5ms s = .next (s.modBay (peer b) fun x => { x with guardStart := some s.now }) := by
  show execOwnerHbAge5ms s = _
  simp only [execOwnerHbAge5ms, howner, hawake, Bool.false_eq_true, if_false, startGuard_of_silent howner hsilent hpeer hguard]

theorem exec_claimGuardExpiry_claims {s : State} {bay t : Nat} (hstart : (s.bay bay).guardStart = some t)
    (hpast : t + s.own.param.claimGuard * 1000 ≤ s.now) (howner : s.owner = some (peer bay)) (hsilent : s.silent (peer bay) = true)
    (hreach : s.canClaim bay = true) (hstate : (s.bay bay).bstate = .standby ∨ (s.bay bay).bstate = .joining) :
    exec (.claimGuardExpiry bay) s =
      .next ((s.modBay bay fun b => { b with guardStart := none }).claim bay (s.own.latch.epoch + 1)) := by
  show execClaimGuardExpiry bay s = _
  simp [execClaimGuardExpiry, hstart, passed_of hpast, howner, hsilent, hreach, hstate]

theorem exec_ownershipClaim_of_canClaim {s : State} {bay : Nat} (epoch : Word32) (h : s.canClaim bay = true) :
    exec (.ownershipClaim bay epoch) s = .next (s.claim bay epoch) := by
  show execOwnershipClaim bay epoch s = _
  rw [execOwnershipClaim, if_pos h]

theorem exec_ownershipYield_of_serving {s : State} {bay : Nat} (on : Bool) (hserve : s.serving = some bay)
    (hhold : s.own.latch.hold = false) : exec (.ownershipYield bay on) s = .next (s.modLatch fun l => l.setYield bay on) := by
  show execOwnershipYield bay on s = _
  rw [execOwnershipYield, if_pos (by simp [hserve, hhold])]

/-! ### Heartbeats and the bay watchdog (R225, R226) -/

/-- With no wake behind it, a heartbeat counts from the present. -/
theorem exec_heartbeat_of_beats {s : State} {bay : Nat} (hbeats : s.beats bay = true) (hwake : s.sys.wakeTime = none) :
    exec (.heartbeat bay) s = .next (((((s.modBay bay fun b =>
        { b with hbTime := some s.now, hbFrozen := none, wdArmed := true, wakeWd := false, alive := true }).modLatch fun l => l.setForced bay false).modBay
      (peer bay) fun b => { b with guardStart := none }).readLatch bay).followDrives) := by
  show execHeartbeat bay s = _
  simp only [execHeartbeat, hbeats, hwake, Bool.not_true, Bool.false_eq_true, if_false]

theorem modLatch_bay (s : State) (f : Latch → Latch) (b : Nat) : (s.modLatch f).bay b = s.bay b := rfl

/-- A watchdog of a bay that is not waking up forces the bay and resets nothing. -/
theorem exec_wdTimeoutExpiry_forces {s : State} {bay t : Nat} (htime : (s.bay bay).hbTime = some t) (harmed : (s.bay bay).wdArmed = true)
    (hfrozen : (s.bay bay).hbFrozen = none) (hpast : t + s.own.param.wdTimeout * 1000 ≤ s.now) (hwake : (s.bay bay).wakeWd = false) :
    exec (.wdTimeoutExpiry bay) s = .next ((((((s.modBay bay fun b => { b with wdArmed := false }).modLatch fun l =>
      l.setForced bay true).raiseLater 0x0D03 [(1, bay)]).startGuard bay).followDrives)) := by
  show execWdTimeoutExpiry bay s = _
  have hafter : (((s.modBay bay fun b => { b with wdArmed := false }).modLatch fun l => l.setForced bay true).bay bay).wakeWd = false :=
    by rw [modLatch_bay, modBay_same]; exact hwake
  simp only [execWdTimeoutExpiry, htime, harmed, hfrozen, passed_of hpast, hafter, Option.isNone_none, Bool.and_self, if_true,
    Bool.false_eq_true, if_false]

theorem exec_bayRestartTimeout_completes {s : State} {bay t : Nat} (hstart : (s.bay bay).restartAt = some t)
    (hpast : t + 1000000000 ≤ s.now) :
    exec (.bayRestartTimeout bay) s =
      .next ((s.modBay bay fun b => { b with restartAt := none, restartJseq := 0 }).completeIf (s.bay bay).restartJseq 0x0502 []) := by
  show execBayRestartTimeout bay s = _
  simp only [execBayRestartTimeout, hstart, passed_of hpast, if_true]

/-! ### Failures of a die, a lockstep pair or the crystal (R16, R17, R484) -/

theorem refuseRunning_of_none {s : State} {bay : Nat} (h : (s.bay bay).runsSlot = none) : s.refuseRunning bay = s := by
  simp only [State.refuseRunning, h]

/-- A bay die that fails stops; one that stood by or joined falls out of step (R239). -/
theorem exec_dieFailure_bay {s : State} {die : Nat} (hbay : die < 2) (hslot : (s.bay die).runsSlot = none) :
    exec (.dieFailure die) s = .next (let t := s.modBay die fun b => { b with alive := false }
      if (s.bay die).bstate = .standby ∨ (s.bay die).bstate = .joining then t.outOfStep die else t) := by
  show execDieFailure die s = _
  simp only [execDieFailure, hbay, if_true, refuseRunning_of_none hslot, Bool.or_eq_true, decide_eq_true_eq]

theorem exec_dieFailure_photonic {s : State} {die : Nat} (h : 2 ≤ die) : exec (.dieFailure die) s = .next s.fabricStops := by
  show execDieFailure die s = _
  rw [execDieFailure, if_neg (Nat.not_lt.2 h)]

/-- Entering a keeper-hold, even one that holds already, sets HOLD and nothing else of the ownership state, and leaves the photonic die and
the system state as they were (R17). -/
theorem enterHold_keeps (s : State) (pair : Nat) (running : Bool) :
    (s.enterHold pair running).own = { s.own with latch := { s.own.latch with hold := true } } ∧
    (s.enterHold pair running).sys = s.sys ∧ (s.enterHold pair running).fab = s.fab := by
  cases h : s.own.latch.hold with
  | true =>
    have hsame : s.enterHold pair running = s := by rw [State.enterHold, if_pos h]
    rw [hsame, ← h]
    exact ⟨rfl, rfl, rfl⟩
  | false =>
    obtain ⟨hown, honly⟩ := enterHold_own_only h pair running
    exact ⟨hown, honly .sys (by decide), honly .fab (by decide)⟩

theorem enterHold_bay (s : State) (pair : Nat) (running : Bool) (b : Nat) : (s.enterHold pair running).bay b = s.bay b := by
  rw [State.bay, (enterHold_keeps s pair running).1]; rfl

/-- The state that the keeper-hold of a lost crystal is entered from: the internal oscillator runs, and the three dies stand (R484). -/
def State.crystalStops (s : State) : State :=
  (((s.modSys fun p => { p with internalOsc := true }).fabricStops.modBay 0 fun x => { x with alive := false }).modBay 1
    fun x => { x with alive := false })

theorem exec_crystalLoss (s : State) : exec .crystalLoss s = .next (s.crystalStops.enterHold 0xFF false) := rfl

theorem crystalStops_bay_alive (s : State) : (s.crystalStops.bay 0).alive = false ∧ (s.crystalStops.bay 1).alive = false := by
  unfold State.crystalStops
  constructor
  · rw [modBay_ne _ _ _ _ (by decide), modBay_same]
  · rw [modBay_same]

theorem runs_crystalLoss (s : State) : Runs .crystalLoss s fun t =>
    t.sys.internalOsc = true ∧ t.fab.fab.alive = false ∧ (t.bay 0).alive = false ∧ (t.bay 1).alive = false ∧
    t.own.latch.hold = true := by
  obtain ⟨hown, hsys, hfab⟩ := enterHold_keeps s.crystalStops 0xFF false
  obtain ⟨hbay0, hbay1⟩ := crystalStops_bay_alive s
  refine ⟨_, exec_crystalLoss s, ?_, ?_, ?_, ?_, ?_⟩
  · rw [hsys]; rfl
  · rw [hfab]; rfl
  · rw [enterHold_bay, hbay0]
  · rw [enterHold_bay, hbay1]
  · rw [hown]

/-! ### The bay record (R246) -/

theorem exec_bayRecord_of_due {s : State} (hserve : s.serving.isSome = true)
    (hdue : s.own.recordTime + s.own.param.recordPeriod * 1000 ≤ s.now) :
    exec .bayRecord s = .next (let t := s.modOwn fun o => { o with recordTime := s.now }
      (t.telemetry 7 (t.bayRecord 0)).telemetry 7 (t.bayRecord 1)) := by
  show execBayRecord s = _
  rw [execBayRecord, if_pos (by simp [hserve, passed_of hdue])]

/-! ### O28 -/

/-- Settles O28: each event meets one branch of its command, which the lemmas above give. -/
theorem heartbeatsAndClaims : Obligations.HeartbeatsAndClaims := by
  unfold Obligations.HeartbeatsAndClaims
  refine ⟨?heartbeat, ?watchdog, ?silentOwner, ?guardExpiry, ?claim, ?yield, ?restartTimeout, ?dieFailure, ?keeperHold, ?crystalLoss,
    ?junction, ?record⟩
  case heartbeat => exact fun _ _ hbeats hwake => exec_heartbeat_of_beats hbeats hwake
  case watchdog =>
    exact fun _ _ _ htime harmed hfrozen hpast hwake => exec_wdTimeoutExpiry_forces htime harmed hfrozen hpast hwake
  case silentOwner =>
    exact fun _ _ howner hawake hsilent hpeer hguard => exec_ownerHbAge5ms_starts_guard howner hawake hsilent hpeer hguard
  case guardExpiry =>
    exact fun _ _ _ hstart hpast howner hsilent hreach hstate => exec_claimGuardExpiry_claims hstart hpast howner hsilent hreach hstate
  case claim =>
    intro bay epoch s hreach
    rw [exec_ownershipClaim_of_canClaim epoch hreach]
    exact ⟨fun hadmit => by rw [claim_of_admitted hadmit], fun hrefuse => by rw [claim_of_not_admitted hrefuse]⟩
  case yield => exact fun _ on _ hserve hhold => exec_ownershipYield_of_serving on hserve hhold
  case restartTimeout => exact fun _ _ _ hstart hpast => exec_bayRestartTimeout_completes hstart hpast
  case dieFailure => exact fun _ _ => ⟨exec_dieFailure_bay, exec_dieFailure_photonic⟩
  case keeperHold => exact fun pair s hhold => ⟨s.enterHold pair true, rfl, enterHold_own_only hhold pair true⟩
  case crystalLoss => exact runs_crystalLoss
  case junction => exact fun _ _ _ _ _ _ => rfl
  case record => exact fun _ hserve hdue => exec_bayRecord_of_due hserve hdue

end Sys2Proof.Machine

/-!
SUPPORT. Sequence numbers (R23): the cycle of window sequences as arithmetic on 1 .. 2^32 - 1.
-/
namespace Sys2Proof.Machine
open Sys2Proof

theorem word_pos {w : Word32} (h : w ≠ 0) : 0 < w.toNat := by
  rw [Nat.pos_iff_ne_zero]
  exact fun h0 => h (BitVec.eq_of_toNat_eq h0)

/-- A place in the cycle, counted from 0, fits the word of its sequence. -/
theorem toNat_cycle (k : Nat) : (BitVec.ofNat 32 (k % wsCycle + 1)).toNat = k % wsCycle + 1 := by
  have hk : k % wsCycle < wsCycle := Nat.mod_lt _ (by decide)
  rw [BitVec.toNat_ofNat, Nat.mod_eq_of_lt (by simp only [wsCycle] at hk ⊢; omega)]

theorem toNat_wsAdd {w : Word32} (h : w ≠ 0) (n : Nat) : (wsAdd w n).toNat = (w.toNat - 1 + n) % wsCycle + 1 := by
  have hpos := word_pos h
  have hlt := w.isLt
  unfold wsAdd
  split
  · subst n
    simp only [wsCycle]
    omega
  · exact toNat_cycle _

theorem toNat_wsAdd_zero {n : Nat} (h : n ≠ 0) : (wsAdd 0 n).toNat = (n - 1) % wsCycle + 1 := by
  rw [wsAdd, if_neg h, if_pos rfl, toNat_cycle]

theorem wsAdd_ne_zero (w : Word32) {n : Nat} (h : w ≠ 0 ∨ n ≠ 0) : wsAdd w n ≠ 0 := by
  intro h0
  have hnat : (wsAdd w n).toNat = 0 := by rw [h0]; rfl
  by_cases hw : w = 0
  · rw [hw, toNat_wsAdd_zero (h.resolve_left (not_not.2 hw))] at hnat
    omega
  · rw [toNat_wsAdd hw] at hnat
    omega

/-- A window more in the cycle. -/
theorem wsAdd_succ (w : Word32) (n : Nat) : wsAdd (wsAdd w n) 1 = wsAdd w (n + 1) := by
  by_cases hn : n = 0
  · subst hn; rfl
  apply BitVec.eq_of_toNat_eq
  rw [toNat_wsAdd (wsAdd_ne_zero w (.inr hn))]
  by_cases hw : w = 0
  · subst hw
    rw [toNat_wsAdd_zero hn, toNat_wsAdd_zero n.succ_ne_zero]
    simp only [wsCycle]
    omega
  · rw [toNat_wsAdd hw, toNat_wsAdd hw]
    simp only [wsCycle]
    omega

/-- The next window sequence: 1 after 0 and after 0xFFFFFFFF, else one more (R23). -/
theorem wsAdd_one (w : Word32) : wsAdd w 1 = if w = 0xFFFFFFFF then 1 else w + 1 := by
  by_cases hw : w = 0
  · subst hw; rfl
  apply BitVec.eq_of_toNat_eq
  rw [toNat_wsAdd hw]
  have hpos := word_pos hw
  have hlt := w.isLt
  split
  next h => subst h; rfl
  next h =>
    have hmax : w.toNat ≠ 0xFFFFFFFF := fun h0 => h (BitVec.eq_of_toNat_eq h0)
    rw [BitVec.toNat_add]
    simp only [wsCycle, BitVec.reduceToNat]
    omega

theorem wsSub_wsAdd {w : Word32} (h : w ≠ 0) (n : Nat) : wsSub (wsAdd w n) n = w := by
  by_cases hn : n = 0
  · subst hn; rfl
  apply BitVec.eq_of_toNat_eq
  have hpos := word_pos h
  have hlt := w.isLt
  rw [wsSub, if_neg hn, toNat_cycle, toNat_wsAdd h]
  simp only [wsCycle]
  omega

theorem wsAbove_iff {a b : Word32} (ha : a ≠ 0) (hb : b ≠ 0) : wsAbove a b = true ↔ 1 ≤ wsSteps a b ∧ wsSteps a b ≤ 2 ^ 31 - 1 := by
  simp only [wsAbove, if_neg ha, if_neg hb, Bool.and_eq_true, decide_eq_true_eq]

/-- The way back is the rest of the cycle. -/
theorem wsSteps_comm {a b : Word32} (ha : a ≠ 0) (hb : b ≠ 0) : wsSteps b a = (wsCycle - wsSteps a b) % wsCycle := by
  have hapos := word_pos ha
  have hbpos := word_pos hb
  have halt := a.isLt
  have hblt := b.isLt
  simp only [wsSteps, wsCycle]
  omega

theorem wsSteps_lt (a b : Word32) : wsSteps a b < wsCycle := Nat.mod_lt _ (by decide)

theorem wsAbove_swap_iff {a b : Word32} (ha : a ≠ 0) (hb : b ≠ 0) :
    wsAbove b a = true ↔ 2 ^ 31 ≤ wsSteps a b ∧ wsSteps a b ≤ 2 ^ 32 - 2 := by
  have hlt := wsSteps_lt a b
  rw [wsAbove_iff hb ha, wsSteps_comm ha hb]
  simp only [wsCycle] at hlt ⊢
  omega

theorem seqNewer_iff (a b : Word32) :
    seqNewer a b = true ↔ 1 ≤ (a.toNat + 2 ^ 32 - b.toNat) % 2 ^ 32 ∧ (a.toNat + 2 ^ 32 - b.toNat) % 2 ^ 32 ≤ 2 ^ 31 - 1 := by
  have hdiff : (a - b).toNat = (a.toNat + 2 ^ 32 - b.toNat) % 2 ^ 32 := by
    rw [BitVec.toNat_sub]
    have hblt := b.isLt
    congr 1
    omega
  simp only [seqNewer, hdiff, Bool.and_eq_true, decide_eq_true_eq]

end Sys2Proof.Machine

/-!
SUPPORT. The accelerator's side of a stalk (R24 to R40): what each row leaves of the accelerator, and from it O48, O55 and O57.
-/
namespace Sys2Proof.Machine
open Sys2Proof

/-! ### Changes of one accelerator -/

/-- Only the value at the accelerator as it stands decides what a change of it makes. -/
theorem modAccel_congr {s : State} {slot : Nat} {f g : Accel → Accel} (h : f (s.accel slot) = g (s.accel slot)) :
    s.modAccel slot f = s.modAccel slot g := by
  calc s.modAccel slot f = s.modAccel slot fun _ => f (s.accel slot) := rfl
    _ = s.modAccel slot fun _ => g (s.accel slot) := by rw [h]
    _ = s.modAccel slot g := rfl

/-- A row that changes its accelerator alone leaves what the change leaves. -/
theorem runs_modAccel {i : Instr} {s : State} {slot : Nat} {f : Accel → Accel} {P : Accel → Prop} (hrow : exec i s = .next (s.modAccel slot f))
    (hleaves : P (f (s.accel slot))) : Runs i s fun t => P (t.accel slot) := 
  ⟨_, hrow, by dsimp only; rwa [modAccel_same]⟩

/-! ### What the steps of a frame's acceptance keep -/

/-- A new owner's frame moves neither the window nor the lease. -/
theorem newOwner_keeps (a : Accel) (e : Word32) :
    (a.newOwner e).wseq = a.wseq ∧ (a.newOwner e).leaseTime = a.leaseTime ∧ (a.newOwner e).lapsed = a.lapsed := by
  unfold Accel.newOwner
  split <;> exact ⟨rfl, rfl, rfl⟩

theorem storeGrant_wseq (a : Accel) (e : GrantEntry) : (a.storeGrant e).wseq = a.wseq := by
  unfold Accel.storeGrant
  split
  · rfl
  · split
    · split <;> rfl
    · rfl

theorem trimGrants_wseq (a : Accel) : a.trimGrants.wseq = a.wseq := by
  unfold Accel.trimGrants forUpTo
  refine List.foldlRecOn (motive := fun b : Accel => b.wseq = a.wseq) (List.range 8) _ rfl fun b hb _ _ => ?_
  split
  · exact hb
  · split <;> exact hb

theorem takeGrants_wseq (a : Accel) (f : CommandFrame) : (a.takeGrants f).wseq = a.wseq := by
  unfold Accel.takeGrants
  rw [trimGrants_wseq]
  refine List.foldlRecOn (motive := fun b : Accel => b.wseq = a.wseq) f.grants _ ?_ fun b hb e _ => (storeGrant_wseq b e).trans hb
  split <;> rfl

/-- What OPC asks changes the operating point alone: neither the window nor the lease. -/
theorem takeOpc_keeps (s : State) (slot : Nat) (a : Accel) (f : CommandFrame) :
    (s.takeOpc slot a f).wseq = a.wseq ∧ (s.takeOpc slot a f).leaseTime = a.leaseTime ∧ (s.takeOpc slot a f).lapsed = a.lapsed ∧
      (s.takeOpc slot a f).acceptedThisWindow = a.acceptedThisWindow := by
  unfold State.takeOpc State.startStep Accel.freeze
  dsimp only
  split_ifs <;> exact ⟨rfl, rfl, rfl, rfl⟩

theorem finishStep_wseq (s : State) (slot : Nat) (a : Accel) : (s.finishStep slot a).wseq = a.wseq := by
  unfold State.finishStep
  dsimp only
  split <;> rfl

/-! ### Frames -/

theorem takes_iff {a : Accel} {slot fslot : Nat} {epoch : Word32} :
    a.takes slot fslot epoch = true ↔ a.powered = true ∧ fslot = slot ∧ a.epochSeen.toNat ≤ epoch.toNat := by
  simp only [Accel.takes, Bool.and_eq_true, decide_eq_true_eq, and_assoc]

/-- An accelerator that has taken a command frame, for R31 to R36: the frame's grants, densities, ballast floor and QUIESCE, a lease that
runs from now, and the step that OPC asks. -/
def State.afterCommand (s : State) (slot : Nat) (f : CommandFrame) : Accel :=
  let b := (s.accel slot).newOwner f.epoch
  s.takeOpc slot { b.takeGrants f with
    lastCseq := some f.cseq, density := min f.density 240, safeDensity := min f.safeDensity 240, ballastFloor := f.ballastW
    acceptedThisWindow := true, leaseTime := s.now, lapsed := false, quiesce := f.quiesce, quiesced := b.quiesced && f.quiesce } f

/-- The four ends of a command frame on a powered accelerator (R21, R27). -/
theorem exec_acceptCommandFrame {s : State} {slot : Nat} (f : CommandFrame) (hpowered : (s.accel slot).powered = true) :
    exec (.acceptCommandFrame slot f) s = .next (s.modAccel slot fun _ =>
      if f.crc ≠ commandCrc f then { s.accel slot with cfBad := satAdd 8 (s.accel slot).cfBad 1 }
      else if (s.accel slot).takes slot f.slot f.epoch = true ∧ seqOk ((s.accel slot).newOwner f.epoch).lastCseq f.cseq = true then
        s.afterCommand slot f
      else s.accel slot) := by
  show execAcceptCommandFrame slot f s = _
  unfold execAcceptCommandFrame
  refine congrArg Host.Outcome.next (modAccel_congr ?_)
  dsimp only
  rw [if_neg (by simp [hpowered])]
  by_cases hcrc : f.crc ≠ commandCrc f
  · rw [if_pos hcrc, if_pos hcrc]
  rw [if_neg hcrc, if_neg hcrc]
  by_cases htakes : (s.accel slot).takes slot f.slot f.epoch = true
  · by_cases hseq : seqOk ((s.accel slot).newOwner f.epoch).lastCseq f.cseq = true
    · rw [if_neg (by simp [htakes]), if_neg (by simp [hseq]), if_pos ⟨htakes, hseq⟩]
      rfl
    · rw [if_neg (by simp [htakes]), if_pos (by simpa using hseq), if_neg fun h => hseq h.2]
  · rw [if_pos (by simpa using htakes), if_neg fun h => htakes h.1]

theorem exec_acceptBurstFrame_accepted {s : State} {slot : Nat} {f : BurstFrame} (htakes : (s.accel slot).takes slot f.slot f.epoch = true)
    (hcrc : f.crc = burstCrc f) (hseq : seqOk ((s.accel slot).newOwner f.epoch).lastBseq f.bseq = true) :
    exec (.acceptBurstFrame slot f) s = .next (s.modAccel slot fun _ => { (s.accel slot).newOwner f.epoch with
      opcFrozen := true, lastBseq := some f.bseq, burstDens := some (min f.dens 240), burstEnd := s.now + f.len * 250 }) := by
  show execAcceptBurstFrame slot f s = _
  refine congrArg Host.Outcome.next (modAccel_congr ?_)
  simp only [htakes, hcrc, hseq, Bool.not_true, ne_eq, not_true_eq_false, decide_false, Bool.or_false, Bool.false_eq_true, if_false, Accel.freeze]

/-- The three ends of a push block that the accelerator may take (R39). -/
theorem exec_acceptPushBlock {s : State} {slot : Nat} {x : PushBlock} (htakes : (s.accel slot).takes slot x.slot x.epoch = true)
    (hcrc : x.crc = blockCrc x) :
    exec (.acceptPushBlock slot x) s = .next (s.modAccel slot fun _ =>
      let a := s.accel slot
      if x.first && x.block = 0 && a.pushSt ≠ 2 then { a.newOwner x.epoch with pushSt := 1, pushNext := 1, pushLast := x.last }
      else if x.block = a.pushNext then
        { a.newOwner x.epoch with pushNext := a.pushNext + 1, pushSt := if a.pushSt = 0 then 1 else a.pushSt, pushLast := a.pushLast || x.last }
      else a) := by
  show execAcceptPushBlock slot x s = _
  refine congrArg Host.Outcome.next (modAccel_congr ?_)
  dsimp only
  rw [if_neg (by simp [htakes, hcrc])]

/-- A command frame, accepted or not, keeps WSEQ. -/
theorem runs_acceptCommandFrame_wseq (slot : Nat) (f : CommandFrame) (s : State) :
    Runs (.acceptCommandFrame slot f) s fun t => (t.accel slot).wseq = (s.accel slot).wseq := by
  refine runs_modAccel (P := fun a => a.wseq = (s.accel slot).wseq) rfl ?_
  dsimp only
  split_ifs
  · rfl
  · rfl
  · rfl
  · rfl
  · rw [(takeOpc_keeps _ _ _ _).1, takeGrants_wseq, (newOwner_keeps _ _).1]

/-- A burst frame, accepted or not, keeps WSEQ, the lease's start and whether it has lapsed. -/
theorem runs_acceptBurstFrame_keeps (slot : Nat) (f : BurstFrame) (s : State) :
    Runs (.acceptBurstFrame slot f) s fun t => (t.accel slot).wseq = (s.accel slot).wseq ∧
      (t.accel slot).leaseTime = (s.accel slot).leaseTime ∧ (t.accel slot).lapsed = (s.accel slot).lapsed := by
  refine runs_modAccel (P := fun a => a.wseq = (s.accel slot).wseq ∧ a.leaseTime = (s.accel slot).leaseTime ∧ a.lapsed = (s.accel slot).lapsed)
    rfl ?_
  dsimp only
  split_ifs
  · exact ⟨rfl, rfl, rfl⟩
  · exact ⟨rfl, rfl, rfl⟩
  · exact newOwner_keeps _ _

/-- A push block, accepted or not, keeps WSEQ, the lease's start and whether it has lapsed. -/
theorem runs_acceptPushBlock_keeps (slot : Nat) (x : PushBlock) (s : State) :
    Runs (.acceptPushBlock slot x) s fun t => (t.accel slot).wseq = (s.accel slot).wseq ∧
      (t.accel slot).leaseTime = (s.accel slot).leaseTime ∧ (t.accel slot).lapsed = (s.accel slot).lapsed := by
  refine runs_modAccel (P := fun a => a.wseq = (s.accel slot).wseq ∧ a.leaseTime = (s.accel slot).leaseTime ∧ a.lapsed = (s.accel slot).lapsed)
    rfl ?_
  dsimp only
  split
  · exact ⟨rfl, rfl, rfl⟩
  · split
    · exact newOwner_keeps _ _
    · split
      · exact newOwner_keeps _ _
      · exact ⟨rfl, rfl, rfl⟩

/-! ### The window (R23, R32 to R34, R37) -/

/-- An accelerator once its window has ended. -/
def Accel.afterWindow (a : Accel) (x : AccelSense) : Accel :=
  Accel.pruneGrants { (if a.acceptedThisWindow then a else a.decay) with
    lapseDensity := if a.lapsed && a.lapseDensity < a.safeDensity then min (a.lapseDensity + 4) a.safeDensity else a.lapseDensity
    draw := min (max x.demand (if x.ballastOn then a.ballastFloor else 0)) (a.draw + a.riseNow)
    ballastOn := x.ballastOn, droop := x.droop, acceptedThisWindow := false, wseq := wsAdd a.wseq 1, tslice := (a.tslice + 1) % 8 }

/-- A window of a powered accelerator ends: the state it leaves. -/
def State.closeWindow (s : State) (slot : Nat) (x : AccelSense) : State :=
  (s.modAccel slot fun _ => (s.accel slot).afterWindow x).emit (.counter ((s.accel slot).frame slot s.now x))

theorem exec_acceleratorWindow {s : State} {slot : Nat} (x : AccelSense) (hpowered : (s.accel slot).powered = true) :
    exec (.acceleratorWindow slot x) s = .next (s.closeWindow slot x) := by
  show execAcceleratorWindow slot x s = _
  unfold execAcceleratorWindow
  rw [if_neg (by simp [hpowered])]
  rfl

theorem afterWindow_wseq (a : Accel) (x : AccelSense) : (a.afterWindow x).wseq = wsAdd a.wseq 1 := rfl

theorem afterWindow_powered (a : Accel) (x : AccelSense) : (a.afterWindow x).powered = a.powered := by
  show (if a.acceptedThisWindow then a else a.decay).powered = a.powered
  split <;> rfl

/-- While the lease runs the lapse density stays. -/
theorem afterWindow_of_leased {a : Accel} (x : AccelSense) (h : a.lapsed = false) :
    a.afterWindow x =
      let b := if a.acceptedThisWindow then a else a.decay
      Accel.pruneGrants { b with
        draw := min (max x.demand (if x.ballastOn then a.ballastFloor else 0)) (a.draw + a.riseNow), ballastOn := x.ballastOn, droop := x.droop
        acceptedThisWindow := false, wseq := wsAdd a.wseq 1, tslice := (a.tslice + 1) % 8, lapseDensity := b.lapseDensity } := by
  have hkeeps : (if a.acceptedThisWindow then a else a.decay).lapseDensity = a.lapseDensity := by split <;> rfl
  simp only [Accel.afterWindow, h, Bool.false_and, Bool.false_eq_true, if_false, hkeeps]

theorem closeWindow_accel (s : State) (slot : Nat) (x : AccelSense) : (s.closeWindow slot x).accel slot = (s.accel slot).afterWindow x :=
  modAccel_same s slot fun _ => (s.accel slot).afterWindow x

/-- Windows that end one after the other, each with its readings. -/
theorem foldl_closeWindow_wseq (slot : Nat) (xs : List AccelSense) (s : State) :
    ((xs.foldl (fun u x => u.closeWindow slot x) s).accel slot).wseq = wsAdd (s.accel slot).wseq xs.length := by
  induction xs using List.reverseRecOn with
  | nil => rfl
  | append_singleton xs x ih =>
    rw [List.foldl_concat, closeWindow_accel, afterWindow_wseq, ih, wsAdd_succ, List.length_append, List.length_singleton]

/-- A powered accelerator stays powered, so that each of its windows ends. -/
theorem foldl_exec_acceleratorWindow {slot : Nat} {f : Host.Outcome State Fault Refusal → AccelSense → Host.Outcome State Fault Refusal}
    (hf : ∀ u x, f (.next u) x = exec (.acceleratorWindow slot x) u) (xs : List AccelSense) {s : State} (hpowered : (s.accel slot).powered = true) :
    xs.foldl f (.next s) = .next (xs.foldl (fun u x => u.closeWindow slot x) s) := by
  induction xs generalizing s with
  | nil => rfl
  | cons x xs ih =>
    rw [List.foldl_cons, hf, exec_acceleratorWindow x hpowered, ih (by rw [closeWindow_accel, afterWindow_powered, hpowered]), List.foldl_cons]

/-! ### O48, O55 and O57 -/

/-- Settles O48: each row's lemma, or the branch of the row that the premises leave. -/
theorem acceleratorRows : Obligations.AcceleratorRows := by
  unfold Obligations.AcceleratorRows
  refine ⟨?command, ?burst, ?push, ?rows⟩
  case command =>
    intro slot f s hpowered
    dsimp only
    rw [exec_acceptCommandFrame f hpowered]
    refine ⟨fun hcrc => ?_, fun hcrc hother => ?_, fun hcrc hslot hepoch => ⟨fun hold => ?_, fun hnew => ?_⟩⟩
    · rw [if_pos hcrc]
    · have hnot : (s.accel slot).takes slot f.slot f.epoch ≠ true := by
        rw [ne_eq, takes_iff]
        omega
      rw [if_neg (not_not.2 hcrc), if_neg fun h => hnot h.1]
    · rw [if_neg (not_not.2 hcrc), if_neg (by simp [hold])]
    · rw [if_neg (not_not.2 hcrc), if_pos ⟨takes_iff.2 ⟨hpowered, hslot, hepoch⟩, hnew⟩]
      rfl
  case burst => exact fun _ _ _ htakes hcrc hseq => exec_acceptBurstFrame_accepted htakes hcrc hseq
  case push =>
    intro slot x s htakes hcrc
    dsimp only
    rw [exec_acceptPushBlock htakes hcrc]
    refine ⟨fun hfirst hblock hst => ?_, fun hfirst hnext => ?_, fun hfirst hgap => ?_⟩
    · simp only [hfirst, hblock, hst, ne_eq, not_false_eq_true, decide_true, Bool.and_self, if_true]
    · simp only [hfirst, hnext, Bool.false_and, Bool.false_eq_true, if_false, if_true]
    · simp only [hfirst, hgap, Bool.false_and, Bool.false_eq_true, if_false]
  case rows =>
    intro slot sense ok s hpowered
    dsimp only
    refine ⟨fun hleased hpast => ?lapse, fun hleased => ?window, fun hburst hend => ?burstEnd, ?reset, fun hbusy hfree hleased => ?step,
      fun hquiesce => ?quiesced, fun hlast hst => ?verify⟩
    case lapse => exact congrArg Host.Outcome.next (modAccel_congr (if_pos (by simp [hpowered, hleased, passed_of hpast])))
    case window => rw [exec_acceleratorWindow sense hpowered, State.closeWindow, afterWindow_of_leased sense hleased]
    case burstEnd => exact congrArg Host.Outcome.next (modAccel_congr (if_pos (by simp [hburst, hend])))
    case reset => exact congrArg Host.Outcome.next (modAccel_congr (if_pos hpowered))
    case step => exact congrArg Host.Outcome.next (modAccel_congr (if_pos (by simp [hpowered, hbusy, hfree, hleased])))
    case quiesced => exact congrArg Host.Outcome.next (modAccel_congr (if_pos (by simp [hpowered, hquiesce])))
    case verify => exact congrArg Host.Outcome.next (modAccel_congr (if_pos (by simp [hpowered, hlast, hst])))

/-- Settles O55: a window takes WSEQ one step along its cycle, and no other row moves it. -/
theorem windowSequences : Obligations.WindowSequences := by
  unfold Obligations.WindowSequences
  refine ⟨?reset, ?window, ?others, ?windows, ?cycle, ?order, ?zero, fun a b => seqNewer_iff a b⟩
  case reset => exact fun slot s hpowered =>
    runs_modAccel (P := fun a => a.powered = true ∧ a.wseq = 0) rfl (by rw [if_pos hpowered]; exact ⟨rfl, rfl⟩)
  case window =>
    intro slot x s hpowered
    refine ⟨_, exec_acceleratorWindow x hpowered, ?_, ?_, ?_, (s.accel slot).frame slot s.now x, rfl, rfl, rfl⟩
    · rw [closeWindow_accel, afterWindow_powered, hpowered]
    · rw [closeWindow_accel, afterWindow_wseq]
      exact wsAdd_ne_zero _ (.inr Nat.one_ne_zero)
    · rw [closeWindow_accel, afterWindow_wseq, wsAdd_one]
  case others =>
    intro slot s cf bf pb ok c hc
    have keeps {i : Instr} {f : Accel → Accel} (hrow : exec i s = .next (s.modAccel slot f)) (hf : ∀ a, (f a).wseq = a.wseq) :
        Runs i s fun t => (t.accel slot).wseq = (s.accel slot).wseq := runs_modAccel (P := fun a => a.wseq = (s.accel slot).wseq) hrow (hf _)
    simp only [List.mem_cons, List.not_mem_nil, or_false] at hc
    obtain rfl | rfl | rfl | rfl | rfl | rfl | rfl | rfl := hc
    · exact runs_acceptCommandFrame_wseq slot cf s
    · exact (runs_acceptBurstFrame_keeps slot bf s).imp fun _ h => ⟨h.1, h.2.1⟩
    · exact (runs_acceptPushBlock_keeps slot pb s).imp fun _ h => ⟨h.1, h.2.1⟩
    · exact keeps rfl fun a => by split <;> rfl
    · exact keeps rfl fun a => by split <;> rfl
    · exact keeps rfl fun a => by split <;> rfl
    · exact keeps rfl fun a => by
        split
        · exact finishStep_wseq s slot a
        · rfl
    · exact keeps rfl fun a => by split <;> rfl
  case windows =>
    intro slot xs s hpowered hstart hsome
    refine ⟨_, foldl_exec_acceleratorWindow (fun _ _ => rfl) xs hpowered, ?_⟩
    rw [foldl_closeWindow_wseq, hstart, toNat_wsAdd_zero (by simpa using hsome)]
    rfl
  case cycle => exact fun w n h => ⟨wsAdd_ne_zero w (.inl h), toNat_wsAdd h n, wsSub_wsAdd h n⟩
  case order => exact fun a b ha hb => ⟨wsAbove_iff ha hb, wsAbove_swap_iff ha hb⟩
  case zero => exact fun a h => ⟨by rw [wsAbove, if_neg h, if_pos rfl], rfl⟩

/-- Settles O57: only the acceptance of a command frame writes the lease's start. -/
theorem leaseRenewal : Obligations.LeaseRenewal := by
  unfold Obligations.LeaseRenewal
  refine ⟨?command, ?burst, ?push, ?lapse⟩
  case command =>
    intro slot f s htakes hcrc hseq
    refine ⟨_, exec_acceptCommandFrame f (takes_iff.1 htakes).1, ?_⟩
    dsimp only
    rw [modAccel_same, if_neg (not_not.2 hcrc), if_pos ⟨htakes, hseq⟩]
    obtain ⟨-, hstart, hlapsed, haccepted⟩ := takeOpc_keeps s slot _ f
    exact ⟨hstart, hlapsed, haccepted⟩
  case burst => exact fun slot f s => (runs_acceptBurstFrame_keeps slot f s).imp fun _ h => ⟨h.1, h.2.2⟩
  case push => exact fun slot x s => (runs_acceptPushBlock_keeps slot x s).imp fun _ h => ⟨h.1, h.2.2⟩
  case lapse =>
    intro slot s hpowered hleased
    refine runs_modAccel (P := fun a => a.lapsed = decide ((s.accel slot).leaseTime + 500000 ≤ s.now) ∧ a.leaseTime = (s.accel slot).leaseTime)
      rfl ?_
    by_cases hpast : (s.accel slot).leaseTime + 500000 ≤ s.now
    · rw [if_pos (by simp [hpowered, hleased, passed_of hpast])]
      exact ⟨by simp [hpast], rfl⟩
    · rw [if_neg fun h => hpast ?_]
      · exact ⟨by simp [hleased, hpast], rfl⟩
      · simpa [hpowered, hleased, State.passed, State.now] using h

end Sys2Proof.Machine

/-!
SUPPORT. Receiving lanes, the yield of the owner with fewer of them, and the restart of a push (R40, R42, R43): one lemma for each branch of
a row, and from them O49 and O58.
-/
namespace Sys2Proof.Machine
open Sys2Proof

/-! ### The count of lanes (R43) -/

theorem fewerLanes_of_fewer {s : State} {b : Nat} (hserve : s.serving = some b) (hpeer : (s.bay (peer b)).bstate = .standby)
    (hfewer : s.lanesUp b < s.lanesUp (peer b)) : s.fewerLanes = some b := by
  simp only [State.fewerLanes, hserve, hpeer, hfewer, decide_true, Bool.and_self, if_true]

theorem fewerLanes_of_enough {s : State} {b : Nat} (hserve : s.serving = some b) (henough : s.lanesUp (peer b) ≤ s.lanesUp b) :
    s.fewerLanes = none := by
  simp only [State.fewerLanes, hserve, Nat.not_lt.2 henough, decide_false, Bool.and_false, Bool.false_eq_true, if_false]

/-- An owner that has had fewer lanes since a time yields once 16 us have passed. -/
theorem exec_laneCountYield_of_fewer {s : State} {b t : Nat} (hfewer : s.fewerLanes = some b) (hsince : (s.bay b).fewLanes = some t) :
    exec .laneCountYield s = .next (if s.passed t 16000 then s.startHandover 0 none else s) := by
  show execLaneCountYield s = _
  simp only [execLaneCountYield, hfewer, hsince]

theorem exec_laneCountYield_of_not_fewer {s : State} (hnot : s.fewerLanes = none) : exec .laneCountYield s = .next s := by
  show execLaneCountYield s = _
  simp only [execLaneCountYield, hnot]

theorem noteLanes_of_fewer {s : State} {b : Nat} (hfewer : s.fewerLanes = some b) :
    (s.noteLanes.bay b).fewLanes = (s.bay b).fewLanes.orElse fun _ => some s.now := by
  simp only [State.noteLanes, hfewer, modBay_same]

theorem noteLanes_of_not_fewer {s : State} {b : Nat} (hnot : s.fewerLanes = none) (hb : b < 2) : (s.noteLanes.bay b).fewLanes = none := by
  simp only [State.noteLanes, hnot]
  obtain rfl | rfl : b = 0 ∨ b = 1 := by omega
  · rw [modBay_ne _ _ _ _ Nat.zero_ne_one, modBay_same]
  · rw [modBay_same]

theorem exec_laneLossOfSignal {s : State} {bay slot : Nat} (hlives : s.laneLives bay = true) (hup : (s.lane slot bay).lstate ≠ .down) :
    exec (.laneLossOfSignal bay slot) s = .next (((s.modLane slot bay fun l => { l with
      lstate := .down, blockLock := false, goodFrames := 0, failedAttempts := 0, failed := false }).reportLane slot bay 1).noteLanes) :=
  congrArg Host.Outcome.next (if_pos (by simp [hlives, hup]))

/-! ### Training (R42) -/

/-- A failed attempt of training; the tenth in a row is reported (R42). -/
theorem exec_laneTrainTimeout {s : State} {bay slot : Nat} (hlives : s.laneLives bay = true) (htrain : (s.lane slot bay).lstate = .train)
    (hlock : (s.lane slot bay).blockLock = false) (htries : (s.lane slot bay).failedAttempts < 10)
    (hpast : (s.lane slot bay).trainStart + 100000 ≤ s.now) :
    exec (.laneTrainTimeout bay slot) s = .next (
      let t := s.modLane slot bay fun l =>
        { l with failedAttempts := l.failedAttempts + 1, trainStart := s.now, failed := l.failed || 9 ≤ l.failedAttempts }
      if (s.lane slot bay).failedAttempts = 9 && !(s.lane slot bay).failed then t.reportLane slot bay 2 else t) :=
  congrArg Host.Outcome.next (if_pos (by simp [hlives, htrain, hlock, htries, passed_of hpast]))

/-! ### A push that does not verify (R40) -/

theorem exec_pushRestartTimeout {s : State} {slot : Nat} (hserve : s.serving.isSome = true) (hactive : (s.pushJob slot).active = true)
    (hsent : 0 < (s.pushJob slot).nextBlock) (hpast : (s.pushJob slot).startTime + 100000000 ≤ s.now) :
    exec (.pushRestartTimeout slot) s = .next (s.pushFailed slot) :=
  congrArg Host.Outcome.next (if_pos (by simp [hserve, hactive, hsent, passed_of hpast]))

theorem pushFailed_of_few {s : State} {slot : Nat} (h : (s.pushJob slot).attempts < 2) :
    s.pushFailed slot = s.modPushJob slot fun p => { p with attempts := p.attempts + 1, nextBlock := 0, startTime := s.now } :=
  if_pos (by omega)

/-- The third failure ends the push with its event; a trial image is refused and the varnished one pushed (R40, R460). -/
theorem pushFailed_of_third {s : State} {slot : Nat} (h : 2 ≤ (s.pushJob slot).attempts) :
    s.pushFailed slot =
      let t := (s.modPushJob slot fun p => { p with attempts := 3, active := false }).raise 0x0103 [(1, slot), (1, 3)]
      if (t.slot (s.pushJob slot).imageSlot).state = 2 ∨ (t.slot (s.pushJob slot).imageSlot).state = 3 then
        (t.setSlot (s.pushJob slot).imageSlot 7).startPush slot
      else t := by
  unfold State.pushFailed
  rw [if_neg (by omega)]
  simp only [Bool.or_eq_true, decide_eq_true_eq]

/-! ### O49 and O58 -/

/-- Settles O49: each row's premises leave one branch of it. -/
theorem laneRows : Obligations.LaneRows := by
  unfold Obligations.LaneRows
  refine ⟨fun bay slot s hlives => ⟨fun hdown => ?signal, fun htrain hlock => ⟨fun hfew hpast => ?attempt, fun htenth hfirst hpast => ?tenth,
      fun hmany hpast => ?retry⟩, fun hup hquiet => ?lost, fun hnotDown => exec_laneLossOfSignal hlives hnotDown⟩, ?yield, ?push⟩
  case signal => exact congrArg Host.Outcome.next (if_pos (by simp [State.laneLives, hlives, hdown]))
  case attempt =>
    rw [exec_laneTrainTimeout hlives htrain hlock (by omega) hpast]
    exact congrArg Host.Outcome.next (if_neg (by simp [hfew.ne]))
  case tenth =>
    rw [exec_laneTrainTimeout hlives htrain hlock (by omega) hpast]
    exact congrArg Host.Outcome.next (if_pos (by simp [htenth, hfirst]))
  case retry => exact congrArg Host.Outcome.next (if_pos (by simp [State.laneLives, hlives, htrain, hlock, hmany, passed_of hpast]))
  case lost => exact congrArg Host.Outcome.next (if_pos (by simp [State.laneLives, hlives, hup, hquiet]))
  case yield =>
    intro b t s hserve hpeer hfewer hsince hpast
    rw [exec_laneCountYield_of_fewer (fewerLanes_of_fewer hserve hpeer hfewer) hsince, if_pos (passed_of hpast)]
  case push =>
    intro slot s hserve hactive hsent hpast
    rw [exec_pushRestartTimeout hserve hactive hsent hpast]
    exact ⟨fun hfew => by rw [pushFailed_of_few hfew], fun hthird => by rw [pushFailed_of_third hthird]⟩

/-- Settles O58: whether the owner has fewer lanes decides what LANE_COUNT_YIELD and the noting do. -/
theorem laneCountYield : Obligations.LaneCountYield := by
  unfold Obligations.LaneCountYield
  refine ⟨?yields, ?enough, ?noted, ?dropped, fun _ _ _ hlives hup => exec_laneLossOfSignal hlives hup⟩
  case yields =>
    intro b t s hserve hpeer hfewer hsince
    rw [exec_laneCountYield_of_fewer (fewerLanes_of_fewer hserve hpeer hfewer) hsince]
    refine ⟨fun hpast => ⟨by rw [if_pos (passed_of hpast)], fun hok => if_pos hok⟩, fun hearly => ?_⟩
    rw [if_neg (by simpa [State.passed, State.now] using hearly)]
  case enough => exact fun b s hserve henough => exec_laneCountYield_of_not_fewer (fewerLanes_of_enough hserve henough)
  case noted =>
    intro b s hserve hpeer hfewer
    rw [noteLanes_of_fewer (fewerLanes_of_fewer hserve hpeer hfewer)]
    exact ⟨fun t hsince => by rw [hsince]; rfl, fun hnone => by rw [hnone]; rfl⟩
  case dropped => exact fun b s hserve hb henough => noteLanes_of_not_fewer (fewerLanes_of_enough hserve henough) hb

end Sys2Proof.Machine

/-!
SUPPORT. The governor's setting commands (R26, R58 to R80, R284): the setting that each leaves on the slots it names, and from them O10 and
O56.
-/
namespace Sys2Proof.Machine
open Sys2Proof

/-! ### Checks -/

theorem firstBad_cons_none {c : Chk} {cs : List Chk} (hc : c.bad = false) (hcs : firstBad cs = none) : firstBad (c :: cs) = none := by
  simp only [firstBad, hc, Bool.false_eq_true, if_false, hcs]

theorem inRange_passes {ok : Bool} (off : Nat) (h : ok = true) : (inRange ok off).bad = false := by simp [inRange, h]

theorem joint_passes {ok : Bool} (off : Nat) (h : ok = true) : (joint ok off).bad = false := by simp [joint, h]

theorem switchOk_passes {v : Nat} (off : Nat) (h : v < 2) : (switchOk v off).bad = false := inRange_passes off (by simp [h])

theorem within_of {lo v hi : Nat} (hlo : lo ≤ v) (hhi : v ≤ hi) : (decide (lo ≤ v) && decide (v ≤ hi)) = true := by simp [hlo, hhi]

theorem firstBad_append_some {a b : List Chk} {x : Nat × Nat} (h : firstBad a = some x) : firstBad (a ++ b) = some x := by
  induction a with
  | nil => cases h
  | cons c r ih =>
    simp only [firstBad, List.cons_append] at h ⊢
    split
    next hc => rwa [if_pos hc] at h
    next hc => exact ih (by rwa [if_neg hc] at h)

/-- A ready command with a parameter that breaks its row's checks is refused for the first such parameter (R278). -/
theorem verdict_of_ready_refuses {s : State} {i : Instr} {c : CmdSpec} {status res0 : Nat} (hspec : s.specOf i = some c)
    (hready : ready i c.plen c.optMask s = true) (hgrid : c.grid = none) (hbad : firstBad c.params = some (status, res0)) :
    s.canFetch (hdrOf i).ring c.opcode = true ∧ s.verdict i (hdrOf i) c = .refuse status res0 := by
  unfold ready at hready
  rw [specOf_opcode hspec] at hready
  simp only [Bool.and_eq_true, decide_eq_true_eq, Bool.not_eq_true', beq_iff_eq, Option.isNone_iff_eq_none] at hready
  obtain ⟨⟨⟨⟨⟨⟨hfetch, hseq⟩, hplen⟩, hrsv⟩, hopt⟩, hat⟩, -⟩ := hready
  have hall : firstBad (c.params ++ s.deviceState i c.opcode (hdrOf i).ring ++ c.states ++ c.late) = some (status, res0) :=
    firstBad_append_some (firstBad_append_some (firstBad_append_some hbad))
  refine ⟨hfetch, ?_⟩
  simp only [State.verdict, hseq, Bool.not_true, Bool.false_eq_true, if_false, hgrid, hplen, ne_eq, not_true_eq_false, hrsv, hopt, Bool.false_or,
    decide_false, hat, hall]

/-- A refused command is answered at once (R278). -/
theorem submit_of_refused {s : State} {i : Instr} {h : CmdHdr} {c : CmdSpec} {status res0 : Nat} (hfetch : s.canFetch h.ring c.opcode = true)
    (hrefuse : s.verdict i h c = .refuse status res0) :
    s.submit i h c = s.drawFree.2.answer h.ring (completionWords h.seq c.opcode status [BitVec.ofNat 64 res0]) := by
  simp only [State.submit, hfetch, Bool.not_true, Bool.false_eq_true, if_false, hrefuse]

/-- A ready command whose row checks nothing but its parameters is carried out where these pass. -/
theorem carries_of_params {i : Instr} {s : State} {c : CmdSpec} {eff : Nat → State → State} (hspec : s.specOf i = some c)
    (hready : ready i c.plen c.optMask s = true) (hgrid : c.grid = none) (hstates : c.states = []) (hlate : c.late = [])
    (hpass : firstBad c.params = none) (heff : ∀ j u, State.effectOf u j i = eff j u) : Carries i s eff :=
  carries_of hspec hready hgrid (by rw [hstates, hlate, List.append_nil, List.append_nil, hpass]) heff

/-! ### The slots named -/

/-- A change of every slot of a list, each once. -/
theorem foldl_modGovParam_govParam {l : List Nat} (hnodup : l.Nodup) (s : State) (f : GovParam → GovParam) (n : Nat) :
    (l.foldl (fun u k => u.modGovParam k f) s).govParam n = if n ∈ l then f (s.govParam n) else s.govParam n := by
  induction l generalizing s with
  | nil => rfl
  | cons k l ih =>
    rw [List.nodup_cons] at hnodup
    rw [List.foldl_cons, ih hnodup.2]
    by_cases hk : n = k
    · subst hk
      rw [if_neg hnodup.1, if_pos List.mem_cons_self, modGovParam_same]
    · rw [modGovParam_ne _ _ _ _ hk]
      simp only [List.mem_cons, hk, false_or]

theorem slotsOf_nodup (slot : Nat) : (slotsOf slot).Nodup := by
  unfold slotsOf
  split
  · exact List.nodup_range
  · exact List.nodup_singleton slot

theorem modSlots_govParam (s : State) (slot n : Nat) (f : GovParam → GovParam) :
    (s.modSlots slot f).govParam n = if n ∈ slotsOf slot then f (s.govParam n) else s.govParam n :=
  foldl_modGovParam_govParam (slotsOf_nodup slot) s f n

theorem mem_slotsOf {slot n : Nat} (hn : n < 8) : n ∈ slotsOf slot ↔ slot = n ∨ slot = 0xFE := by
  unfold slotsOf
  split
  next h => simp [h, hn]
  next h => simp [h, eq_comm]

theorem ok_govParam (s : State) (j n : Nat) : (s.ok j).govParam n = s.govParam n := by
  unfold State.govParam
  rw [ok_only _ _ .gov (by simp)]

/-! ### The command that O10 and O56 share -/

theorem carries_govSetSafeDensity {h : CmdHdr} {slot dens : Nat} {s : State} (hready : ready (.govSetSafeDensity h slot dens) 2 0 s = true)
    (hslot : slotOk slot = true) (hlo : 64 ≤ dens) (hhi : dens ≤ 240) :
    Carries (.govSetSafeDensity h slot dens) s fun j u => (u.modSlots slot fun p => { p with safeDensity := dens }).ok j :=
  carries_of_params (c := specGovSetSafeDensity h slot dens s) rfl hready rfl rfl rfl
    (firstBad_cons_none (inRange_passes 0 hslot) (firstBad_cons_none (inRange_passes 1 (within_of hlo hhi)) rfl)) fun _ _ => rfl

/-! ### O10 and O56 -/

/-- Settles O10: each command's checks pass by its premises, and its effect is its row's. -/
theorem governorSettings : Obligations.GovernorSettings := by
  unfold Obligations.GovernorSettings
  refine ⟨?cap, ?slope, ?priority, ?gain, ?model, ?safeDensity, ?oversub, ?limits, ?runahead, ?escalation, ?telemetry, ?slots⟩
  case cap =>
    intro h slot cap s hready hslot hrange hjoint
    refine carries_of_params (c := specGovSetCap h slot cap s) rfl hready rfl rfl rfl
      (firstBad_cons_none (inRange_passes 0 ?_) (firstBad_cons_none (inRange_passes 4 hrange) (firstBad_cons_none (joint_passes 4 hjoint) rfl)))
      fun _ _ => rfl
    simpa only [Bool.or_eq_true, decide_eq_true_eq] using hslot
  case slope =>
    intro h slot rise fall s hready hslot hriseLo hriseHi hfallLo hfallHi
    exact carries_of_params (c := specGovSetSlope h slot rise fall s) rfl hready rfl rfl rfl
      (firstBad_cons_none (inRange_passes 0 hslot) (firstBad_cons_none (inRange_passes 4 (within_of hriseLo hriseHi))
        (firstBad_cons_none (inRange_passes 8 (within_of hfallLo hfallHi)) rfl))) fun _ _ => rfl
  case priority =>
    intro h slot crit s hready hslot hcrit
    exact carries_of_params (c := specGovSetPriority h slot crit s) rfl hready rfl rfl rfl
      (firstBad_cons_none (inRange_passes 0 hslot) (firstBad_cons_none (switchOk_passes 1 hcrit) rfl)) fun _ _ => rfl
  case gain =>
    intro h slot kp s hready hslot hlo hhi
    exact carries_of_params (c := specGovSetGain h slot kp s) rfl hready rfl rfl rfl
      (firstBad_cons_none (inRange_passes 0 hslot) (firstBad_cons_none (inRange_passes 4 (within_of hlo hhi)) rfl)) fun _ _ => rfl
  case model =>
    intro h slot model s hready hslot hmodel
    exact carries_of_params (c := specGovSetModel h slot model s) rfl hready rfl rfl rfl
      (firstBad_cons_none (inRange_passes 0 hslot) (firstBad_cons_none (inRange_passes 1 (decide_eq_true hmodel)) rfl)) fun _ _ => rfl
  case safeDensity => exact fun _ _ _ _ hready hslot hlo hhi => carries_govSetSafeDensity hready hslot hlo hhi
  case oversub =>
    intro h osf s hready hlo hhi hjoint
    exact carries_of_params (c := specGovSetOversub h osf s) rfl hready rfl rfl rfl
      (firstBad_cons_none (inRange_passes 4 (within_of hlo hhi)) (firstBad_cons_none (joint_passes 4 hjoint) rfl)) fun _ _ => rfl
  case limits =>
    intro h slot item value s hready hvalue hitem
    obtain ⟨hslot, hrange⟩ : (if item = 0 then decide (slot = 0xFF) else slotOk slot) = true ∧
        (if item = 0 then s.limitOk 0 0 value else s.everySlot slot fun s n => s.limitOk n item value) = true := by
      split_ifs at hvalue ⊢ <;> exact (Bool.and_eq_true _ _).mp hvalue
    exact carries_of_params (c := specGovSetLimits h slot item value s) rfl hready rfl rfl rfl
      (firstBad_cons_none (inRange_passes 0 hslot) (firstBad_cons_none (inRange_passes 1 (decide_eq_true hitem))
        (firstBad_cons_none (inRange_passes 4 hrange) rfl))) fun _ _ => rfl
  case runahead =>
    intro h slot on missTol raHold s hready hslot hon hmiss hhold
    exact carries_of_params (c := specGovSetRunahead h slot on missTol raHold s) rfl hready rfl rfl rfl
      (firstBad_cons_none (inRange_passes 0 hslot) (firstBad_cons_none (switchOk_passes 1 hon) (firstBad_cons_none (inRange_passes 4 hmiss)
        (firstBad_cons_none (inRange_passes 8 (decide_eq_true hhold)) rfl)))) fun _ _ => rfl
  case escalation =>
    intro h escSat shedWait parkWait marked s hready hsatLo hsatHi hshedLo hshedHi hparkLo hparkHi hmarked
    exact carries_of_params (c := specGovSetEscalation h escSat shedWait parkWait marked s) rfl hready rfl rfl rfl
      (firstBad_cons_none (inRange_passes 4 (within_of hsatLo hsatHi)) (firstBad_cons_none (inRange_passes 8 (within_of hshedLo hshedHi))
        (firstBad_cons_none (inRange_passes 12 (within_of hparkLo hparkHi))
          (firstBad_cons_none (inRange_passes 16 (decide_eq_true hmarked)) rfl)))) fun _ _ => rfl
  case telemetry =>
    intro h period s hready hlo hhi
    exact carries_of_params (c := specGovSetTelemetry h period s) rfl hready rfl rfl rfl
      (firstBad_cons_none (inRange_passes 4 (within_of hlo hhi)) rfl) fun _ _ => rfl
  case slots =>
    intro s slot n f _ hn
    simp only [modSlots_govParam, mem_slotsOf hn]

/-- Settles O56: the two ends of the command's check of its range, and what its effect writes. -/
theorem safeDensityCommand : Obligations.SafeDensityCommand := by
  unfold Obligations.SafeDensityCommand
  refine ⟨fun _ => rfl, fun _ _ _ _ hready hslot hlo hhi => carries_govSetSafeDensity hready hslot hlo hhi, ?one, ?every, ?refused⟩
  case one =>
    intro u slot dens j hslot
    have honly : slotsOf slot = [slot] := if_neg (by omega)
    refine ⟨?_, fun n hn => ?_⟩
    · rw [ok_govParam, modSlots_govParam, if_pos (by rw [honly]; exact List.mem_singleton_self slot)]
    · rw [ok_govParam, modSlots_govParam, if_neg (by rwa [honly, List.mem_singleton])]
  case every =>
    intro u dens j n hn
    rw [ok_govParam, modSlots_govParam, if_pos ((mem_slotsOf hn).2 (.inr rfl))]
  case refused =>
    intro h slot dens s hready hslot hout
    have hbad : firstBad (specGovSetSafeDensity h slot dens s).params = some (0x0104, 1) := by
      have hrange : (decide (64 ≤ dens) && decide (dens ≤ 240)) = false := by
        simp only [Bool.and_eq_false_iff, decide_eq_false_iff_not]
        omega
      simp only [specGovSetSafeDensity, firstBad, inRange, hslot, hrange, Bool.not_true, Bool.not_false, Bool.false_eq_true, if_false, if_true]
    obtain ⟨hfetch, hverdict⟩ := verdict_of_ready_refuses (c := specGovSetSafeDensity h slot dens s) rfl hready rfl hbad
    refine ⟨_, congrArg Host.Outcome.next (submit_of_refused hfetch hverdict), rfl, fun n => ?_⟩
    unfold State.govParam
    rw [answer_only _ _ _ .gov (by simp), drawFree_only _ .gov (by simp)]

end Sys2Proof.Machine

/-!
SUPPORT. The governor's rows (R30, R42, R45, R53, R54, R74 to R80): a counter frame's ends, the pass, the window and the escalation's
deadlines, and from them O45.
-/
namespace Sys2Proof.Machine
open Sys2Proof

/-! ### Counter frames (R30, R42) -/

/-- What a counter frame of the lane's own slot does when it is newer than the last, or the first after reset: it trains the lane, becomes the
bay's view, and is acted on. -/
def State.takeFrame (s : State) (bay stalk : Nat) (f : CounterFrame) : State :=
  let t := (s.trainLane stalk bay).modLane stalk bay fun l => { l with lastWseq := some f.wseq }
  (t.modView stalk bay fun v => v.place f t.now).frameSays bay stalk f

section
variable {s : State} {bay stalk : Nat} {f : CounterFrame} (hlives : (s.bay bay).alive = true) (hup : (s.lane stalk bay).lstate ≠ .down)
include hlives hup

theorem exec_counterFrame_of_badCrc (hcrc : f.crc ≠ counterCrc f) : exec (.counterFrame bay stalk f) s =
    .next (s.modLane stalk bay fun l => { l with crcErr := satAdd 32 l.crcErr 1, goodFrames := 0 }) := by
  show execCounterFrame bay stalk f s = _
  unfold execCounterFrame
  rw [if_neg (by simp [State.laneLives, hlives, hup]), if_pos hcrc]

theorem exec_counterFrame_of_wrongSlot (hcrc : f.crc = counterCrc f) (hslot : f.slot ≠ stalk) : exec (.counterFrame bay stalk f) s =
    .next ((s.modLane stalk bay fun l => { l with goodFrames := 0 }).raise 0x0101 [(1, stalk), (1, f.slot)]) := by
  show execCounterFrame bay stalk f s = _
  unfold execCounterFrame
  rw [if_neg (by simp [State.laneLives, hlives, hup]), if_neg (not_not.2 hcrc), if_pos hslot]

theorem exec_counterFrame_of_older (hcrc : f.crc = counterCrc f) (hslot : f.slot = stalk) (hwseq : f.wseq ≠ 0) {w : Word32}
    (hlast : ((s.trainLane stalk bay).lane stalk bay).lastWseq = some w) (holder : wsAbove f.wseq w = false) :
    exec (.counterFrame bay stalk f) s = .next (s.trainLane stalk bay) := by
  show execCounterFrame bay stalk f s = _
  unfold execCounterFrame
  rw [if_neg (by simp [State.laneLives, hlives, hup]), if_neg (not_not.2 hcrc), if_neg (not_not.2 hslot)]
  simp only [hlast, holder, hwseq, ne_eq, not_false_eq_true, decide_true, Bool.not_false, Bool.and_self, if_true]

theorem exec_counterFrame_of_newer (hcrc : f.crc = counterCrc f) (hslot : f.slot = stalk)
    (hnewer : f.wseq = 0 ∨ ((s.trainLane stalk bay).lane stalk bay).lastWseq = none ∨
      ∃ w, ((s.trainLane stalk bay).lane stalk bay).lastWseq = some w ∧ wsAbove f.wseq w = true) :
    exec (.counterFrame bay stalk f) s = .next (s.takeFrame bay stalk f) := by
  show execCounterFrame bay stalk f s = _
  unfold execCounterFrame
  rw [if_neg (by simp [State.laneLives, hlives, hup]), if_neg (not_not.2 hcrc), if_neg (not_not.2 hslot)]
  refine congrArg Host.Outcome.next (if_neg ?_)
  obtain hfirst | hnone | ⟨w, hlast, habove⟩ := hnewer
  · simp [hfirst]
  · simp [hnone]
  · simp [hlast, habove]

end

/-! ### The escalation's deadlines (R75, R76) -/

section
variable {s : State} {b : Nat} (hserve : s.serving = some b) (hshed : s.gov.esc.state = .shed)
  (hpast : s.gov.esc.since + s.gov.tray.shedWait * 1000 ≤ s.now) (hshort : 0 < s.gov.esc.shortfall)
include hserve hshed hpast hshort

theorem exec_shedWaitExpiry_of_choice {n : Nat} (hchoice : s.parkChoice b = some n) : exec .shedWaitExpiry s = .next (
    ((s.modEsc fun e => { e with state := .parking, since := s.now, parkSlot := n, noticeTime := s.now, ackPark := setBit e.ackPark n false }).setQuiesce
      n true).raise 0x0108 [(1, 2 ^ n), (1, 0)]) := by
  show execShedWaitExpiry s = _
  simp only [execShedWaitExpiry, hserve, hshed, passed_of hpast, hshort, hchoice, decide_true, Bool.and_self, if_true]

theorem exec_shedWaitExpiry_of_none (hnone : s.parkChoice b = none) : exec .shedWaitExpiry s =
    .next ((s.modEsc fun e => { e with state := .unreachable, since := s.now }).reportUnreachable) := by
  show execShedWaitExpiry s = _
  simp only [execShedWaitExpiry, hserve, hshed, passed_of hpast, hshort, hnone, decide_true, Bool.and_self, if_true]

end

/-! ### O45 -/

/-- Settles O45: each row's premises leave one branch of it. -/
theorem governorRows : Obligations.GovernorRows := by
  unfold Obligations.GovernorRows
  refine ⟨?frame, ?readPin, ?periodic, ?deadlines⟩
  case frame =>
    intro bay stalk f s hlives hup
    refine ⟨fun hcrc => exec_counterFrame_of_badCrc hlives hup hcrc,
      fun hcrc hslot => exec_counterFrame_of_wrongSlot hlives hup hcrc hslot, fun hcrc hslot => ⟨?_, ?_⟩⟩
    · rintro hwseq ⟨w, hlast, holder⟩
      exact exec_counterFrame_of_older hlives hup hcrc hslot hwseq hlast holder
    · exact fun hnewer => exec_counterFrame_of_newer hlives hup hcrc hslot hnewer
  case readPin =>
    intro slot words s hserve hslot
    exact congrArg Host.Outcome.next (if_neg (by simp [Option.isSome_iff_ne_none.1 hserve, hslot]))
  case periodic =>
    intro bay s hruns hawake
    refine ⟨fun hpast => ?pass, ?window⟩
    case pass => exact congrArg Host.Outcome.next (if_neg (by simp [hruns, hawake, passed_of hpast]))
    case window => exact congrArg Host.Outcome.next (if_neg (by simp [hruns, hawake]))
  case deadlines =>
    intro b s hserve
    have hserves : s.serving.isSome = true := by rw [hserve]; rfl
    refine ⟨fun hdue => ?record, fun hsat hpast => ?saturated, fun hshed hpast hshort => ?shed, fun hpark hpast => ?park,
      fun hunreach hpast => ?unreachable⟩
    case record =>
      show execGovernorRecord s = _
      simp only [execGovernorRecord, hserve, hdue, if_true]
      rfl
    case saturated => exact congrArg Host.Outcome.next (if_pos (by simp [hserves, hsat, passed_of hpast]))
    case shed =>
      exact ⟨fun _ hchoice => exec_shedWaitExpiry_of_choice hserve hshed hpast hshort hchoice,
        fun hnone => exec_shedWaitExpiry_of_none hserve hshed hpast hshort hnone⟩
    case park => exact congrArg Host.Outcome.next (if_pos (by simp [hserves, hpark, passed_of hpast]))
    case unreachable => exact congrArg Host.Outcome.next (if_pos (by simp [hserves, hunreach, passed_of hpast]))

end Sys2Proof.Machine

/-!
SUPPORT. The governor's actions (R75, R77, R85 to R100, R169 to R171, R284): the checks that each passes and what it does at its window, and
from them O11.
-/
namespace Sys2Proof.Machine
open Sys2Proof

/-! ### Checks -/

theorem check_passes {ok : Bool} (status res0 : Nat) (h : ok = true) : (check ok status res0).bad = false := by simp [check, h]

theorem rightState_passes {ok : Bool} (code : Nat) (h : ok = true) : (rightState ok code).bad = false := by simp [rightState, h]

theorem bufAligned_passes {buf : Nat} (halign : buf % 64 = 0) (hhi : buf < 2 ^ 64) : (bufAligned buf).bad = false :=
  check_passes _ _ (by rw [decide_eq_true halign, decide_eq_true hhi]; rfl)

/-- A ready command whose row checks its parameters and the state of what it names is carried out where both pass. -/
theorem carries_of_params_states {i : Instr} {s : State} {c : CmdSpec} {eff : Nat → State → State} (hspec : s.specOf i = some c)
    (hready : ready i c.plen c.optMask s = true) (hgrid : c.grid = none) (hlate : c.late = []) (hparams : firstBad c.params = none)
    (hstates : firstBad c.states = none) (heff : ∀ j u, State.effectOf u j i = eff j u) : Carries i s eff :=
  carries_of hspec hready hgrid (by rw [hlate, List.append_nil, firstBad_append_none hparams, hstates]) heff

/-! ### Linear weights (R48, R170, R171) -/

/-- GOV_LOAD_WEIGHTS of a linear buffer names no tensor: its slots, VRAIL and the buffer are all that can fail. -/
theorem firstBad_specGovLoadWeights_linear {h : CmdHdr} {slot vrail buf : Nat} (tensor delta : Nat) (s : State) (hslot : slotOk slot = true)
    (hvrail : vrail ≤ 31) (halign : buf % 64 = 0) (hhi : buf < 2 ^ 64) (hread : h.buf.isSome = true) :
    let c := specGovLoadWeights h slot 0 vrail tensor buf 8204 delta s
    firstBad (c.params ++ c.states ++ c.late) = none :=
  firstBad_cons_none (inRange_passes 0 hslot) (firstBad_cons_none (inRange_passes 1 rfl) (firstBad_cons_none (inRange_passes 2 (decide_eq_true hvrail))
    (firstBad_cons_none (bufAligned_passes halign hhi) (firstBad_cons_none rfl (firstBad_cons_none rfl
      (firstBad_cons_none (check_passes _ _ hread) (firstBad_cons_none (check_passes _ _ (by simp)) rfl)))))))

/-! ### Margins (R100) -/

/-- The item named, as a margin parameter takes it (R100). -/
theorem effGovSetMargin_eq {item : Nat} (hitem : item < 6) (j slot : Nat) (value : BitVec 32) (u : State) : effGovSetMargin j slot item value u =
    ((slotsOf slot).foldl (fun s who => s.modMarginParam who fun m =>
      if item = 0 then { m with tgt := value.toInt } else if item = 1 then { m with band := value.toInt }
      else if item = 2 then { m with crit := value.toInt } else if item = 3 then { m with gbFloor := value.toInt }
      else if item = 4 then { m with trimMax := value.toInt }
      else { m with regulator := if value = 0xFFFF then none else some (value.toNat / 256, value.toNat % 256) }) u).ok j := by
  interval_cases item <;> rfl

/-! ### O11 -/

/-- Settles O11: each command's checks pass by its premises, and its effect is its row's. -/
theorem governorActions : Obligations.GovernorActions := by
  unfold Obligations.GovernorActions
  refine ⟨?loadWeights, ?parkAck, ?unpark, ?setOp, ?setDroop, ?setMargin, ?trimReset, ?status⟩
  case loadWeights =>
    intro h slot vrail tensor buf delta s hready hslot hvrail halign hhi hread
    exact carries_of (c := specGovLoadWeights h slot 0 vrail tensor buf 8204 delta s) rfl hready rfl
      (firstBad_specGovLoadWeights_linear tensor delta s hslot hvrail halign hhi hread) fun _ _ => rfl
  case parkAck =>
    intro h slot s hready hslot hquiesce
    exact carries_of_params_states (c := specGovParkAck h slot s) rfl hready rfl rfl (firstBad_cons_none (inRange_passes 0 hslot) rfl)
      (firstBad_cons_none (rightState_passes _ hquiesce) rfl) fun _ _ => rfl
  case unpark =>
    intro h slot s hready hslot hparked
    exact carries_of_params_states (c := specGovUnpark h slot s) rfl hready rfl rfl (firstBad_cons_none (inRange_passes 0 hslot) rfl)
      (firstBad_cons_none (rightState_passes _ hparked) rfl) fun _ _ => rfl
  case setOp =>
    intro h slot clear timeout s hready hslot hclear hlo hhi
    exact carries_of_params (c := specGovSetOp h slot clear timeout s) rfl hready rfl rfl rfl
      (firstBad_cons_none (inRange_passes 0 hslot) (firstBad_cons_none (switchOk_passes 1 hclear)
        (firstBad_cons_none (inRange_passes 4 (within_of hlo hhi)) rfl))) fun _ _ => rfl
  case setDroop =>
    intro h slot dens len resume di storm s hready hslot hdensLo hdensHi hlenLo hlenHi hresumeLo hresumeHi hdiLo hdiHi hstormLo hstormHi
    exact carries_of_params (c := specGovSetDroop h slot dens len resume di storm s) rfl hready rfl rfl rfl
      (firstBad_cons_none (inRange_passes 0 hslot) (firstBad_cons_none (inRange_passes 1 (within_of hdensLo hdensHi))
        (firstBad_cons_none (inRange_passes 2 (within_of hlenLo hlenHi)) (firstBad_cons_none (inRange_passes 4 (within_of hresumeLo hresumeHi))
          (firstBad_cons_none (inRange_passes 8 (within_of hdiLo hdiHi)) (firstBad_cons_none (inRange_passes 12 (within_of hstormLo hstormHi)) rfl))))))
      fun _ _ => rfl
  case setMargin =>
    intro h slot item value s hready hwho hitem hvalue hregulator
    refine carries_of_params (c := specGovSetMargin h slot item value s) rfl hready rfl rfl rfl
      (firstBad_cons_none (inRange_passes 0 hwho) (firstBad_cons_none (inRange_passes 1 (decide_eq_true hitem))
        (firstBad_cons_none (inRange_passes 4 hvalue) (firstBad_cons_none (joint_passes 0 ?_) rfl))))
      fun j u => effGovSetMargin_eq hitem j slot value u
    simpa only [Bool.not_eq_true', Bool.and_eq_false_imp, decide_eq_true_eq] using hregulator
  case trimReset =>
    intro h slot s hready hwho
    exact carries_of_params (c := specGovTrimReset h slot s) rfl hready rfl rfl rfl (firstBad_cons_none (inRange_passes 0 hwho) rfl) fun _ _ => rfl
  case status =>
    intro h slot buf s hready hslot halign hhi
    exact carries_of_params (c := specGovStatus h slot buf s) rfl hready rfl rfl rfl
      (firstBad_cons_none (inRange_passes 0 (decide_eq_true hslot)) (firstBad_cons_none (bufAligned_passes halign hhi) rfl)) fun _ _ => rfl

end Sys2Proof.Machine

/-!
SUPPORT. The rows of the operating points, droop and margins (R78, R80 to R99): what each deadline, reading and evaluation does, and from them
O46.
-/
namespace Sys2Proof.Machine
open Sys2Proof

/-! ### Dwell times (R78, R98) -/

section
variable {s : State} {bay slot t : Nat} (hruns : s.runs bay = true) (hidle : (s.chg bay slot).cst = .idle)
include hruns hidle

theorem exec_opdnExpiry_of_dwelt (hhigh : (s.chg bay slot).highSince = some t) (habove : 0 < (s.chg bay slot).fIndex)
    (hpast : t + (s.govParam slot).opdnT * 1000 ≤ s.now) :
    exec (.opdnExpiry bay slot) s = .next (s.pickTarget bay slot ((s.chg bay slot).fIndex - 1)) := by
  show execOpdnExpiry bay slot s = _
  simp only [execOpdnExpiry, hhigh]
  exact congrArg Host.Outcome.next (if_pos (by simp [hruns, hidle, habove, passed_of hpast]))

theorem exec_opupExpiry_of_dwelt (hzero : (s.chg bay slot).zeroSince = some t) (hbelow : (s.chg bay slot).fIndex + 1 < (s.opPoints slot).length)
    (hallowed : (s.trimOf slot ((s.chg bay slot).fIndex + 1)).forbidden = false) (hpast : t + (s.govParam slot).opupT * 1000 ≤ s.now) :
    exec (.opupExpiry bay slot) s = .next (s.pickTarget bay slot ((s.chg bay slot).fIndex + 1)) := by
  show execOpupExpiry bay slot s = _
  simp only [execOpupExpiry, hzero]
  exact congrArg Host.Outcome.next (if_pos (by simp [hruns, hidle, hbelow, hallowed, passed_of hpast]))

end

/-! ### Step and droop deadlines (R85, R87, R91) -/

/-- The slot's change abandoned on a bay (R85). -/
def State.haltChange (s : State) (bay slot : Nat) : State :=
  s.modChg bay slot fun c => { c with cst := .halted, target := none, trimDue := false, holdFrames := false, sendResume := false }

section
variable {s : State} {bay slot : Nat} (hruns : s.runs bay = true)
include hruns

/-- A step or a resume that is not answered in time is abandoned; the owner says which OPC it was (R85). -/
theorem exec_opcTimeout_of_late (hlate : ((s.chg bay slot).cst = .stepping ∧ (s.chg bay slot).stepNew = false ∧
        (s.chg bay slot).stepTime + (s.govParam slot).opcTimeout * 1000 ≤ s.now) ∨
      ((s.chg bay slot).cst = .resuming ∧ (s.chg bay slot).resumeTime + (s.govParam slot).opcTimeout * 1000 ≤ s.now)) :
    exec (.opcTimeout bay slot) s = .next (if (s.haltChange bay slot).isOwner bay then (s.haltChange bay slot).raise 0x010B [(1, slot),
      (1, (s.chg bay slot).stepPoint), (1, if (s.chg bay slot).cst = .resuming then 4 else if (s.chg bay slot).stepVolt then 1 else 2)]
      else s.haltChange bay slot) := by
  refine congrArg Host.Outcome.next (if_neg ?_)
  obtain ⟨hstep, hsent, hpast⟩ | ⟨hresume, hpast⟩ := hlate
  · simp [hruns, hstep, hsent, passed_of hpast]
  · simp [hruns, hresume, passed_of hpast]

theorem exec_droopResumeExpiry_of_quiet {b : Nat} (hburst : (s.chg bay slot).lastBurst = some b)
    (hheld : (s.chg bay slot).cst = .frozen ∨ ((s.chg bay slot).cst = .halted ∧ (s.chg bay slot).holdFrames = true))
    (hpast : b + (s.govParam slot).droopResume * 1000 ≤ s.now) :
    exec (.droopResumeExpiry bay slot) s = .next (s.modChg bay slot fun c => { c with sendResume := true }) := by
  show execDroopResumeExpiry bay slot s = _
  simp only [execDroopResumeExpiry, hburst]
  exact congrArg Host.Outcome.next (if_pos (by simp [hruns, hheld, passed_of hpast]))

end

/-! ### Readings of the margins (R93 to R95, R98, R99) -/

/-- Only the trim as it stands decides what a change of it makes. -/
theorem modTrimOf_congr {s : State} {who p : Nat} {f g : Trim → Trim} (h : f (s.trimOf who p) = g (s.trimOf who p)) :
    s.modTrimOf who p f = s.modTrimOf who p g := by
  calc s.modTrimOf who p f = s.modTrimOf who p fun _ => f (s.trimOf who p) := rfl
    _ = s.modTrimOf who p fun _ => g (s.trimOf who p) := by rw [h]
    _ = s.modTrimOf who p g := rfl

/-- The first critical reading of a slot's point above the floor point since its last evaluation forbids the point (R98). -/
theorem marginRead_of_first_critical {s : State} {who p : Nat} {m : Int} (hread : m ≠ noMargin) (habove : 0 < p) (hslot : who < 8)
    (hcrit : m * 5 < (s.marginParam who).crit) (hfirst : (s.trimOf who p).lowest = none) :
    s.marginRead who p m = (List.range 2).foldl (fun s bay => if s.runs bay && (s.chg bay who).fIndex = p then s.pickTarget bay who (p - 1) else s)
      (((s.modTrimOf who p fun t => { t with lowest := lowerMargin none m }).raise 0x010D [(1, who), (1, p), (4, twos 32 (m * 5))]).modTrimOf who p
        fun t => { t with forbidden := true }) := by
  have hlowest : s.modTrimOf who p (fun t => { t with lowest := lowerMargin t.lowest m }) =
      s.modTrimOf who p fun t => { t with lowest := lowerMargin none m } := modTrimOf_congr (by simp only [hfirst])
  have hpoint : (decide (p = 0) || decide (8 ≤ who)) = false := by rw [decide_eq_false (by omega), decide_eq_false (by omega)]; rfl
  simp only [State.marginRead, hread, if_false, hfirst, hcrit, decide_true, Bool.not_false, Bool.and_self, if_true, hlowest, hpoint,
    Bool.false_eq_true]

/-- An owner bay's reading taken into the state (R94). -/
def State.takeBayMargin (s : State) (bay : Nat) (m : Int) : State :=
  (s.modBay bay fun b => { b with margin := some m, marginSeen := true }).marginRead (0x10 + bay) 0 m

/-- The other bay has read its margin, and it is not below target (R99). -/
def State.peerMarginGood (s : State) (bay : Nat) : Bool :=
  (s.bay (peer bay)).marginSeen &&
    (match (s.bay (peer bay)).margin with | some m => (s.marginParam (0x10 + peer bay)).tgt ≤ m * 5 | none => false)

theorem peerMarginGood_of {s : State} {bay : Nat} {m : Int} (hseen : (s.bay (peer bay)).marginSeen = true)
    (hmargin : (s.bay (peer bay)).margin = some m) (hgood : (s.marginParam (0x10 + peer bay)).tgt ≤ m * 5) : s.peerMarginGood bay = true := by
  simp only [State.peerMarginGood, hseen, hmargin, hgood, decide_true, Bool.and_self]

section
variable {s : State} {bay : Nat} {m : Int} (hruns : s.runs bay = true) (hserve : s.serving.isSome = true) (howner : s.isOwner bay = true)
  (hread : m ≠ noMargin)
include hruns hserve howner hread

/-- The owner's reading of its own margin is taken; a critical one hands over to a bay that is not below target (R94, R99). -/
theorem exec_bayAgeingRead_of_owner : exec (.bayAgeingRead bay m) s =
    .next (if (s.takeBayMargin bay m).isOwner bay && m * 5 < ((s.takeBayMargin bay m).marginParam (0x10 + bay)).crit &&
      (s.takeBayMargin bay m).peerMarginGood bay then (s.takeBayMargin bay m).startHandover 0 none else s.takeBayMargin bay m) := by
  show execBayAgeingRead bay m s = _
  simp only [execBayAgeingRead, hruns, hserve, howner, Bool.and_self, Bool.true_or, Bool.not_true, Bool.false_eq_true, if_false, hread, ne_eq,
    not_false_eq_true, decide_true, Bool.and_true]
  rfl

theorem exec_bayAgeingRead_of_safe (hsafe : ((s.takeBayMargin bay m).marginParam (0x10 + bay)).crit ≤ m * 5) :
    exec (.bayAgeingRead bay m) s = .next (s.takeBayMargin bay m) := by
  rw [exec_bayAgeingRead_of_owner hruns hserve howner hread, decide_eq_false (not_lt.2 hsafe), Bool.and_false, Bool.false_and, if_neg (by decide)]

theorem exec_bayAgeingRead_of_critical (hstill : (s.takeBayMargin bay m).isOwner bay = true)
    (hcrit : m * 5 < ((s.takeBayMargin bay m).marginParam (0x10 + bay)).crit) (hpeer : (s.takeBayMargin bay m).peerMarginGood bay = true) :
    exec (.bayAgeingRead bay m) s = .next ((s.takeBayMargin bay m).startHandover 0 none) := by
  rw [exec_bayAgeingRead_of_owner hruns hserve howner hread, hstill, decide_eq_true hcrit, hpeer, if_pos (by decide)]

end

/-! ### The daily evaluation (R96, R98) -/

/-- The point's lowest margin cleared at an evaluation; a margin at or above target lifts the forbidden mark (R96, R98). -/
def State.clearEvaluated (s : State) (slot p : Nat) : State :=
  let good := match (s.trimOf slot p).lowest with | some l => decide ((s.marginParam slot).tgt ≤ l * 5) | none => false
  s.modTrimOf slot p fun t => { t with evalTime := s.now, lowest := none, forbidden := t.forbidden && !good }

section
variable {s : State} {slot p : Nat} (hserve : s.serving.isSome = true) (hslot : slot < 8) (hpoint : p < (s.opPoints slot).length)
  (hpast : (s.trimOf slot p).evalTime + 86400000000000 ≤ s.now)
include hserve hslot hpoint hpast

/-- A slot's point whose 24 h have passed is evaluated: a trim that moves is journalled and recorded (R96). -/
theorem exec_trimEvaluation_of_due : exec (.trimEvaluation slot p) s = .next (if s.evaluated slot p = (s.trimOf slot p).trim then
      s.clearEvaluated slot p
    else ((s.clearEvaluated slot p).journalChange (.trim slot p (s.evaluated slot p))).almanac (baySource (s.clearEvaluated slot p).formingBay) 0x8102
      [(1, slot), (1, p), (4, twos 32 (25 * (s.trimOf slot p).trim)), (4, twos 32 (25 * s.evaluated slot p)),
        (4, twos 32 ((s.trimOf slot p).lowest.getD 0 * 5))]) := by
  have hslots : decide (8 ≤ slot) = false := decide_eq_false (by omega)
  have hdue : ¬ (!(s.serving.isSome && (slot < 8 && p < (s.opPoints slot).length || (slot = 0x10 || slot = 0x11) && p = 0) &&
      s.passed (s.trimOf slot p).evalTime 86400000000000)) = true := by simp [hserve, hslot, hpoint, passed_of hpast]
  refine congrArg Host.Outcome.next ((if_neg hdue).trans ?_)
  simp only [hslots, Bool.false_and, Bool.false_eq_true, if_false]
  rfl

end

/-! ### O46 -/

/-- Settles O46: each row's premises leave one branch of it. -/
theorem operatingPointRows : Obligations.OperatingPointRows := by
  unfold Obligations.OperatingPointRows
  refine ⟨?dwell, ?deadlines, ?readings, ?critical, ?bays, ?evaluation⟩
  case dwell =>
    intro bay slot t s hruns hidle
    exact ⟨exec_opdnExpiry_of_dwelt hruns hidle, exec_opupExpiry_of_dwelt hruns hidle⟩
  case deadlines =>
    intro bay slot s hruns
    refine ⟨fun hstep hsent hpast => ?step, fun hresume hpast howner => ?resume, fun b => exec_droopResumeExpiry_of_quiet hruns⟩
    case step =>
      have hrow := exec_opcTimeout_of_late hruns (.inl ⟨hstep, hsent, hpast⟩)
      rw [hstep, if_neg (by decide : ¬ ChgState.stepping = .resuming)] at hrow
      exact ⟨fun howner => hrow.trans (congrArg Host.Outcome.next (if_pos howner)),
        fun hother => hrow.trans (congrArg Host.Outcome.next (if_neg (by rw [State.haltChange, hother]; decide)))⟩
    case resume =>
      have hrow := exec_opcTimeout_of_late hruns (.inr ⟨hresume, hpast⟩)
      rw [if_pos hresume] at hrow
      exact hrow.trans (congrArg Host.Outcome.next (if_pos howner))
  case readings =>
    intro slot ms s hserve hclosed hport
    exact congrArg Host.Outcome.next (if_pos (by rw [hserve, hclosed, hport]; rfl))
  case critical => exact fun _ _ _ _ => marginRead_of_first_critical
  case bays =>
    intro bay m s hruns hserve howner hread _ hstill
    exact ⟨exec_bayAgeingRead_of_safe hruns hserve howner hread, fun _ hcrit hseen hpeer hready =>
      exec_bayAgeingRead_of_critical hruns hserve howner hread hstill hcrit (peerMarginGood_of hseen hpeer hready)⟩
  case evaluation =>
    intro slot p s hserve hslot hpoint hpast
    have hrow := exec_trimEvaluation_of_due hserve hslot hpoint hpast
    exact ⟨fun hsame => hrow.trans (congrArg Host.Outcome.next (if_pos hsame)), fun hmoved => hrow.trans (congrArg Host.Outcome.next (if_neg hmoved))⟩

end Sys2Proof.Machine

/-!
SUPPORT. The parameters at reset (R79, R100, R121, R148, R193, R222, R245, R332, R385, R408, R431): every table is empty, so that each item
reads as its default; and from that O54.
-/
namespace Sys2Proof.Machine
open Sys2Proof

/-! ### Items that nothing has set -/

theorem reset_govParam (n : Nat) : State.reset.govParam n = {} := rfl

theorem reset_marginParam (n : Nat) : State.reset.marginParam n = {} := rfl

theorem reset_hand (b n : Nat) : State.reset.hand b n = {} := rfl

theorem reset_granary (b : Nat) : State.reset.granary b = {} := rfl

theorem reset_zone (z : Nat) : State.reset.zone z = {} := rfl

theorem reset_point (p : Nat) : State.reset.point p = {} := rfl

theorem reset_drive (ch : Nat) : State.reset.drive ch = {} := rfl

theorem reset_twPort (p : Nat) : State.reset.twPort p = {} := rfl

theorem reset_ring (n : Nat) : State.reset.ring n = {} := rfl

theorem reset_rail (nn : Nat) : State.reset.rail_ nn = {} := rfl

/-! ### Power channels (R371, R385) -/

theorem reset_chan_branch {ch : Nat} (h : ch < 0x32) : State.reset.chan ch = {} := if_neg (Nat.not_le.2 h)

theorem reset_chan_feed {ch : Nat} (h : 0x32 ≤ ch) : State.reset.chan ch = { thresh := 800, inrushLimit := 20, inrushSlew := 10 } := if_pos h

/-! ### O54 -/

/-- Settles O54: what stands in no table is its chapter's default; only a power channel's depends on its number. -/
theorem parametersAtReset : Obligations.ParametersAtReset := by
  unfold Obligations.ParametersAtReset
  refine ⟨?governor, ?tray, ?margins, ?grid, ?reseed, ?knownAnswer, ?hands, ?granary, ?ownership, ?fabric, ?channels, ?branches, ?feeds, ?cooling,
    ?ports, ?rings, ?rails, ?queue⟩
  case governor => intro n; rw [reset_govParam]; decide
  case tray => decide
  case margins => intro n; rw [reset_marginParam]; decide
  case grid => decide
  case reseed => rfl
  case knownAnswer => rfl
  case hands => intro b n; rw [reset_hand]; decide
  case granary => intro b; rw [reset_granary]; decide
  case ownership => decide
  case fabric => decide
  case channels =>
    intro ch
    obtain hbranch | hfeed := Nat.lt_or_ge ch 0x32
    · rw [reset_chan_branch hbranch]; decide
    · rw [reset_chan_feed hfeed]; decide
  case branches => intro ch hbranch; rw [reset_chan_branch hbranch]; decide
  case feeds => intro ch hfeed; rw [reset_chan_feed hfeed]; decide
  case cooling => intro n; rw [reset_zone, reset_point, reset_drive]; decide
  case ports => intro p; rw [reset_twPort]; decide
  case rings => intro n; rw [reset_ring]
  case rails => intro nn; rw [reset_rail]
  case queue => rfl

end Sys2Proof.Machine

/-!
SUPPORT. The host's grid commands (R102 to R121, R285): the refusals that each passes and what it does at its window, and from them O14.
-/
namespace Sys2Proof.Machine
open Sys2Proof

/-! ### Series and sources (R102 to R104) -/

theorem wsAbove_irrefl (w : Word32) : wsAbove w w = false := by
  by_cases hw : w = 0
  · simp only [wsAbove, hw, if_true]
  · simp only [wsAbove, hw, if_false, wsSteps, Nat.add_sub_cancel_left, Nat.mod_self, nonpos_iff_eq_zero, one_ne_zero, decide_false, Bool.false_and]

/-- The host's path is obeyed, and its next operation comes after its series, and with EITHER after both (R102, R104). -/
def State.hostFollows (s : State) (tseq : Word32) (issueTime : Nat) : Prop :=
  s.source.obeys false = true ∧ (∀ l, s.lastTseq false [] = some l → wsAbove tseq l = true) ∧
  (s.source = .either → ∀ n, s.newestIssue = some n → n < issueTime)

/-- The host's series ends in the newest of its operations journalled, or in the last committed (R102). -/
theorem lastTseq_host (s : State) : s.lastTseq false [] =
    ((s.pendingGrid.filter fun g => !g.2.1).getLast?.map fun g => g.2.2.2.tseq).or s.grid.tseqHost := by
  have hpath : (fun g : Nat × Bool × GridOp × Target => decide (g.2.1 = false)) = fun g => !g.2.1 := by
    funext g; cases g.2.1 <;> rfl
  unfold State.lastTseq
  rw [hpath]
  cases (s.pendingGrid.filter fun g => !g.2.1).getLast? <;> rfl

section
variable {s : State} {t : Target} (hfollows : s.hostFollows t.tseq t.issueTime)
include hfollows

/-- A TSEQ above the last of its series repeats none (R102, R278). -/
theorem gridDuplicate_of_follows : s.gridDuplicate t.tseq = none := by
  obtain ⟨-, habove, -⟩ := hfollows
  have hnew : s.lastTseq false [] ≠ some t.tseq := fun hlast => absurd (habove _ hlast) (by rw [wsAbove_irrefl]; decide)
  rw [lastTseq_host] at hnew
  unfold State.gridDuplicate
  cases hpending : (s.pendingGrid.filter fun g => !g.2.1).getLast? with
  | some g => exact if_neg fun hsame => hnew (by rw [hpending, ← hsame]; rfl)
  | none => exact if_neg fun hsame => hnew (by rw [hpending, hsame]; rfl)

/-- What can still refuse an operation that follows: its DEADLINE, and a park the grid's state (R103, R115). -/
theorem gridRefusal_of_follows (op : GridOp) : s.gridRefusal false op t [] =
    if t.deadline ≠ 0 && t.deadline < s.fabNow then some (0x0202, s.fabNow)
    else if op = .park && (s.grid.state = .parkFuses || s.grid.state = .parked) then some (0x0204, s.grid.state.code)
    else none := by
  obtain ⟨hobeys, habove, hnewer⟩ := hfollows
  refine (if_neg (by simp [hobeys])).trans (if_neg ?_)
  rw [Bool.or_eq_true, not_or]
  constructor
  · cases hlast : s.lastTseq false [] with
    | some l => simp [habove l hlast]
    | none => simp
  · cases hissue : s.newestIssue with
    | some n => simpa using fun heither => hnewer heither n hissue
    | none => simp

theorem gridCheck_passes {op : GridOp} (hdeadline : t.deadline = 0 ∨ s.fabNow ≤ t.deadline)
    (hpark : op = .park → s.grid.state ≠ .parkFuses ∧ s.grid.state ≠ .parked) : (s.gridCheck op t).bad = false := by
  have hnone : s.gridRefusal false op t [] = none := by
    rw [gridRefusal_of_follows hfollows, if_neg (by simpa using hdeadline.resolve_left), if_neg (by simpa using hpark)]
  simp only [State.gridCheck, hnone]

theorem firstBad_gridCheck_of_late {op : GridOp} (hset : t.deadline ≠ 0) (hlate : t.deadline < s.fabNow) :
    firstBad [s.gridCheck op t] = some (0x0202, s.fabNow) := by
  have hrefusal : s.gridRefusal false op t [] = some (0x0202, s.fabNow) := by
    rw [gridRefusal_of_follows hfollows, if_pos (by simp [hset, hlate])]
  simp only [State.gridCheck, hrefusal, firstBad, if_true]

end

/-! ### Refusals for the state of what a command names (R278) -/

/-- A ready command whose parameters pass is refused for the first state that its row finds wrong (R278). -/
theorem verdict_of_ready_wrongState {s : State} {i : Instr} {c : CmdSpec} {status res0 : Nat} (hspec : s.specOf i = some c)
    (hready : ready i c.plen c.optMask s = true) (hgrid : c.grid = none) (hparams : firstBad c.params = none)
    (hbad : firstBad c.states = some (status, res0)) :
    s.canFetch (hdrOf i).ring c.opcode = true ∧ s.verdict i (hdrOf i) c = .refuse status res0 := by
  unfold ready at hready
  rw [specOf_opcode hspec] at hready
  simp only [Bool.and_eq_true, decide_eq_true_eq, Bool.not_eq_true', beq_iff_eq, Option.isNone_iff_eq_none] at hready
  obtain ⟨⟨⟨⟨⟨⟨hfetch, hseq⟩, hplen⟩, hrsv⟩, hopt⟩, hat⟩, hdevice⟩ := hready
  have hall : firstBad (c.params ++ s.deviceState i c.opcode (hdrOf i).ring ++ c.states ++ c.late) = some (status, res0) := by
    refine firstBad_append_some ?_
    rw [List.append_assoc, firstBad_append_none hparams, firstBad_append_none hdevice, hbad]
  refine ⟨hfetch, ?_⟩
  simp only [State.verdict, hseq, Bool.not_true, Bool.false_eq_true, if_false, hgrid, hplen, ne_eq, not_true_eq_false, hrsv, hopt, Bool.false_or,
    decide_false, hat, hall]

/-- A host's operation that is fetched and refused as late is counted and recorded first (R103). -/
theorem submitGrid_of_late {s : State} {i : Instr} {h : CmdHdr} {c : CmdSpec} {r : Nat} (t : Target) (hfetch : s.canFetch h.ring c.opcode = true)
    (hlate : s.verdict i h c = .refuse 0x0202 r) : s.submitGrid i h c t = (s.lateTarget false t).submit i h c := by
  simp only [State.submitGrid, hfetch, hlate, decide_true, Bool.and_self, if_true]

/-! ### The rows' checks (R109, R121, R285) -/

section
variable {tseq : Word32} {target slope : Nat} (htseq : tseq ≠ 0) (hslopeLo : 100 ≤ slope) (hslopeHi : slope ≤ 40000)
include htseq

theorem tseq_passes : (inRange (tseq ≠ 0) 0).bad = false := inRange_passes 0 (decide_eq_true htseq)

include hslopeLo hslopeHi

theorem firstBad_specGridSetTarget_params (htarget : target ≤ 40000) (h : CmdHdr) (deadline issueTime : Nat) (s : State) :
    firstBad (specGridSetTarget h tseq target slope deadline issueTime s).params = none :=
  firstBad_cons_none (tseq_passes htseq) (firstBad_cons_none (inRange_passes 4 (decide_eq_true htarget))
    (firstBad_cons_none (inRange_passes 8 (within_of hslopeLo hslopeHi)) rfl))

end

/-- A curve of 2 to 16 points whose values are in range and whose df rise (R109, R121). -/
theorem firstBad_specGridSetCurve {h : CmdHdr} {npoints frSlope freqStale buf : Nat} (hpointsLo : 2 ≤ npoints) (hpointsHi : npoints ≤ 16)
    (hslopeLo : 100 ≤ frSlope) (hslopeHi : frSlope ≤ 40000) (hstaleLo : 10000 ≤ freqStale) (hstaleHi : freqStale ≤ 10000000)
    (halign : buf % 64 = 0) (hhi : buf < 2 ^ 64) (hread : h.buf.isSome = true)
    (hrange : ((curvePoints (h.buf.getD []) npoints).all fun p => decide (-5000 ≤ p.1) && decide (p.1 ≤ 5000) && decide (p.2 ≤ 2000)) = true)
    (hrises : dfRises (curvePoints (h.buf.getD []) npoints) = true) (s : State) :
    let c := specGridSetCurve h npoints frSlope freqStale buf s
    firstBad (c.params ++ c.states ++ c.late) = none := by
  have hsome : npoints ≠ 0 := by omega
  have hlate : firstBad (specGridSetCurve h npoints frSlope freqStale buf s).late = none := by
    refine (congrArg firstBad (if_neg hsome)).trans ?_
    exact firstBad_cons_none (check_passes _ _ hread) (firstBad_cons_none (inRange_passes 16 hrange)
      (firstBad_cons_none (joint_passes 16 hrises) rfl))
  have hbuf : (bufAligned (if npoints = 0 then 0 else buf)).bad = false := by rw [if_neg hsome]; exact bufAligned_passes halign hhi
  exact firstBad_cons_none (inRange_passes 0 (by rw [within_of hpointsLo hpointsHi, Bool.or_true]))
    (firstBad_cons_none (inRange_passes 4 (within_of hslopeLo hslopeHi)) (firstBad_cons_none (inRange_passes 8 (within_of hstaleLo hstaleHi))
      (firstBad_cons_none hbuf hlate)))

/-! ### What each does at its window (R104, R110, R285) -/

/-- GRID_SET_FREQ answers its window whether or not its df is taken (R110). -/
theorem effGridSetFreq_eq (j : Nat) (df : Int) (issueTime : Nat) (u : State) : effGridSetFreq j df issueTime u =
    (if u.source.obeys false && (u.source ≠ .either || u.dfLater issueTime) then
      (u.useDf df issueTime).modGrid fun g => { g with dfTime := u.now, freqHold := false } else u).complete j 0 [(u.entry j).applyDwn] := by
  unfold effGridSetFreq
  dsimp only
  split <;> rfl

/-- The sources by their codes; NONE holds no share (R104, R106). -/
theorem effGridSetSource_eq {source : Nat} (hsource : source ≤ 3) (j reportStale : Nat) (u : State) : effGridSetSource j source reportStale u =
    (u.modGrid fun g => { g with
      source := if source = 0 then .none else if source = 1 then .fabric else if source = 2 then .host else .either
      reportStale := reportStale, share := if source = 0 then none else g.share, sR := if source = 0 then none else g.sR
      freqHold := g.freqHold && source ≠ 0 }).ok j := by
  interval_cases source <;> rfl

/-! ### O14 -/

/-- Settles O14: a command that follows its series passes the refusals of R103 to R115, the others their ranges; each row's effect is as
stated. -/
theorem gridCommands : Obligations.GridCommands := by
  unfold Obligations.GridCommands
  intro fresh
  refine ⟨?target, ?park, ?unpark, ?commit, ?curve, ?freq, ?source, ?parkRails, ?status, ?late⟩
  case target =>
    rintro h tseq target slope deadline issueTime s hready htseq htarget hslopeLo hslopeHi ⟨hobeys, habove, hnewer, hdeadline⟩
    have hfollows : s.hostFollows tseq issueTime := ⟨hobeys, habove, hnewer⟩
    exact carries_of_params_states (c := specGridSetTarget h tseq target slope deadline issueTime s) rfl hready
      (gridDuplicate_of_follows hfollows (t := { tseq := tseq, issueTime := issueTime })) rfl
      (firstBad_specGridSetTarget_params htseq hslopeLo hslopeHi htarget h deadline issueTime s)
      (firstBad_cons_none (gridCheck_passes hfollows hdeadline nofun) rfl) fun _ _ => rfl
  case park =>
    rintro h tseq slope deadline issueTime s hready htseq hslopeLo hslopeHi ⟨hobeys, habove, hnewer, hdeadline⟩ hfuses hparked
    have hfollows : s.hostFollows tseq issueTime := ⟨hobeys, habove, hnewer⟩
    exact carries_of_params_states (c := specGridPark h tseq slope deadline issueTime s) rfl hready
      (gridDuplicate_of_follows hfollows (t := { tseq := tseq, issueTime := issueTime })) rfl
      (firstBad_cons_none (tseq_passes htseq) (firstBad_cons_none (inRange_passes 4 (within_of hslopeLo hslopeHi)) rfl))
      (firstBad_cons_none (gridCheck_passes hfollows hdeadline fun _ => ⟨hfuses, hparked⟩) rfl) fun _ _ => rfl
  case unpark =>
    rintro h tseq issueTime s hready htseq ⟨hobeys, habove, hnewer, hdeadline⟩
    have hfollows : s.hostFollows tseq issueTime := ⟨hobeys, habove, hnewer⟩
    exact carries_of_params_states (c := specGridUnpark h tseq issueTime s) rfl hready
      (gridDuplicate_of_follows hfollows (t := { tseq := tseq, issueTime := issueTime })) rfl (firstBad_cons_none (tseq_passes htseq) rfl)
      (firstBad_cons_none (gridCheck_passes hfollows hdeadline nofun) rfl) fun _ _ => rfl
  case commit => exact fun _ _ _ => ⟨rfl, rfl, rfl⟩
  case curve =>
    intro h npoints frSlope freqStale buf s hready hpointsLo hpointsHi hslopeLo hslopeHi hstaleLo hstaleHi halign hhi hread hrange hrises
    exact carries_of (c := specGridSetCurve h npoints frSlope freqStale buf s) rfl hready rfl
      (firstBad_specGridSetCurve hpointsLo hpointsHi hslopeLo hslopeHi hstaleLo hstaleHi halign hhi hread hrange hrises s) fun _ _ => rfl
  case freq =>
    intro h df issueTime s hready hlo hhi hobeys
    exact carries_of_params_states (c := specGridSetFreq h df issueTime s) rfl hready rfl rfl
      (firstBad_cons_none (inRange_passes 0 (by simp [hlo, hhi])) rfl) (firstBad_cons_none (check_passes _ _ hobeys) rfl)
      (effGridSetFreq_eq · df issueTime ·)
  case source =>
    intro h source reportStale s hready hsource hlo hhi
    exact carries_of_params (c := specGridSetSource h source reportStale s) rfl hready rfl rfl rfl
      (firstBad_cons_none (inRange_passes 0 (decide_eq_true hsource)) (firstBad_cons_none (inRange_passes 4 (within_of hlo hhi)) rfl))
      (effGridSetSource_eq hsource · reportStale ·)
  case parkRails =>
    intro h rails spread s hready hspread
    exact carries_of_params (c := specGridSetPark h rails spread s) rfl hready rfl rfl rfl
      (firstBad_cons_none (inRange_passes 8 (decide_eq_true hspread)) rfl) fun _ _ => rfl
  case status =>
    intro h buf s hready halign hhi
    exact carries_of_params (c := specGridStatus h buf s) rfl hready rfl rfl rfl (firstBad_cons_none (bufAligned_passes halign hhi) rfl) fun _ _ => rfl
  case late =>
    rintro h tseq target slope deadline issueTime s hready htseq htarget hslopeLo hslopeHi ⟨hobeys, habove, hnewer, -⟩ hset hlate t
    have hfollows : s.hostFollows t.tseq t.issueTime := ⟨hobeys, habove, hnewer⟩
    obtain ⟨hfetch, hverdict⟩ := verdict_of_ready_wrongState (c := specGridSetTarget h tseq target slope deadline issueTime s) rfl hready
      (gridDuplicate_of_follows hfollows) (firstBad_specGridSetTarget_params htseq hslopeLo hslopeHi htarget h deadline issueTime s)
      (firstBad_gridCheck_of_late hfollows hset hlate)
    exact ⟨congrArg Host.Outcome.next (submitGrid_of_late t hfetch hverdict), rfl, hverdict⟩

end Sys2Proof.Machine

/-!
SUPPORT. The two-wire ports as targets (R118, R420 to R426): a transfer's write and read, Host Notify and the Dormant matcher, and from them
O51.
-/
namespace Sys2Proof.Machine
open Sys2Proof

/-! ### Writes to the register page (R422, R423) -/

theorem busWrite_stored {p : TwPort} (b : Byte) (hlo : 0x80 ≤ p.busPtr) (hhi : p.busPtr ≤ 0xFB) :
    p.busWrite [b] = ({ p with page := setPage p.page p.busPtr b, busPtr := (p.busPtr + 1) % 256 }, true) :=
  if_pos (by simp [hlo, hhi])

theorem busWrite_discarded {p : TwPort} (b : Byte) (hlow : p.busPtr < 0x80) :
    p.busWrite [b] = ({ p with
      page := setPage p.page 0xFE (BitVec.ofNat 8 (satAdd 8 (p.pageByte 0xFE).toNat 1)), busPtr := (p.busPtr + 1) % 256 }, false) :=
  if_neg (by simp [Nat.not_le.2 hlow])

/-! ### Transfers to the TARGET address (R420) -/

section
variable {s : State} {port : Nat} (henable : (s.twPort port).enable = true) (htarget : (s.twPort port).target ≠ 0)
  (hawake : (s.twPort port).matcher = false)
include henable htarget hawake

/-- A port that is on, has a TARGET address and is not left to its matcher answers the transfer. -/
theorem targetTransfer_answered : ¬(!(s.twPort port).enable || decide ((s.twPort port).target = 0) || (s.twPort port).matcher) = true := by
  simp [henable, htarget, hawake]

/-- The quick form, with no byte read or written, only ends the transfer. -/
theorem exec_targetTransfer_quick (data : List Byte) (stop : Bool) : exec (.targetTransfer port false data 0 stop) s =
    .next (s.modTwPort port fun p => { p with busPtr := p.busPtr % 256, lastTarget := s.now, busTarget := !stop }) :=
  congrArg Host.Outcome.next (if_neg (targetTransfer_answered henable htarget hawake))

theorem exec_targetTransfer_read {readLen : Nat} (hread : 0 < readLen) (data : List Byte) (stop : Bool) :
    exec (.targetTransfer port false data readLen stop) s = .next ((s.modTwPort port fun p =>
      { p with busPtr := (p.busPtr + readLen) % 256, lastTarget := s.now, busTarget := !stop }).emit
        (.twoWireRead port ((s.twPort port).pageRead (s.twPort port).busPtr readLen))) :=
  congrArg Host.Outcome.next ((if_neg (targetTransfer_answered henable htarget hawake)).trans (if_pos hread))

theorem exec_targetTransfer_stored {ptr : Byte} (hlo : 0x80 ≤ ptr.toNat) (hhi : ptr.toNat ≤ 0xFB) (b : Byte) (stop : Bool) :
    let p := s.twPort port
    let q := { p with page := setPage p.page ptr.toNat b, busPtr := (ptr.toNat + 1) % 256 }
    exec (.targetTransfer port true [ptr, b] 0 stop) s = .next ((s.modTwPort port fun _ => { q with
      page := setPage (setPage q.page 0xFC (q.pageByte 0xFC + 1)) 0xFD (BitVec.ofNat 8 ptr.toNat)
      busPtr := q.busPtr % 256, lastTarget := s.now, busTarget := !stop }).signalChannel (0x94 + port)) := by
  have hwrite := busWrite_stored (p := { s.twPort port with busPtr := ptr.toNat }) b hlo hhi
  refine congrArg Host.Outcome.next ((if_neg (targetTransfer_answered henable htarget hawake)).trans ?_)
  simp only [if_true, List.drop_one, List.tail_cons, hwrite, Nat.lt_irrefl, if_false, Nat.add_zero]

theorem exec_targetTransfer_discarded {ptr : Byte} (hlow : ptr.toNat < 0x80) (b : Byte) (stop : Bool) :
    let p := s.twPort port
    exec (.targetTransfer port true [ptr, b] 0 stop) s = .next (s.modTwPort port fun _ => { p with
      page := setPage p.page 0xFE (BitVec.ofNat 8 (satAdd 8 (p.pageByte 0xFE).toNat 1)), busPtr := (ptr.toNat + 1) % 256 % 256
      lastTarget := s.now, busTarget := !stop }) := by
  have hwrite := busWrite_discarded (p := { s.twPort port with busPtr := ptr.toNat }) b hlow
  refine congrArg Host.Outcome.next ((if_neg (targetTransfer_answered henable htarget hawake)).trans ?_)
  simp only [if_true, List.drop_one, List.tail_cons, hwrite, Nat.lt_irrefl, if_false, Nat.add_zero, Bool.false_eq_true]
  rfl

end

/-! ### O51 -/

/-- Settles O51: each transfer's premises leave one branch of its row. -/
theorem twoWireTargetRows : Obligations.TwoWireTargetRows := by
  unfold Obligations.TwoWireTargetRows
  refine ⟨?transfer, ?abandon, ?notify, ?dormant⟩
  case transfer =>
    intro port readLen data stop s henable htarget hawake
    exact ⟨exec_targetTransfer_quick henable htarget hawake data stop, fun hread => exec_targetTransfer_read henable htarget hawake hread data stop,
      fun ptr b hlo hhi => exec_targetTransfer_stored henable htarget hawake hlo hhi b stop,
      fun ptr b hlow => exec_targetTransfer_discarded henable htarget hawake hlow b stop⟩
  case abandon => exact fun port s hbusy => congrArg Host.Outcome.next (if_pos hbusy)
  case notify =>
    intro port data s henable hawake
    refine ⟨fun hlength hroom => ?kept, fun hlength => ?discarded⟩
    case kept => exact congrArg Host.Outcome.next (if_neg (by simp [henable, hawake, hlength, hroom]))
    case discarded => exact congrArg Host.Outcome.next (if_pos (by simp [hlength]))
  case dormant =>
    intro port s hdormant henable
    refine ⟨fun hmatcher => ⟨?notifyMatch, fun addr haddr hset hother => ?targetMatch⟩, fun hawake hpast => ?returns⟩
    case notifyMatch => exact congrArg Host.Outcome.next (if_pos (by simp [hdormant, henable, hmatcher]))
    case targetMatch =>
      exact congrArg Host.Outcome.next ((if_pos (by simp [hdormant, henable, hmatcher, ← haddr, hset])).trans (if_neg hother))
    case returns => exact congrArg Host.Outcome.next (if_pos (by simp [hdormant, henable, hawake, passed_of hpast]))

end Sys2Proof.Machine

/-!
SUPPORT. The grid's rows (R104 to R120): frequency frames, the deadlines of df and of reports, and the state table's rows, and from them O47.
-/
namespace Sys2Proof.Machine
open Sys2Proof

/-! ### Frequency frames (R104, R110, R118) -/

section
variable {s : State} {issue : Nat} (hobeys : s.source.obeys true = true) (hlater : s.dfLater issue = true)
include hobeys hlater

theorem frequencyFrame_of_serving (hserve : s.serving.isSome = true) (df : Int) (arrival : Nat) : s.frequencyFrame df issue arrival =
    s.modGrid fun g => { g with dfNext := some (df, issue, arrival), dfTime := s.now, freqHold := false } :=
  (if_neg (by simp [hobeys, hlater])).trans (if_neg (by simp [Option.isSome_iff_ne_none.1 hserve]))

theorem frequencyFrame_of_asleep (hasleep : s.serving = none) (hfirst : s.grid.heldDf = none) (df : Int) (arrival : Nat) :
    s.frequencyFrame df issue arrival = s.modGrid fun g => { g with heldDf := some (df, issue) } :=
  (if_neg (by simp [hobeys, hlater])).trans ((if_pos (by rw [hasleep]; rfl)).trans (if_pos (by rw [hfirst])))

end

theorem frequencyFrame_of_ignored {s : State} {issue : Nat} (hignored : s.source.obeys true = false ∨ s.dfLater issue = false) (df : Int)
    (arrival : Nat) : s.frequencyFrame df issue arrival = s :=
  if_pos (by simpa only [Bool.or_eq_true, Bool.not_eq_true'] using hignored)

/-! ### Parking the fuses (R115, R116) -/

/-- The next fuse of a park opens where it is quiet, answered for and far enough from the one before (R116). -/
theorem exec_parkFuseOpen_of_due {s : State} {n : Nat} (hserve : s.serving.isSome = true) (hfuses : s.grid.state = .parkFuses)
    (hnext : ((List.range 8).reverse.find? fun n => s.branchOn n) = some n) (hquiet : s.quiet n = true) (hanswered : s.parkAnswered n = true)
    (hfree : s.own.latch.hold = false)
    (hspaced : ∀ i, s.grid.lastOpenSlot = some i →
      s.grid.lastOpen * s.grid.parkSlope + (s.govParam i).pfloor * 1000000 ≤ s.now * s.grid.parkSlope) :
    exec .parkFuseOpen s = .next ((((s.modEsc fun e => { e with gridParked := setBit e.gridParked n true }).modGrid fun g =>
      { g with lastOpen := s.now, lastOpenSlot := some n }).commandOpen n).parkSettled) := by
  obtain ⟨b, hb⟩ := Option.isSome_iff_exists.1 hserve
  show execParkFuseOpen s = _
  simp only [execParkFuseOpen, hb, hnext]
  refine congrArg Host.Outcome.next (if_pos ?_)
  cases hlast : s.grid.lastOpenSlot with
  | none => simp [hfuses, hquiet, hanswered, hfree]
  | some i => simp [hfuses, hquiet, hanswered, hfree, hspaced i hlast]

/-! ### The unpark's end (R115, R341) -/

/-- A wake is asked of bays that are Dormant (R118). -/
def State.askWake (s : State) : State := if s.sys.dormant then s.modSys fun p => { p with wakePending := true } else s

theorem exec_unparkDelayExpiry_of_due {s : State} (hdelay : s.grid.state = .unparkDelay) (hpast : s.grid.delayEnd ≤ s.now) :
    exec .unparkDelayExpiry s = .next (((s.askWake.startUp s.askWake.usedRails 0).setGstate .unparking).railRun) :=
  congrArg Host.Outcome.next (if_pos (by simp [hdelay, hpast]))

/-! ### Reports (R113) -/

theorem exec_reportStaleExpiry_of_old {s : State} {p : Nat} {c : Child} (hchild : tfind s.grid.children p = some c) (hfresh : c.stale = false)
    (hpast : c.time + s.grid.reportStale * 1000 ≤ s.now) :
    exec (.reportStaleExpiry p) s = .next (s.modGrid fun g => { g with children := tset g.children p { c with stale := true } }) := by
  show execReportStaleExpiry p s = _
  simp only [execReportStaleExpiry, hchild, hfresh, passed_of hpast, Bool.not_false, Bool.and_self, if_true]

/-! ### O47 -/

/-- Settles O47: each row's premises leave one branch of it. -/
theorem gridRows : Obligations.GridRows := by
  unfold Obligations.GridRows
  refine ⟨?frame, ?ignored, ?serving, ?unparkDelay, fun p c s => exec_reportStaleExpiry_of_old⟩
  case frame =>
    intro df issue arrival s hobeys hlater
    exact ⟨fun hserve => congrArg Host.Outcome.next (frequencyFrame_of_serving hobeys hlater hserve df arrival),
      fun hasleep hfirst => congrArg Host.Outcome.next (frequencyFrame_of_asleep hobeys hlater hasleep hfirst df arrival)⟩
  case ignored => exact fun df issue arrival s hignored => congrArg Host.Outcome.next (frequencyFrame_of_ignored hignored df arrival)
  case serving =>
    intro s hserve
    refine ⟨fun hcurve hsource hfree hpast => ?stale, fun hchildren => ?shares, fun hdue => ?record, fun hdelay hpast => ?parkDelay,
      fun n => exec_parkFuseOpen_of_due hserve, fun hunparking hidle => ?railsUp⟩
    case stale => exact congrArg Host.Outcome.next (if_pos (by simp [hserve, hcurve, hsource, hfree, passed_of hpast]))
    case shares => exact congrArg Host.Outcome.next (if_pos (by simp [hserve, hchildren]))
    case record => exact congrArg Host.Outcome.next (if_pos hdue)
    case parkDelay => exact congrArg Host.Outcome.next (if_pos (by simp [hserve, hdelay, hpast]))
    case railsUp => exact congrArg Host.Outcome.next (if_pos (by simp [hserve, hunparking, hidle]))
  case unparkDelay =>
    intro s hdelay hpast
    have hrow := exec_unparkDelayExpiry_of_due hdelay hpast
    refine ⟨fun hawake => ?awake, fun hdormant => ?dormant⟩
    case awake => rwa [State.askWake, if_neg (by simp [hawake])] at hrow
    case dormant => rwa [State.askWake, if_pos hdormant] at hrow

end Sys2Proof.Machine

/-!
SUPPORT. The fabric's operations (R103, R315 to R327, R378, R381): the routed frames accepted, the deadlines, the hall reset and the tray's
commits, and from them O41.
-/
namespace Sys2Proof.Machine
open Sys2Proof

/-! ### Frames accepted (R315, R320, R323) -/

section
variable {p : Nat} {hdr : FabHdr} {s t : State} (haccept : s.accept p hdr true true false = (t, true))
include haccept

/-- A message accepted goes on, is refused for its role, or is delivered (R315, R316). -/
theorem exec_msg_of_accepted (msg : List Byte) (reply : Bool) (hand : Nat) : exec (.msg p hdr msg reply hand) s =
    .next (if hdr.dst ≠ t.nodeId then t.route hdr (.msg msg reply hand)
      else if t.roleRefused hdr then t.sendNak p hdr.src 1 else t.messageArrives hdr msg reply hand) := by
  show execMsg p hdr msg reply hand s = _
  simp only [execMsg, haccept, Bool.not_true, Bool.false_eq_true, if_false]

theorem exec_gup_request_of_root (hhere : hdr.dst = t.nodeId) (hrole : t.roleRefused hdr = false) (hroot : t.isRoot = true) (d : GDesc)
    (b : List Byte) : exec (.gup p hdr (.request d b)) s = .next (t.startOp d b hdr.src (some p)) := by
  show execGup p hdr (.request d b) s = _
  simp only [execGup, haccept, hhere, hrole, hroot, ne_eq, not_true_eq_false, Bool.not_true, Bool.or_self, Bool.false_eq_true, if_false]

theorem exec_gup_contribution_of_child (hdown : t.isDown p = true) (n : Word32) (c : Contribution) :
    exec (.gup p hdr (.contribution n c)) s = .next ((t.modFabric fun f => { f with ops := f.ops.map fun o =>
      if o.desc.tseq = n then { o with contrib := tset o.contrib p c } else o }).progressOps) := by
  show execGup p hdr (.contribution n c) s = _
  simp only [execGup, haccept, hdown, Bool.not_true, Bool.false_eq_true, if_false, if_true]

end

section
variable {p : Nat} {hdr : FabHdr} {s t : State} (haccept : s.accept p hdr true false false = (t, true)) (hrole : t.roleRefused hdr = false)
include haccept hrole

theorem exec_gdown_of_broadcast (hnode : t.nodeId ≠ 0) (hdst : hdr.dst = 0) (hup : t.fab.fab.upPort = some p) (d : GDesc) (body : List Byte) :
    exec (.gdown p hdr d body) s = .next (t.descend d body (some p) hdr.src 0) := by
  show execGdown p hdr d body s = _
  simp only [execGdown, haccept, hrole, hdst, hup, hnode.symm, ne_eq, not_true_eq_false, decide_false, Bool.not_true, Bool.false_and,
    Bool.false_eq_true, if_false, if_true]

/-- The root's answer to this node's FAB_GLOBAL (R320). -/
theorem exec_gdown_of_answer (hdst : hdr.dst = t.nodeId) (d : GDesc) (body : List Byte) : exec (.gdown p hdr d body) s =
    .next (t.completeWait d 0 d.share (d.value0.toNat * 2 ^ 32 + d.value1.toNat)) := by
  show execGdown p hdr d body s = _
  simp only [execGdown, haccept, hrole, hdst, ne_eq, not_true_eq_false, decide_false, Bool.not_true, Bool.and_false, Bool.false_eq_true,
    if_false, if_true]

end

/-! ### Snapshots (R325) -/

theorem exec_snapshotLatch_of_serving {s : State} {op : Word32} {bay : Nat} (hdue : s.sampleDue 4 op = true) (hserve : s.serving = some bay) :
    exec (.snapshotLatch op) s = .next (
      let t := s.almanac (baySource bay) 0x8801 [(4, op.toNat), (4, twos 32 s.drawWatts), (4, s.grid.aTray.floor.toNat),
        (4, s.grid.tseqInForce.toNat), (8, twos 64 s.feedEnergy.floor)]
      t.contribute 4 op fun _ => { value := t.drawWatts, contributors := 1, notAligned := bit t.fab.fab.alignLost }) := by
  show execSnapshotLatch op s = _
  simp only [execSnapshotLatch, hdue, hserve, if_true]

/-! ### The hall reset (R327, R332) -/

/-- A member without MEPOCH, roles, table or operations, under the PRIORITY and PORT_MASK set last (R327, R332). -/
def State.forgetHall (s : State) : State :=
  s.dropMembership.modFabric fun f => { f with
    hallResetAt := none, ops := [], msgRetry := [], claimSeen := 0, rootId := 0
    prioInForce := s.fab.param.priority, maskInForce := s.fab.param.portMask }

/-- Ports that PORT_MASK in force leaves out go DOWN (R332). -/
def State.maskPorts (s : State) : State :=
  forUpTo 4 (fun s p => if s.portEnabled p then s else s.modPort p fun x => { x with pstate := .down, good := 0 }) s

/-- The fabric engine without its ports. -/
def Fabric.sansPorts (f : Fabric) : Fabric := { f with ports := [] }

/-- Masking keeps everything of the fabric engine but its ports, and brings none up. -/
theorem maskPorts_keeps (s : State) : s.maskPorts.fab.fab.sansPorts = s.fab.fab.sansPorts ∧
    ∀ p, s.maskPorts.portUp p = true → s.portUp p = true := by
  refine List.foldlRecOn (motive := fun u : State => u.fab.fab.sansPorts = s.fab.fab.sansPorts ∧ ∀ p, u.portUp p = true → s.portUp p = true)
    _ _ ⟨rfl, fun _ hup => hup⟩ ?_
  rintro u ⟨hkeeps, hups⟩ k -
  split
  next => exact ⟨hkeeps, hups⟩
  next =>
    refine ⟨hkeeps, fun p hup => hups p ?_⟩
    by_cases hpk : p = k
    · simp [State.portUp, hpk] at hup
    · rwa [State.portUp, modPort_ne _ _ _ _ hpk] at hup

section
variable {s : State} {t : Nat} (hat : s.fab.fab.hallResetAt = some t) (halive : s.fab.fab.alive = true) (hpast : t ≤ s.fabNow)
  (hwaits : s.fab.fab.waits = []) (hdown : ∀ p < 4, (s.port p).pstate = .down)
include hat halive hpast hwaits hdown

theorem exec_hallReset_of_noPort : exec .hallReset s = .next (s.forgetHall.maskPorts.modFabric fun f =>
    { f with state := .isolated, backoffEnd := none, claimStart := none, joinPort := none }) := by
  have hdue : ¬(!s.fab.fab.alive || decide (s.fabNow < t)) = true := by simp [halive, hpast]
  have hnone : ¬((List.range 4).any s.forgetHall.maskPorts.portUp) = true := by
    rw [List.any_eq_true]
    rintro ⟨p, hmem, hup⟩
    obtain ⟨-, hups⟩ := maskPorts_keeps s.forgetHall
    have hbefore : s.portUp p = true := hups p hup
    simp [State.portUp, hdown p (List.mem_range.1 hmem)] at hbefore
  show execHallReset s = _
  simp only [execHallReset, hat, hwaits, List.foldl_nil]
  exact congrArg Host.Outcome.next ((if_neg hdue).trans (if_neg hnone))

theorem runs_hallReset_of_noPort : Runs .hallReset s fun u =>
    u.fab.fab.state = .isolated ∧ u.fab.fab.mepoch = 0 ∧ u.fab.fab.roles = 0 ∧ u.fab.fab.members = [] ∧ u.fab.fab.ops = [] ∧
    u.fab.fab.hallResetAt = none ∧ u.fab.fab.prioInForce = s.fab.param.priority ∧ u.fab.fab.maskInForce = s.fab.param.portMask := by
  obtain ⟨hkeeps, -⟩ := maskPorts_keeps s.forgetHall
  exact ⟨_, exec_hallReset_of_noPort hat halive hpast hwaits hdown, rfl, congrArg Fabric.mepoch hkeeps, congrArg Fabric.roles hkeeps,
    congrArg Fabric.members hkeeps, congrArg Fabric.ops hkeeps, congrArg Fabric.hallResetAt hkeeps, congrArg Fabric.prioInForce hkeeps,
    congrArg Fabric.maskInForce hkeeps⟩

end

/-! ### The conductor's operations at the tray (R103, R105) -/

/-- The tray's oldest operation held is taken up to be committed (R103). -/
def State.takeHeld (s : State) : State := s.modGrid fun g => { g with held := g.held.drop 1 }

section
variable {op : GridOp} {x : Target} {s : State} (hhead : s.grid.held.head? = some (op, x)) (hserve : s.serving.isSome = true)
  (hroom : s.journalFree = true)
include hhead hserve hroom

theorem exec_targetCommit_of_obeyed (hobeyed : s.takeHeld.gridRefusal true op x [] = none) :
    exec (.targetCommit op x) s = .next (s.takeHeld.journalChange (.grid op x)).progressOps := by
  refine congrArg Host.Outcome.next ((if_pos (by simp [hserve, hhead, hroom])).trans ?_)
  unfold State.takeHeld at hobeyed ⊢
  simp only [hobeyed]

theorem exec_targetCommit_of_late {r : Nat} (hlate : s.takeHeld.gridRefusal true op x [] = some (0x0202, r)) :
    exec (.targetCommit op x) s = .next (s.takeHeld.lateTarget true x).progressOps := by
  refine congrArg Host.Outcome.next ((if_pos (by simp [hserve, hhead, hroom])).trans ?_)
  unfold State.takeHeld at hlate ⊢
  simp only [hlate]

end

/-- A target held past its DEADLINE, and not yet journalled, is refused as late (R103). -/
theorem exec_targetDeadlineExpiry_of_held {x : Target} {s : State} (hset : x.deadline ≠ 0) (hlate : x.deadline < s.fabNow)
    (hunjournalled : (s.pendingGrid.find? fun (g : Nat × Bool × GridOp × Target) => g.2.1 = true && g.2.2.2 = x && !(s.entry g.1).acked) = none)
    (hheld : (s.grid.held.any fun h => h.2 = x) = true) : exec (.targetDeadlineExpiry true x) s =
      .next (((s.modGrid fun g => { g with held := g.held.filter fun h => h.2 ≠ x }).lateTarget true x).progressOps) := by
  refine congrArg Host.Outcome.next ((if_neg (by simp [hset, hlate])).trans (congrArg State.progressOps ?_))
  simp only [hunjournalled]
  exact if_pos hheld

/-! ### The feed warning (R378, R381) -/

section
variable {s : State} {f : Nat} (hwarn : s.warnDue = some f)
include hwarn

theorem exec_feedWarnAssert_of_dead (hdead : (s.warnAssert f).fab.fab.alive = false) :
    exec .feedWarnAssert s = .next (s.warnAssert f) := by
  show execFeedWarnAssert s = _
  simp only [execFeedWarnAssert, hwarn, hdead, Bool.and_false, Bool.not_false, if_true]

theorem exec_feedWarnAssert_of_proxy {to_ : Word64 × Word32} (halive : (s.warnAssert f).fab.fab.alive = true)
    (hmember : (s.warnAssert f).isMember = true) (hproxy : (s.warnAssert f).resolve 4 0 = some to_) (hother : to_.1 ≠ (s.warnAssert f).nodeId) :
    exec .feedWarnAssert s = .next
      (((s.warnAssert f).sendRouted 4 to_ (.msg ((s.warnAssert f).warningMessage f) false 0) 1 none).getD (s.warnAssert f)) := by
  show execFeedWarnAssert s = _
  simp only [execFeedWarnAssert, hwarn, halive, hmember, hproxy, hother, Bool.and_self, Bool.not_true, Bool.false_eq_true, if_false]

end

/-! ### O41 -/

/-- Settles O41: each frame and each deadline meets one branch of its row. -/
theorem fabricOperations : Obligations.FabricOperations := by
  unfold Obligations.FabricOperations
  refine ⟨?routed, ?gdown, ?samples, ?hallReset, ?commit, ?deadline, ?warning⟩
  case routed =>
    intro p hdr msg reply hand s t haccept
    rw [exec_msg_of_accepted haccept]
    refine ⟨fun hhere hrole => ?delivered, fun hhere hrole => ?refused, fun helse => ?sentOn,
      fun d b hhere hrole hroot => exec_gup_request_of_root haccept hhere hrole hroot d b,
      fun n c hdown => exec_gup_contribution_of_child haccept hdown n c⟩
    case delivered => rw [if_neg (not_not.2 hhere), if_neg (by simp [hrole])]
    case refused => rw [if_neg (not_not.2 hhere), if_pos hrole]
    case sentOn => rw [if_pos helse]
  case gdown =>
    intro p hdr d body s t haccept hrole hnode
    exact ⟨fun hdst hup => exec_gdown_of_broadcast haccept hrole hnode hdst hup d body,
      fun hdst => exec_gdown_of_answer haccept hrole hdst d body⟩
  case samples =>
    intro op s
    exact ⟨fun hdue => congrArg Host.Outcome.next (if_pos hdue), fun bay hdue hserve => exec_snapshotLatch_of_serving hdue hserve, rfl⟩
  case hallReset => exact fun t s => runs_hallReset_of_noPort
  case commit =>
    intro op x s hhead hserve hroom
    exact ⟨exec_targetCommit_of_obeyed hhead hserve hroom, fun r => exec_targetCommit_of_late hhead hserve hroom⟩
  case deadline => exact fun x s => exec_targetDeadlineExpiry_of_held
  case warning =>
    intro f s hwarn
    exact ⟨exec_feedWarnAssert_of_dead hwarn, fun to_ => exec_feedWarnAssert_of_proxy hwarn⟩

end Sys2Proof.Machine

/-!
SUPPORT. The Easel engine's rows (R137, R146 to R149, R161 to R172, R213): one lemma for each branch a row's premises leave, and from them
O32.
-/
namespace Sys2Proof.Machine
open Sys2Proof

/-! ### Runs (R137, R146, R161, R164) -/

section
variable {bay : Nat} {ph : Phase} {i : Inst} {s : State} (hbound : tfind (s.easelBay bay).insts ph.inst = some i)
  (hdue : s.instDue bay i = true)
include hbound hdue

/-- What decides the outcome of a due run: whether it has panels, and whether it draws without a seed. -/
theorem exec_easelPhaseRun_of_due : exec (.easelPhaseRun bay ph) s = .next (
    if i.panels.isEmpty then s.showStatus bay ph.inst i (0xFFFF000001000000#64) true
    else if i.prog.stochastic && !i.seeded then s.showStatus bay ph.inst i (0xFFFF000002000000#64) false
    else s.postRun bay ph.inst i (Run.go { tensors := i.tensors, lanes := (s.easelBay bay).lanes } (s.runEnv bay i))
      (i.panels.any fun q => s.panelsOut.getLsbD q)) := by
  show execEaselPhaseRun bay ph s = _
  simp only [execEaselPhaseRun, hbound, hdue, Bool.not_true, Bool.false_eq_true, if_false]

theorem exec_easelPhaseRun_of_unplaced (hpanels : i.panels = []) :
    exec (.easelPhaseRun bay ph) s = .next (s.showStatus bay ph.inst i (0xFFFF000001000000#64) true) := by
  rw [exec_easelPhaseRun_of_due hbound hdue, if_pos (List.isEmpty_iff.2 hpanels)]

theorem exec_easelPhaseRun_of_unseeded (hpanels : i.panels ≠ []) (hdraws : i.prog.stochastic = true) (hunsown : i.seeded = false) :
    exec (.easelPhaseRun bay ph) s = .next (s.showStatus bay ph.inst i (0xFFFF000002000000#64) false) := by
  rw [exec_easelPhaseRun_of_due hbound hdue, if_neg (mt List.isEmpty_iff.1 hpanels), if_pos (by simp [hdraws, hunsown])]

theorem exec_easelPhaseRun_of_ready (hpanels : i.panels ≠ []) (hseeds : i.prog.stochastic = false ∨ i.seeded = true) :
    exec (.easelPhaseRun bay ph) s = .next (s.postRun bay ph.inst i
      (Run.go { tensors := i.tensors, lanes := (s.easelBay bay).lanes } (s.runEnv bay i)) (i.panels.any fun q => s.panelsOut.getLsbD q)) := by
  have hseeded : ¬(i.prog.stochastic && !i.seeded) = true := by
    obtain hfixed | hsown := hseeds
    · simp [hfixed]
    · simp [hsown]
  rw [exec_easelPhaseRun_of_due hbound hdue, if_neg (mt List.isEmpty_iff.1 hpanels), if_neg hseeded]

end

section
variable {bay inst : Nat} {i : Inst} {s : State} (hbound : tfind (s.easelBay bay).insts inst = some i)
include hbound

theorem exec_easelPhaseClose_of_running (hruns : i.running = true) :
    exec (.easelPhaseClose bay inst) s = .next (s.modInst bay inst fun i => { i with running := false }) := by
  show execEaselPhaseClose bay inst s = _
  simp only [execEaselPhaseClose, hbound, hruns, if_true]

/-! ### Contents loaded again (R49, R170, R213) -/

theorem exec_gapLoadDone_of_waiting (hwaits : i.gapWait = true) (hcome : i.switchAt ≤ s.dwn) : exec (.gapLoadDone bay inst) s =
    .next ((s.modInst bay inst fun i => { i with gapWait := false, gap := false, switchAt := s.dwn + 1 }).newLoad bay i) := by
  show execGapLoadDone bay inst s = _
  simp only [execGapLoadDone, hbound, hwaits, hcome, decide_true, Bool.and_self, if_true]

theorem exec_modelReloadDone_of_reloading (hreloads : i.reloading = true) : exec (.modelReloadDone bay inst) s =
    .next ((s.modInst bay inst fun i => { i with
        reloading := false, tensors := i.tensors.map fun t => if (i.prog.desc t.1).init then (t.1, tget i.prog.data t.1 t.2) else t }).modGranary bay fun g =>
      { g with poison := g.poison.filter fun a => !(pageOwner (g.pageEntry a) = 6 && pageTag (g.pageEntry a) = inst) }) := by
  show execModelReloadDone bay inst s = _
  simp only [execModelReloadDone, hbound, hreloads, if_true]

end

/-! ### Known answers (R146, R167) -/

section
variable {bay panel : Nat} {s : State} (halive : (s.bay bay).alive = true) (hpanel : panel < 16)
include halive hpanel

/-- The check of a panel that exists, in a bay that is alive, is taken up. -/
theorem knownAnswer_taken : ¬(!(s.bay bay).alive || decide (16 ≤ panel)) = true := by simp [halive, hpanel]

theorem exec_knownAnswerCheck_of_mismatch (c : Nat) (hserves : (s.easelBay bay).panelsOut.getLsbD panel = false) :
    exec (.knownAnswerCheck bay panel (.fail c)) s = .next (
      let t := (((s.modEaselBay bay fun e => { e with panelsOut := e.panelsOut ||| (1#16 <<< panel), kacReturn := e.kacReturn &&& ~~~(1#16 <<< panel) }).almanac
        (baySource bay) 0x0501 [(1, bay), (1, panel), (2, c)]).raiseSev bay 0x0501 2 0 [(1, bay), (1, panel), (2, c)])
      if t.serving.isSome then t.journalChange (.panelOut panel) else t) :=
  congrArg Host.Outcome.next ((if_neg (knownAnswer_taken halive hpanel)).trans (if_neg (by simp [hserves])))

theorem exec_knownAnswerCheck_of_returning (hreturns : (s.easelBay bay).kacReturn.getLsbD panel = true) :
    exec (.knownAnswerCheck bay panel .pass) s = .next (
      let t := s.modEaselBay bay fun e => { e with panelsOut := e.panelsOut &&& ~~~(1#16 <<< panel), kacReturn := e.kacReturn &&& ~~~(1#16 <<< panel) }
      if t.serving.isSome then t.journalChange (.panelOut panel) else t) :=
  congrArg Host.Outcome.next ((if_neg (knownAnswer_taken halive hpanel)).trans (if_pos hreturns))

theorem exec_knownAnswerCheck_of_starved :
    exec (.knownAnswerCheck bay panel .starved) s = .next (s.raiseSev bay 0x0502 1 0 [(1, bay), (1, panel)]) :=
  congrArg Host.Outcome.next (if_neg (knownAnswer_taken halive hpanel))

end

/-! ### Seeds (R137) -/

theorem exec_reseed_of_due {s : State} (hserve : s.serving.isSome = true) (hready : s.boot.entropy.ready = true) (hroom : s.journalFree = true)
    (hdue : s.easel.cfg.reseedDue = true ∨ s.easel.cfg.lastReseed + s.easel.cfg.reseedPeriod * 1000 ≤ s.now) :
    exec .reseed s = .next (((s.modEntropy fun e => { e with reseeds := s.boot.entropy.reseeds + 1 }).modEaselCfg fun c =>
      { c with reseedDue := false, lastReseed := s.now }).journalChange (.reseed (s.boot.entropy.reseeds + 1))) := by
  have hdraw : (s.easel.cfg.reseedDue || s.passed s.easel.cfg.lastReseed (s.easel.cfg.reseedPeriod * 1000)) = true :=
    Bool.or_eq_true_iff.2 (hdue.imp_right passed_of)
  exact congrArg Host.Outcome.next (if_pos (by simp only [hserve, hready, hroom, hdraw, Bool.and_self]))

/-! ### Switches (R55, R65) -/

theorem GovParam.takeLinear_of_come {w vrail dwn : Nat} {codes : List Int} {p : GovParam} (honly : p.nextLinear = [(w, codes, vrail)])
    (hcome : w ≤ dwn) : p.takeLinear dwn = { p with
      weights := codes.take 2048, s0 := codes.getD 2048 0, sV := codes.getD 2049 0, sT := codes.getD 2050 0, vrail := vrail, linearSet := true
      nextLinear := [] } := by
  have htaken : p.nextLinear.filter (fun x => x.1 ≤ dwn) = [(w, codes, vrail)] := by simp [honly, hcome]
  have hleft : p.nextLinear.filter (fun x => dwn < x.1) = [] := by simp [honly, hcome]
  simp only [GovParam.takeLinear, htaken, hleft, List.getLast?_singleton]

/-! ### Records (R149) -/

theorem exec_easelRecord_of_due {b : Nat} {s : State} (hserve : s.serving = some b) (hdue : s.recordDue = true) :
    exec .easelRecord s = .next ((s.easelBay b).insts.foldl (fun s e => s.telemetry 5 (s.easelWords b e.1 e.2)) s) := by
  show execEaselRecord s = _
  simp only [execEaselRecord, hserve, hdue, if_true]

/-! ### O32 -/

/-- Settles O32: each row's premises leave one branch of it. -/
theorem easelRows : Obligations.EaselRows := by
  unfold Obligations.EaselRows
  refine ⟨?run, ?bound, ?knownAnswer, fun s => exec_reseed_of_due, ?switchWindow, ?linear, fun b s => exec_easelRecord_of_due⟩
  case run =>
    intro bay ph i s hbound hdue
    exact ⟨exec_easelPhaseRun_of_ready hbound hdue, exec_easelPhaseRun_of_unplaced hbound hdue, exec_easelPhaseRun_of_unseeded hbound hdue⟩
  case bound =>
    intro bay inst i s hbound
    exact ⟨exec_easelPhaseClose_of_running hbound, exec_gapLoadDone_of_waiting hbound, exec_modelReloadDone_of_reloading hbound⟩
  case knownAnswer =>
    intro bay panel s halive hpanel
    exact ⟨exec_knownAnswerCheck_of_mismatch halive hpanel, exec_knownAnswerCheck_of_returning halive hpanel,
      exec_knownAnswerCheck_of_starved halive hpanel⟩
  case switchWindow => exact fun bay s => rfl
  case linear => exact fun w vrail dwn codes p => GovParam.takeLinear_of_come

end Sys2Proof.Machine

/-!
SUPPORT. The Barn's arithmetic, branches and jumps (R173, R178, R183): what a row that issues does to its hand, and from it O23, O24; and
the words of O52.
-/
namespace Sys2Proof.Machine
open Sys2Proof

section
variable {s : State} {bay hand : Nat} (hissue : s.issues bay hand = true)
include hissue

/-- A row that acts on its own hand alone. -/
theorem exec_of_issue {i : Instr} {f : Hand → Hand} (hrow : exec i s = .next (s.issue bay hand f)) :
    exec i s = .next (s.modHand bay hand f) := by
  rw [hrow, issue_of_issues hissue]

/-- A row that computes from two registers. -/
theorem exec_of_aluR {i : Instr} {rd rs1 rs2 : Nat} (f : Word32 → Word32 → Word32)
    (hrow : exec i s = .next (s.issue bay hand fun h => h.result rd (aluR f h rs1 rs2))) :
    exec i s = .next (s.modHand bay hand fun h =>
      { h.setReg rd (f ((s.hand bay hand).reg rs1) ((s.hand bay hand).reg rs2)) with pc := h.pc + 4 }) := by
  rw [exec_of_issue hissue hrow, modHand_alu]

/-- A row that computes from one register. -/
theorem exec_of_aluImm {i : Instr} {rd rs1 : Nat} (f : Word32 → Word32)
    (hrow : exec i s = .next (s.issue bay hand fun h => h.result rd (f (h.reg rs1)))) :
    exec i s = .next (s.modHand bay hand fun h => { h.setReg rd (f ((s.hand bay hand).reg rs1)) with pc := h.pc + 4 }) := by
  rw [exec_of_issue hissue hrow, modHand_alu_imm]

/-- A row that compares two registers and branches. -/
theorem exec_of_branch {i : Instr} {rs1 rs2 : Nat} {off : BitVec 18} (c : Word32 → Word32 → Bool)
    (hrow : exec i s = .next (s.issue bay hand fun h => h.branch (c (h.reg rs1) (h.reg rs2)) off)) :
    exec i s = .next (s.modHand bay hand fun h => { h with
      pc := if c ((s.hand bay hand).reg rs1) ((s.hand bay hand).reg rs2) then h.pc + off.signExtend 32 * 4 else h.pc + 4 }) := by
  rw [exec_of_issue hissue hrow, modHand_branch]

end

/-! ### O23, O24 and O52 -/

/-- Settles O23: each row computes its operation from rs1 and rs2; the high products are those of the operands as integers. -/
theorem barnRegisterArithmetic : Obligations.BarnRegisterArithmetic := by
  unfold Obligations.BarnRegisterArithmetic
  intro bay hand rd rs1 rs2 s hissue
  refine ⟨?add, ?sub, ?and, ?or, ?xor, ?shl, ?shr, ?sra, ?slt, ?sltu, ?mul, ?mulh, ?mulhu, ?min, ?max⟩
  case add => exact exec_of_aluR hissue (fun a b => a + b) rfl
  case sub => exact exec_of_aluR hissue (fun a b => a - b) rfl
  case and => exact exec_of_aluR hissue (fun a b => a &&& b) rfl
  case or => exact exec_of_aluR hissue (fun a b => a ||| b) rfl
  case xor => exact exec_of_aluR hissue (fun a b => a ^^^ b) rfl
  case shl => exact exec_of_aluR hissue (fun a b => a <<< (b.toNat % 32)) rfl
  case shr => exact exec_of_aluR hissue (fun a b => a >>> (b.toNat % 32)) rfl
  case sra => exact exec_of_aluR hissue (fun a b => a.sshiftRight (b.toNat % 32)) rfl
  case slt => exact exec_of_aluR hissue (fun a b => if a.slt b then 1 else 0) rfl
  case sltu => exact exec_of_aluR hissue (fun a b => if a.ult b then 1 else 0) rfl
  case mul => exact exec_of_aluR hissue (fun a b => a * b) rfl
  case mulh => exact (exec_of_aluR hissue mulHigh rfl).trans (by rw [mulHigh_eq])
  case mulhu => exact (exec_of_aluR hissue mulHighU rfl).trans (by rw [mulHighU_eq])
  case min => exact exec_of_aluR hissue (fun a b => if a.slt b then a else b) rfl
  case max => exact exec_of_aluR hissue (fun a b => if a.slt b then b else a) rfl

/-- Settles O24: arithmetic with an immediate, LUI, branches and jumps each change their own hand alone. -/
theorem barnImmediateArithmetic : Obligations.BarnImmediateArithmetic := by
  unfold Obligations.BarnImmediateArithmetic
  intro bay hand rd rs1 rs2 s hissue
  refine ⟨fun imm => ⟨?addi, ?andi, ?ori, ?xori, ?shli, ?shri, ?srai, ?slti, ?beq, ?bne, ?blt, ?bge, ?bltu, ?bgeu, ?jalr⟩,
    fun imm => ⟨?lui, ?jal⟩⟩
  case addi => exact exec_of_aluImm hissue (fun a => a + imm.signExtend 32) rfl
  case andi => exact exec_of_aluImm hissue (fun a => a &&& imm.setWidth 32) rfl
  case ori => exact exec_of_aluImm hissue (fun a => a ||| imm.setWidth 32) rfl
  case xori => exact exec_of_aluImm hissue (fun a => a ^^^ imm.setWidth 32) rfl
  case shli => exact exec_of_aluImm hissue (fun a => a <<< (imm.toNat % 32)) rfl
  case shri => exact exec_of_aluImm hissue (fun a => a >>> (imm.toNat % 32)) rfl
  case srai => exact exec_of_aluImm hissue (fun a => a.sshiftRight (imm.toNat % 32)) rfl
  case slti => exact exec_of_aluImm hissue (fun a => if a.slt (imm.signExtend 32) then 1 else 0) rfl
  case beq => exact exec_of_branch hissue (fun a b => a == b) rfl
  case bne => exact exec_of_branch hissue (fun a b => a != b) rfl
  case blt => exact exec_of_branch hissue (fun a b => a.slt b) rfl
  case bge => exact exec_of_branch hissue (fun a b => !a.slt b) rfl
  case bltu => exact exec_of_branch hissue (fun a b => a.ult b) rfl
  case bgeu => exact exec_of_branch hissue (fun a b => !a.ult b) rfl
  case jalr | lui | jal => exact exec_of_issue hissue rfl

/-- Settles O52: each word is decoded by its fields. -/
theorem barnWordsDecode : Obligations.BarnWordsDecode := by
  unfold Obligations.BarnWordsDecode
  refine ⟨rfl, rfl, rfl, rfl, rfl, rfl, rfl, rfl, rfl, rfl, rfl, rfl, rfl, rfl, rfl, rfl, rfl, rfl, rfl, rfl, rfl, rfl, rfl, rfl, rfl, rfl,
    rfl, rfl⟩

end Sys2Proof.Machine

/-!
SUPPORT. The Barn's words (R173, R183): what a word that decodes encodes to, what a well-formed instruction's word decodes to, and from them
O53.
-/
namespace Sys2Proof.Machine
open Sys2Proof

/-! ### A word that decodes is the word its instruction encodes (R183) -/

section
variable (w : Word32)

theorem toNat_ofNat_field (lo n : Nat) : (BitVec.ofNat n (field w.toNat lo n)).toNat = field w.toNat lo n := by
  rw [BitVec.toNat_ofNat, Nat.mod_eq_of_lt (field_lt _ _ _)]

/-- A word with an 18-bit immediate. -/
theorem barnWord_imm18 {op : Nat} (hop : field w.toNat 26 6 = op) :
    barnWord op (field w.toNat 22 4) (field w.toNat 18 4) (BitVec.ofNat 18 (field w.toNat 0 18)).toNat = w :=
  barnWord_fields w hop rfl rfl (toNat_ofNat_field w 0 18).symm

/-- A word with a 22-bit immediate. -/
theorem barnWord_imm22 {op : Nat} (hop : field w.toNat 26 6 = op) :
    BitVec.ofNat 32 (op * 2 ^ 26 + field w.toNat 22 4 % 16 * 2 ^ 22 + (BitVec.ofNat 22 (field w.toNat 0 22)).toNat) = w := by
  rw [toNat_ofNat_field]
  exact immWord_fields w hop

/-- A word of an atomic. -/
theorem barnWord_imm14 {op : Nat} (hop : field w.toNat 26 6 = op) :
    barnWord op (field w.toNat 22 4) (field w.toNat 18 4) (field w.toNat 14 4 % 16 * 2 ^ 14 + (BitVec.ofNat 14 (field w.toNat 0 14)).toNat) = w :=
  barnWord_fields w hop rfl rfl (low_fields (toNat_ofNat_field w 0 14))

/-- A word with a function code under reserved bits. -/
theorem barnWord_fn {op : Nat} (hop : field w.toNat 26 6 = op) (hres : field w.toNat 6 8 = 0) :
    barnWord op (field w.toNat 22 4) (field w.toNat 18 4) (field w.toNat 14 4 % 16 * 2 ^ 14 + (BitVec.ofNat 6 (field w.toNat 0 6)).toNat) = w :=
  barnWord_fields w hop rfl rfl (low_fields (fn_fields hres (toNat_ofNat_field w 0 6)))

end

theorem encodeBarn_of_decodeR {bay hand a b c fn : Nat} {i : Instr} (h : decodeR bay hand a b c fn = some i) :
    encodeBarn i = some (barnWordR a b c fn) := by
  unfold decodeR at h
  split at h
  all_goals cases h
  all_goals rfl

section
variable {bay hand : Nat} {w : Word32} {i : Instr}

theorem encodeBarn_of_decodeImm (hgroup : field w.toNat 30 2 = 0) (h : decodeImm bay hand w.toNat = some i) : encodeBarn i = some w := by
  unfold decodeImm at h
  split at h
  case h_1 hop =>
    obtain ⟨hres, h⟩ := Option.ite_none_right_eq_some.1 h
    rw [encodeBarn_of_decodeR h, barnWordR_fields w (op_fields hgroup hop rfl) rfl rfl rfl hres rfl]
  case h_6 hop | h_7 hop | h_8 hop =>
    obtain ⟨-, ⟨⟩⟩ := Option.ite_none_right_eq_some.1 h
    exact congrArg some (barnWord_imm18 w (op_fields hgroup hop rfl))
  case h_10 hop => cases h; exact congrArg some (barnWord_imm22 w (op_fields hgroup hop rfl))
  case h_11 => cases h
  all_goals
    rename_i hop
    cases h
    exact congrArg some (barnWord_imm18 w (op_fields hgroup hop rfl))

theorem encodeBarn_of_decodeMem (hgroup : field w.toNat 30 2 = 1) (h : decodeMem bay hand w.toNat = some i) : encodeBarn i = some w := by
  unfold decodeMem at h
  dsimp only at h
  split at h
  case h_5 hop | h_6 hop =>
    obtain ⟨-, ⟨⟩⟩ := Option.ite_none_right_eq_some.1 h
    exact congrArg some (barnWord_imm18 w (op_fields hgroup hop rfl))
  case h_7 hop | h_9 hop => cases h; exact congrArg some (barnWord_imm14 w (op_fields hgroup hop rfl))
  case h_8 hop =>
    obtain ⟨-, ⟨⟩⟩ := Option.ite_none_right_eq_some.1 h
    exact congrArg some (barnWord_imm14 w (op_fields hgroup hop rfl))
  case h_10 => cases h
  all_goals
    rename_i hop
    cases h
    exact congrArg some (barnWord_imm18 w (op_fields hgroup hop rfl))

theorem encodeBarn_of_decodeJump (hgroup : field w.toNat 30 2 = 2) (h : decodeJump bay hand w.toNat = some i) : encodeBarn i = some w := by
  unfold decodeJump at h
  dsimp only at h
  split at h
  case h_7 hop => cases h; exact congrArg some (barnWord_imm22 w (op_fields hgroup hop rfl))
  case h_9 => cases h
  all_goals
    rename_i hop
    cases h
    exact congrArg some (barnWord_imm18 w (op_fields hgroup hop rfl))

theorem encodeBarn_of_decodeSystem (hgroup : field w.toNat 30 2 = 3) (h : decodeSystem bay hand w.toNat = some i) : encodeBarn i = some w := by
  unfold decodeSystem at h
  dsimp only at h
  split at h
  case h_5 hop =>
    obtain ⟨hres, ⟨⟩⟩ := Option.ite_none_right_eq_some.1 h
    simp only [Bool.and_eq_true, decide_eq_true_eq] at hres
    exact congrArg some (barnWord_fn w (op_fields hgroup hop rfl) hres.1)
  case h_12 => cases h
  all_goals
    rename_i hop
    obtain ⟨-, ⟨⟩⟩ := Option.ite_none_right_eq_some.1 h
    exact congrArg some (barnWord_imm18 w (op_fields hgroup hop rfl))

theorem encodeBarn_of_decodeBarn (h : decodeBarn bay hand w = some i) : encodeBarn i = some w := by
  unfold decodeBarn at h
  split at h
  next hgroup => exact encodeBarn_of_decodeImm hgroup h
  next hgroup => exact encodeBarn_of_decodeMem hgroup h
  next hgroup => exact encodeBarn_of_decodeJump hgroup h
  next h0 h1 h2 =>
    have hlt : field w.toNat 30 2 < 4 := field_lt w.toNat 30 2
    simp only [imp_false] at h0 h1 h2
    exact encodeBarn_of_decodeSystem (by omega) h

end

/-! ### A well-formed instruction decodes from its word (R183) -/

/-- A field above all the bits of a number is 0. -/
theorem field_of_lt {v lo : Nat} (n : Nat) (h : v < 2 ^ lo) : field v lo n = 0 := by
  rw [field, Nat.shiftRight_eq_div_pow, Nat.div_eq_of_lt h, Nat.zero_mod]

/-- A field that holds all the bits of a number is that number. -/
theorem field_zero_of_lt {v n : Nat} (h : v < 2 ^ n) : field v 0 n = v := by
  rw [field, Nat.shiftRight_zero, Nat.mod_eq_of_lt h]

section
variable {op a b low : Nat} (hop : op < 64) (ha : a < 16) (hb : b < 16) (hlow : low < 2 ^ 18)
include hop ha hb hlow

@[simp] theorem barnWord_group : field (barnWord op a b low).toNat 30 2 = op / 16 := (barnWord_field hop ha hb hlow).1

@[simp] theorem barnWord_place : field (barnWord op a b low).toNat 26 4 = op % 16 := (barnWord_field hop ha hb hlow).2.1

@[simp] theorem barnWord_rd : field (barnWord op a b low).toNat 22 4 = a := (barnWord_field hop ha hb hlow).2.2.1

@[simp] theorem barnWord_rs1 : field (barnWord op a b low).toNat 18 4 = b := (barnWord_field hop ha hb hlow).2.2.2.1

end

/-- The fields of a word with a 22-bit immediate. -/
theorem immWord_field {op a imm : Nat} (hop : op < 64) (ha : a < 16) (himm : imm < 2 ^ 22) :
    let w := BitVec.ofNat 32 (op * 2 ^ 26 + a % 16 * 2 ^ 22 + imm)
    field w.toNat 30 2 = op / 16 ∧ field w.toNat 26 4 = op % 16 ∧ field w.toNat 22 4 = a ∧ field w.toNat 0 22 = imm := by
  simp only [field, BitVec.toNat_ofNat, Nat.shiftRight_eq_div_pow]
  omega

/-- The third register field and the low 14 bits of the low part of a word. -/
theorem field_rs2 {c v : Nat} (hc : c < 16) (hv : v < 2 ^ 14) :
    field (c % 16 * 2 ^ 14 + v) 14 4 = c ∧ field (c % 16 * 2 ^ 14 + v) 0 14 = v := by
  simp only [field, Nat.shiftRight_eq_div_pow]
  omega

/-- The fields of a function code of 0 or 1 under reserved bits. -/
theorem field_fn {c v : Nat} (hv : v < 2) : field (c % 16 * 2 ^ 14 + v) 6 8 = 0 ∧ field (c % 16 * 2 ^ 14 + v) 1 5 = 0 ∧
    field (c % 16 * 2 ^ 14 + v) 0 6 = v := by
  simp only [field, Nat.shiftRight_eq_div_pow]
  omega

/-- Each format's word has the fields it was built from; its reserved bits are those above a bounded immediate. -/
theorem decodeBarn_of_encodeBarn {i : Instr} {w : Word32} (hwf : wellFormed i = true) (h : encodeBarn i = some w) :
    ∃ bay hand, decodeBarn bay hand w = some (spelledBarn i) := by
  cases i
  case add | sub | and | or | xor | shl | shr | sra | slt | sltu | mul | mulh | mulhu | min | max =>
    rename_i bay hand rd rs1 rs2
    cases h
    simp only [wellFormed, Bool.and_eq_true, decide_eq_true_eq] at hwf
    obtain ⟨⟨⟨⟨-, -⟩, ha⟩, hb⟩, hc⟩ := hwf
    exact ⟨bay, hand, decodeBarn_barnWordR bay hand ha hb hc (by decide)⟩
  case addi | andi | ori | xori | slti =>
    rename_i bay hand rd rs1 imm
    cases h
    simp only [wellFormed, Bool.and_eq_true, decide_eq_true_eq] at hwf
    exact ⟨bay, hand, by simp [decodeBarn, decodeImm, spelledBarn, barnWord_low, hwf, imm.isLt, field_zero_of_lt]⟩
  case shli | shri | srai =>
    rename_i bay hand rd rs1 imm
    cases h
    simp only [wellFormed, Bool.and_eq_true, decide_eq_true_eq] at hwf
    exact ⟨bay, hand, by simp [decodeBarn, decodeImm, spelledBarn, barnWord_low, hwf, imm.isLt, field_zero_of_lt, field_of_lt]⟩
  case lui bay hand rd imm =>
    cases h
    simp only [wellFormed, Bool.and_eq_true, decide_eq_true_eq] at hwf
    obtain ⟨hgroup, hplace, hrd, himm⟩ := immWord_field (op := 0x09) (by decide) hwf.2 imm.isLt
    generalize BitVec.ofNat 32 _ = w at hgroup hplace hrd himm
    exact ⟨bay, hand, by simp [decodeBarn, decodeImm, spelledBarn, hgroup, hplace, hrd, himm]⟩
  case lw | lhu | sw | sh | ld | sd =>
    rename_i bay hand rd rs1 imm ecc
    cases h
    simp only [wellFormed, Bool.and_eq_true, decide_eq_true_eq] at hwf
    exact ⟨bay, hand, by simp [decodeBarn, decodeMem, spelledBarn, barnWord_low, hwf, imm.isLt, field_zero_of_lt]⟩
  case aadd | aadd64 | aswp =>
    rename_i bay hand rd rs1 rs2 imm ecc
    cases h
    simp only [wellFormed, Bool.and_eq_true, decide_eq_true_eq] at hwf
    have hlow : rs2 % 16 * 2 ^ 14 + imm.toNat < 262144 := by omega
    obtain ⟨hrs2, himm⟩ := field_rs2 (c := rs2) (by omega) imm.isLt
    generalize rs2 % 16 * 2 ^ 14 + imm.toNat = low at hlow hrs2 himm
    exact ⟨bay, hand, by simp [decodeBarn, decodeMem, spelledBarn, barnWord_low, hwf, hlow, hrs2, himm]⟩
  case beq | bne | blt | bge | bltu | bgeu | jalr =>
    rename_i bay hand rd rs1 imm
    cases h
    simp only [wellFormed, Bool.and_eq_true, decide_eq_true_eq] at hwf
    exact ⟨bay, hand, by simp [decodeBarn, decodeJump, spelledBarn, barnWord_low, hwf, imm.isLt, field_zero_of_lt]⟩
  case jal bay hand rd imm =>
    cases h
    simp only [wellFormed, Bool.and_eq_true, decide_eq_true_eq] at hwf
    obtain ⟨hgroup, hplace, hrd, himm⟩ := immWord_field (op := 0x26) (by decide) hwf.2 imm.isLt
    generalize BitVec.ofNat 32 _ = w at hgroup hplace hrd himm
    exact ⟨bay, hand, by simp [decodeBarn, decodeJump, spelledBarn, hgroup, hplace, hrd, himm]⟩
  case wait bay hand rd rs1 imm =>
    cases h
    simp only [wellFormed, Bool.and_eq_true, decide_eq_true_eq] at hwf
    obtain ⟨hfits, hne⟩ := hwf
    have hmask : ¬imm.toNat = 0 := fun h => hne (BitVec.eq_of_toNat_eq h)
    exact ⟨bay, hand, by simp [decodeBarn, decodeSystem, spelledBarn, barnWord_low, hfits, hmask, imm.isLt, field_zero_of_lt, field_of_lt]⟩
  case lsend bay hand rd rs1 rs2 fn =>
    cases h
    simp only [wellFormed, Bool.and_eq_true, decide_eq_true_eq] at hwf
    have hlow : rs2 % 16 * 2 ^ 14 + fn.toNat < 262144 := by omega
    obtain ⟨hrs2, -⟩ := field_rs2 (c := rs2) (v := fn.toNat) (by omega) (by omega)
    obtain ⟨hres, hres', hfn⟩ := field_fn (c := rs2) hwf.2
    generalize rs2 % 16 * 2 ^ 14 + fn.toNat = low at hlow hrs2 hres hres' hfn
    exact ⟨bay, hand, by simp [decodeBarn, decodeSystem, spelledBarn, barnWord_low, hwf, hlow, hrs2, hres, hres', hfn]⟩
  case evb | sig =>
    rename_i bay hand rd rs1 imm
    cases h
    simp only [wellFormed, Bool.and_eq_true, decide_eq_true_eq] at hwf
    have himm : imm.toNat < 8 := by omega
    exact ⟨bay, hand, by simp [decodeBarn, decodeSystem, spelledBarn, barnWord_low, hwf, himm, imm.isLt, field_zero_of_lt, field_of_lt]⟩
  case tset bay hand rd rs1 imm =>
    cases h
    simp only [wellFormed, Bool.and_eq_true, decide_eq_true_eq] at hwf
    have himm : imm.toNat < 4 ∧ imm.toNat ≠ 3 := by omega
    exact ⟨bay, hand, by simp [decodeBarn, decodeSystem, spelledBarn, barnWord_low, hwf, himm, imm.isLt, field_zero_of_lt, field_of_lt]⟩
  case self bay hand rd rs1 imm =>
    cases h
    simp only [wellFormed, Bool.and_eq_true, decide_eq_true_eq] at hwf
    have himm : imm.toNat < 16 := by omega
    exact ⟨bay, hand, by simp [decodeBarn, decodeSystem, spelledBarn, barnWord_low, hwf, himm, imm.isLt, field_zero_of_lt, field_of_lt]⟩
  case twi | time | yieldHand | ckpt | halt =>
    rename_i bay hand rd rs1 imm
    cases h
    simp only [wellFormed, Bool.and_eq_true, decide_eq_true_eq] at hwf
    exact ⟨bay, hand, by simp [decodeBarn, decodeSystem, spelledBarn, barnWord_low, hwf, imm.isLt, field_zero_of_lt, field_of_lt]⟩
  all_goals cases h

/-! ### O53 -/

/-- Settles O53: each direction by the format of the word. -/
theorem barnRoundTrip : Obligations.BarnRoundTrip := by
  unfold Obligations.BarnRoundTrip
  exact ⟨fun _ _ _ _ h => encodeBarn_of_decodeBarn h, fun _ _ hwf h => decodeBarn_of_encodeBarn hwf h⟩

end Sys2Proof.Machine

/-!
SUPPORT. The memory invariant: what a change of a Granary keeps of its canonical form (log entry 2), and how the invariant passes through
the shapes that the model's operations are written in.
-/
namespace Sys2Proof
open Machine

/-- What a command answers, if it goes on, keeps the memory invariant. -/
def KeepsMemory (o : Host.Outcome State Fault Refusal) : Prop := ∀ t, o = .next t → MemoryInv t

theorem KeepsMemory.next {t : State} (h : MemoryInv t) : KeepsMemory (.next t) := fun _ ht => by cases ht; exact h

namespace Machine.Granary

/-- A Granary's memory is in canonical form. -/
def Canonical (g : Granary) : Prop := Memory.wf g.mem = true

namespace Canonical
variable {g : Granary}

theorem ite {c : Prop} [Decidable c] {a b : Granary} (ha : a.Canonical) (hb : b.Canonical) : (if c then a else b).Canonical := by
  split
  · exact ha
  · exact hb

theorem write (h : g.Canonical) {a : Nat} {bs : List Byte} : Canonical { g with mem := memWrite g.mem a bs } := memWrite_wf bs h a

theorem fill (h : g.Canonical) {a : Nat} {bs : List Byte} : (g.fill a bs).Canonical := h.write

theorem fillPage (h : g.Canonical) {a : Nat} {bs : List Byte} {pages : Tbl Word32} : Canonical { g.fill a bs with pageMap := pages } :=
  h.write

theorem store (h : g.Canonical) {a : Nat} {bs : List Byte} : (g.store a bs).Canonical := .ite h h.write

theorem corrected (h : g.Canonical) {a : Nat} : (g.corrected a).Canonical := h

theorem queueTest (h : g.Canonical) {bank : Nat} : (g.queueTest bank).Canonical := .ite h h

theorem settings : g.settings.Canonical := rfl

theorem mark (h : g.Canonical) {page n owner tag : Nat} : (g.mark page n owner tag).Canonical := h

theorem release (h : g.Canonical) {page n : Nat} : (g.release page n).Canonical := h

theorem forUpTo {n : Nat} {f : Granary → Nat → Granary} (h : g.Canonical) (hf : ∀ {u k}, u.Canonical → (f u k).Canonical) :
    (forUpTo n f g).Canonical := List.foldlRecOn (motive := Canonical) _ f h fun _ hu _ _ => hf hu

theorem placeCode (h : g.Canonical) {first count base data : Nat} {code init : List Byte} :
    (g.placeCode first count base data code init).Canonical := by
  unfold Granary.placeCode
  extract_lets cp g1 g2
  have h1 : g1.Canonical := mark h.write
  have h2 : g2.Canonical := h1.forUpTo fun hu => mark hu.write
  exact h2.forUpTo fun hu => hu.write

theorem bootPages (h : g.Canonical) : g.bootPages.Canonical := by
  unfold Granary.bootPages
  exact mark (mark (forUpTo (mark (forUpTo h fun hu => hu.mark)) fun hu => hu.mark))

end Canonical
end Machine.Granary

theorem canonical_tget_settings (t : Tbl Granary) (bay : Nat) :
    (tget (t.map fun e : Nat × Granary => (e.1, e.2.settings)) bay {}).Canonical := by
  induction t with
  | nil => exact rfl
  | cons e r ih =>
    simp only [List.map_cons, tget]
    exact .ite Granary.Canonical.settings ih

namespace MemoryInv
variable {s t : State}

/-- A change that leaves every bay's Granary alone. -/
theorem frame (h : MemoryInv s) (hbays : t.gran.bays = s.gran.bays) : MemoryInv t := fun bay => by
  have hsame : t.granary bay = s.granary bay := by rw [State.granary, State.granary, hbays]
  rw [hsame]
  exact h bay

theorem of_only {ps : List Part} (h : MemoryInv s) (honly : OnlyParts ps s t) (hps : .gran ∉ ps) : MemoryInv t :=
  h.frame (congrArg GranSt.bays (honly .gran hps))

theorem ite {c : Prop} [Decidable c] {a b : State} (ha : MemoryInv a) (hb : MemoryInv b) : MemoryInv (if c then a else b) := by
  split
  · exact ha
  · exact hb

theorem ite_fst {α : Type} {c : Prop} [Decidable c] {a b : State × α} (ha : MemoryInv a.1) (hb : MemoryInv b.1) :
    MemoryInv (if c then a else b).1 := by
  split
  · exact ha
  · exact hb

theorem foldl {α : Type} {f : State → α → State} {l : List α} (h : MemoryInv s) (hf : ∀ {u a}, MemoryInv u → MemoryInv (f u a)) :
    MemoryInv (l.foldl f s) := List.foldlRecOn (motive := MemoryInv) l f h fun _ hu _ _ => hf hu

theorem forUpTo {n : Nat} {f : State → Nat → State} (h : MemoryInv s) (hf : ∀ {u k}, MemoryInv u → MemoryInv (f u k)) :
    MemoryInv (forUpTo n f s) := h.foldl hf

/-- A change of one Granary that keeps its memory's canonical form. -/
theorem modGranary {bay : Nat} {f : Granary → Granary} (h : MemoryInv s)
    (hf : (s.granary bay).Canonical → (f (s.granary bay)).Canonical) : MemoryInv (s.modGranary bay f) := fun b => by
  by_cases hb : b = bay
  · subst hb
    rw [modGranary_same]
    exact hf (h b)
  · rw [modGranary_ne _ _ _ _ hb]
    exact h b

end MemoryInv
end Sys2Proof

/-!
SUPPORT. The memory invariant through the model: one lemma per operation that makes a state, in the order of the model's chapters. Each is
named after its operation and passes the invariant along as the operation's own definition passes the state along.
-/
namespace Sys2Proof.MemoryInv
open Machine
variable {s : State}

/-! ### Access -/

theorem modGov (h : MemoryInv s) {f : GovSt → GovSt} : MemoryInv (s.modGov f) := h.frame rfl

theorem modGrid (h : MemoryInv s) {f : Grid → Grid} : MemoryInv (s.modGrid f) := h.frame rfl

theorem modEasel (h : MemoryInv s) {f : EaselSt → EaselSt} : MemoryInv (s.modEasel f) := h.frame rfl

theorem modBarn (h : MemoryInv s) {f : BarnSt → BarnSt} : MemoryInv (s.modBarn f) := h.frame rfl

theorem modGran (h : MemoryInv s) {f : GranSt → GranSt} (hf : (f s.gran).bays = s.gran.bays) : MemoryInv (s.modGran f) := h.frame hf

theorem modOwn (h : MemoryInv s) {f : OwnSt → OwnSt} : MemoryInv (s.modOwn f) := h.frame rfl

theorem modHost (h : MemoryInv s) {f : HostSt → HostSt} : MemoryInv (s.modHost f) := h.frame rfl

theorem modAlm (h : MemoryInv s) {f : Almanac → Almanac} : MemoryInv (s.modAlm f) := h.frame rfl

theorem modCool (h : MemoryInv s) {f : Cool → Cool} : MemoryInv (s.modCool f) := h.frame rfl

theorem modSys (h : MemoryInv s) {f : Power → Power} : MemoryInv (s.modSys f) := h.frame rfl

theorem emit (h : MemoryInv s) {o : Out} : MemoryInv (s.emit o) :=
  h.of_only (emit_only _ _) (by simp)

theorem modAccel (h : MemoryInv s) {slot : Nat} {f : Accel → Accel} : MemoryInv (s.modAccel slot f) := h.frame rfl

theorem modLane (h : MemoryInv s) {slot bay : Nat} {f : Lane → Lane} : MemoryInv (s.modLane slot bay f) := h.frame rfl

theorem modView (h : MemoryInv s) {slot bay : Nat} {f : FrameView → FrameView} : MemoryInv (s.modView slot bay f) := h.frame rfl

theorem modPushJob (h : MemoryInv s) {slot : Nat} {f : PushJob → PushJob} : MemoryInv (s.modPushJob slot f) := h.frame rfl

theorem modGovParam (h : MemoryInv s) {slot : Nat} {f : GovParam → GovParam} : MemoryInv (s.modGovParam slot f) := h.frame rfl

theorem modMarginParam (h : MemoryInv s) {who : Nat} {f : MarginParam → MarginParam} : MemoryInv (s.modMarginParam who f) := h.frame rfl

theorem modTrimOf (h : MemoryInv s) {who point : Nat} {f : Trim → Trim} : MemoryInv (s.modTrimOf who point f) := h.frame rfl

theorem modCalSlot (h : MemoryInv s) {slot : Nat} {f : CalSlot → CalSlot} : MemoryInv (s.modCalSlot slot f) := h.frame rfl

theorem modChg (h : MemoryInv s) {bay slot : Nat} {f : Chg → Chg} : MemoryInv (s.modChg bay slot f) := h.frame rfl

theorem modGovSlot (h : MemoryInv s) {bay slot : Nat} {f : GovSlot → GovSlot} : MemoryInv (s.modGovSlot bay slot f) := h.frame rfl

theorem modEaselBay (h : MemoryInv s) {bay : Nat} {f : Easel → Easel} : MemoryInv (s.modEaselBay bay f) := h.frame rfl

theorem modHand (h : MemoryInv s) {bay hand : Nat} {f : Hand → Hand} : MemoryInv (s.modHand bay hand f) := h.frame rfl

theorem modBist (h : MemoryInv s) {bay bank : Nat} {f : Bist → Bist} : MemoryInv (s.modBist bay bank f) := h.frame rfl

theorem modBay (h : MemoryInv s) {b : Nat} {f : Bay → Bay} : MemoryInv (s.modBay b f) := h.frame rfl

theorem modEndpoint (h : MemoryInv s) {e : Nat} {f : Endpoint → Endpoint} : MemoryInv (s.modEndpoint e f) := h.frame rfl

theorem modRail_ (h : MemoryInv s) {nn : Nat} {f : Rail → Rail} : MemoryInv (s.modRail_ nn f) := h.frame rfl

theorem modChan (h : MemoryInv s) {ch : Nat} {f : Chan → Chan} : MemoryInv (s.modChan ch f) := h.frame rfl

theorem modTwPort (h : MemoryInv s) {port : Nat} {f : TwPort → TwPort} : MemoryInv (s.modTwPort port f) := h.frame rfl

theorem modPush (h : MemoryInv s) {bay : Nat} {f : Push → Push} : MemoryInv (s.modPush bay f) := h.frame rfl

theorem modMeasure (h : MemoryInv s) {bay : Nat} {f : Measure → Measure} : MemoryInv (s.modMeasure bay f) := h.frame rfl

theorem modZone (h : MemoryInv s) {z : Nat} {f : Zone → Zone} : MemoryInv (s.modZone z f) := h.frame rfl

theorem modPoint (h : MemoryInv s) {p : Nat} {f : Point → Point} : MemoryInv (s.modPoint p f) := h.frame rfl

theorem modDrive (h : MemoryInv s) {ch : Nat} {f : Drive → Drive} : MemoryInv (s.modDrive ch f) := h.frame rfl

theorem modInput (h : MemoryInv s) {ch : Nat} {f : Input → Input} : MemoryInv (s.modInput ch f) := h.frame rfl

theorem modDiode (h : MemoryInv s) {d : Nat} {f : Diode → Diode} : MemoryInv (s.modDiode d f) := h.frame rfl

theorem modValve (h : MemoryInv s) {v : Nat} {f : Valve → Valve} : MemoryInv (s.modValve v f) := h.frame rfl

theorem modThermal (h : MemoryInv s) {slot : Nat} {f : Thermal → Thermal} : MemoryInv (s.modThermal slot f) := h.frame rfl

theorem modLatch (h : MemoryInv s) {f : Latch → Latch} : MemoryInv (s.modLatch f) := h.frame rfl

theorem modJournal (h : MemoryInv s) {f : Journal → Journal} : MemoryInv (s.modJournal f) := h.frame rfl

theorem modOwnParam (h : MemoryInv s) {f : OwnParam → OwnParam} : MemoryInv (s.modOwnParam f) := h.frame rfl

theorem modEsc (h : MemoryInv s) {f : Esc → Esc} : MemoryInv (s.modEsc f) := h.frame rfl

theorem modTrayParam (h : MemoryInv s) {f : TrayParam → TrayParam} : MemoryInv (s.modTrayParam f) := h.frame rfl

theorem modRings (h : MemoryInv s) {f : Rings → Rings} : MemoryInv (s.modRings f) := h.frame rfl

theorem modAdmin (h : MemoryInv s) {f : Admin → Admin} : MemoryInv (s.modAdmin f) := h.frame rfl

theorem modFabric (h : MemoryInv s) {f : Fabric → Fabric} : MemoryInv (s.modFabric f) := h.frame rfl

theorem modFabParam (h : MemoryInv s) {f : FabParam → FabParam} : MemoryInv (s.modFabParam f) := h.frame rfl

theorem modSeq (h : MemoryInv s) {f : Seq → Seq} : MemoryInv (s.modSeq f) := h.frame rfl

theorem modFeed (h : MemoryInv s) {f : Feed → Feed} : MemoryInv (s.modFeed f) := h.frame rfl

theorem modFuse (h : MemoryInv s) {f : Fuse → Fuse} : MemoryInv (s.modFuse f) := h.frame rfl

theorem modEntropy (h : MemoryInv s) {f : Entropy → Entropy} : MemoryInv (s.modEntropy f) := h.frame rfl

theorem modUpd (h : MemoryInv s) {f : Update → Update} : MemoryInv (s.modUpd f) := h.frame rfl

theorem modDie (h : MemoryInv s) {f : Loft → Loft} : MemoryInv (s.modDie f) := h.frame rfl

theorem modEaselCfg (h : MemoryInv s) {f : EaselCfg → EaselCfg} : MemoryInv (s.modEaselCfg f) := h.frame rfl

theorem modRing (h : MemoryInv s) {n : Nat} {f : Ring → Ring} : MemoryInv (s.modRing n f) := h.modRings

theorem modEntry (h : MemoryInv s) {jseq : Nat} {f : Entry → Entry} : MemoryInv (s.modEntry jseq f) := h.modJournal

theorem modPort (h : MemoryInv s) {p : Nat} {f : Port → Port} : MemoryInv (s.modPort p f) := h.modFabric

theorem modSlot (h : MemoryInv s) {n : Nat} {f : Slot → Slot} : MemoryInv (s.modSlot n f) := h.modUpd

theorem modInst (h : MemoryInv s) {bay n : Nat} {f : Inst → Inst} : MemoryInv (s.modInst bay n f) := h.modEaselBay

/-! ### Ops -/

theorem idle (h : MemoryInv s) : MemoryInv (idle s) := .ite (h.frame rfl) h

theorem dma (h : MemoryInv s) {n addr : Nat} {bytes : List Byte} : MemoryInv (s.dma n addr bytes) :=
  h.of_only (dma_only _ _ _ _) (by simp)

theorem drawFree (h : MemoryInv s) : MemoryInv s.drawFree.2 := h.modSys

theorem writeStatus (h : MemoryInv s) {n : Nat} : MemoryInv (s.writeStatus n) :=
  h.of_only (writeStatus_only _ _) (by simp)

theorem sendVector (h : MemoryInv s) {n v : Nat} : MemoryInv (s.sendVector n v) :=
  h.of_only (sendVector_only _ _ _) (by simp)

theorem signalRing (h : MemoryInv s) {n : Nat} : MemoryInv (s.signalRing n) :=
  h.of_only (signalRing_only _ _) (by simp)

theorem ringWrite (h : MemoryInv s) {n : Nat} {words : List Word64} : MemoryInv (s.ringWrite n words) :=
  h.of_only (ringWrite_only _ _ _) (by simp)

theorem telemetry (h : MemoryInv s) {cls : Nat} {words : List Word64} : MemoryInv (s.telemetry cls words) :=
  h.of_only (telemetry_only _ _ _) (by simp)

theorem eventTo (h : MemoryInv s) {n bay code sev : Nat} {eseq : Word32} {jseq : Nat} {payload : List Byte} :
    MemoryInv (s.eventTo n bay code sev eseq jseq payload) :=
  h.of_only (eventTo_only _ _ _ _ _ _ _ _) (by simp)

theorem raiseSev (h : MemoryInv s) {bay code sev jseq : Nat} {payload : List (Nat × Nat)} :
    MemoryInv (s.raiseSev bay code sev jseq payload) :=
  h.of_only (raiseSev_only _ _ _ _ _ _) (by simp)

theorem raise (h : MemoryInv s) {code : Nat} {payload : List (Nat × Nat)} : MemoryInv (s.raise code payload) :=
  h.of_only (raise_only _ _ _) (by simp)

theorem raiseLater (h : MemoryInv s) {code : Nat} {payload : List (Nat × Nat)} : MemoryInv (s.raiseLater code payload) :=
  h.of_only (raiseLater_only _ _ _) (by simp)

theorem almanac (h : MemoryInv s) {source code : Nat} {payload : List (Nat × Nat)} : MemoryInv (s.almanac source code payload) :=
  h.of_only (almanac_only _ _ _ _) (by simp)

theorem raiseAndRecord (h : MemoryInv s) {source code : Nat} {payload : List (Nat × Nat)} :
    MemoryInv (s.raiseAndRecord source code payload) :=
  h.of_only (raiseAndRecord_only _ _ _ _) (by simp)

theorem raiseWaiting (h : MemoryInv s) : MemoryInv s.raiseWaiting := by
  unfold State.raiseWaiting
  dsimp only
  split
  · exact (h.modSys.foldl fun hu => hu.raise).modFabric.foldl fun hu => hu.almanac
  · exact h

theorem signalBay (h : MemoryInv s) {bay src : Nat} : MemoryInv (s.signalBay bay src) := h.modBarn

theorem signal (h : MemoryInv s) {src : Nat} : MemoryInv (s.signal src) :=
  h.of_only (signal_only _ _) (by simp)

theorem signalChannel (h : MemoryInv s) {ch : Nat} : MemoryInv (s.signalChannel ch) :=
  h.of_only (signalChannel_only _ _) (by simp)

/-! ### Journal -/

theorem journalWrite (h : MemoryInv s) {kind ring : Nat} {seq : Word32} {applyDwn : Nat} {w : Work} :
    MemoryInv (s.journalWrite kind ring seq applyDwn w) :=
  h.of_only (journalWrite_only _ _ _ _ _ _) (by simp)

theorem journalChange (h : MemoryInv s) {c : Change} : MemoryInv (s.journalChange c) :=
  h.of_only (journalChange_only _ _) (by simp)

theorem complete (h : MemoryInv s) {jseq status : Nat} {res : List Nat} : MemoryInv (s.complete jseq status res) :=
  h.of_only (complete_only _ _ _ _) (by simp)

theorem ok (h : MemoryInv s) {jseq : Nat} : MemoryInv (s.ok jseq) :=
  h.of_only (ok_only _ _) (by simp)

theorem bufferOut (h : MemoryInv s) {jseq addr : Nat} {bytes : List Byte} : MemoryInv (s.bufferOut jseq addr bytes) :=
  h.of_only (bufferOut_only _ _ _ _) (by simp)

theorem postAcceptance (h : MemoryInv s) {n : Nat} {seq : Word32} : MemoryInv (s.postAcceptance n seq) :=
  h.of_only (postAcceptance_only _ _ _) (by simp)

theorem acknowledge (h : MemoryInv s) {jseq : Nat} : MemoryInv (s.acknowledge jseq) :=
  h.of_only (acknowledge_only _ _) (by simp)

theorem passEntry (h : MemoryInv s) {n : Nat} : MemoryInv (s.passEntry n) :=
  h.of_only (passEntry_only _ _) (by simp)

theorem answer (h : MemoryInv s) {n : Nat} {words : List Word64} : MemoryInv (s.answer n words) :=
  h.of_only (answer_only _ _ _) (by simp)

theorem submit (h : MemoryInv s) {i : Instr} {hdr : CmdHdr} {c : CmdSpec} : MemoryInv (s.submit i hdr c) :=
  h.of_only (submit_only _ _ _ _) (by simp)

theorem modAdminOf (h : MemoryInv s) {key : Nat} {f : Admin → Admin} : MemoryInv (s.modAdminOf key f) := .ite h.modAdmin h.modEndpoint

theorem drainRing (h : MemoryInv s) {n : Nat} : MemoryInv (s.drainRing n) :=
  .ite (.ite h.modJournal.modRing.writeStatus.modRing.writeStatus.modAdminOf
    (.ite h.modJournal.modRing.writeStatus h.modJournal.modRing.writeStatus.ok)) h

theorem fallowCommitted (h : MemoryInv s) {e : Entry} : MemoryInv (s.fallowCommitted e) := by
  unfold State.fallowCommitted
  split
  · exact .ite h.modUpd h
  · exact h

theorem postCompletion (h : MemoryInv s) {jseq : Nat} {bufOk : Bool} : MemoryInv (s.postCompletion jseq bufOk) := by
  unfold State.postCompletion
  extract_lets s1 e c idx s2 s3 s4 s5 s6
  have h1 : MemoryInv s1 := .ite h h.modEntry
  have h4 : MemoryInv s4 := (h1.foldl fun hu => hu.dma).ringWrite.modEntry
  have h5 : MemoryInv s5 := .ite h4 h4.modRing
  have h6 : MemoryInv s6 := .ite h5 h5.fallowCommitted
  exact .ite h6.drainRing h1

/-! ### Reset -/

theorem goSingle (h : MemoryInv s) : MemoryInv s.goSingle := h.modJournal.foldl fun hu => hu.acknowledge

theorem setSlot (h : MemoryInv s) {n st : Nat} : MemoryInv (s.setSlot n st) := .ite h h.modSlot.raise

theorem refuseSlot (h : MemoryInv s) {n bay check : Nat} : MemoryInv (s.refuseSlot n bay check) := by
  unfold State.refuseSlot
  dsimp only
  split
  · exact h.setSlot.modSlot.almanac.raiseLater.modUpd
  · exact h.setSlot.modSlot.almanac.raiseLater

theorem refuseRunning (h : MemoryInv s) {bay : Nat} : MemoryInv (s.refuseRunning bay) := by
  unfold State.refuseRunning
  split
  · exact .ite h.refuseSlot h
  · exact h

theorem freshGovernor (h : MemoryInv s) {bay : Nat} : MemoryInv (s.freshGovernor bay) :=
  (h.forUpTo fun hu => hu.modGovSlot.modChg.modView).modGov

theorem keepLoaded (h : MemoryInv s) {bay : Nat} : MemoryInv (s.keepLoaded bay) := .ite h.modUpd h

theorem resetBay (h : MemoryInv s) {bay : Nat} : MemoryInv (s.resetBay bay) := by
  unfold State.resetBay
  extract_lets was lost g s1 s2 s3 s4 s5 s6 s7 s8 s9 s10 s11
  have h3 : MemoryInv s3 := h.keepLoaded.modBarn.modGranary fun _ => Granary.Canonical.settings
  have h9 : MemoryInv s9 := (h3.modGran rfl).modEaselBay.modMeasure.modPush.modEndpoint.modBay
  have h10 : MemoryInv s10 := .ite h9.modJournal h9
  have h11 : MemoryInv s11 := .ite h10.modHost h10
  exact .ite h11.goSingle h11

theorem restartPhotonic (h : MemoryInv s) : MemoryInv s.restartPhotonic := h.modGrid.modSys.modFabric

theorem resetEndpoint (h : MemoryInv s) {e : Nat} : MemoryInv (s.resetEndpoint e) := h.modEndpoint

/-- A controller reset leaves a Granary its settings alone, and no cell of its memory. -/
theorem resetController : MemoryInv s.resetController := by
  unfold State.resetController
  extract_lets cycled s' loads
  intro bay
  exact canonical_tget_settings s'.gran.bays bay

/-! ### Granary -/

theorem handFault (h : MemoryInv s) {bay hand cause : Nat} :
    MemoryInv (s.handFault bay hand cause) := .ite h.modHand.raise.almanac h.modHand

theorem stopRing (h : MemoryInv s) {n rerr : Nat} : MemoryInv (s.stopRing n rerr) := .ite h.modRing.writeStatus.raise h

theorem journalLoss (h : MemoryInv s) {bay a : Nat} : MemoryInv (s.journalLoss bay a) := by
  unfold State.journalLoss
  dsimp only
  refine .ite h.stopRing ?_
  split
  · exact h
  · exact (raise (.ite h.stopRing h)).modJournal

theorem uncorrectable (h : MemoryInv s) {bay addr : Nat} {again : Bool} : MemoryInv (s.uncorrectable bay addr again) := by
  unfold State.uncorrectable
  extract_lets a e pl s1 s2
  have h2 : MemoryInv s2 := (h.modGranary fun hg => hg).almanac.raise
  have hrestore : MemoryInv (s2.modGranary bay fun g => { g with waitRestore := insertAddr a g.waitRestore }) := h2.modGranary fun hg => hg
  split
  · refine h2.modGranary fun hg => .ite (.queueTest ?_) hg.fill
    exact hg.fill
  · exact .ite hrestore h2.journalLoss
  · exact .ite hrestore h2.journalLoss
  · exact .ite hrestore h2.refuseRunning.resetBay
  · exact h2.handFault
  · exact .ite hrestore h2
  · exact h2.modInst
  · exact h2.modBarn
  · exact h2

/-! ### Handover -/

theorem handoverAdvance (h : MemoryInv s) : MemoryInv s.handoverAdvance := .ite h.journalChange.modJournal h

theorem startHandover (h : MemoryInv s) {jseq : Nat} {restart : Option Nat} : MemoryInv (s.startHandover jseq restart) :=
  .ite h.modJournal.handoverAdvance h

theorem handoverFail (h : MemoryInv s) : MemoryInv s.handoverFail := .ite h.modLatch.modJournal h.modLatch.modJournal.complete

/-! ### Link -/

theorem execAcceptCommandFrame (h : MemoryInv s) {slot : Nat} {frame : CommandFrame} : KeepsMemory (execAcceptCommandFrame slot frame s) :=
  .next h.modAccel

theorem execAcceptBurstFrame (h : MemoryInv s) {slot : Nat} {frame : BurstFrame} : KeepsMemory (execAcceptBurstFrame slot frame s) :=
  .next h.modAccel

theorem execAcceptPushBlock (h : MemoryInv s) {slot : Nat} {block : PushBlock} : KeepsMemory (execAcceptPushBlock slot block s) :=
  .next h.modAccel

theorem execFirmwareVerifyDone (h : MemoryInv s) {slot : Nat} {ok : Bool} :
    KeepsMemory (execFirmwareVerifyDone slot ok s) := .next h.modAccel

theorem execLeaseLapse (h : MemoryInv s) {slot : Nat} : KeepsMemory (execLeaseLapse slot s) := .next h.modAccel

theorem execBurstEnd (h : MemoryInv s) {slot : Nat} : KeepsMemory (execBurstEnd slot s) := .next h.modAccel

theorem execAcceleratorWindow (h : MemoryInv s) {slot : Nat} {sense : AccelSense} : KeepsMemory (execAcceleratorWindow slot sense s) :=
  .next (.ite h h.modAccel.emit)

theorem execAcceleratorReset (h : MemoryInv s) {slot : Nat} : KeepsMemory (execAcceleratorReset slot s) := .next h.modAccel

theorem execAcceleratorStepComplete (h : MemoryInv s) {slot : Nat} : KeepsMemory (execAcceleratorStepComplete slot s) := .next h.modAccel

theorem execAcceleratorQuiesced (h : MemoryInv s) {slot : Nat} : KeepsMemory (execAcceleratorQuiesced slot s) := .next h.modAccel

theorem noteLanes (h : MemoryInv s) : MemoryInv s.noteLanes := by
  unfold State.noteLanes
  split
  · exact h.modBay
  · exact h.modBay.modBay

theorem reportLane (h : MemoryInv s) {slot bay st : Nat} : MemoryInv (s.reportLane slot bay st) := h.raiseSev

theorem execLaneSignalDetected (h : MemoryInv s) {bay slot : Nat} :
    KeepsMemory (execLaneSignalDetected bay slot s) := .next (.ite h.modLane h)

theorem execLaneTrainTimeout (h : MemoryInv s) {bay slot : Nat} : KeepsMemory (execLaneTrainTimeout bay slot s) :=
  .next (.ite (.ite h.modLane.reportLane h.modLane) h)

theorem execLaneRetry (h : MemoryInv s) {bay slot : Nat} : KeepsMemory (execLaneRetry bay slot s) := .next (.ite h.modLane h)

theorem execLaneLost (h : MemoryInv s) {bay slot : Nat} :
    KeepsMemory (execLaneLost bay slot s) := .next (.ite h.modLane.reportLane.noteLanes h)

theorem execLaneLossOfSignal (h : MemoryInv s) {bay slot : Nat} : KeepsMemory (execLaneLossOfSignal bay slot s) :=
  .next (.ite h.modLane.reportLane.noteLanes h)

theorem execLaneCountYield (h : MemoryInv s) : KeepsMemory (execLaneCountYield s) := by
  unfold Machine.execLaneCountYield
  refine .next ?_
  split
  · split
    · exact .ite h.startHandover h
    · exact h
  · exact h

theorem startPush (h : MemoryInv s) {slot : Nat} : MemoryInv (s.startPush slot) := by
  unfold State.startPush
  split <;> exact h.modPushJob

theorem pushFailed (h : MemoryInv s) {slot : Nat} : MemoryInv (s.pushFailed slot) :=
  .ite h.modPushJob (.ite h.modPushJob.raise.setSlot.startPush h.modPushJob.raise)

theorem execPushRestartTimeout (h : MemoryInv s) {slot : Nat} : KeepsMemory (execPushRestartTimeout slot s) := .next (.ite h.pushFailed h)

theorem pushSees (h : MemoryInv s) {slot : Nat} {f : CounterFrame} : MemoryInv (s.pushSees slot f) :=
  .ite h.pushFailed (.ite (.ite h.modPushJob.setSlot h.modPushJob) (.ite h.modPushJob h))

theorem sendBlocks (h : MemoryInv s) {slot : Nat} : MemoryInv (s.sendBlocks slot) := h.forUpTo fun hu => .ite hu.modPushJob.emit hu

/-! ### Trust -/

theorem extendTally (h : MemoryInv s) {bay n : Nat} {m : List Byte} : MemoryInv (s.extendTally bay n m) := h.modMeasure

theorem measureContainer (h : MemoryInv s) {hash : Nat} : MemoryInv (s.measureContainer hash) := h.forUpTo fun hu => .ite hu hu.extendTally

/-! ### Easel -/

theorem modInsts (h : MemoryInv s) {n : Nat} {f : Inst → Inst} : MemoryInv (s.modInsts n f) := h.modInst.modInst

theorem effEaselLoad (h : MemoryInv s) {j : Nat} : MemoryInv (effEaselLoad j s) := h.modEntry

theorem finishEaselLoad (h : MemoryInv s) {j : Nat} {hdr : CmdHdr} {blen : Nat} : MemoryInv (finishEaselLoad j hdr blen s) :=
  h.measureContainer.modEaselCfg.complete

theorem effEaselBind (h : MemoryInv s) {j : Nat} {hdr : CmdHdr} {progId rev slot : Nat} :
    MemoryInv (effEaselBind j hdr progId rev slot s) := by
  unfold Machine.effEaselBind
  dsimp only
  split
  · exact h.complete
  · split
    · exact h.complete
    · exact complete (.ite h.modInsts.modEaselCfg h.modInsts)

theorem effEaselUnbind (h : MemoryInv s) {j inst : Nat} : MemoryInv (effEaselUnbind j inst s) := .ite h.modInsts.complete h.complete

theorem effEaselDelete (h : MemoryInv s) {j progId rev : Nat} :
    MemoryInv (effEaselDelete j progId rev s) := .ite h.complete h.modEaselCfg.ok

theorem effEaselStatus (h : MemoryInv s) {j gslot buf : Nat} : MemoryInv (effEaselStatus j gslot buf s) := complete (.ite h h.bufferOut)

theorem effEaselConfig (h : MemoryInv s) {j reseed kac : Nat} : MemoryInv (effEaselConfig j reseed kac s) := h.modEaselCfg.ok

theorem postRun (h : MemoryInv s) {bay n : Nat} {i : Inst} {r : Run} {panelFail : Bool} : MemoryInv (s.postRun bay n i r panelFail) :=
  h.modEaselBay.modInst

theorem showStatus (h : MemoryInv s) {bay n : Nat} {i : Inst} {st : Word64} {infinite : Bool} :
    MemoryInv (s.showStatus bay n i st infinite) :=
  h.modEaselBay.modInst

theorem execEaselPhaseRun (h : MemoryInv s) {bay : Nat} {phase : Phase} : KeepsMemory (execEaselPhaseRun bay phase s) := by
  unfold Machine.execEaselPhaseRun
  dsimp only
  refine .next ?_
  split
  · exact h
  · exact .ite h (.ite h.showStatus (.ite h.showStatus h.postRun))

theorem execEaselPhaseClose (h : MemoryInv s) {bay inst : Nat} : KeepsMemory (execEaselPhaseClose bay inst s) := by
  unfold Machine.execEaselPhaseClose
  refine .next ?_
  split
  · exact .ite h.modInst h
  · exact h

theorem replaceInsts (h : MemoryInv s) : MemoryInv s.replaceInsts :=
  h.foldl fun hu => by
        split
        · exact hu.modInsts
        · exact .ite hu.modInsts.raise hu.modInsts

theorem execKnownAnswerCheck (h : MemoryInv s) {bay panel : Nat} {result : KacResult} :
    KeepsMemory (execKnownAnswerCheck bay panel result s) := by
  unfold Machine.execKnownAnswerCheck
  dsimp only
  refine .next (.ite h ?_)
  split
  · exact h.raiseSev
  · exact .ite h.modEaselBay (.ite h.modEaselBay.almanac.raiseSev.journalChange h.modEaselBay.almanac.raiseSev)
  · exact .ite (.ite h.modEaselBay.journalChange h.modEaselBay) h

theorem applySeeds (h : MemoryInv s) {n : Nat} : MemoryInv (s.applySeeds n) := h.modEaselBay.modEaselBay

theorem execReseed (h : MemoryInv s) : KeepsMemory (execReseed s) := .next (.ite h.modEntropy.modEaselCfg.journalChange h)

theorem newLoad (h : MemoryInv s) {bay : Nat} {i : Inst} : MemoryInv (s.newLoad bay i) := by
  unfold State.newLoad
  split
  · exact h.modGovSlot
  · exact h

theorem switchInst (h : MemoryInv s) {bay n : Nat} {i : Inst} : MemoryInv (s.switchInst bay n i) := by
  unfold State.switchInst
  extract_lets due s1 s2
  have h2 : MemoryInv s2 := by
    unfold s2
    split
    · exact .ite (.ite h.modInst h.modInst.newLoad) h
    · exact .ite h.newLoad h
  refine .ite ?_ ?_
  · split
    · exact h.modEaselBay.modGovParam
    · exact h.modEaselBay
  · split
    · exact h2
    · exact h2.modInst.newLoad

theorem execSwitchWindow (h : MemoryInv s) {bay : Nat} : KeepsMemory (execSwitchWindow bay s) :=
  .next ((h.foldl fun hu => hu.switchInst).forUpTo fun hu => hu.modGovParam)

theorem execGapLoadDone (h : MemoryInv s) {bay inst : Nat} : KeepsMemory (execGapLoadDone bay inst s) := by
  unfold Machine.execGapLoadDone
  refine .next ?_
  split
  · exact .ite h.modInst.newLoad h
  · exact h

theorem execModelReloadDone (h : MemoryInv s) {bay inst : Nat} : KeepsMemory (execModelReloadDone bay inst s) := by
  unfold Machine.execModelReloadDone
  refine .next ?_
  split
  · exact .ite (h.modInst.modGranary fun hg => hg) h
  · exact h

theorem execEaselRecord (h : MemoryInv s) : KeepsMemory (execEaselRecord s) := by
  unfold Machine.execEaselRecord
  refine .next ?_
  split
  · exact .ite (h.foldl fun hu => hu.telemetry) h
  · exact h

/-! ### Operands -/

theorem issue (h : MemoryInv s) {bay hand : Nat} {f : Hand → Hand} : MemoryInv (s.issue bay hand f) := .ite h.modHand h

theorem checkWord (h : MemoryInv s) {bay a : Nat} {ecc : Ecc} : MemoryInv (s.checkWord bay a ecc) := by
  unfold State.checkWord
  split
  · exact h
  · exact .ite h (h.modGranary fun hg => hg.corrected)
  · exact h.uncorrectable

theorem poisonedAccess (h : MemoryInv s) {bay hand a : Nat} : MemoryInv (s.poisonedAccess bay hand a) := .ite h.modHand (.ite h.handFault h)

theorem loadInto (h : MemoryInv s) {bay hand n rd a : Nat} {ecc : Ecc} : MemoryInv (s.loadInto bay hand n rd a ecc) :=
  .ite h (.ite h.handFault (.ite h.checkWord.poisonedAccess h.checkWord.modHand))

theorem storeFrom (h : MemoryInv s) {bay hand n rs2 a : Nat} {ecc : Ecc} : MemoryInv (s.storeFrom bay hand n rs2 a ecc) :=
  .ite h (.ite h.handFault (.ite (poisonedAccess (.ite h h.checkWord)) ((modGranary (.ite h h.checkWord) fun hg => hg.store).modHand)))

theorem atomic (h : MemoryInv s) {bay hand n rd rs2 a : Nat} {f : Nat → Nat → Nat} {ecc : Ecc} :
    MemoryInv (s.atomic bay hand n rd rs2 a f ecc) :=
  .ite h (.ite h.handFault (.ite h.checkWord.poisonedAccess ((h.checkWord.modGranary fun hg => hg.store).modHand)))

theorem checkpoint (h : MemoryInv s) {bay hand : Nat} {mirror : Bool} : MemoryInv (s.checkpoint bay hand mirror) :=
  .ite ((h.modGranary fun hg => hg.fill).modHand.emit) ((h.modGranary fun hg => hg.fill).modHand)

/-! ### TwoWire -/

theorem completeTwi (h : MemoryInv s) {bay hand rd buf : Nat} {word : Word32} {read : List Byte} :
    MemoryInv (s.completeTwi bay hand rd buf word read) :=
  (h.modGranary fun hg => hg.fill).modHand

theorem resyncHand (h : MemoryInv s) {bay hand : Nat} : MemoryInv (s.resyncHand bay hand) := h.modHand

theorem twiToHand (h : MemoryInv s) {bay hand issuer tag : Nat} {word : Word32} {read : List Byte} :
    MemoryInv (s.twiToHand bay hand issuer tag word read) := by
  unfold State.twiToHand
  dsimp only
  refine .ite h.modHand ?_
  split
  · exact .ite h.completeTwi (.ite h.resyncHand h)
  · exact .ite (.ite h.resyncHand h.modHand) h

theorem twDeliver (h : MemoryInv s) {d : TwDesc} {status count : Nat} {read : List Byte} : MemoryInv (s.twDeliver d status count read) := by
  unfold State.twDeliver
  dsimp only
  split
  · exact h.twiToHand.twiToHand
  · exact .ite (complete (.ite h h.bufferOut)) h.complete
  · exact .ite h.modBay h.modBay.raise

theorem twFlush (h : MemoryInv s) {port status : Nat} {withActive : Bool} : MemoryInv (s.twFlush port status withActive) :=
  h.modTwPort.foldl fun hu => hu.twDeliver

theorem twApplyCfg (h : MemoryInv s) {port : Nat} : MemoryInv (s.twApplyCfg port) := by
  unfold State.twApplyCfg
  dsimp only
  split
  · exact h
  · exact .ite h.modTwPort h.modTwPort.twFlush

theorem twEnd (h : MemoryInv s) {port status count : Nat} {read : List Byte} : MemoryInv (s.twEnd port status count read) := by
  unfold State.twEnd
  dsimp only
  split
  · exact h
  · exact h.modTwPort.twDeliver.twApplyCfg

theorem execTwiDescriptorStart (h : MemoryInv s) {port : Nat} : KeepsMemory (execTwiDescriptorStart port s) := by
  unfold Machine.execTwiDescriptorStart
  dsimp only
  refine .next (.ite (.ite h.twApplyCfg h) ?_)
  split
  · exact (modTwPort (.ite h.twApplyCfg h)).emit
  · split
    · exact (modTwPort (.ite h.twApplyCfg h)).emit
    · exact .ite h.twApplyCfg h

theorem execTwiResult (h : MemoryInv s) {port status : Nat} {arbLost : Bool} {count : Nat} {data : List (BitVec 8)} :
    KeepsMemory (execTwiResult port status arbLost count data s) := by
  unfold Machine.execTwiResult
  dsimp only
  refine .next ?_
  split
  · exact h
  · exact .ite h (.ite (.ite h.modTwPort h.twEnd) (.ite h.twEnd h.twEnd))

theorem execToutExpiry (h : MemoryInv s) {port : Nat} : KeepsMemory (execToutExpiry port s) := by
  unfold Machine.execToutExpiry
  dsimp only
  refine .next ?_
  split
  · exact .ite h.twEnd h
  · exact h

theorem execBusStuck (h : MemoryInv s) {port : Nat} {sdaClears : Bool} : KeepsMemory (execBusStuck port sdaClears s) :=
  .next (.ite h (.ite h.modTwPort h.modTwPort.twFlush.raise))

theorem execBusRecoveryRetry (h : MemoryInv s) {port : Nat} {success : Bool} : KeepsMemory (execBusRecoveryRetry port success s) :=
  .next (.ite h.modTwPort h)

theorem execTwi (h : MemoryInv s) {bay hand rd rs1 : Nat} {_imm : BitVec 18} : KeepsMemory (execTwi bay hand rd rs1 _imm s) := by
  unfold Machine.execTwi
  refine .next (.ite h ?_)
  extract_lets hd a g d0 tseq d p issued si
  have hissued : MemoryInv (issued s) := h.modHand
  have htold {rd buf : Nat} {w : Word32} {read : List Byte} : MemoryInv
    ((issued s).completeTwi bay hand rd buf w read) := hissued.completeTwi
  refine .ite h.handFault (.ite h.poisonedAccess (.ite (.ite htold (.ite htold (.ite htold (.ite h hissued.modTwPort)))) ?_))
  split
  · exact htold.modHand
  · exact hissued.modHand

theorem execShadowResultTimeout (h : MemoryInv s) {bay hand : Nat} : KeepsMemory (execShadowResultTimeout bay hand s) := by
  unfold Machine.execShadowResultTimeout
  dsimp only
  refine .next ?_
  split
  · exact .ite h.resyncHand h
  · exact h

theorem execTargetTransfer (h : MemoryInv s) {port : Nat} {write : Bool} {data : List (BitVec 8)} {readLen : Nat} {stop : Bool} :
    KeepsMemory (execTargetTransfer port write data readLen stop s) :=
  .next (.ite h (.ite (signalChannel (.ite h.modTwPort.emit h.modTwPort)) (.ite h.modTwPort.emit h.modTwPort)))

theorem execTargetAbandon (h : MemoryInv s) {port : Nat} : KeepsMemory (execTargetAbandon port s) := .next (.ite h.modTwPort.twApplyCfg h)

theorem execTargetLocalAccess (h : MemoryInv s) {port : Nat} : KeepsMemory (execTargetLocalAccess port s) := by
  unfold Machine.execTargetLocalAccess
  dsimp only
  refine .next (.ite h ?_)
  split
  · exact h
  · exact h.modTwPort.twDeliver

theorem postNotes (h : MemoryInv s) {port : Nat} : MemoryInv (s.postNotes port) := .ite h ((h.foldl fun hu => hu.raise).modTwPort)

theorem execHostNotify (h : MemoryInv s) {port : Nat} {data : List (BitVec 8)} : KeepsMemory (execHostNotify port data s) :=
  .next (.ite h h.modTwPort.postNotes)

theorem execDormantAddressMatch (h : MemoryInv s) {port addr : Nat} : KeepsMemory (execDormantAddressMatch port addr s) :=
  .next (.ite (.ite h.modTwPort h.modTwPort.modSys) h)

theorem execMatcherReturn (h : MemoryInv s) {port : Nat} : KeepsMemory (execMatcherReturn port s) := .next (.ite h.modTwPort h)

theorem effTwXfer (h : MemoryInv s) {j port addr kind wlen rlen tout buf : Nat} {wdata : List (BitVec 8)} :
    MemoryInv (effTwXfer j port addr kind wlen rlen tout buf wdata s) :=
  .ite h.complete (.ite h.complete (.ite h.complete h.modTwPort))

theorem effTwConfig (h : MemoryInv s) {j port enable speed filter target : Nat} :
    MemoryInv (effTwConfig j port enable speed filter target s) :=
  .ite h.modTwPort.modEntry.twApplyCfg h.modTwPort.modEntry

/-! ### Branch -/

theorem setChan (h : MemoryInv s) {ch : Nat} {f : Chan → Chan} : MemoryInv (s.setChan ch f) := .ite h.modChan h.modChan.signalChannel

theorem completeIf (h : MemoryInv s) {jseq status : Nat} {res : List Nat} : MemoryInv (s.completeIf jseq status res) := .ite h h.complete

theorem endChanWaits (h : MemoryInv s) {ch resetStatus resetRes : Nat} : MemoryInv (s.endChanWaits ch resetStatus resetRes) :=
  (h.modChan.foldl fun hu => hu.complete).completeIf

theorem leaveOn (h : MemoryInv s) {slot : Nat} : MemoryInv (s.leaveOn slot) :=
  .ite h.modGovSlot.modGovSlot.modView.modView.modEsc.modGovSlot.modGovSlot h.modGovSlot.modGovSlot.modView.modView

theorem endOpenings (h : MemoryInv s) {ch : Nat} : MemoryInv (s.endOpenings ch) := (h.foldl fun hu => hu.ok).modChan

theorem pullGate (h : MemoryInv s) {ch : Nat} {st : CState} : MemoryInv (s.pullGate ch st) :=
  .ite h.endOpenings.setChan.modAccel h.endOpenings.setChan

theorem commandOpen (h : MemoryInv s) {slot : Nat} : MemoryInv (s.commandOpen slot) := by
  unfold State.commandOpen
  dsimp only
  split
  · exact .ite h.endChanWaits (.ite h.leaveOn.endChanWaits.modChan.pullGate h.leaveOn.endChanWaits.modChan)
  · exact .ite h.endChanWaits (.ite h.leaveOn.endChanWaits.modChan.pullGate h.leaveOn.endChanWaits.modChan)
  · exact h.endChanWaits.setChan
  · exact h

theorem startInrush (h : MemoryInv s) {ch : Nat} : MemoryInv (s.startInrush ch) := .ite (.ite h.setChan.modAccel h.setChan) h

theorem advanceClosing (h : MemoryInv s) : MemoryInv s.advanceClosing := by
  unfold State.advanceClosing
  split
  · exact h
  · refine .ite h ?_
    split
    · exact h.startInrush.modFeed
    · exact h.modFeed

theorem startClosing (h : MemoryInv s) : MemoryInv s.startClosing := .ite h.modFeed.advanceClosing h.advanceClosing

/-! ### OpChange -/

theorem applyR84 (h : MemoryInv s) {bay slot : Nat} : MemoryInv (s.applyR84 bay slot) :=
  .ite h.modChg (.ite h.modChg (.ite h.modChg (.ite h.modChg h.modChg)))

theorem pickTarget (h : MemoryInv s) {bay slot p : Nat} : MemoryInv (s.pickTarget bay slot p) := .ite h (.ite h.modChg.applyR84 h.modChg)

theorem opcSees (h : MemoryInv s) {bay slot : Nat} {f : CounterFrame} : MemoryInv (s.opcSees bay slot f) := by
  unfold State.opcSees
  dsimp only
  split
  · exact .ite h.modChg.applyR84 (.ite h.modChg.modChg h.modChg)
  · exact .ite h.modChg.applyR84 h.modChg
  · exact .ite h.modChg.modChg h.modChg
  · exact h.modChg

theorem droopEvent (h : MemoryInv s) {bay slot : Nat} :
    MemoryInv (s.droopEvent bay slot) := .ite h.modChg.modGovSlot.emit h.modChg.modGovSlot

theorem droopFrame (h : MemoryInv s) {bay slot snap : Nat} : MemoryInv (s.droopFrame bay slot snap) := .ite h.modChg h.modChg.droopEvent

theorem droopFlag (h : MemoryInv s) {slot : Nat} : MemoryInv (s.droopFlag slot) := h.foldl fun hu => .ite hu.modChg hu.modChg.droopEvent

theorem execOpcTimeout (h : MemoryInv s) {bay slot : Nat} : KeepsMemory (execOpcTimeout bay slot s) :=
  .next (.ite h (.ite h.modChg.raise h.modChg))

theorem execDroopResumeExpiry (h : MemoryInv s) {bay slot : Nat} : KeepsMemory (execDroopResumeExpiry bay slot s) := by
  unfold Machine.execDroopResumeExpiry
  dsimp only
  refine .next ?_
  split
  · exact .ite h.modChg h
  · exact h

theorem execOpdnExpiry (h : MemoryInv s) {bay slot : Nat} : KeepsMemory (execOpdnExpiry bay slot s) := by
  unfold Machine.execOpdnExpiry
  dsimp only
  refine .next ?_
  split
  · exact .ite h.pickTarget h
  · exact h

theorem execOpupExpiry (h : MemoryInv s) {bay slot : Nat} : KeepsMemory (execOpupExpiry bay slot s) := by
  unfold Machine.execOpupExpiry
  dsimp only
  refine .next ?_
  split
  · exact .ite h.pickTarget h
  · exact h

theorem marginRead (h : MemoryInv s) {who p : Nat} {m : Int} : MemoryInv (s.marginRead who p m) :=
  .ite h (.ite (.ite h.modTrimOf.raise (h.modTrimOf.raise.modTrimOf.foldl fun hu => .ite hu.pickTarget hu)) h.modTrimOf)

theorem execAgeingRead (h : MemoryInv s) {slot : Nat} {margins : List Int} : KeepsMemory (execAgeingRead slot margins s) :=
  .next (.ite (h.foldl fun hu => hu.marginRead) h)

theorem execBayAgeingRead (h : MemoryInv s) {bay : Nat} {margin : Int} : KeepsMemory (execBayAgeingRead bay margin s) :=
  .next (.ite h (.ite h.modBay.marginRead.startHandover h.modBay.marginRead))

theorem writeVout (h : MemoryInv s) {bay : Nat} {trim : Int} : MemoryInv (s.writeVout bay trim) := by
  unfold State.writeVout
  dsimp only
  split
  · exact h.raise
  · split
    · exact h.raise
    · exact h.modBay.modTwPort

theorem applyTrim (h : MemoryInv s) {who p : Nat} {trim : Int} : MemoryInv (s.applyTrim who p trim) :=
  .ite h.modTrimOf.writeVout (h.modTrimOf.foldl fun hu => .ite hu.modChg hu)

theorem execTrimEvaluation (h : MemoryInv s) {who point : Nat} : KeepsMemory (execTrimEvaluation who point s) :=
  .next (.ite h (.ite (.ite h.modTrimOf.writeVout h.modTrimOf) h.modTrimOf.journalChange.almanac))

theorem effGovSetOp (h : MemoryInv s) {j slot clear timeout : Nat} : MemoryInv (effGovSetOp j slot clear timeout s) :=
  (h.foldl fun hu => .ite (hu.modGovParam.foldl fun hu' => hu'.modChg) hu.modGovParam).ok

theorem effGovSetDroop (h : MemoryInv s) {j slot dens len resume di storm : Nat} :
    MemoryInv (effGovSetDroop j slot dens len resume di storm s) :=
  (h.foldl fun hu => hu.modGovParam).ok

theorem effGovSetMargin (h : MemoryInv s) {j slot item : Nat} {value : BitVec 32} : MemoryInv (effGovSetMargin j slot item value s) :=
  (h.foldl fun hu => hu.modMarginParam).ok

theorem effGovTrimReset (h : MemoryInv s) {j slot : Nat} : MemoryInv (effGovTrimReset j slot s) :=
  (h.foldl fun hu => (hu.foldl fun hu' => .ite hu'.modTrimOf hu'.modTrimOf.applyTrim).almanac).ok

/-! ### Rails -/

theorem railOn (h : MemoryInv s) {nn : Nat} : MemoryInv (s.railOn nn) := h.modRail_.signalChannel

theorem railOff (h : MemoryInv s) {nn : Nat} : MemoryInv (s.railOff nn) := h.modRail_.signalChannel

theorem startUp (h : MemoryInv s) {m named : BitVec 64} : MemoryInv (s.startUp m named) := h.modSeq

theorem startCommanded (h : MemoryInv s) {jseq : Nat} {mask : BitVec 64} {on faulted : Bool} :
    MemoryInv (s.startCommanded jseq mask on faulted) :=
  .ite h.modSeq.startUp h.modSeq.modSeq

theorem parkDown (h : MemoryInv s) : MemoryInv s.parkDown := h.modSeq

theorem endCommand (h : MemoryInv s) : MemoryInv s.endCommand := .ite h.modSeq.completeIf h.modSeq.completeIf

/-- A move of the rail sequencer, if it has one, keeps the memory invariant. -/
def KeepsMoved (o : Option State) : Prop := ∀ t, o = some t → MemoryInv t

namespace KeepsMoved

theorem stays : KeepsMoved none := fun _ ht => nomatch ht

theorem moves (h : MemoryInv s) : KeepsMoved (some s) := fun _ ht => by cases ht; exact h

theorem ite {c : Prop} [Decidable c] {a b : Option State} (ha : KeepsMoved a) (hb : KeepsMoved b) : KeepsMoved (if c then a else b) := by
  split
  · exact ha
  · exact hb

end KeepsMoved

theorem railMove (h : MemoryInv s) : KeepsMoved s.railMove := by
  unfold State.railMove
  extract_lets q all set top sOff
  have hoff : MemoryInv sOff := h.foldl fun hu => .ite hu.railOff hu
  refine .ite .stays (.ite .stays (.ite (.moves hoff.modSeq) ?_))
  split
  iterate 2
    · split
      · exact .stays
      · exact .moves h.modSeq.startCommanded
  · exact .moves h.endCommand
  · exact .moves (.ite h.endCommand.modSeq h.endCommand)
  · exact .ite .stays (.ite (.moves h.modSeq.almanac.startUp.modSeq) (.moves h.modSeq.almanac))
  · refine .ite (.moves (modSeq ?_)) (.ite (.moves (.ite h.endCommand.modSeq h.endCommand)) (.ite .stays (.moves h.modSeq)))
    exact h.foldl fun hu => .ite hu.railOn hu

theorem railLoop (h : MemoryInv s) {fuel : Nat} : MemoryInv (State.railLoop fuel s) := by
  induction fuel generalizing s with
  | zero => exact h
  | succ n ih =>
    unfold State.railLoop
    split
    · exact h
    next ht => exact ih (h.railMove _ ht)

theorem railRun (h : MemoryInv s) : MemoryInv s.railRun := h.railLoop.startClosing

theorem startRails (h : MemoryInv s) : MemoryInv s.startRails := .ite h (.ite h.modSeq.modSeq.railRun h.modSeq.startUp.railRun)

theorem railFault (h : MemoryInv s) {nn cause : Nat} {release : Bool} : MemoryInv (s.railFault nn cause release) :=
  h.modRail_.signalChannel.modSeq.raiseAndRecord.railRun

theorem execPgCountedUp (h : MemoryInv s) {rail : Nat} :
    KeepsMemory (execPgCountedUp rail s) := .next (.ite h h.modRail_.signalChannel.railRun)

theorem execPgCountedDown (h : MemoryInv s) {rail : Nat} : KeepsMemory (execPgCountedDown rail s) :=
  .next (.ite h (.ite h.modRail_.signalChannel.railFault h.modRail_.signalChannel.railRun))

theorem execRiseTimeoutExpiry (h : MemoryInv s) {rail : Nat} : KeepsMemory (execRiseTimeoutExpiry rail s) := .next (.ite h.railFault h)

theorem execFallingExpiry (h : MemoryInv s) : KeepsMemory (execFallingExpiry s) :=
  .next (.ite ((h.foldl fun hu => .ite hu.modRail_.signalChannel hu).railRun) h)

theorem execEnReadbackMismatch (h : MemoryInv s) {rail : Nat} :
    KeepsMemory (execEnReadbackMismatch rail s) := .next (.ite h h.raise.railFault)

theorem startInputLoss (h : MemoryInv s) : MemoryInv s.startInputLoss := .ite h h.modSeq.almanac

theorem execShutdownFirstStep (h : MemoryInv s) : KeepsMemory (execShutdownFirstStep s) := by
  unfold Machine.execShutdownFirstStep
  dsimp only
  refine .next ?_
  split
  · exact .ite h ((h.foldl fun hu => .ite hu.commandOpen hu).modFeed.modSeq.railRun)
  · exact h

theorem raisePg (h : MemoryInv s) : MemoryInv s.raisePg := .ite ((h.foldl fun hu => .ite hu.modChan hu).modFeed) h

theorem execInputReturned (h : MemoryInv s) {channel : Nat} : KeepsMemory (execInputReturned channel s) :=
  .next (.ite h (.ite h.modSeq.raisePg.raise.railRun (.ite h.modSeq (.ite h.startUp.modSeq.railRun h))))

theorem execRailRecord (h : MemoryInv s) : KeepsMemory (execRailRecord s) := .next (.ite h.telemetry h)

theorem effPwrSetRail (h : MemoryInv s) {j rail sheaf : Nat} {parents : List Nat} {riseTimeout : Nat} :
    MemoryInv (effPwrSetRail j rail sheaf parents riseTimeout s) :=
  h.modRail_.ok

theorem effPwrRailCtrl (h : MemoryInv s) {j : Nat} {mask : BitVec 64} {on : Nat} :
    MemoryInv (effPwrRailCtrl j mask on s) := h.modSeq.railRun

/-! ### Feeds -/

theorem convert (h : MemoryInv s) {x : SenseIn} : MemoryInv (s.convert x) := .ite h (.ite h.setChan.droopFlag h.setChan)

theorem execSenseSample (h : MemoryInv s) {samples : List SenseIn} {vh : Option Nat} : KeepsMemory (execSenseSample samples vh s) := by
  unfold Machine.execSenseSample
  dsimp only
  refine .next (.ite ?_ h)
  split
  · exact (h.foldl fun hu => hu.convert).modSys
  · exact h.foldl fun hu => hu.convert

theorem writeEnergy (h : MemoryInv s) : MemoryInv s.writeEnergy := h.modFeed

theorem execEnergyWriteback (h : MemoryInv s) : KeepsMemory (execEnergyWriteback s) := .next (.ite h h.writeEnergy)

theorem feedAuto (h : MemoryInv s) : MemoryInv s.feedAuto := .ite h (.ite (.ite h.startInrush h) (.ite h.startInrush h))

theorem noFeedLeft (h : MemoryInv s) : MemoryInv s.noFeedLeft := (h.foldl fun hu => .ite hu.modChan hu).modFeed

theorem startSwitch (h : MemoryInv s) {src dst : Nat} : MemoryInv (s.startSwitch src dst) := (modChan (.ite h.pullGate h)).modFeed

theorem execBothOffExpiry (h : MemoryInv s) : KeepsMemory (execBothOffExpiry s) := by
  unfold Machine.execBothOffExpiry
  dsimp only
  refine .next ?_
  split
  · exact h.feedAuto
  · exact .ite h (.ite (.ite h.modFeed.noFeedLeft.startInputLoss h.modFeed.noFeedLeft) (.ite h.setChan.modFeed h))

theorem warnAssert (h : MemoryInv s) {f : Nat} : MemoryInv (s.warnAssert f) :=
  .ite h.modFeed.raiseAndRecord.startSwitch (.ite h.modFeed.raiseAndRecord h.modFeed.raiseAndRecord.noFeedLeft.startInputLoss)

theorem execFeedWarnDeassert (h : MemoryInv s) : KeepsMemory (execFeedWarnDeassert s) := by
  unfold Machine.execFeedWarnDeassert
  dsimp only
  refine .next ?_
  split
  · split
    · exact .ite (.ite h.modFeed.modChan h.modFeed.modChan.raisePg) h
    · exact h
  · exact h

theorem execReturnToFeedA (h : MemoryInv s) : KeepsMemory (execReturnToFeedA s) := by
  unfold Machine.execReturnToFeedA
  dsimp only
  refine .next ?_
  split
  · exact .ite h.startSwitch h
  · exact h

theorem execFeedValid (h : MemoryInv s) {channel : Nat} : KeepsMemory (execFeedValid channel s) := by
  unfold Machine.execFeedValid
  dsimp only
  refine .next ?_
  split
  · exact .ite h.setChan.feedAuto h
  · exact h

theorem execGateFault (h : MemoryInv s) {channel : Nat} : KeepsMemory (execGateFault channel s) := .next (.ite h.setChan.modFeed.raise h)

theorem seatCount (h : MemoryInv s) : MemoryInv s.seatCount := h.modFeed

theorem execSeatPinMade (h : MemoryInv s) {pinB : Bool} : KeepsMemory (execSeatPinMade pinB s) := .next h.modFeed.signalChannel.seatCount

theorem execSeated (h : MemoryInv s) : KeepsMemory (execSeated s) := by
  unfold Machine.execSeated
  dsimp only
  refine .next ?_
  split
  · exact .ite h.modFeed.setChan.setChan.feedAuto h
  · exact h

theorem unseat (h : MemoryInv s) {ch : Nat} : MemoryInv (s.unseat ch) :=
  .ite ((((endOpenings (.ite h.leaveOn h)).endChanWaits).setChan).modAccel) (((endOpenings (.ite h.leaveOn h)).endChanWaits).setChan)

theorem execSeatPinBroken (h : MemoryInv s) {pinB : Bool} : KeepsMemory (execSeatPinBroken pinB s) := by
  unfold Machine.execSeatPinBroken
  extract_lets s1 driven f warned s2 s3 s4 s5
  have h1 : MemoryInv s1 := h.modFeed.signalChannel
  have h4 : MemoryInv s4 := (h1.foldl fun hu => hu.unseat).modFeed.modSeq
  have h5 : MemoryInv s5 := .ite h4 h4.raiseAndRecord
  exact .next (.ite h1 (.ite h1.modFeed h5.startInputLoss))

theorem feedTurnedOn (h : MemoryInv s) {ch : Nat} {wasLimited : Bool} : MemoryInv (s.feedTurnedOn ch wasLimited) :=
  (startRails (.ite (.ite h.modFeed.modFeed.raise h.modFeed) (raisePg (.ite h.modFeed.modFeed.raise h.modFeed)))).startClosing

theorem execGateFullyOn (h : MemoryInv s) {channel : Nat} : KeepsMemory (execGateFullyOn channel s) :=
  .next (.ite h (.ite h.setChan.feedTurnedOn ((h.setChan.modAccel.foldl fun hu => .ite hu hu.ok).advanceClosing)))

theorem latchFeed (h : MemoryInv s) {ch : Nat} : MemoryInv (s.latchFeed ch) := (modChan (.ite h.pullGate h.setChan)).raiseAndRecord

theorem feedLost (h : MemoryInv s) {ch : Nat} {wasSwitch : Bool} : MemoryInv (s.feedLost ch wasSwitch) :=
  .ite h.latchFeed.latchFeed.modFeed.noFeedLeft (.ite h.startSwitch h.modFeed.noFeedLeft)

theorem trip (h : MemoryInv s) {ch cause current : Nat} : MemoryInv (s.trip ch cause current) := by
  unfold State.trip
  extract_lets c s1 s2 st s3 s4
  have h1 : MemoryInv s1 := .ite h.leaveOn h
  have h3 : MemoryInv s3 := h1.endChanWaits.pullGate.modChan
  have h4 : MemoryInv s4 := .ite h3.raiseAndRecord h3.raiseAndRecord
  exact .ite h4.advanceClosing (.ite h4.feedLost h4.feedAuto)

theorem execFastTrip (h : MemoryInv s) {channel current : Nat} : KeepsMemory (execFastTrip channel current s) := .next (.ite h.trip h)

theorem execInrushTimeoutExpiry (h : MemoryInv s) {channel : Nat} : KeepsMemory (execInrushTimeoutExpiry channel s) := .next (.ite h.trip h)

theorem execTripRetry (h : MemoryInv s) {channel : Nat} : KeepsMemory (execTripRetry channel s) := by
  unfold Machine.execTripRetry
  dsimp only
  refine .next ?_
  split
  · exact .ite (.ite h.modChan.setChan.feedAuto h.modChan.startInrush) h
  · exact h

theorem execRetryCountRestore (h : MemoryInv s) {channel : Nat} : KeepsMemory (execRetryCountRestore channel s) :=
  .next (.ite h.modChan.completeIf h)

theorem parkSettled (h : MemoryInv s) : MemoryInv s.parkSettled := .ite h.modGrid.raise.parkDown.railRun h

theorem reclose (h : MemoryInv s) {slot : Nat} : MemoryInv (s.reclose slot) :=
  .ite h (.ite (.ite h.startInrush h) (endChanWaits (.ite h.startInrush h)))

theorem execCommandedOpenDelay (h : MemoryInv s) {slot : Nat} : KeepsMemory (execCommandedOpenDelay slot s) :=
  .next (.ite h.pullGate.reclose.advanceClosing.parkSettled h)

theorem execPowerChannelRecord (h : MemoryInv s) {channel : Nat} : KeepsMemory (execPowerChannelRecord channel s) :=
  .next (.ite h h.telemetry.modChan)

theorem effPwrSetTrip (h : MemoryInv s) {j channel thresh retries : Nat} : MemoryInv (effPwrSetTrip j channel thresh retries s) :=
  ok (.ite h.modChan.setChan.raiseAndRecord h.modChan)

theorem effPwrResetTrip (h : MemoryInv s) {j channel : Nat} : MemoryInv (effPwrResetTrip j channel s) :=
  .ite h.complete (.ite h.modChan.startInrush h.modChan.setChan.feedAuto)

theorem effPwrBranch (h : MemoryInv s) {j slot on : Nat} : MemoryInv (effPwrBranch j slot on s) := by
  unfold Machine.effPwrBranch
  dsimp only
  refine .ite h.complete (.ite (.ite h.commandOpen.modChan h.commandOpen.ok) (.ite h.complete (.ite h.modChan ?_)))
  split
  · exact h.ok
  · exact h.modChan
  · exact .ite h.startInrush.modChan h.startInrush.complete
  · exact h.complete

theorem effPwrSetWarn (h : MemoryInv s) {j feed : Nat} {thresh : Int} : MemoryInv (effPwrSetWarn j feed thresh s) := h.modChan.ok

theorem effPwrStatus (h : MemoryInv s) {j buf : Nat} : MemoryInv (effPwrStatus j buf s) := h.bufferOut.ok

/-! ### Almanac -/

theorem writeRecord (h : MemoryInv s) {r : AlmRec} : MemoryInv (s.writeRecord r) := h.modAlm

theorem writeNext (h : MemoryInv s) : MemoryInv s.writeNext := by
  unfold State.writeNext
  dsimp only
  split
  · exact h
  · exact (modAlm (.ite h h.writeRecord.modAlm)).writeRecord

theorem execAlmanacWrite (h : MemoryInv s) : KeepsMemory (execAlmanacWrite s) := .next (.ite (.ite resetController h.writeNext) h)

theorem execAlmanacDrop (h : MemoryInv s) {source code : Nat} {payload : List (BitVec 8)} :
    KeepsMemory (execAlmanacDrop source code payload s) :=
  .next (.ite h.almanac h)

theorem execHoldupCollapse (h : MemoryInv s) : KeepsMemory (execHoldupCollapse s) :=
  .next (.ite h (.ite (almanac (.ite h.modSys h.modSys.modUpd.writeEnergy)) (.ite h.modSys h.modSys.modUpd.writeEnergy)))

theorem execHoldupExhausted (h : MemoryInv s) : KeepsMemory (execHoldupExhausted s) := by
  unfold Machine.execHoldupExhausted
  dsimp only
  refine .next (.ite h ?_)
  split <;> exact h.modSys.modAlm

theorem execKeeperStart (h : MemoryInv s) : KeepsMemory (execKeeperStart s) := .next (.ite h h.modAlm.writeRecord)

theorem effLogRead (h : MemoryInv s) {j start count buf : Nat} : MemoryInv (effLogRead j start count buf s) :=
  complete (.ite (.ite h.modAlm h.modAlm.bufferOut) (raiseSev (.ite h.modAlm h.modAlm.bufferOut)))

theorem effLogStatus (h : MemoryInv s) {j : Nat} : MemoryInv (effLogStatus j s) := h.complete

/-! ### Barn -/

theorem execLw (h : MemoryInv s) {bay hand rd rs1 : Nat} {imm : BitVec 18} {ecc : Ecc} : KeepsMemory (execLw bay hand rd rs1 imm ecc s) :=
  .next h.loadInto

theorem execLhu (h : MemoryInv s) {bay hand rd rs1 : Nat} {imm : BitVec 18} {ecc : Ecc} : KeepsMemory (execLhu bay hand rd rs1 imm ecc s) :=
  .next h.loadInto

theorem execLd (h : MemoryInv s) {bay hand rd rs1 : Nat} {imm : BitVec 18} {ecc : Ecc} : KeepsMemory (execLd bay hand rd rs1 imm ecc s) :=
  .next h.loadInto

theorem execSw (h : MemoryInv s) {bay hand rs2 rs1 : Nat} {imm : BitVec 18} {ecc : Ecc} : KeepsMemory (execSw bay hand rs2 rs1 imm ecc s) :=
  .next h.storeFrom

theorem execSh (h : MemoryInv s) {bay hand rs2 rs1 : Nat} {imm : BitVec 18} {ecc : Ecc} : KeepsMemory (execSh bay hand rs2 rs1 imm ecc s) :=
  .next h.storeFrom

theorem execSd (h : MemoryInv s) {bay hand rs2 rs1 : Nat} {imm : BitVec 18} {ecc : Ecc} : KeepsMemory (execSd bay hand rs2 rs1 imm ecc s) :=
  .next h.storeFrom

theorem execAadd (h : MemoryInv s) {bay hand rd rs1 rs2 : Nat} {imm : BitVec 14} {ecc : Ecc} :
    KeepsMemory (execAadd bay hand rd rs1 rs2 imm ecc s) :=
  .next h.atomic

theorem execAadd64 (h : MemoryInv s) {bay hand rd rs1 rs2 : Nat} {imm : BitVec 14} {ecc : Ecc} :
    KeepsMemory (execAadd64 bay hand rd rs1 rs2 imm ecc s) :=
  .next h.atomic

theorem execAswp (h : MemoryInv s) {bay hand rd rs1 rs2 : Nat} {imm : BitVec 14} {ecc : Ecc} :
    KeepsMemory (execAswp bay hand rd rs1 rs2 imm ecc s) :=
  .next h.atomic

theorem execSig (h : MemoryInv s) {bay hand _rd rs1 : Nat} {imm : BitVec 18} : KeepsMemory (execSig bay hand _rd rs1 imm s) :=
  .next (.ite h.modHand.modHand h)

theorem execTset (h : MemoryInv s) {bay hand _rd rs1 : Nat} {imm : BitVec 18} : KeepsMemory (execTset bay hand _rd rs1 imm s) :=
  .next (.ite (.ite h.handFault h.modHand) h)

theorem execCkpt (h : MemoryInv s) {bay hand _rd _rs1 : Nat} {imm : BitVec 18} : KeepsMemory (execCkpt bay hand _rd _rs1 imm s) :=
  .next (.ite h.checkpoint h)

theorem execIllegalInstruction (h : MemoryInv s) {bay hand : Nat} {word : BitVec 32} :
    KeepsMemory (execIllegalInstruction bay hand word s) :=
  .next (.ite h.handFault h)

theorem execAccessDone (h : MemoryInv s) {bay hand : Nat} : KeepsMemory (execAccessDone bay hand s) := .next (.ite h.modHand h)

theorem execIcacheLineFill (h : MemoryInv s) {bay hand line : Nat} : KeepsMemory (execIcacheLineFill bay hand line s) :=
  .next (.ite h.modBarn.modHand h.modBarn)

theorem execYieldExpiry (h : MemoryInv s) {bay hand : Nat} : KeepsMemory (execYieldExpiry bay hand s) := by
  unfold Machine.execYieldExpiry
  refine .next ?_
  split
  · exact .ite h.modHand h
  · exact h

theorem execHandTimerExpiry (h : MemoryInv s) {bay hand : Nat} : KeepsMemory (execHandTimerExpiry bay hand s) := .next (.ite h.modHand h)

theorem execCkptWdExpiry (h : MemoryInv s) {bay hand : Nat} : KeepsMemory (execCkptWdExpiry bay hand s) := .next (.ite h.handFault h)

theorem execMirrorAck (h : MemoryInv s) {bay hand : Nat} : KeepsMemory (execMirrorAck bay hand s) := by
  unfold Machine.execMirrorAck
  refine .next ?_
  split
  · exact .ite h.modHand h
  · exact h

/-! ### Drives -/

theorem followDrive (h : MemoryInv s) {ch : Nat} : MemoryInv (s.followDrive ch) :=
  h.of_only (followDrive_only _ _) (by simp)

theorem followDrives (h : MemoryInv s) : MemoryInv s.followDrives :=
  h.of_only (followDrives_only _) (by simp)

theorem startKick (h : MemoryInv s) {ch : Nat} : MemoryInv (s.startKick ch) := h.modDrive.followDrive

theorem stall (h : MemoryInv s) {ch : Nat} : MemoryInv (s.stall ch) := h.modDrive.followDrive.raise

theorem leakFound (h : MemoryInv s) {ch : Nat} : MemoryInv (s.leakFound ch) := h.modValve.modValve.raiseAndRecord

/-! ### Grid -/

theorem lateTarget (h : MemoryInv s) {fab : Bool} {t : Target} :
    MemoryInv (s.lateTarget fab t) := .ite h.modGrid.almanac.raise h.modGrid.almanac

theorem setGstate (h : MemoryInv s) {st : GridState} : MemoryInv (s.setGstate st) := .ite h h.modGrid.raise

theorem drawDelay (h : MemoryInv s) : MemoryInv s.drawDelay.2 := h.modSys

theorem startDelay (h : MemoryInv s) {st : GridState} : MemoryInv (s.startDelay st) := h.drawDelay.modGrid.setGstate

theorem parkCommit (h : MemoryInv s) {slope : Nat} : MemoryInv (s.parkCommit slope) := by
  unfold State.parkCommit
  split
  · exact h.modGrid.setGstate
  · exact h.modGrid.setGstate
  · exact h.setGstate
  · exact h.modGrid

theorem unparkCommit (h : MemoryInv s) : MemoryInv s.unparkCommit := by
  unfold State.unparkCommit
  dsimp only
  split
  · exact h.startDelay
  · exact h.setGstate
  · exact h.setGstate
  · exact (h.forUpTo fun hu => .ite hu.modGovSlot.modGovSlot hu).modGrid.setGstate
  · exact h

theorem commitGrid (h : MemoryInv s) {j : Nat} {fab : Bool} {op : GridOp} {t : Target} : MemoryInv (s.commitGrid j fab op t) := by
  unfold State.commitGrid
  dsimp only
  split
  · exact .ite h.modGrid h.modGrid.modGrid
  · exact .ite h.modGrid h.modGrid.modGrid
  · exact h.modGrid.parkCommit
  · exact h.modGrid.unparkCommit

theorem keepAnswer (h : MemoryInv s) {j : Nat} : MemoryInv (s.keepAnswer j) := by
  unfold State.keepAnswer
  split
  · exact h.modGrid
  · exact h

theorem receiveGrid (h : MemoryInv s) {op : GridOp} {t : Target} : MemoryInv (s.receiveGrid op t) := by
  unfold State.receiveGrid
  dsimp only
  refine .ite h ?_
  split
  · exact h.lateTarget
  · exact h
  · refine .ite ?_ h.modGrid
    split
    · exact h.modGrid.startDelay
    · exact h.modGrid.setGstate
    · exact h.modGrid

theorem useDf (h : MemoryInv s) {df : Int} {issue : Nat} : MemoryInv (s.useDf df issue) := h.modGrid

theorem frequencyFrame (h : MemoryInv s) {df : Int} {issueTime arrival : Nat} : MemoryInv (s.frequencyFrame df issueTime arrival) :=
  .ite h (.ite (.ite h.modGrid h) h.modGrid)

theorem execFrequencyFrame (h : MemoryInv s) {df : Int} {issueTime arrival : Nat} :
    KeepsMemory (execFrequencyFrame df issueTime arrival s) :=
  .next h.frequencyFrame

theorem execFreqStaleExpiry (h : MemoryInv s) : KeepsMemory (execFreqStaleExpiry s) := .next (.ite h.modGrid.raiseAndRecord h)

theorem execShareTableBuild (h : MemoryInv s) : KeepsMemory (execShareTableBuild s) := .next (.ite h.modGrid h)

theorem execReportStaleExpiry (h : MemoryInv s) {port : Nat} : KeepsMemory (execReportStaleExpiry port s) := by
  unfold Machine.execReportStaleExpiry
  refine .next ?_
  split
  · exact .ite h.modGrid h
  · exact h

theorem platformStep (h : MemoryInv s) : MemoryInv s.platformStep := h.modGrid

theorem takeDf (h : MemoryInv s) : MemoryInv s.takeDf := by
  unfold State.takeDf
  dsimp only
  split
  · refine .ite ((modGrid ?_).useDf.modGrid) (modGrid ?_)
    · split
      · exact .ite h.useDf.modGrid h
      · exact h
    · split
      · exact .ite h.useDf.modGrid h
      · exact h
  · split
    · exact .ite h.useDf.modGrid h
    · exact h

theorem grantStep (h : MemoryInv s) : MemoryInv s.grantStep := h.modGrid

theorem closeStep (h : MemoryInv s) : MemoryInv s.closeStep := by
  unfold State.closeStep
  split
  · exact h
  · refine .ite h ?_
    split
    · exact h.modGrid.modEsc
    · exact .ite h.startInrush.modThermal.modGrid.modEsc h

theorem gridStep (h : MemoryInv s) : MemoryInv s.gridStep :=
  .ite h (closeStep (.ite h.modGrid.platformStep.takeDf.grantStep.startDelay h.modGrid.platformStep.takeDf.grantStep))

theorem execParkDelayExpiry (h : MemoryInv s) : KeepsMemory (execParkDelayExpiry s) :=
  .next (.ite ((h.foldl fun hu => hu.modGovSlot.modGovSlot).modEsc.modGrid.raise.setGstate.parkSettled) h)

theorem execParkFuseOpen (h : MemoryInv s) : KeepsMemory (execParkFuseOpen s) := by
  unfold Machine.execParkFuseOpen
  dsimp only
  refine .next ?_
  split
  · exact .ite h.modEsc.modGrid.commandOpen.parkSettled h
  · exact h

theorem execUnparkDelayExpiry (h : MemoryInv s) : KeepsMemory (execUnparkDelayExpiry s) :=
  .next (.ite (((startUp (.ite h.modSys h)).setGstate).railRun) h)

theorem execUnparkRailsUp (h : MemoryInv s) : KeepsMemory (execUnparkRailsUp s) := .next (.ite h.modGrid.setGstate h)

theorem execGridRecord (h : MemoryInv s) : KeepsMemory (execGridRecord s) := .next (.ite h.telemetry h)

theorem submitGrid (h : MemoryInv s) {i : Instr} {hdr : CmdHdr} {c : CmdSpec} {t : Target} : MemoryInv (s.submitGrid i hdr c t) :=
  submit (.ite h.lateTarget h)

theorem effGridSetTarget (h : MemoryInv s) {j : Nat} {tseq : BitVec 32} {target slope deadline issueTime : Nat} :
    MemoryInv (effGridSetTarget j tseq target slope deadline issueTime s) :=
  h.commitGrid.complete.keepAnswer

theorem execGridSetTarget (h : MemoryInv s) {hdr : CmdHdr} {tseq : BitVec 32} {target slope deadline issueTime : Nat} :
    KeepsMemory (execGridSetTarget hdr tseq target slope deadline issueTime s) :=
  .next h.submitGrid

theorem effGridSetCurve (h : MemoryInv s) {j : Nat} {hdr : CmdHdr} {npoints frSlope freqStale : Nat} :
    MemoryInv (effGridSetCurve j hdr npoints frSlope freqStale s) :=
  h.modGrid.complete

theorem effGridSetFreq (h : MemoryInv s) {j : Nat} {df : Int} {issueTime : Nat} : MemoryInv (effGridSetFreq j df issueTime s) :=
  complete (.ite h.useDf.modGrid h)

theorem effGridPark (h : MemoryInv s) {j : Nat} {tseq : BitVec 32} {slope deadline issueTime : Nat} :
    MemoryInv (effGridPark j tseq slope deadline issueTime s) :=
  h.commitGrid.ok.keepAnswer

theorem execGridPark (h : MemoryInv s) {hdr : CmdHdr} {tseq : BitVec 32} {slope deadline issueTime : Nat} :
    KeepsMemory (execGridPark hdr tseq slope deadline issueTime s) :=
  .next h.submitGrid

theorem effGridUnpark (h : MemoryInv s) {j : Nat} {tseq : BitVec 32} {issueTime : Nat} : MemoryInv (effGridUnpark j tseq issueTime s) :=
  h.commitGrid.ok.keepAnswer

theorem execGridUnpark (h : MemoryInv s) {hdr : CmdHdr} {tseq : BitVec 32} {issueTime : Nat} :
    KeepsMemory (execGridUnpark hdr tseq issueTime s) :=
  .next h.submitGrid

theorem effGridSetSource (h : MemoryInv s) {j source reportStale : Nat} :
    MemoryInv (effGridSetSource j source reportStale s) := h.modGrid.ok

theorem effGridSetPark (h : MemoryInv s) {j : Nat} {rails : BitVec 64} {spread : Nat} : MemoryInv (effGridSetPark j rails spread s) :=
  h.modGrid.ok

theorem effGridStatus (h : MemoryInv s) {j buf : Nat} : MemoryInv (effGridStatus j buf s) := h.bufferOut.ok

/-! ### Governor -/

theorem setQuiesce (h : MemoryInv s) {slot : Nat} {q : Bool} : MemoryInv (s.setQuiesce slot q) := h.modGovSlot.modGovSlot

theorem reportUnreachable (h : MemoryInv s) : MemoryInv s.reportUnreachable := h.modEsc.raise

theorem escalationPark (h : MemoryInv s) : MemoryInv s.escalationPark := .ite h.modEsc.setQuiesce.commandOpen.almanac h

theorem escalationCleared (h : MemoryInv s) : MemoryInv s.escalationCleared := (modEsc (.ite h.setQuiesce h)).raise

theorem escalate (h : MemoryInv s) {shortfall : ℚ} {slots : Nat} : MemoryInv (s.escalate shortfall slots) :=
  .ite (.ite h h.escalationCleared) (.ite h.modEsc.reportUnreachable h.modEsc)

theorem evaluate (h : MemoryInv s) {bay slot : Nat} : MemoryInv (s.evaluate bay slot) :=
  .ite h.modGovSlot (.ite h.modGovSlot (.ite h.modEaselBay.modGovSlot.raise h.modEaselBay.modGovSlot))

theorem wants (h : MemoryInv s) {bay slot : Nat} : MemoryInv (s.wants bay slot) := h.modGovSlot

theorem allocateTray (h : MemoryInv s) {bay : Nat} : MemoryInv (s.allocateTray bay) := h.foldl fun hu => hu.modGovSlot

theorem densityCounts (h : MemoryInv s) {bay slot dens : Nat} {uC : ℚ} : MemoryInv (s.densityCounts bay slot dens uC) := h.modChg

theorem rollbackRecord (h : MemoryInv s) {bay slot : Nat} : MemoryInv (s.rollbackRecord bay slot) := .ite h.modGovSlot.almanac h.modGovSlot

theorem formFrame (h : MemoryInv s) {bay slot : Nat} : MemoryInv (s.formFrame bay slot) := by
  unfold State.formFrame
  extract_lets p pMax fall g miss s1 g' f law b bw dens es c0 s2 o cf cf' s3 s4 newQ sat s5 s6
  have h2 : MemoryInv s2 := .ite h.modGovSlot.applyR84 h.modGovSlot
  have h3 : MemoryInv s3 := h2.modChg.densityCounts
  have h4 : MemoryInv s4 := .ite h3.rollbackRecord h3
  have h6 : MemoryInv s6 := h4.modGovSlot.modView
  exact .ite h6.emit.sendBlocks h6

theorem judgeShortfall (h : MemoryInv s) {bay : Nat} : MemoryInv (s.judgeShortfall bay) := h.escalate

theorem execGovernorWindow (h : MemoryInv s) {bay : Nat} : KeepsMemory (execGovernorWindow bay s) := by
  unfold Machine.execGovernorWindow
  extract_lets s1 ns s2 s3 s4 s5 s6
  have h3 : MemoryInv s3 := (h.gridStep.foldl fun hu => hu.evaluate.wants).allocateTray
  have h4 : MemoryInv s4 := .ite h3.judgeShortfall h3
  have h6 : MemoryInv s6 := (h4.foldl fun hu => hu.formFrame).modGov
  exact .next (.ite h (.ite h6.escalationPark h6))

theorem execEscSatExpiry (h : MemoryInv s) : KeepsMemory (execEscSatExpiry s) := .next (.ite h.modEsc.raise h)

theorem execShedWaitExpiry (h : MemoryInv s) : KeepsMemory (execShedWaitExpiry s) := by
  unfold Machine.execShedWaitExpiry
  dsimp only
  refine .next ?_
  split
  · refine .ite ?_ h
    split
    · exact h.modEsc.setQuiesce.raise
    · exact h.modEsc.reportUnreachable
  · exact h

theorem execParkWaitExpiry (h : MemoryInv s) : KeepsMemory (execParkWaitExpiry s) := .next (.ite h.escalationPark h)

theorem execUnreachableRepeat (h : MemoryInv s) : KeepsMemory (execUnreachableRepeat s) := .next (.ite h.reportUnreachable h)

/-! ### GovRows -/

theorem acceleratorStart (h : MemoryInv s) {bay slot index : Nat} : MemoryInv (s.acceleratorStart bay slot index) :=
  .ite (startPush (.ite h.modGovSlot.modChg h.modGovSlot.modChg.modGovSlot.modChg))
    (.ite h.modGovSlot.modChg h.modGovSlot.modChg.modGovSlot.modChg)

theorem trainLane (h : MemoryInv s) {slot bay : Nat} :
    MemoryInv (s.trainLane slot bay) := .ite h.modLane.modLane.reportLane.noteLanes h.modLane

theorem frameSays (h : MemoryInv s) {bay slot : Nat} {f : CounterFrame} : MemoryInv (s.frameSays bay slot f) := by
  unfold State.frameSays
  extract_lets s1 s2 s3
  have h1 : MemoryInv s1 := .ite h.acceleratorStart h
  have h2 : MemoryInv s2 := .ite h1.pushSees h1
  exact .ite h1 (.ite h2.opcSees.droopFrame h2.opcSees)

theorem execCounterFrame (h : MemoryInv s) {bay stalk : Nat} {frame : CounterFrame} : KeepsMemory (execCounterFrame bay stalk frame s) :=
  .next (.ite h (.ite h.modLane (.ite h.modLane.raise (.ite h.trainLane h.trainLane.modLane.modView.frameSays))))

theorem execReadPin (h : MemoryInv s) {slot : Nat} {words : List (Option (BitVec 16 × Bool))} : KeepsMemory (execReadPin slot words s) :=
  .next (.ite h (h.foldl fun hu => hu.modGovSlot))

theorem fuseSlot (h : MemoryInv s) {bay slot : Nat} : MemoryInv (s.fuseSlot bay slot) :=
  .ite (.ite (raise (.ite h.modGovSlot.raise h.modGovSlot)) (.ite h.modGovSlot.raise h.modGovSlot)) h.modGovSlot

theorem execFusionPass (h : MemoryInv s) {bay : Nat} : KeepsMemory (execFusionPass bay s) :=
  .next (.ite h (h.modGov.forUpTo fun hu => modChg (.ite (raise (.ite hu.fuseSlot hu.modGovSlot)) (.ite hu.fuseSlot hu.modGovSlot))))

theorem execGovernorRecord (h : MemoryInv s) : KeepsMemory (execGovernorRecord s) := by
  unfold Machine.execGovernorRecord
  refine .next ?_
  split
  · exact .ite (h.forUpTo fun hu => hu.telemetry) h
  · exact h

theorem modSlots (h : MemoryInv s) {slot : Nat} {f : GovParam → GovParam} :
    MemoryInv (s.modSlots slot f) := h.foldl fun hu => hu.modGovParam

theorem effGovSetCap (h : MemoryInv s) {j slot cap : Nat} : MemoryInv (effGovSetCap j slot cap s) := ok (.ite h.modTrayParam h.modSlots)

theorem effGovSetSlope (h : MemoryInv s) {j slot rise fall : Nat} : MemoryInv (effGovSetSlope j slot rise fall s) :=
  (h.foldl fun hu => modGovParam (.ite hu.modGovSlot.modGovSlot hu)).ok

theorem effGovSetPriority (h : MemoryInv s) {j slot crit : Nat} : MemoryInv (effGovSetPriority j slot crit s) := h.modSlots.ok

theorem effGovSetGain (h : MemoryInv s) {j slot kp : Nat} : MemoryInv (effGovSetGain j slot kp s) := h.modSlots.ok

theorem effGovSetModel (h : MemoryInv s) {j slot model : Nat} : MemoryInv (effGovSetModel j slot model s) :=
  (h.foldl fun hu => hu.modGovSlot.modGovSlot.modGovParam).ok

theorem effGovLoadWeights (h : MemoryInv s) {j : Nat} {hdr : CmdHdr} {slot what vrail tensor blen delta : Nat} :
    MemoryInv (effGovLoadWeights j hdr slot what vrail tensor blen delta s) :=
  (h.foldl fun hu => by
        refine .ite hu.modGovParam ?_
        split
        · exact hu.modInsts
        · exact hu).complete

theorem effGovSetSafeDensity (h : MemoryInv s) {j slot dens : Nat} : MemoryInv (effGovSetSafeDensity j slot dens s) := h.modSlots.ok

theorem effGovSetOversub (h : MemoryInv s) {j osf : Nat} : MemoryInv (effGovSetOversub j osf s) := h.modTrayParam.ok

theorem effGovSetLimits (h : MemoryInv s) {j slot item value : Nat} : MemoryInv (effGovSetLimits j slot item value s) :=
  ok (.ite h.modTrayParam h.modSlots)

theorem effGovSetRunahead (h : MemoryInv s) {j slot on missTol raHold : Nat} : MemoryInv (effGovSetRunahead j slot on missTol raHold s) :=
  h.modSlots.ok

theorem effGovSetEscalation (h : MemoryInv s) {j escSat shedWait parkWait marked : Nat} :
    MemoryInv (effGovSetEscalation j escSat shedWait parkWait marked s) :=
  h.modTrayParam.ok

theorem effGovParkAck (h : MemoryInv s) {j slot : Nat} : MemoryInv (effGovParkAck j slot s) := h.modEsc.escalationPark.ok

theorem effGovUnpark (h : MemoryInv s) {j slot : Nat} : MemoryInv (effGovUnpark j slot s) := by
  unfold Machine.effGovUnpark
  extract_lets s1 t
  have h1 : MemoryInv s1 := h.foldl fun hu => hu.modEsc.modThermal.modEsc
  have ht : MemoryInv t := h1.foldl fun hu => .ite hu.startInrush hu
  exact .ite (ht.foldl fun hu => hu.modChan) ht.complete

theorem effGovSetTelemetry (h : MemoryInv s) {j period : Nat} : MemoryInv (effGovSetTelemetry j period s) := h.modTrayParam.ok

theorem effGovStatus (h : MemoryInv s) {j slot buf : Nat} : MemoryInv (effGovStatus j slot buf s) := h.bufferOut.ok

/-! ### Bays -/

theorem holdHands (h : MemoryInv s) {bay : Nat} : MemoryInv (s.holdHands bay) := h.modBarn

theorem resumeHands (h : MemoryInv s) {bay : Nat} : MemoryInv (s.resumeHands bay) := h.modBarn

theorem toJoining (h : MemoryInv s) {bay : Nat} : MemoryInv (s.toJoining bay) := h.modBay.completeIf

theorem outOfStep (h : MemoryInv s) {bay : Nat} : MemoryInv (s.outOfStep bay) := .ite h.toJoining.goSingle h

theorem readLatch (h : MemoryInv s) {bay : Nat} : MemoryInv (s.readLatch bay) :=
  .ite (.ite h.modBay.holdHands.modBay h.modBay.holdHands.toJoining) h.modBay

theorem discardEntry (h : MemoryInv s) {j : Nat} : MemoryInv (s.discardEntry j) := .ite h.modJournal.modRing h.modJournal

theorem keepHeld (h : MemoryInv s) {bay : Nat} : MemoryInv (s.keepHeld bay) := (h.foldl fun hu => hu.discardEntry).modJournal

theorem startGovernor (h : MemoryInv s) {bay : Nat} : MemoryInv (s.startGovernor bay) := h.modGrid.modGov.forUpTo fun hu => hu.modGovSlot

theorem acceptClaim (h : MemoryInv s) {bay : Nat} {epoch : Word32} : MemoryInv (s.acceptClaim bay epoch) := by
  unfold State.acceptClaim
  extract_lets old first me s1 s2 s3 s4 s5 s6 s7 s8 s9 s10 s11 s12 hj restart s13
  have h2 : MemoryInv s2 := .ite h.modLatch h.modLatch.modUpd
  have h3 : MemoryInv s3 := .ite h2 h2.keepHeld.modBay
  have h5 : MemoryInv s5 := h3.modBay.signal
  have h6 : MemoryInv s6 := noteLanes (.ite h5.readLatch h5)
  have h7 : MemoryInv s7 := .ite h6 h6.goSingle
  have h10 : MemoryInv s10 := h7.resumeHands.startGovernor.raise.raiseWaiting
  have h11 : MemoryInv s11 := .ite h10.raise h10
  have h12 : MemoryInv s12 := (h11.forUpTo fun hu => hu.postNotes).startClosing
  have h13 : MemoryInv s13 := h12.modJournal
  clear_value s13 restart hj
  split
  · exact .ite h13.resetBay h13.resetBay.modBay
  · exact .ite h13.completeIf h13.completeIf

theorem claim (h : MemoryInv s) {bay : Nat} {epoch : Word32} : MemoryInv (s.claim bay epoch) :=
  .ite h.acceptClaim.followDrives h.modLatch.readLatch

theorem bayReleased (h : MemoryInv s) {bay : Nat} : MemoryInv (s.bayReleased bay) :=
  .ite h.modBay.toJoining (.ite h.modBay.claim.toJoining h.modBay.claim)

theorem execHeartbeat (h : MemoryInv s) {bay : Nat} : KeepsMemory (execHeartbeat bay s) :=
  .next (.ite h h.modBay.modLatch.modBay.readLatch.followDrives)

theorem startGuard (h : MemoryInv s) {bay : Nat} : MemoryInv (s.startGuard bay) := .ite h.modBay h

theorem execWdTimeoutExpiry (h : MemoryInv s) {bay : Nat} : KeepsMemory (execWdTimeoutExpiry bay s) := by
  unfold Machine.execWdTimeoutExpiry
  dsimp only
  refine .next ?_
  split
  · exact .ite
      (.ite h.modBay.modLatch.raiseLater.startGuard.followDrives.refuseRunning.resetBay
      h.modBay.modLatch.raiseLater.startGuard.followDrives) h
  · exact h

theorem execOwnerHbAge5ms (h : MemoryInv s) : KeepsMemory (execOwnerHbAge5ms s) := by
  unfold Machine.execOwnerHbAge5ms
  refine .next ?_
  split
  · exact .ite h h.startGuard
  · exact h

theorem execClaimGuardExpiry (h : MemoryInv s) {bay : Nat} : KeepsMemory (execClaimGuardExpiry bay s) := by
  unfold Machine.execClaimGuardExpiry
  refine .next ?_
  split
  · exact .ite h.modBay.claim h
  · exact h

theorem execOwnershipClaim (h : MemoryInv s) {bay : Nat} {epoch : BitVec 32} : KeepsMemory (execOwnershipClaim bay epoch s) :=
  .next (.ite h.claim h)

theorem execOwnershipYield (h : MemoryInv s) {bay : Nat} {on : Bool} :
    KeepsMemory (execOwnershipYield bay on s) := .next (.ite h.modLatch h)

theorem execMirrorWrite (h : MemoryInv s) {bay : Nat} {epoch : BitVec 32} {addr : Nat} {data : List (BitVec 8)} :
    KeepsMemory (execMirrorWrite bay epoch addr data s) :=
  .next (.ite h (.ite h.emit.readLatch (.ite (h.modGranary fun hg => hg.fill) h)))

theorem execMirrorAckTimeout (h : MemoryInv s) {bay hand : Nat} : KeepsMemory (execMirrorAckTimeout bay hand s) := by
  unfold Machine.execMirrorAckTimeout
  refine .next ?_
  split
  · exact .ite h.modHand.outOfStep h
  · exact h

theorem execShadowCompare (h : MemoryInv s) {slot : Nat} {crc : BitVec 32} : KeepsMemory (execShadowCompare slot crc s) := by
  unfold Machine.execShadowCompare
  dsimp only
  refine .next ?_
  split
  · exact .ite (.ite h.modBay.raiseSev.outOfStep h.modBay) h
  · exact h

theorem execJournalWrite (h : MemoryInv s) {change : Change} : KeepsMemory (execJournalWrite change s) := .next (.ite h.journalChange h)

theorem execJournalAck (h : MemoryInv s) {jseq : Nat} : KeepsMemory (execJournalAck jseq s) := by
  unfold Machine.execJournalAck
  dsimp only
  refine .next ?_
  split
  · exact .ite h.modBay.acknowledge.handoverAdvance h
  · exact h

theorem execJournalAckTimeout (h : MemoryInv s) {jseq : Nat} : KeepsMemory (execJournalAckTimeout jseq s) := by
  unfold Machine.execJournalAckTimeout
  dsimp only
  refine .next ?_
  split
  · exact .ite h.outOfStep.goSingle.handoverAdvance h
  · exact h

theorem execRetainExpiry (h : MemoryInv s) {jseq : Nat} : KeepsMemory (execRetainExpiry jseq s) := by
  unfold Machine.execRetainExpiry
  dsimp only
  refine .next ?_
  split
  · exact .ite h.modJournal h
  · exact h

theorem execHandoverWindow (h : MemoryInv s) : KeepsMemory (execHandoverWindow s) := by
  unfold Machine.execHandoverWindow
  refine .next ?_
  split
  · exact .ite h.modLatch.modJournal h
  · exact h

theorem execHandoverWaitExpiry (h : MemoryInv s) : KeepsMemory (execHandoverWaitExpiry s) := .next (.ite h.handoverFail h)

theorem copyCheckpoints (h : MemoryInv s) {src dst : Nat} : MemoryInv (s.copyCheckpoints src dst) :=
  h.foldl fun hu => hu.modGranary fun hg => hg.fill

theorem copyHands (h : MemoryInv s) {src dst : Nat} : MemoryInv (s.copyHands src dst) := h.foldl fun hu => hu.modHand

theorem copyGovernor (h : MemoryInv s) {src dst : Nat} : MemoryInv (s.copyGovernor src dst) :=
  h.of_only (copyGovernor_only _ _ _) (by simp)

theorem copyPages (h : MemoryInv s) {src dst : Nat} : MemoryInv (s.copyPages src dst) := by
  unfold State.copyPages
  refine h.foldl fun hu => .ite ?_ hu
  exact hu.modGranary fun hg => hg.fillPage

theorem execJoinCopyDone (h : MemoryInv s) {bay : Nat} : KeepsMemory (execJoinCopyDone bay s) :=
  .next (.ite h.copyPages.copyCheckpoints.copyHands.copyGovernor.modEaselBay.modBay.modJournal.journalChange h)

theorem applyJoin (h : MemoryInv s) {bay : Nat} : MemoryInv (s.applyJoin bay) := .ite h.modBay.modBay.noteLanes h

theorem execBreezewayLinkChange (h : MemoryInv s) {up : Bool} : KeepsMemory (execBreezewayLinkChange up s) := by
  unfold Machine.execBreezewayLinkChange
  dsimp only
  refine .next (.ite h.modJournal ?_)
  split
  · exact h.modJournal.outOfStep.goSingle.handoverAdvance
  · split
    · exact h.modJournal.toJoining
    · exact h.modJournal

theorem fabricStops (h : MemoryInv s) : MemoryInv s.fabricStops := h.modFabric.modSys.modGrid

theorem execDieFailure (h : MemoryInv s) {die : Nat} : KeepsMemory (execDieFailure die s) :=
  .next (.ite (.ite h.refuseRunning.modBay.outOfStep h.refuseRunning.modBay) h.fabricStops)

theorem enterHold (h : MemoryInv s) {pair : Nat} {running : Bool} : MemoryInv (s.enterHold pair running) := by
  unfold State.enterHold
  extract_lets s1 s2 s3
  have h2 : MemoryInv s2 := h.modLatch.forUpTo fun hu => by
    split
    · exact hu.modPush
    · exact hu.modPush
    · exact hu.modPush
    · exact hu
  exact .ite h (almanac (.ite h2.followDrives.raise h2.followDrives))

theorem execKeeperHold (h : MemoryInv s) {pair : Nat} : KeepsMemory (execKeeperHold pair s) := .next h.enterHold

theorem execCrystalLoss (h : MemoryInv s) : KeepsMemory (execCrystalLoss s) :=
  .next ((h.modSys.fabricStops.forUpTo fun hu => hu.modBay).enterHold)

theorem execJunctionSensorRead (h : MemoryInv s) {bay0 bay1 keeper photonic loft : Int} :
    KeepsMemory (execJunctionSensorRead bay0 bay1 keeper photonic loft s) :=
  .next h.modBay.modBay.modSys

theorem execBayRecord (h : MemoryInv s) : KeepsMemory (execBayRecord s) := .next (.ite h.modOwn.telemetry.telemetry h)

theorem effBayStatus (h : MemoryInv s) {j : Nat} : MemoryInv (effBayStatus j s) := h.complete

theorem effBayHandover (h : MemoryInv s) {j waitUs : Nat} :
    MemoryInv (effBayHandover j waitUs s) := .ite h.modOwnParam.startHandover h.complete

theorem effBayConfig (h : MemoryInv s) {j item value : Nat} : MemoryInv (effBayConfig j item value s) := h.modOwnParam.ok

theorem effBayRestart (h : MemoryInv s) {j bay : Nat} : MemoryInv (effBayRestart j bay s) :=
  .ite (.ite h.startHandover h.complete) h.resetBay.modBay

theorem execBayRestartTimeout (h : MemoryInv s) {bay : Nat} : KeepsMemory (execBayRestartTimeout bay s) := by
  unfold Machine.execBayRestartTimeout
  dsimp only
  refine .next ?_
  split
  · exact .ite h.modBay.completeIf h
  · exact h

/-! ### HandRows -/

theorem deliverMail (h : MemoryInv s) {bay hand : Nat} {msg : List Byte} : MemoryInv (s.deliverMail bay hand msg).1 := by
  unfold State.deliverMail
  refine .ite_fst h ?_
  split
  · exact h
  · exact (h.modGranary fun hg => hg.fill).modHand

theorem execMailboxMessage (h : MemoryInv s) {bay hand : Nat} {msg : List (BitVec 8)} : KeepsMemory (execMailboxMessage bay hand msg s) :=
  .next (.ite h h.deliverMail)

theorem endSend (h : MemoryInv s) {bay hand status : Nat} {reply : List Byte} : MemoryInv (s.endSend bay hand status reply) := by
  unfold State.endSend
  dsimp only
  split
  · exact modHand (.ite h (h.modGranary fun hg => hg.fill))
  · exact h

theorem execLsendReply (h : MemoryInv s) {bay hand : Nat} {msg : List (BitVec 8)} : KeepsMemory (execLsendReply bay hand msg s) :=
  .next (.ite h h.endSend)

theorem execLsendReplyTimeout (h : MemoryInv s) {bay hand : Nat} : KeepsMemory (execLsendReplyTimeout bay hand s) := by
  unfold Machine.execLsendReplyTimeout
  refine .next ?_
  split
  · exact .ite h.endSend h
  · exact h

theorem dropLines (h : MemoryInv s) {base len : Nat} : MemoryInv (s.dropLines base len) := h.modBarn

theorem effHandLoad (h : MemoryInv s) {j : Nat} : MemoryInv (effHandLoad j s) := h.modEntry

theorem unplace (h : MemoryInv s) {hand : Nat} : MemoryInv (s.unplace hand) := by
  unfold State.unplace
  extract_lets old free s1 shared
  have hfree {u : State} {b base len : Nat} (hu : MemoryInv u) : MemoryInv (free b base len u) := hu.modGranary fun hg => hg.release
  have h1 : MemoryInv s1 := .ite h (hfree (hfree h))
  exact .ite h1 (hfree (hfree h1))

theorem finishHandLoad (h : MemoryInv s) {j : Nat} {hdr : CmdHdr} {first count data blen shrBase shrLen : Nat} :
    MemoryInv (finishHandLoad j hdr first count data blen shrBase shrLen s) := by
  unfold Machine.finishHandLoad
  dsimp only
  split
  · exact (h.foldl fun hu => hu.unplace).complete
  · exact (((((h.foldl fun hu => hu.unplace).forUpTo fun hu => .ite hu
      ((hu.modGranary fun hg => hg.placeCode).foldl fun hu' => hu'.modHand)).dropLines).measureContainer).modBarn).ok

theorem modHands (h : MemoryInv s) {hand : Nat} {f : Nat → Hand → Hand} : MemoryInv (s.modHands hand f) := h.modHand.modHand

theorem effHandStart (h : MemoryInv s) {j : Nat} {hdr : CmdHdr} {hand : Nat} {regs : List (BitVec 32)} :
    MemoryInv (effHandStart j hdr hand regs s) :=
  .ite h.modHands.ok h.complete

theorem effHandStop (h : MemoryInv s) {j hand : Nat} : MemoryInv (effHandStop j hand s) := h.modHands.ok

theorem effHandConfig (h : MemoryInv s) {j hand shadow restartMax restartWindow ckptWd : Nat} :
    MemoryInv (effHandConfig j hand shadow restartMax restartWindow ckptWd s) :=
  h.modHands.ok

theorem effHandStatus (h : MemoryInv s) {j hand bay : Nat} : MemoryInv (effHandStatus j hand bay s) := h.complete

/-! ### Rings -/

theorem createRing (h : MemoryInv s) {key : Nat} {d : RingDesc} : MemoryInv (s.createRing key d) :=
  writeStatus (.ite h.modRing.modRing h.modRing)

theorem flushHeld (h : MemoryInv s) {key : Nat} : MemoryInv (s.flushHeld key) :=
  h.forUpTo fun hu => by
        split
        · exact hu
        · exact .ite hu.ringWrite.modRing hu

theorem resumeRings (h : MemoryInv s) : MemoryInv s.resumeRings := h.foldl fun hu => .ite hu hu.writeStatus.flushHeld

theorem consume (h : MemoryInv s) {key : Nat} {value : Word32} : MemoryInv (s.consume key value) := h.modJournal

theorem applyDoorbell (h : MemoryInv s) {endpoint key : Nat} {value : Word32} : MemoryInv (s.applyDoorbell endpoint key value) := by
  unfold State.applyDoorbell
  extract_lets r d s1 s2 s3
  have h2 : MemoryInv s2 := .ite h.modRing.consume h.modRing
  have h3 : MemoryInv s3 := h2.writeStatus.signal
  exact .ite h.modEndpoint (.ite h (.ite h.modEndpoint (.ite h.stopRing (.ite h3.flushHeld h3))))

theorem execDoorbell (h : MemoryInv s) {endpoint ring size : Nat} {value : BitVec 64} :
    KeepsMemory (execDoorbell endpoint ring size value s) :=
  .next (.ite h (.ite h.modEndpoint (.ite (.ite h.applyDoorbell h) (.ite (.ite h.modEndpoint.modSys h.modEndpoint)
    (.ite h.applyDoorbell h.modEndpoint)))))

theorem deliverDoorbells (h : MemoryInv s) {e : Nat} : MemoryInv (s.deliverDoorbells e) := h.modEndpoint.foldl fun hu => hu.applyDoorbell

theorem execDoorbellForward (h : MemoryInv s) : KeepsMemory (execDoorbellForward s) := by
  unfold Machine.execDoorbellForward
  refine .next ?_
  split
  · exact h
  · exact .ite h.deliverDoorbells.deliverDoorbells h.deliverDoorbells

theorem releaseDoorbells (h : MemoryInv s) : MemoryInv s.releaseDoorbells :=
  h.forUpTo fun hu => hu.modEndpoint.foldl fun hu' => hu'.applyDoorbell

theorem noteFetch (h : MemoryInv s) {key : Nat} : MemoryInv (s.noteFetch key) := modRing (.ite h h.modRings)

theorem execCompletionPost (h : MemoryInv s) {jseq : Nat} {bufOk : Bool} : KeepsMemory (execCompletionPost jseq bufOk s) :=
  .next h.postCompletion

theorem execCoalUsExpiry (h : MemoryInv s) {ring : Nat} : KeepsMemory (execCoalUsExpiry ring s) := .next (.ite h.sendVector.modRing h)

theorem poisonedRead (h : MemoryInv s) {key : Nat} : MemoryInv (s.poisonedRead key) := .ite h.modRing.stopRing h.modRing

theorem execRingDmaError (h : MemoryInv s) {ring : Nat} {poisoned : Bool} : KeepsMemory (execRingDmaError ring poisoned s) :=
  .next (.ite (.ite h.poisonedRead h) h.stopRing)

theorem execEventPost (h : MemoryInv s) {bay code : Nat} {payload : List (BitVec 8)} : KeepsMemory (execEventPost bay code payload s) :=
  .next (.ite h.raiseSev h)

theorem modAdminAt (h : MemoryInv s) {e : Nat} {f : Admin → Admin} : MemoryInv (s.modAdminAt e f) := .ite h.modEndpoint h.modAdmin

theorem adminStart (h : MemoryInv s) {base : Nat} {a : Admin} : MemoryInv (s.adminStart base a) :=
  modAdminOf (.ite h.createRing.createRing h.modAdminOf)

theorem adminStop (h : MemoryInv s) {base : Nat} : MemoryInv (s.adminStop base) := .ite h.modRing.writeStatus.drainRing h.modAdminOf

theorem execAdmCtrlWrite (h : MemoryInv s) {endpoint : Nat} {value : BitVec 32} : KeepsMemory (execAdmCtrlWrite endpoint value s) :=
  .next (.ite h (.ite h (.ite (.ite (.ite h.modAdminAt.adminStart h.modAdminAt.adminStop) h) (.ite h.modAdmin.journalChange h))))

theorem msixWrite (h : MemoryInv s) {endpoint off : Nat} {value : Word64} : MemoryInv (s.msixWrite endpoint off value) :=
  .ite h.modEndpoint.modEndpoint.emit h.modEndpoint

theorem execRegisterWrite (h : MemoryInv s) {endpoint offset : Nat} {value : BitVec 64} :
    KeepsMemory (execRegisterWrite endpoint offset value s) :=
  .next (.ite h (.ite (.ite h h.modAdminAt) (.ite h.msixWrite h)))

theorem execWinStatusWrite (h : MemoryInv s) {endpoint : Nat} {value : BitVec 32} : KeepsMemory (execWinStatusWrite endpoint value s) :=
  .next (.ite (h.modGranary fun hg => hg) h)

theorem windowAnswer (h : MemoryInv s) {endpoint : Nat} {write : Bool} {v : Word64} : MemoryInv (s.windowAnswer endpoint write v) :=
  .ite h h.modEndpoint.emit

theorem windowDeny (h : MemoryInv s) {endpoint : Nat} {write : Bool} {offset size : Nat} :
    MemoryInv (s.windowDeny endpoint write offset size) :=
  h.modEndpoint.windowAnswer

theorem windowAccess (h : MemoryInv s) {endpoint : Nat} {write : Bool} {offset size : Nat} {value : Word64} {ecc : Ecc} {collide : Bool} :
    MemoryInv (s.windowAccess endpoint write offset size value ecc collide) := by
  unfold State.windowAccess
  dsimp only
  refine .ite (.ite (h.modGranary fun hg => hg) (modGranary (.ite h ?_) fun hg => hg.store)) (.ite
    ((h.drawFree.modGranary fun hg => hg).windowAnswer) (.ite ((modGranary ?_ fun hg => hg).windowAnswer) (windowAnswer ?_)))
  · split
    · exact h
    · exact h.modGranary fun hg => hg.corrected
    · exact h.uncorrectable
  · split
    · exact h
    · exact .ite h (h.modGranary fun hg => hg.corrected)
    · exact h.uncorrectable
  · split
    · exact h
    · exact .ite h (h.modGranary fun hg => hg.corrected)
    · exact h.uncorrectable

theorem execDebugStatusRead (h : MemoryInv s) {bay : Nat} :
    KeepsMemory (execDebugStatusRead bay s) := .next ((h.modGranary fun hg => hg).emit)

theorem setLink (h : MemoryInv s) {e : Nat} {up busMaster : Bool} {width speed : Nat} : MemoryInv (s.setLink e up busMaster width speed) :=
  .ite (resumeRings (.ite h.modEndpoint h.modEndpoint.raise)) (.ite h.modEndpoint h.modEndpoint.raise)

theorem execEndpointLinkChange (h : MemoryInv s) {endpoint : Nat} {up busMaster : Bool} {width speed : Nat} :
    KeepsMemory (execEndpointLinkChange endpoint up busMaster width speed s) :=
  .next h.setLink

theorem execFunctionLevelReset (h : MemoryInv s) {endpoint : Nat} : KeepsMemory (execFunctionLevelReset endpoint s) := .next h.resetEndpoint

theorem execPerst (h : MemoryInv s) {endpoint : Nat} : KeepsMemory (execPerst endpoint s) := .next h.resetEndpoint.setLink

theorem effAdmNop (h : MemoryInv s) {j : Nat} : MemoryInv (effAdmNop j s) := h.ok

theorem effAdmRingCreate (h : MemoryInv s) {j : Nat} {hdr : CmdHdr} {ring : Nat} {desc : RingDesc} :
    MemoryInv (effAdmRingCreate j hdr ring desc s) :=
  .ite h.createRing.ok h.complete

theorem effAdmRingDelete (h : MemoryInv s) {j : Nat} {hdr : CmdHdr} {ring : Nat} : MemoryInv (effAdmRingDelete j hdr ring s) :=
  .ite h.modRing.writeStatus.drainRing h.complete

theorem effAdmRingReset (h : MemoryInv s) {j : Nat} {hdr : CmdHdr} {ring : Nat} : MemoryInv (effAdmRingReset j hdr ring s) :=
  .ite h.modRing.writeStatus.ok h.complete

theorem effAdmRingQuery (h : MemoryInv s) {j : Nat} {hdr : CmdHdr} {ring buf : Nat} : MemoryInv (effAdmRingQuery j hdr ring buf s) :=
  h.bufferOut.ok

theorem effAdmRingSubscribe (h : MemoryInv s) {j : Nat} {hdr : CmdHdr} {ring subs minSev : Nat} :
    MemoryInv (effAdmRingSubscribe j hdr ring subs minSev s) :=
  h.modRing.ok

theorem effAdmHealth (h : MemoryInv s) {j : Nat} : MemoryInv (effAdmHealth j s) := h.complete

theorem effAdmEntropy (h : MemoryInv s) {j bytes : Nat} : MemoryInv (effAdmEntropy j bytes s) := h.modEntropy.complete

/-! ### Boot -/

theorem showMeasures (h : MemoryInv s) {bay : Nat} : MemoryInv (s.showMeasures bay) := .ite h (h.modGranary fun hg => hg.fill.fill.fill)

theorem measureStage0 (h : MemoryInv s) {bay : Nat} {img : List Byte} : MemoryInv (s.measureStage0 bay img) :=
  h.extendTally.extendTally.extendTally.extendTally.extendTally.extendTally.extendTally.extendTally

theorem fixDebug (h : MemoryInv s) {bay : Nat} : MemoryInv (s.fixDebug bay) := .ite h.modMeasure (h.modMeasure.modGranary fun hg => hg)

theorem enterFallow (h : MemoryInv s) {bay : Nat} : MemoryInv (s.enterFallow bay) := h.fixDebug.modPush.modBay.modHand.modHand

theorem execPushWindowOpen (h : MemoryInv s) {bay : Nat} : KeepsMemory (execPushWindowOpen bay s) :=
  .next (.ite h (.ite h.enterFallow h.modPush))

theorem execFallowEntry (h : MemoryInv s) {bay : Nat} : KeepsMemory (execFallowEntry bay s) := .next (.ite h.enterFallow h)

theorem claimWindow (h : MemoryInv s) {bay agent : Nat} : MemoryInv (s.claimWindow bay agent) := .ite h.modPush h

theorem execClaimWrite (h : MemoryInv s) {bay agent : Nat} : KeepsMemory (execClaimWrite bay agent s) := .next h.claimWindow

theorem peerFills (h : MemoryInv s) {bay : Nat} : MemoryInv (s.peerFills bay) := by
  unfold State.peerFills
  dsimp only
  split
  · exact h
  · exact .ite h ((h.modGranary fun hg => hg.fill).modPush)

theorem goCopy (h : MemoryInv s) {bay agent : Nat} : MemoryInv (s.goCopy bay agent) := .ite h (modPush (.ite h.peerFills h))

theorem execGo (h : MemoryInv s) {bay agent : Nat} : KeepsMemory (execGo bay agent s) := .next h.goCopy

theorem execApertureCopyDone (h : MemoryInv s) {bay : Nat} : KeepsMemory (execApertureCopyDone bay s) := by
  unfold Machine.execApertureCopyDone
  dsimp only
  refine .next ?_
  split
  · exact .ite h (.ite ((h.modGranary fun hg => hg.fill).modPush) h.modPush)
  · exact h

theorem execPushAbandonExpiry (h : MemoryInv s) {bay : Nat} : KeepsMemory (execPushAbandonExpiry bay s) :=
  .next (.ite (modPush (.ite h.modFabric h)) h)

theorem streamImage (h : MemoryInv s) {bay : Nat} {img : List Byte} : MemoryInv (s.streamImage bay img) :=
  (h.modGranary fun hg => hg.fill).modPush

theorem execStreamerClaim (h : MemoryInv s) {bay : Nat} : KeepsMemory (execStreamerClaim bay s) := by
  unfold Machine.execStreamerClaim
  dsimp only
  refine .next (.ite h ?_)
  split
  · exact h
  · exact h.foldl fun hu => .ite hu.claimWindow.streamImage hu

theorem releaseWindow (h : MemoryInv s) {bay agent : Nat} : MemoryInv (s.releaseWindow bay agent) := .ite h (.ite h.modPush h.modPush)

theorem execRelease (h : MemoryInv s) {bay agent : Nat} : KeepsMemory (execRelease bay agent s) := .next h.releaseWindow

theorem attemptFailed (h : MemoryInv s) {bay : Nat} {p : Push} {check img : Nat} : MemoryInv (s.attemptFailed bay p check img) := by
  unfold State.attemptFailed
  extract_lets n s1 onV want s2 s3 s4
  have h1 : MemoryInv s1 := .ite h.refuseSlot h.almanac.raiseLater
  have h2 : MemoryInv s2 := h1.modGranary fun hg => memFilter_wf hg _
  have h4 : MemoryInv s4 := modPush (.ite h2.modFabric h2)
  exact .ite h4.enterFallow h4

theorem execStage0Done (h : MemoryInv s) {bay : Nat} : KeepsMemory (execStage0Done bay s) := by
  unfold Machine.execStage0Done
  dsimp only
  refine .next (.ite h ?_)
  split
  · exact h.attemptFailed
  · exact (h.fixDebug.measureStage0.forUpTo fun hu => hu.modHand).modPush.modMeasure

theorem placeSections (h : MemoryInv s) {bay : Nat} {img : List Byte} : MemoryInv (s.placeSections bay img) :=
  h.foldl fun hu => by
        split
        · exact (hu.modGranary fun hg => hg.mark).foldl fun hu' => hu'.modHand
        · exact hu.modGranary fun hg => hg.mark
        · exact .ite hu hu.modEasel

theorem placeHand (h : MemoryInv s) {bay hand : Nat} {h' : Hand} : MemoryInv (s.placeHand bay hand h') := by
  unfold State.placeHand
  split
  · exact h
  · refine modHand (h.modGranary fun hg => ?_)
    exact .mark (.mark (.mark (.write (.write (.write hg)))))

theorem loadFromLoft (h : MemoryInv s) {bay : Nat} : MemoryInv (s.loadFromLoft bay) :=
  .ite ((h.foldl fun hu => hu.placeHand).modEaselBay.modEasel) ((h.foldl fun hu => hu.placeHand).modEaselBay)

theorem runsImage (h : MemoryInv s) {bay hash : Nat} : MemoryInv (s.runsImage bay hash) := by
  unfold State.runsImage
  dsimp only
  split
  · exact h.modBay
  · refine .ite ?_ h.modBay.modUpd
    split <;> exact h.modBay.setSlot.modUpd

theorem execStage1Done (h : MemoryInv s) {bay : Nat} : KeepsMemory (execStage1Done bay s) := by
  unfold Machine.execStage1Done
  extract_lets p img s1 s2 s3 s4 s5 s6 s7 s8
  have h4 : MemoryInv s4 := (h.foldl fun hu => hu.extendTally).extendTally.modSys.modBarn
  have h5 : MemoryInv s5 := (h4.modGranary fun hg => hg.bootPages).placeSections
  have h7 : MemoryInv s7 := (h5.forUpTo fun hu => hu.modHand).loadFromLoft.modPush
  have h8 : MemoryInv s8 := h7.runsImage.freshGovernor
  exact .next (.ite h (.ite h.resetBay.attemptFailed h8.bayReleased.showMeasures))

/-! ### Cooling -/

theorem becomesSuspect (h : MemoryInv s) {bay p : Nat} {est : ℚ} :
    MemoryInv (s.becomesSuspect bay p est) := .ite h.modPoint.raise h.modPoint

theorem checkPoint (h : MemoryInv s) {bay p : Nat} : MemoryInv (s.checkPoint bay p) := by
  unfold State.checkPoint
  dsimp only
  split
  · exact h.modPoint
  · split
    · exact .ite h.modPoint.modPoint h.modPoint.becomesSuspect
    · exact .ite (.ite h.modPoint.modPoint h.modPoint.modPoint) (.ite h.modPoint.becomesSuspect h.modPoint.modPoint)

theorem execSensorCheck (h : MemoryInv s) {bay : Nat} : KeepsMemory (execSensorCheck bay s) :=
  .next (.ite h (h.modCool.foldl fun hu => .ite hu hu.checkPoint))

theorem diodeTrip (h : MemoryInv s) {n : Nat} : MemoryInv (s.diodeTrip n) :=
  .ite ((h.modDiode.modCool.forUpTo fun hu => .ite (modThermal (.ite hu hu.commandOpen)) hu).raiseLater) h.modDiode.modCool

theorem execDiodeConversion (h : MemoryInv s) {readings : List (Option Int)} : KeepsMemory (execDiodeConversion readings s) :=
  .next (.ite h (((h.modCool.forUpTo fun hu => .ite hu hu.modDiode.signalChannel).forUpTo fun hu => hu.diodeTrip).followDrives))

theorem zoneTrip (h : MemoryInv s) {z : Nat} : MemoryInv (s.zoneTrip z) :=
  (h.forUpTo fun hu => .ite (modThermal (.ite hu hu.commandOpen)) hu).raise

theorem formZone (h : MemoryInv s) {bay z : Nat} : MemoryInv (s.formZone bay z) := .ite h (modZone (.ite h.modZone.zoneTrip h.modZone))

theorem writeDrive (h : MemoryInv s) {ch : Nat} : MemoryInv (s.writeDrive ch) := .ite h h.modDrive.followDrive

theorem execZoneDemand (h : MemoryInv s) : KeepsMemory (execZoneDemand s) := by
  unfold Machine.execZoneDemand
  dsimp only
  refine .next ?_
  split
  · exact h
  · exact .ite h ((h.modCool.forUpTo fun hu => hu.formZone).forUpTo fun hu => hu.writeDrive)

theorem execThermalStep (h : MemoryInv s) : KeepsMemory (execThermalStep s) :=
  .next (.ite h (h.modCool.forUpTo fun hu => .ite hu hu.journalChange.raise))

theorem execThermalHoldRelease (h : MemoryInv s) {slot : Nat} : KeepsMemory (execThermalHoldRelease slot s) := .next (.ite h.modThermal h)

theorem execKick (h : MemoryInv s) {channel : Nat} : KeepsMemory (execKick channel s) := .next (.ite h.startKick h)

theorem execKickResponse (h : MemoryInv s) {channel : Nat} : KeepsMemory (execKickResponse channel s) :=
  .next (.ite h.modDrive.followDrive.signalChannel h)

theorem execKickExpiry (h : MemoryInv s) {channel : Nat} : KeepsMemory (execKickExpiry channel s) := .next (.ite h.stall h)

theorem judgeSilent (h : MemoryInv s) {ch : Nat} : MemoryInv (s.judgeSilent ch) :=
  .ite h.stall (.ite h h.modDrive.followDrive.signalChannel.raise)

theorem execTachSilence (h : MemoryInv s) {channel : Nat} : KeepsMemory (execTachSilence channel s) := .next (.ite h.judgeSilent h)

theorem execReadIout (h : MemoryInv s) {channel : Nat} {word : Option (BitVec 16)} {binary16 : Bool} :
    KeepsMemory (execReadIout channel word binary16 s) :=
  .next (.ite h (.ite h.modDrive.judgeSilent h.modDrive))

theorem execStallRetry (h : MemoryInv s) {channel : Nat} : KeepsMemory (execStallRetry channel s) := .next (.ite h.startKick h)

theorem execTachEdgesReturn (h : MemoryInv s) {channel : Nat} : KeepsMemory (execTachEdgesReturn channel s) :=
  .next (.ite h.modDrive.followDrive.signalChannel h)

theorem execPumpIndexPulse (h : MemoryInv s) {channel count : Nat} : KeepsMemory (execPumpIndexPulse channel count s) :=
  .next (.ite h (.ite h.modDrive.raise h.modDrive))

theorem execFlowGate (h : MemoryInv s) {channel pulses : Nat} : KeepsMemory (execFlowGate channel pulses s) :=
  .next (.ite h (.ite ((modInput (.ite h h.signalChannel)).raise) (modInput (.ite h h.signalChannel))))

theorem filtered (h : MemoryInv s) {ch : Nat} {active : Bool} : MemoryInv (s.filtered ch active) :=
  .ite h (.ite h.modInput.signalChannel.leakFound h.modInput.signalChannel)

theorem execLeak (h : MemoryInv s) {channel : Nat} : KeepsMemory (execLeak channel s) := .next (.ite h.filtered h)

theorem execInputFilteredChange (h : MemoryInv s) {channel : Nat} {active : Bool} :
    KeepsMemory (execInputFilteredChange channel active s) :=
  .next (.ite h.filtered h)

theorem execInputStuck (h : MemoryInv s) {channel : Nat} : KeepsMemory (execInputStuck channel s) :=
  .next (.ite h.modInput.signalChannel.raise h)

theorem execStuckMaskClear (h : MemoryInv s) {channel : Nat} : KeepsMemory (execStuckMaskClear channel s) :=
  .next (.ite h.modInput.signalChannel h)

theorem execInputChatter (h : MemoryInv s) {channel transitions : Nat} : KeepsMemory (execInputChatter channel transitions s) :=
  .next (.ite h (.ite (leakFound (.ite h.modInput h.modInput.raise)) (.ite h.modInput h.modInput.raise)))

theorem execChatterEnd (h : MemoryInv s) {channel : Nat} : KeepsMemory (execChatterEnd channel s) := .next (.ite h.modInput h)

theorem execOutputFight (h : MemoryInv s) {channel : Nat} : KeepsMemory (execOutputFight channel s) :=
  .next (.ite (.ite h h.modDrive.followDrive.signalChannel.raise) (.ite (.ite h h.modValve.signalChannel.raise)
    (.ite h.modCool.signalChannel.raise h)))

theorem execCoolingRecord (h : MemoryInv s) : KeepsMemory (execCoolingRecord s) :=
  .next (.ite h (forUpTo (.ite h.modCool h) fun hu => .ite hu.telemetry.modZone hu))

theorem effCoolSetZone (h : MemoryInv s) {j zone pumps fans slots : Nat} {target trip : Int} :
    MemoryInv (effCoolSetZone j zone pumps fans slots target trip s) :=
  ok (.ite h.modZone h.modZone.modZone)

theorem effCoolSetSensor (h : MemoryInv s) {j : Nat} {hdr : CmdHdr} {point zone n : Nat} {thresh : Int} {blen : Nat} :
    MemoryInv (effCoolSetSensor j hdr point zone n thresh blen s) :=
  h.modPoint.ok

theorem effCoolSetDrive (h : MemoryInv s) {j channel mode drive : Nat} : MemoryInv (effCoolSetDrive j channel mode drive s) :=
  h.modDrive.writeDrive.ok

theorem effCoolSetValve (h : MemoryInv s) {j channel on : Nat} : MemoryInv (effCoolSetValve j channel on s) :=
  .ite h.complete (ok (.ite h.modValve h.modValve.signalChannel))

theorem effCoolSetInput (h : MemoryInv s) {j channel filter stuck chatter : Nat} :
    MemoryInv (effCoolSetInput j channel filter stuck chatter s) :=
  h.modInput.ok

theorem effCoolStatus (h : MemoryInv s) {j buf : Nat} : MemoryInv (effCoolStatus j buf s) := h.bufferOut.ok

/-! ### Fabric -/

theorem originate (h : MemoryInv s) {port drole : Nat} {dst : Word64} {repoch : Word32} {body : FabBody} :
    MemoryInv (s.originate port drole dst repoch body) :=
  .ite h h.modFabric.modPort.emit

theorem relay (h : MemoryInv s) {port : Nat} {hdr : FabHdr} {body : FabBody} : MemoryInv (s.relay port hdr body) := .ite h h.modPort.emit

theorem route (h : MemoryInv s) {hdr : FabHdr} {body : FabBody} : MemoryInv (s.route hdr body) := by
  unfold State.route
  split
  · exact h.relay
  · exact h

theorem discard (h : MemoryInv s) : MemoryInv s.discard := h.modFabric

theorem modMember (h : MemoryInv s) {id : Word64} {f : Member → Member} : MemoryInv (s.modMember id f) := h.modFabric

theorem rejoinNakSend (h : MemoryInv s) {port : Nat} {src : Word64} : MemoryInv (State.rejoinNak.send s port src) := h.modPort.originate

theorem rejoinNak (h : MemoryInv s) {port : Nat} {src : Word64} : MemoryInv (s.rejoinNak port src) := by
  unfold State.rejoinNak
  split
  · exact .ite h.rejoinNakSend h
  · exact h.rejoinNakSend

theorem accept (h : MemoryInv s) {port : Nat} {hdr : FabHdr} {needs epochs answer : Bool} :
    MemoryInv (s.accept port hdr needs epochs answer).1 :=
  .ite_fst h (.ite_fst h.modPort.discard (.ite_fst h.modPort.discard (.ite_fst h.discard.rejoinNak (.ite_fst h.discard (.ite_fst h.discard
    (.ite h.modPort.modMember h.modPort))))))

theorem sendNak (h : MemoryInv s) {port : Nat} {dst : Word64} {reason : Nat} : MemoryInv (s.sendNak port dst reason) := h.originate

theorem takeRoles (h : MemoryInv s) {m : Member} : MemoryInv (s.takeRoles m) := .ite h.modFabric h.modFabric.raise

theorem floodChanges (h : MemoryInv s) {fuel : Nat} {cs : List MemberChange} : MemoryInv (s.floodChanges fuel cs) := by
  induction fuel generalizing s cs with
  | zero => exact h
  | succ n ih => exact .ite h (ih (h.foldl fun hu => hu.originate))

theorem pruneChildren (h : MemoryInv s) : MemoryInv s.pruneChildren := h.modGrid

theorem setTable (h : MemoryInv s) {ms : List Member} : MemoryInv (s.setTable ms) := by
  unfold State.setTable
  dsimp only
  refine floodChanges ?_
  split
  · exact h.modFabric.pruneChildren.takeRoles
  · exact h.modFabric.pruneChildren

theorem removeMember (h : MemoryInv s) {id : Word64} : MemoryInv (s.removeMember id) := h.setTable

theorem joinVia (h : MemoryInv s) {p : Nat} {st : FState} : MemoryInv (s.joinVia p st) := h.modFabric.originate

theorem dropMembership (h : MemoryInv s) : MemoryInv s.dropMembership := h.modFabric.modGrid

theorem drawBackoff (h : MemoryInv s) {after : Nat} : MemoryInv (s.drawBackoff after) := h.modFabric.modSys

theorem listen (h : MemoryInv s) : MemoryInv s.listen := h.modFabric.drawBackoff

theorem seekSide (h : MemoryInv s) : MemoryInv s.seekSide := by
  unfold State.seekSide
  dsimp only
  split
  · exact h.joinVia
  · exact h

theorem lostUp (h : MemoryInv s) : MemoryInv s.lostUp := h.modFabric.modGrid.seekSide

theorem floodClaim (h : MemoryInv s) : MemoryInv s.floodClaim := h.modFabric.foldl fun hu => hu.originate

theorem becomeRoot (h : MemoryInv s) : MemoryInv s.becomeRoot := h.modFabric.modGrid.setTable.raise

theorem execPortLightLock (h : MemoryInv s) {port : Nat} : KeepsMemory (execPortLightLock port s) := .next (.ite h.modPort h)

theorem execPortTrainTimeout (h : MemoryInv s) {port : Nat} : KeepsMemory (execPortTrainTimeout port s) := .next (.ite h.modPort h)

theorem execPortLossOfLight (h : MemoryInv s) {port : Nat} : KeepsMemory (execPortLossOfLight port s) :=
  .next (.ite (.ite h.modPort.modFabric.modGrid h.modPort) h)

theorem execDeadTimeoutExpiry (h : MemoryInv s) {port : Nat} : KeepsMemory (execDeadTimeoutExpiry port s) := by
  unfold Machine.execDeadTimeoutExpiry
  dsimp only
  refine .next (.ite h (.ite (.ite h.modPort.removeMember ?_) (.ite h.modPort.lostUp h.modPort)))
  split
  · exact h.modPort.originate
  · exact h.modPort

theorem execBeaconSend (h : MemoryInv s) : KeepsMemory (execBeaconSend s) := .next (.ite h (h.modFabric.foldl fun hu => hu.originate))

theorem noteBeacon (h : MemoryInv s) {port : Nat} {hdr : FabHdr} {b : BeaconBody} :
    MemoryInv (s.noteBeacon port hdr b) := h.modPort.modFabric

theorem trainPort (h : MemoryInv s) {port : Nat} : MemoryInv (s.trainPort port) := .ite (.ite (.ite h.modPort.listen h.modPort) h.modPort) h

theorem followBeacon (h : MemoryInv s) {port : Nat} {b : BeaconBody} : MemoryInv (s.followBeacon port b) :=
  .ite h (.ite h.modFabric.lostUp h.modFabric)

theorem execBeacon (h : MemoryInv s) {port : Nat} {hdr : FabHdr} {body : BeaconBody} : KeepsMemory (execBeacon port hdr body s) := by
  unfold Machine.execBeacon
  extract_lets a s1
  have h1 : MemoryInv s1 := h.accept.noteBeacon.trainPort
  refine .next (.ite h.accept (.ite h1 ?_))
  split
  · split
    · exact h1.joinVia.modFabric
    · exact h1
  · split
    · exact h1.joinVia.modFabric
    · exact h1
  · exact .ite h1.dropMembership.joinVia h1.followBeacon
  · exact .ite h1.dropMembership.joinVia h1.followBeacon
  · exact .ite h1.dropMembership.joinVia (.ite h1.seekSide h1.followBeacon)

theorem execClaim (h : MemoryInv s) {port : Nat} {hdr : FabHdr} : KeepsMemory (execClaim port hdr s) :=
  .next (.ite h.accept (h.accept.modFabric.foldl fun hu => hu.relay))

theorem execClaimBackoffExpiry (h : MemoryInv s) : KeepsMemory (execClaimBackoffExpiry s) := by
  unfold Machine.execClaimBackoffExpiry
  refine .next ?_
  split
  · exact .ite h.floodClaim h
  · exact h

theorem execClaimSettleExpiry (h : MemoryInv s) : KeepsMemory (execClaimSettleExpiry s) := by
  unfold Machine.execClaimSettleExpiry
  refine .next ?_
  split
  · exact .ite h.becomeRoot h
  · exact h

theorem execRootTimeoutExpiry (h : MemoryInv s) : KeepsMemory (execRootTimeoutExpiry s) := by
  unfold Machine.execRootTimeoutExpiry
  dsimp only
  refine .next (.ite h ?_)
  split
  · exact .ite h.lostUp h
  · exact .ite h.modFabric.drawBackoff h
  · exact h

theorem execStaleMemberRemoval (h : MemoryInv s) : KeepsMemory (execStaleMemberRemoval s) := by
  unfold Machine.execStaleMemberRemoval
  dsimp only
  refine .next ?_
  split
  · exact .ite h.modFabric.setTable.modFabric h
  · exact h

theorem execJoin (h : MemoryInv s) {port : Nat} {hdr : FabHdr} {maxMepoch : BitVec 32} {parent : BitVec 64} :
    KeepsMemory (execJoin port hdr maxMepoch parent s) := by
  unfold Machine.execJoin
  dsimp only
  refine .next (.ite h.accept (.ite ?_ (.ite ?_ (.ite h.accept.sendNak h.accept.modFabric.setTable.originate))))
  · split
    · exact h.accept.relay
    · exact h.accept
  · split
    · exact .ite h.accept.modFabric.setTable.originate h.accept.sendNak
    · exact h.accept.sendNak

theorem execAdmitFrame (h : MemoryInv s) {port : Nat} {hdr : FabHdr} {mepoch : BitVec 32} {table : List Member} :
    KeepsMemory (execAdmitFrame port hdr mepoch table s) := by
  unfold Machine.execAdmitFrame
  extract_lets a s1 was s2 s3
  have h1 : MemoryInv s1 := h.accept
  have h3 : MemoryInv s3 := by
    unfold s3
    split
    · exact h1.modFabric.modGrid.takeRoles
    · exact h1.modFabric.modGrid
  exact .next (.ite h1 (.ite (.ite h1 h1.route) (.ite h1 (.ite h3.raise h3))))

theorem execMemberFrame (h : MemoryInv s) {port : Nat} {hdr : FabHdr} {changes : List MemberChange} :
    KeepsMemory (execMemberFrame port hdr changes s) := by
  unfold Machine.execMemberFrame
  dsimp only
  refine .next (.ite h.accept (foldl ?_ fun hu => hu.relay))
  split
  · exact h.accept.modFabric.pruneChildren.takeRoles
  · exact h.accept.modFabric.pruneChildren

theorem execTimeExchangeSend (h : MemoryInv s) : KeepsMemory (execTimeExchangeSend s) := by
  unfold Machine.execTimeExchangeSend
  refine .next ?_
  split
  · exact .ite h.modFabric.originate h
  · exact h

theorem align (h : MemoryInv s) {port : Nat} {x : Stamps} : MemoryInv (s.align port x) :=
  .ite h.modPort.modFabric.modSys (.ite h.modPort.modSys.modFabric.raise h.modPort.modSys.modFabric)

theorem execTimeFrame (h : MemoryInv s) {port : Nat} {hdr : FabHdr} {stamps : Stamps} : KeepsMemory (execTimeFrame port hdr stamps s) :=
  .next (.ite h.accept (.ite h.accept.align (.ite h.accept.originate h.accept)))

theorem execReport (h : MemoryInv s) {port : Nat} {hdr : FabHdr} {want keep flr : Nat} :
    KeepsMemory (execReport port hdr want keep flr s) :=
  .next (.ite h.accept.modGrid h.accept)

theorem execReportSend (h : MemoryInv s) : KeepsMemory (execReportSend s) := by
  unfold Machine.execReportSend
  dsimp only
  refine .next ?_
  split
  · exact .ite h.modFabric.originate h
  · exact h

theorem sendRouted (h : MemoryInv s) {drole : Nat} {to_ : Word64 × Word32} {body : FabBody} {tries : Nat} {waiter : Option (Nat × Nat)}
    {t : State}
    (ht : s.sendRouted drole to_ body tries waiter = some t) : MemoryInv t := by
  unfold State.sendRouted at ht
  split at ht
  · cases ht
  · cases ht
    exact .ite h.originate h.originate.modFabric

theorem sendRouted_getD (h : MemoryInv s) {drole : Nat} {to_ : Word64 × Word32} {body : FabBody} {tries : Nat}
    {waiter : Option (Nat × Nat)} {d : State}
    (hd : MemoryInv d) : MemoryInv ((s.sendRouted drole to_ body tries waiter).getD d) := by
  cases ht : s.sendRouted drole to_ body tries waiter with
  | none => exact hd
  | some t => exact h.sendRouted ht

theorem warningArrives (h : MemoryInv s) {msg : List Byte} : MemoryInv (s.warningArrives msg) := h.foldl fun hu => .ite hu.ringWrite hu

theorem messageArrives (h : MemoryInv s) {hdr : FabHdr} {msg : List Byte} {reply : Bool} {hand : Nat} :
    MemoryInv (s.messageArrives hdr msg reply hand) := by
  unfold State.messageArrives
  dsimp only
  split
  · exact h
  · exact .ite h.warningArrives (.ite h.endSend h.deliverMail)

theorem execMsg (h : MemoryInv s) {port : Nat} {hdr : FabHdr} {msg : List (BitVec 8)} {reply : Bool} {hand : Nat} :
    KeepsMemory (execMsg port hdr msg reply hand s) :=
  .next (.ite h.accept (.ite h.accept.route (.ite h.accept.sendNak h.accept.messageArrives)))

/-! ### FabOps -/

theorem completeWait (h : MemoryInv s) {d : GDesc} {status res1 res2 : Nat} : MemoryInv (s.completeWait d status res1 res2) := by
  unfold State.completeWait
  split
  · exact h.modFabric.complete
  · exact h

theorem tellProxy (h : MemoryInv s) {d : GDesc} {requester : Word64} {res1 res2 : Nat} : MemoryInv (s.tellProxy d requester res1 res2) := by
  unfold State.tellProxy
  refine .ite h.completeWait ?_
  split
  · exact h.originate
  · exact h

theorem progressOps (h : MemoryInv s) : MemoryInv s.progressOps :=
  h.foldl fun hu => by
        split
        · exact hu
        · split
          · exact hu.modFabric.originate
          · exact hu.modFabric.tellProxy

theorem actGlobal (h : MemoryInv s) {d : GDesc} {body : List Byte} {src : Word64} : MemoryInv (s.actGlobal d body src) := by
  unfold State.actGlobal
  split
  · split
    · exact h.deliverMail
    · exact h
  · exact h.modFabric
  · exact .ite h.receiveGrid h.modGrid.receiveGrid
  · exact h.frequencyFrame
  · exact h.receiveGrid
  · exact h.receiveGrid
  · exact h

theorem descend (h : MemoryInv s) {d0 : GDesc} {body : List Byte} {upPort : Option Nat} {src requester : Word64} :
    MemoryInv (s.descend d0 body upPort src requester) := by
  unfold State.descend
  extract_lets d s1 s2
  have h1 : MemoryInv s1 := h.foldl fun hu => hu.originate
  have h2 : MemoryInv s2 := .ite h1.actGlobal h1
  exact .ite h2.modFabric.progressOps h2

theorem startOp (h : MemoryInv s) {d : GDesc} {body : List Byte} {requester : Word64} {port : Option Nat} :
    MemoryInv (s.startOp d body requester port) := by
  unfold State.startOp
  dsimp only
  refine .ite ?_ (.ite h (.ite h.descend h.descend.tellProxy))
  split
  · exact h.sendNak
  · exact h.completeWait

theorem execGdown (h : MemoryInv s) {port : Nat} {hdr : FabHdr} {desc : GDesc} {body : List (BitVec 8)} :
    KeepsMemory (execGdown port hdr desc body s) :=
  .next (.ite h.accept (.ite h.accept.route (.ite h.accept.sendNak (.ite h.accept.completeWait (.ite h.accept.descend h.accept)))))

theorem execGup (h : MemoryInv s) {port : Nat} {hdr : FabHdr} {body : GupBody} : KeepsMemory (execGup port hdr body s) := by
  unfold Machine.execGup
  dsimp only
  refine .next (.ite h.accept ?_)
  split
  · exact .ite h.accept.modFabric.progressOps h.accept
  · exact .ite h.accept.route (.ite h.accept.sendNak h.accept.startOp)
  · refine .ite h.accept.route (.ite h.accept.sendNak ?_)
    split
    · exact .ite h.accept.removeMember.progressOps h.accept
    · exact h.accept

theorem sendFails (h : MemoryInv s) {t : MsgTry} : MemoryInv (s.sendFails t) := by
  unfold State.sendFails
  split
  · exact h.completeWait
  · exact h.endSend
  · exact h

theorem roleNak (h : MemoryInv s) {src : Word64} {roles : Nat} {roleEpoch : Word32} : MemoryInv (s.roleNak src roles roleEpoch) := by
  unfold State.roleNak
  dsimp only
  split
  · exact h.modFabric.modMember
  · refine .ite h.modFabric.modMember.modFabric.sendFails ?_
    split
    · exact h.modFabric.modMember.modFabric.sendFails
    · exact h.modFabric.modMember.modFabric.sendRouted_getD h.modFabric.modMember.modFabric.sendFails

theorem rejoin (h : MemoryInv s) {port : Nat} : MemoryInv (s.rejoin port) := by
  unfold State.rejoin
  dsimp only
  split
  · exact h
  · exact h
  · exact .ite h.modFabric.dropMembership.joinVia h.modFabric.dropMembership.listen

theorem execNak (h : MemoryInv s) {port : Nat} {hdr : FabHdr} {reason roles : Nat} {roleEpoch : BitVec 32} :
    KeepsMemory (execNak port hdr reason roles roleEpoch s) := by
  unfold Machine.execNak
  dsimp only
  refine .next (.ite h.accept (.ite h.accept.route ?_))
  split
  · exact h.accept.roleNak
  · exact h.accept.rejoin
  · split
    · exact h.accept.completeWait
    · exact h.accept
  · exact h.accept

theorem contribute (h : MemoryInv s) {kind : Nat} {opNo : Word32} {c : GlobalOp → Contribution} : MemoryInv (s.contribute kind opNo c) :=
  h.modFabric.progressOps

theorem execReduceSample (h : MemoryInv s) {opNo : BitVec 32} : KeepsMemory (execReduceSample opNo s) := .next (.ite h.contribute h)

theorem execSnapshotLatch (h : MemoryInv s) {opNo : BitVec 32} : KeepsMemory (execSnapshotLatch opNo s) := by
  unfold Machine.execSnapshotLatch
  dsimp only
  refine .next (.ite (contribute ?_) h)
  split
  · exact h.almanac
  · exact h.modFabric

theorem execHallReset (h : MemoryInv s) : KeepsMemory (execHallReset s) := by
  unfold Machine.execHallReset
  refine .next ?_
  split
  · exact h
  · extract_lets s1 s2 s3
    have h1 : MemoryInv s1 := h.foldl fun hu => .ite hu.completeWait (.ite hu.completeWait hu)
    have h3 : MemoryInv s3 := h1.dropMembership.modFabric.forUpTo fun hu => .ite hu hu.modPort
    exact .ite h (.ite h3.listen h3.modFabric)

theorem execOpTimeoutExpiry (h : MemoryInv s) {opNo : BitVec 32} : KeepsMemory (execOpTimeoutExpiry opNo s) :=
  .next ((h.foldl fun hu => hu.completeWait).modFabric)

theorem execTargetCommit (h : MemoryInv s) {op : GridOp} {target : Target} : KeepsMemory (execTargetCommit op target s) := by
  unfold Machine.execTargetCommit
  dsimp only
  refine .next (.ite (progressOps ?_) h)
  split
  · exact h.modGrid.lateTarget
  · exact h.modGrid
  · exact h.modGrid.journalChange

theorem execTargetDeadlineExpiry (h : MemoryInv s) {fab : Bool} {target : Target} :
    KeepsMemory (execTargetDeadlineExpiry fab target s) := by
  unfold Machine.execTargetDeadlineExpiry
  refine .next (.ite h (progressOps ?_))
  split
  · exact h.complete.lateTarget
  · exact .ite h.modGrid.lateTarget h

theorem execFeedWarnAssert (h : MemoryInv s) : KeepsMemory (execFeedWarnAssert s) := by
  unfold Machine.execFeedWarnAssert
  dsimp only
  refine .next ?_
  split
  · exact h
  · refine .ite h.warnAssert ?_
    split
    · exact h.warnAssert
    · exact .ite (.ite h.warnAssert.warningArrives h.warnAssert) (h.warnAssert.sendRouted_getD h.warnAssert)

theorem execFabricRecord (h : MemoryInv s) : KeepsMemory (execFabricRecord s) := .next (.ite h.modFabric.telemetry h)

theorem effFabGlobal (h : MemoryInv s) {j : Nat} {hdr : CmdHdr} : MemoryInv (effFabGlobal j hdr s) := by
  unfold Machine.effFabGlobal
  dsimp only
  refine .ite h.complete (.ite h.modFabric.startOp ?_)
  split
  · exact h.modFabric.sendRouted_getD h.modFabric.completeWait
  · exact h.modFabric.completeWait

theorem effFabStatus (h : MemoryInv s) {j buf : Nat} : MemoryInv (effFabStatus j buf s) := h.bufferOut.ok

theorem effFabConfig (h : MemoryInv s) {j item value : Nat} : MemoryInv (effFabConfig j item value s) :=
  .ite h.complete (ok (.ite h.modFabParam.setTable h.modFabParam))

/-! ### Scrub -/

theorem startTest (h : MemoryInv s) {bay bank jseq : Nat} {repair : Option (Bool × Nat)} : MemoryInv (s.startTest bay bank jseq repair) :=
  h.modBist

theorem nextAutotest (h : MemoryInv s) {bay : Nat} : MemoryInv (s.nextAutotest bay) := by
  unfold State.nextAutotest
  dsimp only
  split
  · exact h
  · exact .ite (.ite ((h.modGranary fun hg => hg).startTest) (h.modGranary fun hg => hg)) h

theorem addRepair (h : MemoryInv s) {bay bank : Nat} {column : Bool} {pos : Nat} :
    MemoryInv (s.addRepair bay bank column pos) := h.modGran rfl

theorem repairBit (h : MemoryInv s) {bay bank bitPos : Nat} {lines : List Nat} : MemoryInv (s.repairBit bay bank bitPos lines).1 := by
  unfold State.repairBit
  extract_lets lines' rows cols byRows byCol
  have hrows : MemoryInv byRows := h.foldl fun hu => hu.addRepair
  have hcol : MemoryInv byCol := h.addRepair
  exact .ite_fst (.ite_fst hrows (.ite_fst hcol h)) (.ite_fst hcol (.ite_fst hrows h))

theorem repairAll (h : MemoryInv s) {bay bank : Nat} {fails : List (Nat × Nat × Nat)} : MemoryInv (s.repairAll bay bank fails).1 :=
  List.foldlRecOn (motive := fun acc : State × List (Nat × Nat) => MemoryInv acc.1) _ _ h fun _ hu _ _ => hu.repairBit

theorem retireBank (h : MemoryInv s) {bay bank : Nat} : MemoryInv (s.retireBank bay bank) := by
  unfold State.retireBank
  refine .ite (raise ?_) (h.modGranary fun hg => hg)
  exact h.modGranary fun hg => .ite hg hg

theorem endTest (h : MemoryInv s) {bay bank result : Nat} : MemoryInv (s.endTest bay bank result) :=
  nextAutotest (.ite (h.modBist.modGranary fun hg => hg) (.ite ((h.modBist.modGranary fun hg => hg).complete)
    ((h.modBist.modGranary fun hg => hg).complete)))

theorem execSelfTestCopyDone (h : MemoryInv s) {bay bank : Nat} : KeepsMemory (execSelfTestCopyDone bay bank s) := by
  unfold Machine.execSelfTestCopyDone
  dsimp only
  refine .next ?_
  split
  · split
    · exact (h.modGranary fun hg => hg).addRepair.modBist
    · exact (h.modGranary fun hg => hg).modBist
  · exact h

theorem execSelfTestMarchDone (h : MemoryInv s) {bay bank : Nat} {fails : List (Nat × Nat × Nat)} :
    KeepsMemory (execSelfTestMarchDone bay bank fails s) := by
  unfold Machine.execSelfTestMarchDone
  refine .next ?_
  split
  · extract_lets r s1 codes entries s2
    have h1 : MemoryInv s1 := .ite h.repairAll h
    have h2 : MemoryInv s2 := h1.modBist
    exact .ite (.ite h2.modBist h2.endTest) (.ite h2.modBist (.ite h2.retireBank.endTest h2.endTest))
  · exact h

theorem execSelfTestRestoreDone (h : MemoryInv s) {bay bank : Nat} : KeepsMemory (execSelfTestRestoreDone bay bank s) := by
  unfold Machine.execSelfTestRestoreDone
  refine .next ?_
  split
  · exact h.endTest
  · exact h

theorem countCorrected (h : MemoryInv s) {bay addr : Nat} : MemoryInv (s.countCorrected bay addr) :=
  .ite (.ite ((h.modGranary fun hg => hg).raise.modGranary fun hg => hg.queueTest) ((h.modGranary fun hg => hg).raise))
    (h.modGranary fun hg => hg)

theorem execGleanerPass (h : MemoryInv s) {bay : Nat} {singles : List Nat} {doubles : List (Nat × Nat)} :
    KeepsMemory (execGleanerPass bay singles doubles s) :=
  .next (.ite h ((((h.foldl fun hu => hu.countCorrected).foldl fun hu => hu.uncorrectable).modGranary fun hg => hg).nextAutotest))

theorem execGleanStarved (h : MemoryInv s) {bay : Nat} : KeepsMemory (execGleanStarved bay s) :=
  .next (.ite ((h.modGranary fun hg => hg).raise) h)

theorem execCorrectedWriteback (h : MemoryInv s) {bay addr : Nat} : KeepsMemory (execCorrectedWriteback bay addr s) :=
  .next (.ite h.countCorrected h)

theorem execPeerRestoreDone (h : MemoryInv s) {bay addr : Nat} : KeepsMemory (execPeerRestoreDone bay addr s) := by
  unfold Machine.execPeerRestoreDone
  dsimp only
  refine .next (.ite (.ite ((h.modGranary fun hg => hg).modGranary fun hg => hg.fill) ?_) h)
  split
  · exact (h.modGranary fun hg => hg).resetBay
  · exact h.modGranary fun hg => hg
  · exact (h.modGranary fun hg => hg).journalLoss

theorem execCodeRewriteDone (h : MemoryInv s) {bay page : Nat} : KeepsMemory (execCodeRewriteDone bay page s) :=
  .next (.ite ((h.modGranary fun hg => hg).modBarn.modBarn) h)

theorem effBistRun (h : MemoryInv s) {j bay bank : Nat} : MemoryInv (effBistRun j bay bank s) := .ite h.startTest h.complete

theorem effBistResult (h : MemoryInv s) {j bay bank buf : Nat} : MemoryInv (effBistResult j bay bank buf s) := h.bufferOut.complete

theorem effRepairApply (h : MemoryInv s) {j bay bank kind pos : Nat} : MemoryInv (effRepairApply j bay bank kind pos s) :=
  .ite h.modEntry (.ite h.startTest h.complete)

theorem finishRepairApply (h : MemoryInv s) {j bay bank pos : Nat} :
    MemoryInv (finishRepairApply j bay bank pos s) := (h.modGran rfl).complete

theorem effGranStatus (h : MemoryInv s) {j bay first count buf : Nat} : MemoryInv (effGranStatus j bay first count buf s) := h.bufferOut.ok

theorem effGranConfig (h : MemoryInv s) {j bay gleanPeriod ceThresh autotest : Nat} :
    MemoryInv (effGranConfig j bay gleanPeriod ceThresh autotest s) :=
  ok (.ite ((h.modGranary fun hg => hg).modGranary fun hg => hg) (h.modGranary fun hg => hg))

/-! ### Window -/

theorem controlWrite (h : MemoryInv s) {bay w : Nat} {high : Bool} {v : Nat} : MemoryInv (s.controlWrite bay w high v) := by
  unfold State.controlWrite
  dsimp only
  refine .ite (.ite h.claimWindow h) (.ite h ?_)
  split
  · exact h.modPush
  · exact h.modPush
  · exact h.modPush
  · exact h.modPush
  · exact .ite (releaseWindow (.ite h.goCopy h)) (.ite h.goCopy h)
  · exact h.modPush
  · exact h

theorem controlAccess (h : MemoryInv s) {endpoint : Nat} {write : Bool} {off size : Nat} {value : Word64} :
    MemoryInv (s.controlAccess endpoint write off size value) :=
  .ite (.ite h.controlWrite.controlWrite h.controlWrite) h.windowAnswer

theorem execHostWindowAccess (h : MemoryInv s) {endpoint : Nat} {write : Bool} {offset size : Nat} {value : BitVec 64} {ecc : Ecc}
    {collide : Bool} :
    KeepsMemory (execHostWindowAccess endpoint write offset size value ecc collide s) :=
  .next (.ite h (.ite h.windowDeny (.ite (.ite h.controlAccess (.ite h.windowDeny (.ite h.windowAnswer h.windowAccess)))
    (.ite h.windowDeny (.ite h h.windowAccess)))))

theorem drawEntropy (h : MemoryInv s) {n : Nat} : MemoryInv (s.drawEntropy n).2 := h.modEntropy

theorem execQuoteRequestPoll (h : MemoryInv s) {bay : Nat} : KeepsMemory (execQuoteRequestPoll bay s) :=
  .next (.ite h (.ite h.modMeasure.showMeasures h.modMeasure.showMeasures.drawEntropy.modMeasure.showMeasures.modMeasure.showMeasures))

theorem execLifeCycleRequest (h : MemoryInv s) {state serial key sig : Nat} : KeepsMemory (execLifeCycleRequest state serial key sig s) :=
  .next (.ite h.modFuse.showMeasures.showMeasures.emit h.modFuse.emit)

theorem giveChallenge (h : MemoryInv s) {bay : Nat} : MemoryInv (s.giveChallenge bay) := h.drawEntropy.modMeasure.foldl fun hu => hu.emit

theorem execDebugAuthentication (h : MemoryInv s) {bay : Nat} {sig : Option Nat} : KeepsMemory (execDebugAuthentication bay sig s) := by
  unfold Machine.execDebugAuthentication
  refine .next (.ite h ?_)
  split
  · exact .ite h.giveChallenge h.modMeasure
  · split
    · exact .ite h.modMeasure.showMeasures h
    · exact h

theorem debugAnswer (h : MemoryInv s) {bay : Nat} {v : Word64} : MemoryInv (s.debugAnswer bay v) := h.modMeasure.emit

theorem raiseDbgBusy (h : MemoryInv s) {bay : Nat} : MemoryInv (s.raiseDbgBusy bay) := h.modGranary fun hg => hg

theorem debugRead (h : MemoryInv s) {bay offset : Nat} {ecc : Ecc} {collide : Bool} : MemoryInv (s.debugRead bay offset ecc collide) :=
  .ite h.drawFree.raiseDbgBusy.debugAnswer (.ite h.checkWord.raiseDbgBusy.debugAnswer h.checkWord.debugAnswer)

theorem execDebugAccess (h : MemoryInv s) {bay : Nat} {act : DebugAct} {ecc : Ecc} {collide : Bool} :
    KeepsMemory (execDebugAccess bay act ecc collide s) := by
  unfold Machine.execDebugAccess
  dsimp only
  refine .next (.ite h ?_)
  split
  · exact .ite h h.debugRead
  · exact .ite h (.ite h.raiseDbgBusy (h.modGranary fun hg => hg.store))
  · exact h.modMeasure
  · exact h.modMeasure
  · exact .ite h.modMeasure h
  · exact h.debugAnswer

theorem execEntropyReady (h : MemoryInv s) : KeepsMemory (execEntropyReady s) :=
  .next (.ite h (h.modEntropy.forUpTo fun hu => .ite hu.giveChallenge hu))

theorem execDrbgReseed (h : MemoryInv s) : KeepsMemory (execDrbgReseed s) := .next (.ite h.modEntropy h)

theorem execEntropyHealthFail (h : MemoryInv s) :
    KeepsMemory (execEntropyHealthFail s) := .next (.ite h h.modEntropy.showMeasures.showMeasures)

/-! ### Update -/

theorem openSession (h : MemoryInv s) {kind slot len bay : Nat} : MemoryInv (s.openSession kind slot len bay) := h.setSlot.modSlot.modUpd

theorem closeSession (h : MemoryInv s) {slot : Nat} : MemoryInv (s.closeSession slot) := h.modUpd

theorem commitSlot (h : MemoryInv s) {slot hash : Nat} {fallow : Bool} : MemoryInv (s.commitSlot slot hash fallow) :=
  h.setSlot.modSlot.closeSession

theorem shedRefused (h : MemoryInv s) : MemoryInv s.shedRefused := by
  unfold State.shedRefused
  dsimp only
  split
  · exact .ite (.ite h.resetBay (.ite h.startHandover h)) h
  · exact h

theorem execStandbyLimitExpiry (h : MemoryInv s) {bay : Nat} : KeepsMemory (execStandbyLimitExpiry bay s) := by
  unfold Machine.execStandbyLimitExpiry
  dsimp only
  refine .next ?_
  split
  · exact .ite h.refuseSlot.shedRefused h
  · exact h

theorem effUpdBegin (h : MemoryInv s) {j : Nat} {hdr : CmdHdr} {kind len : Nat} : MemoryInv (effUpdBegin j hdr kind len s) := by
  unfold Machine.effUpdBegin
  split
  · exact h.openSession.complete
  · exact h.complete

theorem effUpdBlock (h : MemoryInv s) {j : Nat} {hdr : CmdHdr} : MemoryInv (effUpdBlock j hdr s) := by
  unfold Machine.effUpdBlock
  split
  · exact h.modEntry
  · exact h.complete

theorem finishUpdBlock (h : MemoryInv s) {j : Nat} {hdr : CmdHdr} {offset blen : Nat} : MemoryInv (finishUpdBlock j hdr offset blen s) := by
  unfold Machine.finishUpdBlock
  split
  · exact h.modSlot.ok
  · exact h.complete

theorem effUpdCommit (h : MemoryInv s) {j : Nat} {hdr : CmdHdr} {hash : Nat} : MemoryInv (effUpdCommit j hdr hash s) := by
  unfold Machine.effUpdCommit
  dsimp only
  split
  · exact h.complete
  · exact .ite h.complete (.ite h.complete (.ite h.complete h.commitSlot.complete))

theorem varnish (h : MemoryInv s) {slot : Nat} : MemoryInv (s.varnish slot) :=
  .ite ((h.foldl fun hu => by
        refine .ite hu ?_
        split
        · exact hu.setSlot
        · exact hu).setSlot.modSlot.modUpd) ((h.foldl fun hu => by
        refine .ite hu ?_
        split
        · exact hu.setSlot
        · exact hu).setSlot.modSlot)

theorem effUpdConfirm (h : MemoryInv s) {j kind : Nat} : MemoryInv (effUpdConfirm j kind s) := by
  unfold Machine.effUpdConfirm
  split
  · exact h.complete
  · exact .ite h.modFuse h.varnish.ok

theorem execFuseCounterBurn (h : MemoryInv s) : KeepsMemory (execFuseCounterBurn s) := by
  unfold Machine.execFuseCounterBurn
  dsimp only
  refine .next (.ite h (.ite h.modFuse.showMeasures.showMeasures ((modFuse ?_).completeIf)))
  split
  · exact h.modFuse.showMeasures.showMeasures.varnish
  · exact h.modFuse.showMeasures.showMeasures

theorem effUpdLock (h : MemoryInv s) {j lock : Nat} : MemoryInv (effUpdLock j lock s) := h.modUpd.ok

theorem effUpdAbort (h : MemoryInv s) {j kind : Nat} : MemoryInv (effUpdAbort j kind s) := by
  unfold Machine.effUpdAbort
  split
  · exact h.setSlot.modSlot.closeSession.ok
  · exact h.complete

theorem effUpdStatus (h : MemoryInv s) {j : Nat} {hdr : CmdHdr} : MemoryInv (effUpdStatus j hdr s) := h.complete

theorem execAccelerometerRead (h : MemoryInv s) {deviationMg : Nat} : KeepsMemory (execAccelerometerRead deviationMg s) :=
  .next (.ite h h.modUpd)

theorem effCalRead (h : MemoryInv s) {j offset len buf : Nat} : MemoryInv (effCalRead j offset len buf s) := h.bufferOut.ok

theorem effCalWrite (h : MemoryInv s) {j : Nat} : MemoryInv (effCalWrite j s) := h.modEntry

theorem takeSlotCal (h : MemoryInv s) {slot : Nat} : MemoryInv (s.takeSlotCal slot) := .ite h.modCalSlot h.modCalSlot.modGovParam

theorem takeLinearCal (h : MemoryInv s) {slot : Nat} : MemoryInv (s.takeLinearCal slot) := .ite h h.modGovParam

theorem takeCoolCal (h : MemoryInv s) : MemoryInv s.takeCoolCal := (h.forUpTo fun hu => hu.modDrive).forUpTo fun hu => hu.modInput

theorem takeInrushCal (h : MemoryInv s) : MemoryInv s.takeInrushCal := h.forUpTo fun hu => hu.modChan

theorem takeAccelCal (h : MemoryInv s) : MemoryInv s.takeAccelCal := h.modUpd

theorem finishCalWrite (h : MemoryInv s) {j : Nat} {hdr : CmdHdr} {offset len : Nat} : MemoryInv (finishCalWrite j hdr offset len s) := by
  unfold Machine.finishCalWrite
  extract_lets s1 s2 s3 s4 s5
  have h2 : MemoryInv s2 := h.modDie.forUpTo fun hu => .ite (takeLinearCal (.ite hu.takeSlotCal hu)) (.ite hu.takeSlotCal hu)
  have h3 : MemoryInv s3 := .ite h2.takeCoolCal h2
  have h4 : MemoryInv s4 := .ite h3.takeInrushCal h3
  have h5 : MemoryInv s5 := .ite h4.takeAccelCal h4
  exact h5.raise.ok

theorem execLoftDieLost (h : MemoryInv s) {die : Nat} : KeepsMemory (execLoftDieLost die s) := .next (.ite h h.modDie.raiseAndRecord)

/-! ### Effect -/

theorem effectOf (h : MemoryInv s) {j : Nat} {i : Instr} : MemoryInv (s.effectOf j i) := by
  unfold State.effectOf
  split
  · exact h.effAdmNop
  · exact h.effAdmRingCreate
  · exact h.effAdmRingDelete
  · exact h.effAdmRingReset
  · exact h.effAdmRingQuery
  · exact h.effAdmRingSubscribe
  · exact h.effAdmHealth
  · exact h.effAdmEntropy
  · exact h.effGovSetCap
  · exact h.effGovSetSlope
  · exact h.effGovSetPriority
  · exact h.effGovSetGain
  · exact h.effGovSetModel
  · exact h.effGovLoadWeights
  · exact h.effGovSetSafeDensity
  · exact h.effGovSetOversub
  · exact h.effGovSetLimits
  · exact h.effGovSetRunahead
  · exact h.effGovSetEscalation
  · exact h.effGovParkAck
  · exact h.effGovUnpark
  · exact h.effGovSetTelemetry
  · exact h.effGovSetOp
  · exact h.effGovSetDroop
  · exact h.effGovSetMargin
  · exact h.effGovTrimReset
  · exact h.effGovStatus
  · exact h.effGridSetTarget
  · exact h.effGridSetCurve
  · exact h.effGridSetFreq
  · exact h.effGridPark
  · exact h.effGridUnpark
  · exact h.effGridSetSource
  · exact h.effGridSetPark
  · exact h.effGridStatus
  · exact h.effCoolSetZone
  · exact h.effCoolSetSensor
  · exact h.effCoolSetDrive
  · exact h.effCoolSetValve
  · exact h.effCoolSetInput
  · exact h.effCoolStatus
  · exact h.effPwrSetTrip
  · exact h.effPwrResetTrip
  · exact h.effPwrBranch
  · exact h.effPwrSetRail
  · exact h.effPwrRailCtrl
  · exact h.effPwrSetWarn
  · exact h.effPwrStatus
  · exact h.effEaselLoad
  · exact h.effEaselBind
  · exact h.effEaselUnbind
  · exact h.effEaselDelete
  · exact h.effEaselStatus
  · exact h.effEaselConfig
  · exact h.effHandLoad
  · exact h.effHandStart
  · exact h.effHandStop
  · exact h.effHandConfig
  · exact h.effHandStatus
  · exact h.effBistRun
  · exact h.effBistResult
  · exact h.effRepairApply
  · exact h.effGranStatus
  · exact h.effGranConfig
  · exact h.effFabGlobal
  · exact h.effFabStatus
  · exact h.effFabConfig
  · exact h.effUpdBegin
  · exact h.effUpdBlock
  · exact h.effUpdCommit
  · exact h.effUpdConfirm
  · exact h.effUpdLock
  · exact h.effUpdAbort
  · exact h.effUpdStatus
  · exact h.effLogRead
  · exact h.effLogStatus
  · exact h.effTwXfer
  · exact h.effTwConfig
  · exact h.effCalRead
  · exact h.effCalWrite
  · exact h.effBayStatus
  · exact h.effBayHandover
  · exact h.effBayConfig
  · exact h.effBayRestart
  · exact h

theorem applyChange (h : MemoryInv s) {j : Nat} {c : Change} : MemoryInv (s.applyChange j c) := by
  unfold State.applyChange
  dsimp only
  refine ok ?_
  split
  · exact h.adminStart
  · exact h.adminStop
  · exact h.applyJoin.shedRefused
  · exact h
  · exact h.commitGrid
  · exact h.applySeeds
  · exact h.replaceInsts
  · exact h.applyTrim
  · exact h.modThermal

theorem applyEntry (h : MemoryInv s) {j : Nat} : MemoryInv (s.applyEntry j) := by
  unfold State.applyEntry
  dsimp only
  refine .ite h ?_
  split
  · exact h.modEntry.effectOf
  · exact h.modEntry.applyChange
  · exact h.modEntry.ok

theorem execJournalApply (h : MemoryInv s) : KeepsMemory (execJournalApply s) := .next ((h.foldl fun hu => hu.applyEntry).progressOps)

theorem finishStepOf (h : MemoryInv s) {j : Nat} {i : Instr} : MemoryInv (s.finishStepOf j i) := by
  unfold State.finishStepOf
  split
  · exact h.finishEaselLoad
  · exact h.finishHandLoad
  · exact h.finishRepairApply
  · exact h.finishUpdBlock
  · exact h.finishCalWrite
  · exact h.twApplyCfg.ok
  · exact h.ok

theorem execKeeperStepReport (h : MemoryInv s) {jseq : Nat} {done ok : Bool} : KeepsMemory (execKeeperStepReport jseq done ok s) := by
  unfold Machine.execKeeperStepReport
  dsimp only
  refine .next (.ite h (.ite h.modEntry (.ite h.modEntry.complete ?_)))
  split
  · exact h.modEntry.finishStepOf
  · exact h.modEntry.ok

theorem runCommand (h : MemoryInv s) {i : Instr} : KeepsMemory (runCommand i s) := by
  cases i
  case admNop | admRingCreate | admRingDelete | admRingReset | admRingQuery | admRingSubscribe | admHealth | admEntropy | govSetCap |
      govSetSlope | govSetPriority | govSetGain | govSetModel | govLoadWeights | govSetSafeDensity | govSetOversub | govSetLimits |
      govSetRunahead | govSetEscalation | govParkAck | govUnpark | govSetTelemetry | govSetOp | govSetDroop | govSetMargin |
      govTrimReset | govStatus | gridSetCurve | gridSetFreq | gridSetSource | gridSetPark | gridStatus | coolSetZone | coolSetSensor |
      coolSetDrive | coolSetValve | coolSetInput | coolStatus | pwrSetTrip | pwrResetTrip | pwrBranch | pwrSetRail | pwrRailCtrl |
      pwrSetWarn | pwrStatus | easelLoad | easelBind | easelUnbind | easelDelete | easelStatus | easelConfig | handLoad | handStart |
      handStop | handConfig | handStatus | bistRun | bistResult | repairApply | granStatus | granConfig | fabGlobal | fabStatus |
      fabConfig | updBegin | updBlock | updCommit | updConfirm | updLock | updAbort | updStatus | logRead | logStatus | twXfer |
      twConfig | calRead | calWrite | bayStatus | bayHandover | bayConfig | bayRestart => exact .next h.submit
  case gridSetTarget => exact h.execGridSetTarget
  case gridPark => exact h.execGridPark
  case gridUnpark => exact h.execGridUnpark
  all_goals exact .next h

theorem nextOf (h : MemoryInv s) {o : Host.Outcome State Fault Refusal} (ho : KeepsMemory o) : MemoryInv (nextOf o s) := by
  unfold Machine.nextOf
  split
  · exact ho _ rfl
  · exact h

theorem submitUnknown (h : MemoryInv s) {ring : Nat} {e : RawEntry} : MemoryInv (s.submitUnknown ring e) := by
  unfold State.submitUnknown
  dsimp only
  refine .ite h (.ite h.answer ?_)
  split
  · exact .ite h.answer h.passEntry.writeStatus.modEntry
  · exact h.answer

theorem fetchEntries (h : MemoryInv s) {ring : Nat} {es : List RawEntry} : MemoryInv (fetchEntries ring es s) := by
  induction es generalizing s with
  | nil => exact h
  | cons e rest ih =>
    unfold Machine.fetchEntries
    refine .ite h (.ite h.poisonedRead (ih ?_))
    split
    · exact h.modRing.nextOf h.modRing.runCommand
    · exact h.modRing.submitUnknown

theorem execCommandFetch (h : MemoryInv s) {ring : Nat} {entries : List RawEntry} : KeepsMemory (execCommandFetch ring entries s) :=
  .next (.ite h.fetchEntries.noteFetch h)

/-! ### Lsend -/

theorem sendPeer (h : MemoryInv s) {bay : Nat} {msg : List Byte} {rs2 : Nat} :
    MemoryInv (s.sendPeer bay msg rs2).1 := .ite_fst h.deliverMail h

theorem sendRing (h : MemoryInv s) {bay : Nat} {msg : List Byte} {rs2 : Nat} : MemoryInv (s.sendRing bay msg rs2).1 :=
  .ite_fst h (.ite_fst h.ringWrite h)

theorem sendFabric (h : MemoryInv s) {bay hand : Nat} {msg : List Byte} {rs2 : Nat} {wait : Bool} :
    MemoryInv (s.sendFabric bay hand msg rs2 wait).1 := by
  unfold State.sendFabric
  dsimp only
  refine .ite_fst h ?_
  split
  · exact h
  · refine .ite_fst h (.ite_fst h.messageArrives ?_)
    split
    next ht => exact h.sendRouted ht
    next => exact h

theorem sendOutput (h : MemoryInv s) {bay : Nat} {msg : List Byte} {rs2 : Nat} : MemoryInv (s.sendOutput bay msg rs2).1 :=
  .ite_fst (.ite h.modDrive.followDrive h) (.ite_fst (.ite h.modValve h) (.ite_fst (.ite h.modCool h) (.ite_fst
    (.ite h.modSeq.railRun h) h)))

theorem send (h : MemoryInv s) {bay hand : Nat} {msg : List Byte} {rs2 : Nat} {wait : Bool} :
    MemoryInv (s.send bay hand msg rs2 wait).1 := by
  unfold State.send
  dsimp only
  split
  · exact h.sendPeer
  · exact .ite_fst h (.ite_fst h h.sendRing)
  · exact h.sendFabric
  · exact .ite_fst h (.ite_fst h h.sendOutput)
  · exact h

theorem execLsend (h : MemoryInv s) {bay hand rd rs1 rs2 : Nat} {fn : BitVec 6} : KeepsMemory (execLsend bay hand rd rs1 rs2 fn s) := by
  unfold Machine.execLsend
  dsimp only
  refine .next (.ite h (.ite h.handFault ?_))
  split
  · exact h.poisonedAccess
  · exact h.send.modHand

/-! ### Push -/

theorem execPushreq (h : MemoryInv s) {port : Nat} {hdr : FabHdr} {hash _bay : Nat} : KeepsMemory (execPushreq port hdr hash _bay s) := by
  unfold Machine.execPushreq
  dsimp only
  refine .next (.ite h.accept ?_)
  split
  · exact h.accept
  · exact h.accept.modFabric.originate

theorem sendImageBlocks (h : MemoryInv s) {port off : Nat} : MemoryInv (s.sendImageBlocks port off) :=
  (h.forUpTo fun hu => .ite hu.originate hu).modFabric

theorem execPushAcknowledge (h : MemoryInv s) {port offset : Nat} : KeepsMemory (execPushAcknowledge port offset s) :=
  .next (.ite h (.ite h.modFabric (.ite h.modFabric.sendImageBlocks h.modFabric)))

theorem execPushAckTimeout (h : MemoryInv s) : KeepsMemory (execPushAckTimeout s) := by
  unfold Machine.execPushAckTimeout
  dsimp only
  refine .next ?_
  split
  · exact .ite h (.ite h.modFabric (.ite h.modFabric.sendImageBlocks h.modFabric))
  · exact h

theorem execPushreqSend (h : MemoryInv s) : KeepsMemory (execPushreqSend s) := by
  unfold Machine.execPushreqSend
  dsimp only
  refine .next (.ite h ?_)
  split
  · exact h.modFabric
  · exact h.modFabric.forUpTo fun hu => .ite hu.originate hu

theorem declineOffer (h : MemoryInv s) {port : Nat} : MemoryInv (s.declineOffer port) := h.originate

theorem takeOffer (h : MemoryInv s) {port : Nat} : MemoryInv (s.takeOffer port) := by
  unfold State.takeOffer
  dsimp only
  split
  · exact h
  · refine .ite ((originate (.ite h.modFabric.claimWindow.modPush (.ite ?_ h.modFabric))).originate) h.modFabric.declineOffer
    split
    · exact h.modFabric.modSlot
    · exact h.modFabric.openSession.modUpd

theorem execPushOffer (h : MemoryInv s) {port hash : Nat} : KeepsMemory (execPushOffer port hash s) := by
  unfold Machine.execPushOffer
  dsimp only
  refine .next (.ite h (.ite h.declineOffer ?_))
  split
  · exact .ite h.takeOffer h.modFabric
  · exact .ite h.takeOffer.declineOffer h.declineOffer

theorem execOfferWaitExpiry (h : MemoryInv s) : KeepsMemory (execOfferWaitExpiry s) := by
  unfold Machine.execOfferWaitExpiry
  refine .next ?_
  split
  · exact .ite h.takeOffer h
  · exact h

theorem endOffer (h : MemoryInv s) : MemoryInv s.endOffer := h.modFabric

theorem ackBlock (h : MemoryInv s) {port len : Nat} : MemoryInv (s.ackBlock port len) := .ite h.modFabric.originate h

theorem windowBlock (h : MemoryInv s) {bay port off : Nat} {data : List Byte} : MemoryInv (s.windowBlock bay port off data) :=
  .ite ((h.modGranary fun hg => hg.fill).modFabric.modPush.ackBlock.endOffer)
    ((h.modGranary fun hg => hg.fill).modFabric.modPush.ackBlock)

theorem fallowBlock (h : MemoryInv s) {slot port off : Nat} {data : List Byte} : MemoryInv (s.fallowBlock slot port off data) :=
  .ite h.modSlot.modFabric.ackBlock (.ite h.modSlot.modFabric.endOffer.modSlot h.modSlot.modFabric.modSlot.ackBlock)

theorem execPush (h : MemoryInv s) {port : Nat} {hdr : FabHdr} {offset : Nat} {data : List (BitVec 8)} :
    KeepsMemory (execPush port hdr offset data s) := by
  unfold Machine.execPush
  refine .next ?_
  extract_lets a s1 before s2
  have h1 : MemoryInv s1 := h.accept
  have h2 : MemoryInv s2 := h1.modFabric
  split
  · exact h1
  · extract_lets s3
    have h3 : MemoryInv s3 := by
      refine .ite h2.windowBlock (.ite ?_ h2)
      split
      · exact h2.fallowBlock
      · exact h2
    exact .ite h1 (.ite h3 h3.modFabric)

theorem execFallowPushCommit (h : MemoryInv s) : KeepsMemory (execFallowPushCommit s) := by
  unfold Machine.execFallowPushCommit
  dsimp only
  refine .next ?_
  split
  · exact .ite (.ite h.endOffer.commitSlot.modUpd h.endOffer) h
  · exact h

theorem execFallowPushStall (h : MemoryInv s) : KeepsMemory (execFallowPushStall s) := .next (.ite h.endOffer h)

theorem execFallowResetExpiry (h : MemoryInv s) : KeepsMemory (execFallowResetExpiry s) := by
  unfold Machine.execFallowResetExpiry
  refine .next ?_
  split
  · exact .ite (h.modUpd.forUpTo fun hu => .ite hu.resetBay hu) h
  · exact h

/-! ### PowerUp -/

theorem execSuppliesValid (h : MemoryInv s) : KeepsMemory (execSuppliesValid s) := .next (.ite h h.modSys)

theorem execTrimPass (h : MemoryInv s) {agree : Bool} : KeepsMemory (execTrimPass agree s) :=
  .next (.ite h (.ite (.ite h.modSys.enterHold h.modSys) (.ite h.modSys h.modSys.seatCount)))

theorem execPllLock (h : MemoryInv s) : KeepsMemory (execPllLock s) := .next (.ite h h.modSys)

theorem execScarecrowLive (h : MemoryInv s) : KeepsMemory (execScarecrowLive s) :=
  .next (.ite h (((h.modCool.forUpTo fun hu => hu.startKick).forUpTo fun hu => hu.modValve).followDrives))

theorem takeCalibration (h : MemoryInv s) : MemoryInv s.takeCalibration :=
  ((((h.forUpTo fun hu => hu.takeSlotCal).forUpTo fun hu => hu.takeLinearCal).takeCoolCal).takeInrushCal).takeAccelCal

theorem dropCalibration (h : MemoryInv s) : MemoryInv s.dropCalibration := h.forUpTo fun hu => hu.modCalSlot

theorem execLoftSettingsLoaded (h : MemoryInv s) : KeepsMemory (execLoftSettingsLoaded s) :=
  .next (.ite h (foldl (.ite h.modDie.takeCalibration h.modDie.dropCalibration) fun hu => hu.modChan))

theorem execControllerReset (h : MemoryInv s) : KeepsMemory (execControllerReset s) := .next (.ite h.modSys resetController)

theorem execBayReset (h : MemoryInv s) {bay : Nat} : KeepsMemory (execBayReset bay s) := .next h.refuseRunning.resetBay

theorem execPhotonicRestart (h : MemoryInv s) : KeepsMemory (execPhotonicRestart s) := .next (.ite h.restartPhotonic h)

theorem freezeAge (h : MemoryInv s) {bay : Nat} : MemoryInv (s.freezeAge bay) := h.modBay

theorem execDormantEntry (h : MemoryInv s) : KeepsMemory (execDormantEntry s) :=
  .next (.ite (((h.modSys.forUpTo fun hu => hu.freezeAge).forUpTo fun hu => hu.modTwPort).followDrives) h)

theorem rearmTimers (h : MemoryInv s) : MemoryInv s.rearmTimers := h.modBarn

theorem execWake (h : MemoryInv s) : KeepsMemory (execWake s) := by
  unfold Machine.execWake
  extract_lets s1 s2 s3
  have h2 : MemoryInv s2 := h.modSys.forUpTo fun hu => hu.modTwPort
  have h3 : MemoryInv s3 := h2.rearmTimers.forUpTo fun hu => hu.modGranary fun hg => hg
  exact .next (.ite (h3.releaseDoorbells.raiseWaiting.forUpTo fun hu => hu.postNotes).followDrives h)

theorem execWakeWatchdog (h : MemoryInv s) {bay : Nat} : KeepsMemory (execWakeWatchdog bay s) := by
  unfold Machine.execWakeWatchdog
  refine .next ?_
  split
  · exact .ite h.modBay h
  · exact h

/-! ### Dispatch -/

theorem exec (h : MemoryInv s) {i : Instr} : KeepsMemory (exec i s) := by
  cases i
  case admNop | admRingCreate | admRingDelete | admRingReset | admRingQuery | admRingSubscribe | admHealth | admEntropy | govSetCap |
      govSetSlope | govSetPriority | govSetGain | govSetModel | govLoadWeights | govSetSafeDensity | govSetOversub | govSetLimits |
      govSetRunahead | govSetEscalation | govParkAck | govUnpark | govSetTelemetry | govSetOp | govSetDroop | govSetMargin |
      govTrimReset | govStatus | gridSetCurve | gridSetFreq | gridSetSource | gridSetPark | gridStatus | coolSetZone | coolSetSensor |
      coolSetDrive | coolSetValve | coolSetInput | coolStatus | pwrSetTrip | pwrResetTrip | pwrBranch | pwrSetRail | pwrRailCtrl |
      pwrSetWarn | pwrStatus | easelLoad | easelBind | easelUnbind | easelDelete | easelStatus | easelConfig | handLoad | handStart |
      handStop | handConfig | handStatus | bistRun | bistResult | repairApply | granStatus | granConfig | fabGlobal | fabStatus |
      fabConfig | updBegin | updBlock | updCommit | updConfirm | updLock | updAbort | updStatus | logRead | logStatus | twXfer |
      twConfig | calRead | calWrite | bayStatus | bayHandover | bayConfig | bayRestart => exact .next h.submit
  case add | sub | and | or | xor | shl | shr | sra | slt | sltu | mul | mulh | mulhu | min | max | addi | andi | ori | xori | shli |
      shri | srai | slti | lui | beq | bne | blt | bge | bltu | bgeu | jal | jalr | wait | evb | time | yieldHand | halt | self =>
    exact .next h.issue
  case gridSetTarget => exact h.execGridSetTarget
  case gridPark => exact h.execGridPark
  case gridUnpark => exact h.execGridUnpark
  case lw => exact h.execLw
  case lhu => exact h.execLhu
  case sw => exact h.execSw
  case sh => exact h.execSh
  case ld => exact h.execLd
  case sd => exact h.execSd
  case aadd => exact h.execAadd
  case aadd64 => exact h.execAadd64
  case aswp => exact h.execAswp
  case sig => exact h.execSig (_rd := 0)
  case twi => exact h.execTwi (_imm := 0)
  case lsend => exact h.execLsend
  case tset => exact h.execTset (_rd := 0)
  case ckpt => exact h.execCkpt (_rd := 0) (_rs1 := 0)
  case illegalInstruction => exact h.execIllegalInstruction
  case accessDone => exact h.execAccessDone
  case icacheLineFill => exact h.execIcacheLineFill
  case yieldExpiry => exact h.execYieldExpiry
  case handTimerExpiry => exact h.execHandTimerExpiry
  case ckptWdExpiry => exact h.execCkptWdExpiry
  case mirrorAck => exact h.execMirrorAck
  case mirrorAckTimeout => exact h.execMirrorAckTimeout
  case twiResult => exact h.execTwiResult
  case shadowResultTimeout => exact h.execShadowResultTimeout
  case mailboxMessage => exact h.execMailboxMessage
  case lsendReply => exact h.execLsendReply
  case lsendReplyTimeout => exact h.execLsendReplyTimeout
  case counterFrame => exact h.execCounterFrame
  case laneSignalDetected => exact h.execLaneSignalDetected
  case laneTrainTimeout => exact h.execLaneTrainTimeout
  case laneRetry => exact h.execLaneRetry
  case laneLost => exact h.execLaneLost
  case laneLossOfSignal => exact h.execLaneLossOfSignal
  case laneCountYield => exact h.execLaneCountYield
  case governorWindow => exact h.execGovernorWindow
  case pushRestartTimeout => exact h.execPushRestartTimeout
  case fusionPass => exact h.execFusionPass
  case escSatExpiry => exact h.execEscSatExpiry
  case shedWaitExpiry => exact h.execShedWaitExpiry
  case parkWaitExpiry => exact h.execParkWaitExpiry
  case unreachableRepeat => exact h.execUnreachableRepeat
  case opdnExpiry => exact h.execOpdnExpiry
  case opupExpiry => exact h.execOpupExpiry
  case opcTimeout => exact h.execOpcTimeout
  case droopResumeExpiry => exact h.execDroopResumeExpiry
  case ageingRead => exact h.execAgeingRead
  case bayAgeingRead => exact h.execBayAgeingRead
  case trimEvaluation => exact h.execTrimEvaluation
  case governorRecord => exact h.execGovernorRecord
  case gridRecord => exact h.execGridRecord
  case easelRecord => exact h.execEaselRecord
  case targetCommit => exact h.execTargetCommit
  case frequencyFrame => exact h.execFrequencyFrame
  case freqStaleExpiry => exact h.execFreqStaleExpiry
  case reportStaleExpiry => exact h.execReportStaleExpiry
  case shareTableBuild => exact h.execShareTableBuild
  case parkDelayExpiry => exact h.execParkDelayExpiry
  case parkFuseOpen => exact h.execParkFuseOpen
  case unparkDelayExpiry => exact h.execUnparkDelayExpiry
  case unparkRailsUp => exact h.execUnparkRailsUp
  case easelPhaseRun => exact h.execEaselPhaseRun
  case easelPhaseClose => exact h.execEaselPhaseClose
  case knownAnswerCheck => exact h.execKnownAnswerCheck
  case reseed => exact h.execReseed
  case switchWindow => exact h.execSwitchWindow
  case gapLoadDone => exact h.execGapLoadDone
  case heartbeat => exact h.execHeartbeat
  case wdTimeoutExpiry => exact h.execWdTimeoutExpiry
  case claimGuardExpiry => exact h.execClaimGuardExpiry
  case ownershipClaim => exact h.execOwnershipClaim
  case ownershipYield => exact h.execOwnershipYield
  case mirrorWrite => exact h.execMirrorWrite
  case shadowCompare => exact h.execShadowCompare
  case journalWrite => exact h.execJournalWrite
  case journalAck => exact h.execJournalAck
  case journalAckTimeout => exact h.execJournalAckTimeout
  case journalApply => exact h.execJournalApply
  case keeperStepReport => exact h.execKeeperStepReport
  case retainExpiry => exact h.execRetainExpiry
  case handoverWindow => exact h.execHandoverWindow
  case handoverWaitExpiry => exact h.execHandoverWaitExpiry
  case joinCopyDone => exact h.execJoinCopyDone
  case bayRecord => exact h.execBayRecord
  case doorbell => exact h.execDoorbell
  case doorbellForward => exact h.execDoorbellForward
  case commandFetch => exact h.execCommandFetch
  case completionPost => exact h.execCompletionPost
  case coalUsExpiry => exact h.execCoalUsExpiry
  case ringDmaError => exact h.execRingDmaError
  case eventPost => exact h.execEventPost
  case admCtrlWrite => exact h.execAdmCtrlWrite
  case winStatusWrite => exact h.execWinStatusWrite
  case registerWrite => exact h.execRegisterWrite
  case hostWindowAccess => exact h.execHostWindowAccess
  case debugStatusRead => exact h.execDebugStatusRead
  case functionLevelReset => exact h.execFunctionLevelReset
  case endpointLinkChange => exact h.execEndpointLinkChange
  case gleanerPass => exact h.execGleanerPass
  case gleanStarved => exact h.execGleanStarved
  case correctedWriteback => exact h.execCorrectedWriteback
  case peerRestoreDone => exact h.execPeerRestoreDone
  case modelReloadDone => exact h.execModelReloadDone
  case selfTestCopyDone => exact h.execSelfTestCopyDone
  case selfTestMarchDone => exact h.execSelfTestMarchDone
  case selfTestRestoreDone => exact h.execSelfTestRestoreDone
  case portLightLock => exact h.execPortLightLock
  case portTrainTimeout => exact h.execPortTrainTimeout
  case portLossOfLight => exact h.execPortLossOfLight
  case deadTimeoutExpiry => exact h.execDeadTimeoutExpiry
  case beaconSend => exact h.execBeaconSend
  case beacon => exact h.execBeacon
  case claim => exact h.execClaim
  case join => exact h.execJoin
  case admitFrame => exact h.execAdmitFrame
  case memberFrame => exact h.execMemberFrame
  case nak => exact h.execNak
  case timeFrame => exact h.execTimeFrame
  case timeExchangeSend => exact h.execTimeExchangeSend
  case msg => exact h.execMsg
  case gdown => exact h.execGdown
  case gup => exact h.execGup
  case report => exact h.execReport
  case reportSend => exact h.execReportSend
  case claimBackoffExpiry => exact h.execClaimBackoffExpiry
  case claimSettleExpiry => exact h.execClaimSettleExpiry
  case rootTimeoutExpiry => exact h.execRootTimeoutExpiry
  case staleMemberRemoval => exact h.execStaleMemberRemoval
  case opTimeoutExpiry => exact h.execOpTimeoutExpiry
  case snapshotLatch => exact h.execSnapshotLatch
  case hallReset => exact h.execHallReset
  case pushreq => exact h.execPushreq (_bay := 0)
  case pushreqSend => exact h.execPushreqSend
  case push => exact h.execPush
  case pushAckTimeout => exact h.execPushAckTimeout
  case fabricRecord => exact h.execFabricRecord
  case pgCountedUp => exact h.execPgCountedUp
  case pgCountedDown => exact h.execPgCountedDown
  case riseTimeoutExpiry => exact h.execRiseTimeoutExpiry
  case fallingExpiry => exact h.execFallingExpiry
  case enReadbackMismatch => exact h.execEnReadbackMismatch
  case shutdownFirstStep => exact h.execShutdownFirstStep
  case inputReturned => exact h.execInputReturned
  case railRecord => exact h.execRailRecord
  case almanacWrite => exact h.execAlmanacWrite
  case almanacDrop => exact h.execAlmanacDrop
  case holdupCollapse => exact h.execHoldupCollapse
  case keeperStart => exact h.execKeeperStart
  case senseSample => exact h.execSenseSample
  case energyWriteback => exact h.execEnergyWriteback
  case seatPinMade => exact h.execSeatPinMade
  case seated => exact h.execSeated
  case seatPinBroken => exact h.execSeatPinBroken
  case gateFullyOn => exact h.execGateFullyOn
  case inrushTimeoutExpiry => exact h.execInrushTimeoutExpiry
  case fastTrip => exact h.execFastTrip
  case tripRetry => exact h.execTripRetry
  case retryCountRestore => exact h.execRetryCountRestore
  case commandedOpenDelay => exact h.execCommandedOpenDelay
  case feedValid => exact h.execFeedValid
  case feedWarnAssert => exact h.execFeedWarnAssert
  case bothOffExpiry => exact h.execBothOffExpiry
  case feedWarnDeassert => exact h.execFeedWarnDeassert
  case returnToFeedA => exact h.execReturnToFeedA
  case gateFault => exact h.execGateFault
  case powerChannelRecord => exact h.execPowerChannelRecord
  case diodeConversion => exact h.execDiodeConversion
  case sensorCheck => exact h.execSensorCheck
  case zoneDemand => exact h.execZoneDemand
  case thermalStep => exact h.execThermalStep
  case thermalHoldRelease => exact h.execThermalHoldRelease
  case kick => exact h.execKick
  case kickResponse => exact h.execKickResponse
  case kickExpiry => exact h.execKickExpiry
  case tachSilence => exact h.execTachSilence
  case readIout => exact h.execReadIout
  case stallRetry => exact h.execStallRetry
  case pumpIndexPulse => exact h.execPumpIndexPulse
  case flowGate => exact h.execFlowGate
  case leak => exact h.execLeak
  case inputStuck => exact h.execInputStuck
  case inputChatter => exact h.execInputChatter
  case outputFight => exact h.execOutputFight
  case coolingRecord => exact h.execCoolingRecord
  case twiDescriptorStart => exact h.execTwiDescriptorStart
  case toutExpiry => exact h.execToutExpiry
  case busStuck => exact h.execBusStuck
  case busRecoveryRetry => exact h.execBusRecoveryRetry
  case targetTransfer => exact h.execTargetTransfer
  case targetAbandon => exact h.execTargetAbandon
  case targetLocalAccess => exact h.execTargetLocalAccess
  case hostNotify => exact h.execHostNotify
  case dormantAddressMatch => exact h.execDormantAddressMatch
  case matcherReturn => exact h.execMatcherReturn
  case readPin => exact h.execReadPin
  case suppliesValid => exact h.execSuppliesValid
  case trimPass => exact h.execTrimPass
  case pllLock => exact h.execPllLock
  case scarecrowLive => exact h.execScarecrowLive
  case loftSettingsLoaded => exact h.execLoftSettingsLoaded
  case pushWindowOpen => exact h.execPushWindowOpen
  case claimWrite => exact h.execClaimWrite
  case go => exact h.execGo
  case apertureCopyDone => exact h.execApertureCopyDone
  case release => exact h.execRelease
  case stage0Done => exact h.execStage0Done
  case stage1Done => exact h.execStage1Done
  case pushAbandonExpiry => exact h.execPushAbandonExpiry
  case streamerClaim => exact h.execStreamerClaim
  case fallowEntry => exact h.execFallowEntry
  case quoteRequestPoll => exact h.execQuoteRequestPoll
  case lifeCycleRequest => exact h.execLifeCycleRequest
  case debugAuthentication => exact h.execDebugAuthentication
  case entropyReady => exact h.execEntropyReady
  case drbgReseed => exact h.execDrbgReseed
  case entropyHealthFail => exact h.execEntropyHealthFail
  case fuseCounterBurn => exact h.execFuseCounterBurn
  case standbyLimitExpiry => exact h.execStandbyLimitExpiry
  case accelerometerRead => exact h.execAccelerometerRead
  case fallowPushCommit => exact h.execFallowPushCommit
  case fallowResetExpiry => exact h.execFallowResetExpiry
  case controllerReset => exact h.execControllerReset
  case bayReset => exact h.execBayReset
  case photonicRestart => exact h.execPhotonicRestart
  case perst => exact h.execPerst
  case dormantEntry => exact h.execDormantEntry
  case wake => exact h.execWake
  case wakeWatchdog => exact h.execWakeWatchdog
  case crystalLoss => exact h.execCrystalLoss
  case keeperHold => exact h.execKeeperHold
  case acceptCommandFrame => exact h.execAcceptCommandFrame
  case acceptBurstFrame => exact h.execAcceptBurstFrame
  case acceptPushBlock => exact h.execAcceptPushBlock
  case leaseLapse => exact h.execLeaseLapse
  case acceleratorWindow => exact h.execAcceleratorWindow
  case burstEnd => exact h.execBurstEnd
  case loftDieLost => exact h.execLoftDieLost
  case dieFailure => exact h.execDieFailure
  case breezewayLinkChange => exact h.execBreezewayLinkChange
  case ownerHbAge5ms => exact h.execOwnerHbAge5ms
  case acceleratorReset => exact h.execAcceleratorReset
  case acceleratorStepComplete => exact h.execAcceleratorStepComplete
  case acceleratorQuiesced => exact h.execAcceleratorQuiesced
  case firmwareVerifyDone => exact h.execFirmwareVerifyDone
  case bayRestartTimeout => exact h.execBayRestartTimeout
  case inputFilteredChange => exact h.execInputFilteredChange
  case stuckMaskClear => exact h.execStuckMaskClear
  case chatterEnd => exact h.execChatterEnd
  case tachEdgesReturn => exact h.execTachEdgesReturn
  case holdupExhausted => exact h.execHoldupExhausted
  case reduceSample => exact h.execReduceSample
  case pushOffer => exact h.execPushOffer
  case offerWaitExpiry => exact h.execOfferWaitExpiry
  case pushAcknowledge => exact h.execPushAcknowledge
  case fallowPushStall => exact h.execFallowPushStall
  case debugAccess => exact h.execDebugAccess
  case junctionSensorRead => exact h.execJunctionSensorRead
  case codeRewriteDone => exact h.execCodeRewriteDone
  case targetDeadlineExpiry => exact h.execTargetDeadlineExpiry

theorem step (h : MemoryInv s) : KeepsMemory (step s) := by
  unfold Machine.step
  split
  next c rest _ =>
    have hrest : MemoryInv { s with pending := rest } := h
    exact hrest.exec
  next => exact .next h.idle

end Sys2Proof.MemoryInv

namespace Sys2Proof.Machine
open Sys2Proof

/-- Settles O60: every operation of the model passes the memory invariant on, so `exec` does for each command, and with it `step`. -/
theorem stepKeepsMemoryCanonical : Obligations.StepKeepsMemoryCanonical := fun _ t h hstep => h.step t hstep

end Sys2Proof.Machine

/-!
SUPPORT. A hand's loads, stores and atomics (R175, R183, R201, R202, R207 to R209): what each of the three shared accesses does for each way
its address and its word can be, and from it O25.
-/
namespace Sys2Proof.Machine
open Sys2Proof

theorem length_leBytes (n v : Nat) : (leBytes n v).length = n := by simp [leBytes]

/-- A store leaves every byte outside the stored ones alone, also when poison keeps it out. -/
theorem memGet_store_ne (g : Granary) {a c : Nat} {bs : List Byte} (hc : c < a ∨ a + bs.length ≤ c) :
    memGet (g.store a bs).mem c = memGet g.mem c := by
  unfold Granary.store
  extract_lets w
  split
  · rfl
  · exact memGet_memWrite_ne bs g.mem hc

section
variable {s : State} {bay hand n a : Nat} (hissue : s.issues bay hand = true)
include hissue

theorem ready_of_issues : (s.hand bay hand).state = .ready := by
  simp only [State.issues, Bool.and_eq_true, decide_eq_true_eq] at hissue
  exact hissue.1.1.1

theorem poisonedAccess_of_no_copy (hcopy : wordOf a ∉ (s.granary bay).waitRestore) : s.poisonedAccess bay hand a = s.handFault bay hand 3 := by
  rw [State.poisonedAccess, if_neg hcopy, if_pos (ready_of_issues hissue)]

/-! ### Loads -/

theorem loadInto_clean {rd : Nat} (hok : (s.hand bay hand).accessOk hand a n = true) (hp : (s.granary bay).poisoned a = false) :
    s.loadInto bay hand n rd a .clean = s.modHand bay hand fun h =>
      { (if n = 8 then h.setPair rd ((s.granary bay).load a n) else h.setReg rd (BitVec.ofNat 32 ((s.granary bay).load a n))) with
        pc := h.pc + 4, state := .wait, wait := some .access } := by
  simp [State.loadInto, State.checkWord, hissue, hok, hp]

theorem loadInto_refused {rd : Nat} {ecc : Ecc} (hok : (s.hand bay hand).accessOk hand a n = false) :
    s.loadInto bay hand n rd a ecc = s.handFault bay hand 2 := by
  simp [State.loadInto, hissue, hok]

theorem loadInto_poisoned {rd : Nat} (hok : (s.hand bay hand).accessOk hand a n = true) (hp : (s.granary bay).poisoned a = true)
    (hcopy : wordOf a ∉ (s.granary bay).waitRestore) : s.loadInto bay hand n rd a .clean = s.handFault bay hand 3 := by
  simp [State.loadInto, State.checkWord, hissue, hok, hp, poisonedAccess_of_no_copy hissue hcopy]

/-! ### Stores -/

theorem storeFrom_clean {rs2 : Nat} (hok : (s.hand bay hand).storeOk hand a n = true)
    (hp : n = 8 ∨ (s.granary bay).poisoned a = false) :
    s.storeFrom bay hand n rs2 a .clean =
      (s.modGranary bay fun g => g.store a (leBytes n (if n = 8 then (s.hand bay hand).pair rs2 else ((s.hand bay hand).reg rs2).toNat))).modHand
        bay hand fun h => { h with pc := h.pc + 4, state := .wait, wait := some .access } := by
  have hpart : (decide (n < 8) && (s.granary bay).poisoned a) = false := by
    rcases hp with rfl | hp
    · rfl
    · simp [hp]
  simp [State.storeFrom, State.checkWord, hissue, hok, hpart]

theorem storeFrom_refused {rs2 : Nat} {ecc : Ecc} (hok : (s.hand bay hand).storeOk hand a n = false) :
    s.storeFrom bay hand n rs2 a ecc = s.handFault bay hand 2 := by
  simp [State.storeFrom, hissue, hok]

theorem storeFrom_poisoned {rs2 : Nat} (hok : (s.hand bay hand).storeOk hand a n = true) (hn : n < 8)
    (hp : (s.granary bay).poisoned a = true) (hcopy : wordOf a ∉ (s.granary bay).waitRestore) :
    s.storeFrom bay hand n rs2 a .clean = s.handFault bay hand 3 := by
  simp [State.storeFrom, State.checkWord, hissue, hok, hn, hp, poisonedAccess_of_no_copy hissue hcopy]

/-! ### Atomics -/

theorem atomic_clean {rd rs2 : Nat} {f : Nat → Nat → Nat} (hok : (s.hand bay hand).atomicOk hand a n = true)
    (hp : (s.granary bay).poisoned a = false) :
    s.atomic bay hand n rd rs2 a f .clean =
      (s.modGranary bay fun g => g.store a (leBytes n (f ((s.granary bay).load a n)
        (if n = 8 then (s.hand bay hand).pair rs2 else ((s.hand bay hand).reg rs2).toNat)))).modHand bay hand fun h =>
        { (if n = 8 then h.setPair rd ((s.granary bay).load a n) else h.setReg rd (BitVec.ofNat 32 ((s.granary bay).load a n))) with
          pc := h.pc + 4, state := .wait, wait := some .access } := by
  simp [State.atomic, State.checkWord, hissue, hok, hp]

theorem atomic_refused {rd rs2 : Nat} {f : Nat → Nat → Nat} {ecc : Ecc} (hok : (s.hand bay hand).atomicOk hand a n = false) :
    s.atomic bay hand n rd rs2 a f ecc = s.handFault bay hand 2 := by
  simp [State.atomic, hissue, hok]

end

/-- An access that stores n bytes leaves the bay's other bytes alone, whatever becomes of the hand. -/
theorem memGet_stored_ne (s : State) {bay hand a n v c : Nat} {f : Hand → Hand} (hc : c < a ∨ a + n ≤ c) :
    memGet (((s.modGranary bay fun g => g.store a (leBytes n v)).modHand bay hand f).granary bay).mem c = memGet (s.granary bay).mem c := by
  rw [show ((s.modGranary bay fun g => g.store a (leBytes n v)).modHand bay hand f).granary bay = (s.granary bay).store a (leBytes n v) from
    modGranary_same s bay fun g => g.store a (leBytes n v)]
  exact memGet_store_ne _ (by rwa [length_leBytes])

/-- A load's row does its shared access. -/
theorem exec_load {bay hand rd rs1 n : Nat} {imm : BitVec 18} {i : Ecc → Instr}
    (hrow : (n = 4 ∧ i = .lw bay hand rd rs1 imm) ∨ (n = 2 ∧ i = .lhu bay hand rd rs1 imm) ∨ (n = 8 ∧ i = .ld bay hand rd rs1 imm))
    (ecc : Ecc) (s : State) : exec (i ecc) s = .next (s.loadInto bay hand n rd (s.addressOf bay hand rs1 imm) ecc) := by
  obtain ⟨rfl, rfl⟩ | ⟨rfl, rfl⟩ | ⟨rfl, rfl⟩ := hrow <;> rfl

/-- A store's row does its shared access. -/
theorem exec_store {bay hand rs2 rs1 n : Nat} {imm : BitVec 18} {i : Ecc → Instr}
    (hrow : (n = 4 ∧ i = .sw bay hand rs2 rs1 imm) ∨ (n = 2 ∧ i = .sh bay hand rs2 rs1 imm) ∨ (n = 8 ∧ i = .sd bay hand rs2 rs1 imm))
    (ecc : Ecc) (s : State) : exec (i ecc) s = .next (s.storeFrom bay hand n rs2 (s.addressOf bay hand rs1 imm) ecc) := by
  obtain ⟨rfl, rfl⟩ | ⟨rfl, rfl⟩ | ⟨rfl, rfl⟩ := hrow <;> rfl

/-- An atomic's row does its shared access. -/
theorem exec_atomic {bay hand rd rs1 rs2 n : Nat} {imm : BitVec 14} {i : Ecc → Instr} {f : Nat → Nat → Nat}
    (hrow : (n = 4 ∧ i = .aadd bay hand rd rs1 rs2 imm ∧ f = fun old v => old + v) ∨
      (n = 8 ∧ i = .aadd64 bay hand rd rs1 rs2 imm ∧ f = fun old v => old + v) ∨
      (n = 4 ∧ i = .aswp bay hand rd rs1 rs2 imm ∧ f = fun _ v => v))
    (ecc : Ecc) (s : State) : exec (i ecc) s = .next (s.atomic bay hand n rd rs2 (s.addressOf bay hand rs1 imm) f ecc) := by
  obtain ⟨rfl, rfl, rfl⟩ | ⟨rfl, rfl, rfl⟩ | ⟨rfl, rfl, rfl⟩ := hrow <;> rfl

/-- Settles O25: each row is its shared access, and that access is read off by its address and its word. -/
theorem barnLoadsAndStores : Obligations.BarnLoadsAndStores := by
  unfold Obligations.BarnLoadsAndStores
  refine ⟨?loads, ?stores, ?atomics, ?done⟩
  case loads =>
    intro bay hand rd rs1 n imm s i hissue hrow a
    refine ⟨fun hok hp => ?_, fun hok ecc => ?_, fun hok hp hcopy => ?_⟩
    · rw [exec_load hrow, loadInto_clean hissue hok hp]
      by_cases hn : n = 8
      · subst hn; rfl
      · simp only [if_neg hn]
    · rw [exec_load hrow, loadInto_refused hissue hok]
    · rw [exec_load hrow, loadInto_poisoned hissue hok hp hcopy]
  case stores =>
    intro bay hand rs2 rs1 n imm s i hissue hrow a h
    refine ⟨fun hok hp => ⟨_, exec_store hrow .clean s, storeFrom_clean hissue hok hp, fun c hc => ?_⟩, fun hok ecc => ?_,
      fun hok hn hp hcopy => ?_⟩
    · rw [storeFrom_clean hissue hok hp]
      exact memGet_stored_ne s hc
    · rw [exec_store hrow, storeFrom_refused hissue hok]
    · have hpart : n < 8 := by omega
      rw [exec_store hrow, storeFrom_poisoned hissue hok hpart hp hcopy]
  case atomics =>
    intro bay hand rd rs1 rs2 n imm s i f hissue hrow a h old
    refine ⟨fun hok hp => ⟨_, exec_atomic hrow .clean s, atomic_clean hissue hok hp, fun c hc => ?_⟩, fun hok ecc => ?_⟩
    · rw [atomic_clean hissue hok hp]
      exact memGet_stored_ne s hc
    · rw [exec_atomic hrow, atomic_refused hissue hok]
  case done =>
    intro bay hand s hstate hwait
    exact congrArg Host.Outcome.next (if_pos (by simp [hstate, hwait]))

end Sys2Proof.Machine

/-!
SUPPORT. The Barn's control rows (R179 to R190): WAIT's wake, TSET's ranges, the checkpoint and its mirror, and a fault below and at the
hand's limit; and from them O26.
-/
namespace Sys2Proof.Machine
open Sys2Proof

/-- Changes that give the same hand from the hand as it is are one change. -/
theorem modHand_congr {s : State} {bay hand : Nat} {f g : Hand → Hand} (hfg : f (s.hand bay hand) = g (s.hand bay hand)) :
    s.modHand bay hand f = s.modHand bay hand g := by
  unfold State.modHand
  rw [hfg]

/-! ### WAIT -/

/-- A hand that has just come to wait for the slots of a mask, one of them pending. -/
theorem wakeOnEvent_of_pending (h : Hand) {mask : BitVec 8} (rd : Nat) (hp : h.pendingMask mask ≠ 0) :
    Hand.wakeOnEvent { h with pc := h.pc + 4, state := .wait, wait := some (.events mask rd) } =
      { (Hand.clearMask { h with pc := h.pc + 4, state := .wait, wait := some (.events mask rd) } (h.pendingMask mask)).setReg rd
          ((h.pendingMask mask).setWidth 32) with state := .ready, wait := none } :=
  if_neg hp

/-- A hand that has just come to wait for the slots of a mask, none of them pending. -/
theorem wakeOnEvent_of_none_pending (h : Hand) {mask : BitVec 8} (rd : Nat) (hp : h.pendingMask mask = 0) :
    Hand.wakeOnEvent { h with pc := h.pc + 4, state := .wait, wait := some (.events mask rd) } =
      { h with pc := h.pc + 4, state := .wait, wait := some (.events mask rd) } :=
  if_pos hp

/-! ### Faults -/

theorem handFault_below_limit {s : State} {bay hand : Nat} (hlimit : ((s.hand bay hand).recentRestarts s.devNow).length < (s.hand bay hand).restartMax)
    (cause : Nat) : s.handFault bay hand cause = s.modHand bay hand fun h =>
      { h.restart (s.granary bay) cause s.devNow with restarts := h.recentRestarts s.devNow ++ [s.devNow] } := by
  unfold State.handFault
  extract_lets h recent
  rw [if_neg (Nat.not_le.mpr hlimit)]
  exact modHand_congr rfl

/-- At its limit the hand is FAULTED; the event and the record that follow leave it so. -/
theorem handFault_at_limit {s : State} {bay hand : Nat} (hlimit : (s.hand bay hand).restartMax ≤ ((s.hand bay hand).recentRestarts s.devNow).length)
    (cause : Nat) : (s.handFault bay hand cause).hand bay hand = { s.hand bay hand with
      state := .faulted, wait := none, timerMode := 2, cause := cause, restarts := (s.hand bay hand).recentRestarts s.devNow } := by
  unfold State.handFault
  extract_lets h recent
  rw [if_pos hlimit]
  have hreport (u : State) (payload : List (Nat × Nat)) :
      ((u.raise 0x0601 payload).almanac (baySource bay) 0x0601 payload).barn = u.barn :=
    (((raise_only u 0x0601 payload).mono (by simp)).trans ((almanac_only _ (baySource bay) 0x0601 payload).mono (by simp)) :
      OnlyParts [.host, .out, .alm] u _) .barn (by simp)
  exact (congrArg (fun b : BarnSt => tget b.hands (bay * 4096 + hand) {}) (hreport _ _)).trans (modHand_same s bay hand _)

/-! ### The rows -/

section
variable {s : State} {bay hand rd rs1 : Nat} {imm : BitVec 18} (hissue : s.issues bay hand = true)
include hissue

theorem exec_wait_pending (hp : (s.hand bay hand).pendingMask (imm.setWidth 8) ≠ 0) :
    exec (.wait bay hand rd rs1 imm) s = .next (s.modHand bay hand fun h =>
      let p := h.pendingMask (imm.setWidth 8)
      { (Hand.clearMask { h with pc := h.pc + 4, state := .wait, wait := some (.events (imm.setWidth 8) rd) } p).setReg rd (p.setWidth 32) with
        state := .ready, wait := none }) :=
  (exec_of_issue hissue rfl).trans (congrArg Host.Outcome.next (modHand_congr (wakeOnEvent_of_pending _ rd hp)))

theorem exec_wait_none (hp : (s.hand bay hand).pendingMask (imm.setWidth 8) = 0) :
    exec (.wait bay hand rd rs1 imm) s = .next (s.modHand bay hand fun h =>
      { h with pc := h.pc + 4, state := .wait, wait := some (.events (imm.setWidth 8) rd) }) :=
  (exec_of_issue hissue rfl).trans (congrArg Host.Outcome.next (modHand_congr (wakeOnEvent_of_none_pending _ rd hp)))

theorem exec_sig : exec (.sig bay hand rd rs1 imm) s =
    .next ((s.modHand bay hand fun h => { h with pc := h.pc + 4 }).modHand bay (((s.hand bay hand).reg rs1).toNat % 4096)
      fun h => h.post (imm.toNat % 8)) :=
  congrArg Host.Outcome.next (if_pos hissue)

/-- TSET, once it issues: a value out of range is a fault, and the rest sets the timer. -/
theorem exec_tset : exec (.tset bay hand rd rs1 imm) s =
    .next (let v := ((s.hand bay hand).reg rs1).toNat
      let mode := imm.toNat % 4
      if mode = 3 || (mode = 0 && v = 0) || (mode = 1 && v < 1000) then s.handFault bay hand 1
      else s.modHand bay hand fun h =>
        if mode = 2 then { h with timerMode := 2, pc := h.pc + 4 }
        else { h with timerMode := mode, timerVal := v, timerDeadline := s.devNow + v, pc := h.pc + 4 }) :=
  congrArg Host.Outcome.next (if_pos hissue)

theorem exec_tset_cancel (hmode : imm.toNat % 4 = 2) :
    exec (.tset bay hand rd rs1 imm) s = .next (s.modHand bay hand fun h => { h with timerMode := 2, pc := h.pc + 4 }) := by
  rw [exec_tset hissue]
  simp [hmode]

theorem exec_tset_arm (hrange : (imm.toNat % 4 = 0 ∧ 0 < ((s.hand bay hand).reg rs1).toNat) ∨
      (imm.toNat % 4 = 1 ∧ 1000 ≤ ((s.hand bay hand).reg rs1).toNat)) :
    exec (.tset bay hand rd rs1 imm) s = .next (s.modHand bay hand fun h => { h with
      timerMode := imm.toNat % 4, timerVal := ((s.hand bay hand).reg rs1).toNat,
      timerDeadline := s.devNow + ((s.hand bay hand).reg rs1).toNat, pc := h.pc + 4 }) := by
  rw [exec_tset hissue]
  obtain ⟨hmode, hv⟩ | ⟨hmode, hv⟩ := hrange
  · simp [hmode, Nat.pos_iff_ne_zero.mp hv]
  · simp [hmode, Nat.not_lt.mpr hv]

theorem exec_tset_refused (hrange : imm.toNat % 4 = 3 ∨ (imm.toNat % 4 = 0 ∧ ((s.hand bay hand).reg rs1).toNat = 0) ∨
      (imm.toNat % 4 = 1 ∧ ((s.hand bay hand).reg rs1).toNat < 1000)) :
    exec (.tset bay hand rd rs1 imm) s = .next (s.handFault bay hand 1) := by
  rw [exec_tset hissue]
  refine congrArg Host.Outcome.next (if_pos ?_)
  simpa [or_assoc] using hrange

theorem exec_illegalInstruction {w : BitVec 32} (hw : decodeBarn bay hand w = none) :
    exec (.illegalInstruction bay hand w) s = .next (s.handFault bay hand 1) :=
  congrArg Host.Outcome.next (if_pos (by rw [hissue, hw]; rfl))

theorem exec_ckpt : exec (.ckpt bay hand rd rs1 imm) s = .next (s.checkpoint bay hand (imm.toNat % 2 = 1)) :=
  congrArg Host.Outcome.next (if_pos hissue)

end

/-- Settles O26: the rows that act on their hand alone by their own step, the others by the lemma of theirs above. -/
theorem barnControl : Obligations.BarnControl := by
  unfold Obligations.BarnControl
  intro bay hand rd rs1 imm s hissue h
  refine ⟨exec_wait_pending hissue, exec_wait_none hissue, exec_of_issue hissue rfl, exec_sig hissue, exec_tset_cancel hissue,
    exec_tset_arm hissue, exec_tset_refused hissue, exec_of_issue hissue rfl, exec_of_issue hissue rfl, exec_of_issue hissue rfl,
    exec_of_issue hissue rfl, ?ckpt, fun _ hw => exec_illegalInstruction hissue hw, fun cause hlimit => handFault_below_limit hlimit cause,
    fun cause hlimit => handFault_at_limit hlimit cause⟩
  case ckpt =>
    intro g n cseq h' t
    refine ⟨fun hlocal => (exec_ckpt hissue).trans (congrArg Host.Outcome.next (if_neg ?_)),
      fun hmirror htakes howner => (exec_ckpt hissue).trans (congrArg Host.Outcome.next (if_pos ?_))⟩
    · change ¬ (decide (imm.toNat % 2 = 1) && s.takesMirror bay && s.isOwner bay) = true
      rcases hlocal with heven | htakes
      · simp [heven]
      · simp [htakes]
    · change (decide (imm.toNat % 2 = 1) && s.takesMirror bay && s.isOwner bay) = true
      simp [hmirror, htakes, howner]

end Sys2Proof.Machine

/-!
SUPPORT. What ends a hand's wait, its timers, its mailbox and its sends (R180 to R187, R190, R192): each event on a hand that waits for it, LSEND
by what its eight words allow; and from them O27.
-/
namespace Sys2Proof.Machine
open Sys2Proof

theorem mem_icacheFill (lines : List Nat) (line : Nat) : line ∈ icacheFill lines line := by simp [icacheFill]

section
variable {s : State} {bay hand : Nat} (hstate : (s.hand bay hand).state = .wait)
include hstate

/-! ### What ends a wait -/

theorem exec_icacheLineFill_waiting {line : Nat} (hwait : (s.hand bay hand).wait = some (.icache line)) :
    exec (.icacheLineFill bay hand line) s =
      .next ((s.modBarn fun b => { b with
          icache := tset b.icache (bay * 32 + hand / 128) (icacheFill (tget b.icache (bay * 32 + hand / 128) []) line) }).modHand bay hand
        fun h => { h with state := .ready, wait := none }) := by
  refine congrArg Host.Outcome.next (if_pos ?_)
  change (decide ((s.hand bay hand).state = .wait) && decide ((s.hand bay hand).wait = some (.icache line))) = true
  simp [hstate, hwait]

theorem exec_yieldExpiry_due {t : Nat} (hwait : (s.hand bay hand).wait = some (.yielded t)) (hdue : t ≤ s.now) :
    exec (.yieldExpiry bay hand) s = .next (s.modHand bay hand fun h => { h with state := .ready, wait := none }) := by
  change execYieldExpiry bay hand s = _
  simp [execYieldExpiry, hwait, hstate, hdue]

theorem exec_mirrorAck_waiting {t : Nat} (hwait : (s.hand bay hand).wait = some (.mirror t)) :
    exec (.mirrorAck bay hand) s = .next (s.modHand bay hand fun h => { h with state := .ready, wait := none }) := by
  change execMirrorAck bay hand s = _
  simp [execMirrorAck, hwait, hstate]

theorem exec_mirrorAckTimeout_due {t : Nat} (hwait : (s.hand bay hand).wait = some (.mirror t)) (hdue : t + 2000 ≤ s.now) :
    exec (.mirrorAckTimeout bay hand) s = .next ((s.modHand bay hand fun h =>
      { h with state := .ready, wait := none, missedMirror := satAdd 16 h.missedMirror 1 }).outOfStep (peer bay)) := by
  change execMirrorAckTimeout bay hand s = _
  simp [execMirrorAckTimeout, hwait, hstate, passed_of hdue]

/-! ### Replies -/

section
variable {rd buf t : Nat} (hwait : (s.hand bay hand).wait = some (.reply rd buf t)) (hawake : s.sys.dormant = false)
include hwait

theorem endSend_waiting (status : Nat) (reply : List Byte) : s.endSend bay hand status reply =
    (if reply.isEmpty then s else s.modGranary bay fun g => g.fill buf reply).modHand bay hand fun h =>
      { h.setReg rd (BitVec.ofNat 32 (status * 2 ^ 24)) with state := .ready, wait := none } := by
  simp only [State.endSend, hstate, hwait]

include hawake

theorem exec_lsendReply_waiting {msg : List Byte} (hmsg : msg ≠ []) : exec (.lsendReply bay hand msg) s =
    .next ((s.modGranary bay fun g => g.fill buf msg).modHand bay hand fun h => { h.setReg rd 0 with state := .ready, wait := none }) := by
  change execLsendReply bay hand msg s = _
  have hfull : msg.isEmpty = false := by simpa using hmsg
  simp only [execLsendReply, hawake, endSend_waiting hstate hwait, hfull]
  rfl

theorem exec_lsendReplyTimeout_due (hdue : t + 1000000 ≤ s.now) : exec (.lsendReplyTimeout bay hand) s =
    .next (s.modHand bay hand fun h => { h.setReg rd 0x03000000 with state := .ready, wait := none }) := by
  change execLsendReplyTimeout bay hand s = _
  simp only [execLsendReplyTimeout, hwait, hawake, passed_of hdue, endSend_waiting hstate hwait]
  rfl

end
end

/-! ### Timers -/

section
variable {s : State} {bay hand : Nat} (hruns : (s.hand bay hand).state = .ready ∨ (s.hand bay hand).state = .wait)
include hruns

theorem exec_handTimerExpiry_due (hawake : s.sys.dormant = false) (hdue : (s.hand bay hand).timerDeadline ≤ s.devNow)
    (harmed : (s.hand bay hand).timerMode < 2) : exec (.handTimerExpiry bay hand) s = .next (s.modHand bay hand fun h =>
      (if (s.hand bay hand).timerMode = 0 then { h with timerMode := 2 }
        else { h with timerDeadline := nextOnGrid h.timerDeadline h.timerVal s.devNow }).post 7) := by
  refine congrArg Host.Outcome.next ((if_pos ?_).trans (modHand_congr rfl))
  simp [harmed, hdue, hawake, hruns]

theorem exec_ckptWdExpiry_due (hwd : 0 < (s.hand bay hand).ckptWd)
    (hdue : (s.hand bay hand).lastCkpt + (s.hand bay hand).ckptWd * 1000 ≤ s.devNow) :
    exec (.ckptWdExpiry bay hand) s = .next (s.handFault bay hand 5) := by
  refine congrArg Host.Outcome.next (if_pos ?_)
  simp [hwd, hdue, hruns]

end

/-! ### Mail -/

theorem exec_mailboxMessage_free {s : State} {bay hand i : Nat} (msg : List Byte) (hup : (s.bay bay).bstate ≠ .down)
    (hawake : s.sys.dormant = false) (hbox : (s.hand bay hand).hasMailbox = true) (hfree : s.freeMailSlot bay hand = some i) :
    exec (.mailboxMessage bay hand msg) s =
      .next ((s.modGranary bay fun g => g.fill ((s.hand bay hand).mailSlot i) msg).modHand bay hand fun h => h.deliver 4) := by
  change execMailboxMessage bay hand msg s = _
  simp [execMailboxMessage, State.deliverMail, hup, hawake, hbox, hfree]

/-! ### LSEND -/

/-- The eight words of a message lie in regions that the send may use: that the reply may overwrite, where it waits for one. -/
def State.messageOk (s : State) (bay hand rs1 : Nat) (wait : Bool) : Bool :=
  ((List.range 8).map fun i => ((s.hand bay hand).reg rs1).toNat + 8 * i).all fun w =>
    if wait then (s.hand bay hand).storeOk hand w 8 else (s.hand bay hand).accessOk hand w 8

section
variable {s : State} {bay hand rd rs1 rs2 : Nat} {fn : BitVec 6} (hissue : s.issues bay hand = true)
include hissue

theorem exec_lsend_refused (hok : s.messageOk bay hand rs1 (fn.getLsbD 0) = false) :
    exec (.lsend bay hand rd rs1 rs2 fn) s = .next (s.handFault bay hand 2) := by
  change execLsend bay hand rd rs1 rs2 fn s = _
  unfold State.messageOk at hok
  simp only [execLsend, hissue, hok]
  rfl

theorem exec_lsend_sent (hok : s.messageOk bay hand rs1 (fn.getLsbD 0) = true)
    (hp : ∀ w ∈ (List.range 8).map fun i => ((s.hand bay hand).reg rs1).toNat + 8 * i, (s.granary bay).poisoned w = false) :
    let r := s.send bay hand (memRead (s.granary bay).mem ((s.hand bay hand).reg rs1).toNat 64) ((s.hand bay hand).reg rs2).toNat (fn.getLsbD 0)
    exec (.lsend bay hand rd rs1 rs2 fn) s = .next (r.1.modHand bay hand fun h =>
      if r.2 = 0 ∧ fn.getLsbD 0 = true then
        { h with pc := h.pc + 4, state := .wait, wait := some (.reply rd ((s.hand bay hand).reg rs1).toNat s.now) }
      else h.result rd (BitVec.ofNat 32 (r.2 * 2 ^ 24))) := by
  intro r
  change execLsend bay hand rd rs1 rs2 fn s = _
  have hfind : (((List.range 8).map fun i => ((s.hand bay hand).reg rs1).toNat + 8 * i).find? fun w => (s.granary bay).poisoned w) = none :=
    List.find?_eq_none.mpr fun w hw => by simp [hp w hw]
  unfold State.messageOk at hok
  simp only [execLsend, hissue, hok, hfind]
  simp [r]

end

/-- Settles O27: each event by the hand that waits for it, LSEND by its words and the status of its send. -/
theorem barnEventsAndMail : Obligations.BarnEventsAndMail := by
  unfold Obligations.BarnEventsAndMail
  refine ⟨?fill, ?ends, ?timers, ?mail, ?lsend⟩
  case fill =>
    intro bay hand line s t
    refine ⟨?_, fun hstate hwait => exec_icacheLineFill_waiting hstate hwait, fun hstate => ?_⟩
    · rw [show tget t.barn.icache (bay * 32 + hand / 128) [] = icacheFill (tget s.barn.icache (bay * 32 + hand / 128) []) line from
        tget_tset_same _ _ _ _]
      exact mem_icacheFill _ _
    · refine congrArg Host.Outcome.next (if_neg ?_)
      change ¬ (decide ((s.hand bay hand).state = .wait) && _) = true
      simp [hstate]
  case ends =>
    intro bay hand s hstate
    refine ⟨fun t hwait hdue => exec_yieldExpiry_due hstate hwait hdue, fun t hwait => ⟨exec_mirrorAck_waiting hstate hwait, fun hdue =>
      exec_mirrorAckTimeout_due hstate hwait hdue⟩, fun rd buf t hwait hawake => ⟨fun msg hmsg => ?_, fun hdue => ?_⟩⟩
    · exact exec_lsendReply_waiting hstate hwait hawake hmsg
    · exact exec_lsendReplyTimeout_due hstate hwait hawake hdue
  case timers =>
    intro bay hand s hruns
    refine ⟨fun hawake hdue => ⟨fun hmode => ?_, fun hmode => ?_⟩, fun hwd hdue => exec_ckptWdExpiry_due hruns hwd hdue⟩
    · rw [exec_handTimerExpiry_due hruns hawake hdue (by omega)]
      simp only [if_pos hmode]
    · rw [exec_handTimerExpiry_due hruns hawake hdue (by omega)]
      simp only [hmode, Nat.one_ne_zero, if_false]
  case mail =>
    intro bay hand i msg s hup hawake hbox hfree
    exact exec_mailboxMessage_free msg hup hawake hbox hfree
  case lsend =>
    intro bay hand rd rs1 rs2 fn s hissue h words ok
    refine ⟨fun hok => exec_lsend_refused hissue hok, fun hok hp => ?_⟩
    intro r
    refine ⟨fun hwait => ?_, fun hwait => ?_⟩
    · exact (exec_lsend_sent hissue hok hp).trans (congrArg Host.Outcome.next (modHand_congr (if_pos hwait)))
    · exact (exec_lsend_sent hissue hok hp).trans (congrArg Host.Outcome.next (modHand_congr (if_neg hwait)))

end Sys2Proof.Machine

/-!
SUPPORT. The mirror, the journal, the handover and the join (R230 to R244): each command when its guards hold, what a journalled change leaves
in the journal, and the joining bay's copy; and from them O29.
-/
namespace Sys2Proof.Machine
open Sys2Proof

/-! ### The mirror and the shadow -/

section
variable {bay addr : Nat} {epoch : Word32} {data : List Byte} {s : State} (hup : s.own.journal.breezeUp = true)
  (halive : (s.bay bay).alive = true) (hstate : (s.bay bay).bstate ≠ .down)
include hup halive hstate

theorem exec_mirrorWrite_current (hepoch : s.own.latch.epoch.toNat ≤ epoch.toNat) (hmapped : mapped addr data.length = true) (hdata : data ≠ []) :
    exec (.mirrorWrite bay epoch addr data) s = .next (s.modGranary bay fun g => g.fill addr data) := by
  change execMirrorWrite bay epoch addr data s = _
  simp [execMirrorWrite, hup, halive, hstate, Nat.not_lt.mpr hepoch, hmapped, hdata]

theorem exec_mirrorWrite_stale (hepoch : epoch.toNat < s.own.latch.epoch.toNat) :
    exec (.mirrorWrite bay epoch addr data) s = .next ((s.emit (.mirrorRefused (peer bay))).readLatch (peer bay)) := by
  change execMirrorWrite bay epoch addr data s = _
  simp [execMirrorWrite, hup, halive, hstate, hepoch]

end

/-- The standby's bay with a slot's count of differing windows. -/
def State.withMiss (s : State) (b slot n : Nat) : State := s.modBay b fun x => { x with shadowMiss := tset x.shadowMiss slot n }

/-- A window that both bays framed is compared, and the count it leaves is held against the limit. -/
theorem exec_shadowCompare {slot o b : Nat} {crc : Word32} {s : State} (howner : s.serving = some o) (hstandby : s.standby = some b)
    (hup : s.own.journal.breezeUp = true) (hmine : (s.govSlot b slot).frameOk = true) (hits : (s.govSlot o slot).frameOk = true)
    (hk : (s.govSlot b slot).k = (s.govSlot o slot).k) :
    let n := if (s.govSlot b slot).frameCrc = crc then 0 else tget (s.bay b).shadowMiss slot 0 + 1
    exec (.shadowCompare slot crc) s = .next (if s.own.param.shadowMismatch ≤ n then
      ((s.withMiss b slot n).raiseSev b 0x0D02 (eventSev 0x0D02) 0 [(1, slot), (4, (s.withMiss b slot n).dwn)]).outOfStep b
      else s.withMiss b slot n) := by
  intro n
  change execShadowCompare slot crc s = _
  simp only [execShadowCompare, howner, hstandby, hup, hmine, hits, hk]
  rfl

/-! ### The journal -/

/-- A change that is journalled stands in the journal under the next JSEQ, pending, for the window a change takes effect in. -/
theorem journalChange_journal {s : State} (hfree : s.journalFree = true) (c : Change) :
    ((s.journalChange c).entry s.own.journal.nextJseq).body = .change c ∧ ((s.journalChange c).entry s.own.journal.nextJseq).state = 1 ∧
      ((s.journalChange c).entry s.own.journal.nextJseq).applyDwn = s.applyWindow ∧
      (s.journalChange c).own.journal.nextJseq = s.own.journal.nextJseq + 1 ∧
      (s.journalChange c).own.journal.single = s.own.journal.single := by
  have hwrite : s.journalChange c = s.journalWrite 2 0 0 s.applyWindow (.change c) := if_pos hfree
  rw [hwrite]
  simp only [State.entry, journalWrite_journal, tget_tset_same, and_self]

theorem exec_journalWrite {c : Change} {s : State} (howner : s.serving.isSome = true) (hnone : s.own.journal.handover = .none) :
    exec (.journalWrite c) s = .next (s.journalChange c) :=
  congrArg Host.Outcome.next (if_pos (by simp [howner, hnone]))

section
variable {j b : Nat} {s : State} (howner : s.serving = some b) (hpending : (s.entry j).state = 1) (hacked : (s.entry j).acked = false)
include howner hpending hacked

theorem exec_journalAck_held (hsingle : s.own.journal.single = false) (hup : s.own.journal.breezeUp = true)
    (hpeer : (s.bay (peer b)).bstate = .standby ∨ (s.bay (peer b)).bstate = .joining) :
    exec (.journalAck j) s = .next (((s.modBay (peer b) fun x => { x with held := max x.held j }).acknowledge j).handoverAdvance) := by
  change execJournalAck j s = _
  simp [execJournalAck, howner, hpending, hacked, hsingle, hup, hpeer]

theorem exec_journalAckTimeout_due (hdue : (s.entry j).written + 10000 ≤ s.now) :
    exec (.journalAckTimeout j) s = .next (((s.outOfStep (peer b)).goSingle).handoverAdvance) := by
  change execJournalAckTimeout j s = _
  simp [execJournalAckTimeout, howner, hpending, hacked, passed_of hdue]

end

theorem exec_retainExpiry_due {j d : Nat} {s : State} (hdone : (s.entry j).doneTime = some d) (hstate : (s.entry j).state = 2)
    (howed : (s.entry j).owed = 0) (hposted : (s.entry j).kind ≠ 0 ∨ ((s.entry j).posted = true ∧ (s.entry j).compIdx = none))
    (hdue : d + s.own.param.retainMin * 1000 ≤ s.now) :
    exec (.retainExpiry j) s = .next (s.modJournal fun q => { q with entries := tdel q.entries j }) := by
  change execRetainExpiry j s = _
  have hreleased : (decide ((s.entry j).kind ≠ 0) || ((s.entry j).posted && (s.entry j).compIdx.isNone)) = true := by
    simpa using hposted
  simp only [execRetainExpiry, hdone, hstate, howed, hreleased, passed_of hdue]
  rfl

/-! ### The handover -/

theorem exec_handoverWindow_due {b : Nat} {s : State} (howner : s.serving = some b) (hjournalled : s.own.journal.handover = .journalled)
    (hdue : s.own.journal.handoverAt ≤ s.dwn) (hhold : s.own.latch.hold = false) :
    exec .handoverWindow s =
      .next ((s.modLatch fun l => l.setYield b true).modJournal fun j => { j with handover := .yielded, handoverStart := s.now }) := by
  change execHandoverWindow s = _
  simp only [execHandoverWindow, howner, hjournalled, hdue, hhold]
  rfl

theorem exec_handoverWaitExpiry_due {s : State} (hyielded : s.own.journal.handover = .yielded)
    (hdue : s.own.journal.handoverStart + s.own.param.handoverWait * 1000 ≤ s.now) (hhold : s.own.latch.hold = false) :
    exec .handoverWaitExpiry s = .next s.handoverFail :=
  congrArg Host.Outcome.next (if_pos (by simp [hyielded, passed_of hdue, hhold]))

/-! ### The join -/

/-- What reaches a joining bay from the owner's memory, hands and governor. -/
def State.joinCopies (s : State) (bay : Nat) : State :=
  (((s.copyPages (peer bay) bay).copyCheckpoints (peer bay) bay).copyHands (peer bay) bay).copyGovernor (peer bay) bay

/-- The state in which the owner journals the join: the joining bay has the copies, the Easel's state and the whole journal, and single-copy
mode is left. -/
def State.joinCopied (s : State) (bay : Nat) : State :=
  let u := s.joinCopies bay
  let u := u.modEaselBay bay fun e => { u.easelBay (peer bay) with panelsOut := e.panelsOut, kacReturn := e.kacReturn }
  let n := u.own.journal.nextJseq - 1
  (u.modBay bay fun b => { b with held := n, announced := n }).modJournal fun j => { j with single := false }

theorem joinCopies_only (s : State) (bay : Nat) : OnlyParts [.gran, .barn, .gov, .link] s (s.joinCopies bay) := by
  have hpages (u : State) : OnlyParts [.gran, .barn, .gov, .link] u (u.copyPages (peer bay) bay) := (copyPages_only _ _ _).mono (by simp)
  have hckpt (u : State) : OnlyParts [.gran, .barn, .gov, .link] u (u.copyCheckpoints (peer bay) bay) :=
    (copyCheckpoints_only _ _ _).mono (by simp)
  have hhands (u : State) : OnlyParts [.gran, .barn, .gov, .link] u (u.copyHands (peer bay) bay) := (copyHands_only _ _ _).mono (by simp)
  have hgov (u : State) : OnlyParts [.gran, .barn, .gov, .link] u (u.copyGovernor (peer bay) bay) := (copyGovernor_only _ _ _).mono (by simp)
  exact (((hpages _).trans (hckpt _)).trans (hhands _)).trans (hgov _)

theorem joinCopied_only (s : State) (bay : Nat) : OnlyParts [.own, .gran, .barn, .gov, .easel, .link] s (s.joinCopied bay) := by
  unfold State.joinCopied
  extract_lets u owner u' n
  have hcopies : OnlyParts [.own, .gran, .barn, .gov, .easel, .link] s u := (joinCopies_only s bay).mono (by simp)
  have heasel : OnlyParts [.own, .gran, .barn, .gov, .easel, .link] u u' := (modEaselBay_only _ _ _).mono (by simp)
  have hown (f : Bay → Bay) (g : Journal → Journal) :
      OnlyParts [.own, .gran, .barn, .gov, .easel, .link] u' ((u'.modBay bay f).modJournal g) :=
    ((modBay_only _ _ _).trans (modJournal_only _ _)).mono (by simp)
  exact (hcopies.trans heasel).trans (hown _ _)

theorem joinCopied_journal (s : State) (bay : Nat) : (s.joinCopied bay).own.journal = { s.own.journal with single := false } := by
  unfold State.joinCopied
  extract_lets u owner u' n
  have hown : u.own = s.own := joinCopies_only s bay .own (by simp)
  clear_value u
  exact congrArg (fun o : OwnSt => { o.journal with single := false }) hown

theorem exec_joinCopyDone {bay : Nat} {s : State} (howner : s.serving = some (peer bay)) (hjoining : (s.bay bay).bstate = .joining)
    (halive : (s.bay bay).alive = true) (hup : s.own.journal.breezeUp = true) (hsingle : s.own.journal.single = true)
    (hnone : s.own.journal.handover = .none) (hfree : s.journalFree = true) :
    exec (.joinCopyDone bay) s = .next ((s.joinCopied bay).journalChange (.join bay)) := by
  have hguard : (decide (s.serving = some (peer bay)) && decide ((s.bay bay).bstate = .joining) && (s.bay bay).alive && s.own.journal.breezeUp &&
      s.own.journal.single && decide (s.own.journal.handover = .none) && s.journalFree) = true := by
    simp [howner, hjoining, halive, hup, hsingle, hnone, hfree]
  change execJoinCopyDone bay s = _
  simp only [execJoinCopyDone, if_pos hguard, State.joinCopied, State.joinCopies]

/-- Settles O29: each command by its guards; a journalled change by what the journal then holds, and the join by what its copies leave of it. -/
theorem journalAndMirror : Obligations.JournalAndMirror := by
  unfold Obligations.JournalAndMirror
  refine ⟨?mirror, ?shadow, ?write, ?ack, ?ackTimeout, ?retain, ?window, ?wait, ?join, fun _ _ => rfl⟩
  case mirror =>
    intro bay addr epoch data s hup halive hstate
    exact ⟨exec_mirrorWrite_current hup halive hstate, exec_mirrorWrite_stale hup halive hstate⟩
  case shadow =>
    intro slot o b crc s howner hstandby hup hmine hits hk hlimit n t
    have hcompare := exec_shadowCompare (crc := crc) howner hstandby hup hmine hits hk
    refine ⟨fun hsame => ?_, fun hother hbelow => ?_, fun hother hreached => ?_⟩
    · rw [hcompare, if_pos hsame, if_neg (Nat.not_le.mpr hlimit)]
      rfl
    · rw [hcompare, if_neg hother, if_neg (Nat.not_le.mpr hbelow)]
      rfl
    · rw [hcompare, if_neg hother, if_pos hreached]
      rfl
  case write =>
    intro c s howner hnone hfree
    obtain ⟨hbody, hstate, happly, hnext, -⟩ := journalChange_journal hfree c
    exact ⟨_, exec_journalWrite howner hnone, hbody, hstate, happly, hnext, journalChange_only s c⟩
  case ack =>
    intro j b s howner hpending hacked hsingle hup hpeer
    exact exec_journalAck_held howner hpending hacked hsingle hup hpeer
  case ackTimeout =>
    intro j b s howner hpending hacked hdue
    exact exec_journalAckTimeout_due howner hpending hacked hdue
  case retain =>
    intro j d s hdone hstate howed hposted hdue
    exact exec_retainExpiry_due hdone hstate howed hposted hdue
  case window =>
    intro b s howner hjournalled hdue hhold
    exact exec_handoverWindow_due howner hjournalled hdue hhold
  case wait =>
    intro s hyielded hdue hhold
    exact exec_handoverWaitExpiry_due hyielded hdue hhold
  case join =>
    intro bay s howner hjoining halive hup hsingle hnone hfree
    have hjournal := joinCopied_journal s bay
    have hroom : (s.joinCopied bay).journalFree = true := by
      rw [State.journalFree, hjournal]
      exact hfree
    obtain ⟨hbody, -, -, -, hleft⟩ := journalChange_journal hroom (.join bay)
    rw [hjournal] at hbody hleft
    exact ⟨_, exec_joinCopyDone howner hjoining halive hup hsingle hnone hfree, hleft, hbody,
      (joinCopied_only s bay).trans ((journalChange_only _ _).mono (by simp))⟩

end Sys2Proof.Machine

/-!
SUPPORT. The two-wire controller (R184, R411 to R424): the descriptor a TWI names and what becomes of it on a hand that is not a shadow, and the
engine's start, results, time-outs, stuck bus, recovery and local accesses when their guards hold; and from them O50.
-/
namespace Sys2Proof.Machine
open Sys2Proof

/-! ### TWI -/

/-- The 16 bytes at rs1, as a descriptor (R184). -/
def State.twiBytes (s : State) (bay hand rs1 : Nat) : TwDesc := twDescAt (memRead (s.granary bay).mem ((s.hand bay hand).reg rs1).toNat 16)

/-- The descriptor that a TWI hands to the engine: that of rs1, under the hand's next TSEQ and with its bytes to write (R184). -/
def State.twiDesc (s : State) (bay hand rs1 : Nat) : TwDesc :=
  let d := s.twiBytes bay hand rs1
  { d with
    issuer := .hand bay hand, tag := ((s.hand bay hand).tseq + 1).toNat, wdata := memRead (s.granary bay).mem d.buf d.wlen
    ownPage := d.addr = (s.twPort d.port).target && d.addr ≠ 0 }

/-- The hand waits for the result of its TWI (R184). -/
def State.twiWaits (s : State) (bay hand rd rs1 : Nat) : State :=
  s.modHand bay hand fun h =>
    { h with tseq := h.tseq + 1, pc := h.pc + 4, state := .wait, wait := some (.twoWire rd (s.twiBytes bay hand rs1).buf s.now) }

/-- A TWI that ends at once, with a status and no bytes (R184). -/
def State.twiEnds (s : State) (bay hand rd rs1 status : Nat) : State :=
  (s.twiWaits bay hand rd rs1).completeTwi bay hand rd (s.twiBytes bay hand rs1).buf (twiWord status 0 (s.twiDesc bay hand rs1).tag) []

/-- What becomes of a descriptor: the four checks of its port, in their order, and the queue. -/
theorem exec_twi {bay hand rd rs1 : Nat} {imm : BitVec 18} {s : State} (hissue : s.issues bay hand = true)
    (hlow : (s.hand bay hand).accessOk hand ((s.hand bay hand).reg rs1).toNat 8 = true)
    (hhigh : (s.hand bay hand).accessOk hand (((s.hand bay hand).reg rs1).toNat + 8) 8 = true)
    (hplow : (s.granary bay).poisoned ((s.hand bay hand).reg rs1).toNat = false)
    (hphigh : (s.granary bay).poisoned (((s.hand bay hand).reg rs1).toNat + 8) = false)
    (howner : s.isOwner bay = true ∨ (s.hand bay hand).shadow = false) :
    let d := s.twiDesc bay hand rs1
    let p := s.twPort d.port
    exec (.twi bay hand rd rs1 imm) s = .next (
      if d.invalid then s.twiEnds bay hand rd rs1 0x08
      else if !p.enable then s.twiEnds bay hand rd rs1 0x06
      else if p.stuck && !d.ownPage then s.twiEnds bay hand rd rs1 0x07
      else if 64 ≤ p.queued then s
      else (s.twiWaits bay hand rd rs1).modTwPort d.port fun p => p.enqueue d) := by
  intro d p
  have hsends : (s.isOwner bay || !(s.hand bay hand).shadow) = true := by simpa using howner
  change execTwi bay hand rd rs1 imm s = _
  simp only [execTwi, hissue, hlow, hhigh, hplow, hphigh, hsends]
  rfl

/-! ### The engine -/

section
variable {port : Nat} {s : State}

/-- With no setting that waits, a free bus takes up the active descriptor again, or the next one. -/
theorem exec_twiDescriptorStart (hstarted : (s.twPort port).started = false) (htarget : (s.twPort port).busTarget = false)
    (hcfg : (s.twPort port).pendingCfg = none) (henable : (s.twPort port).enable = true) (hstuck : (s.twPort port).stuck = false)
    (htrim : s.sys.trimValid = true) :
    exec (.twiDescriptorStart port) s = .next (match (s.twPort port).active with
      | some d => (s.modTwPort port fun p => { p with started := true, attempts := p.attempts + 1 }).emit (.twoWire port d)
      | none =>
        match (s.twPort port).pick with
        | some (d, p') =>
          (s.modTwPort port fun _ => { p'.admitWaiting with active := some d, started := true, attempts := 1, startTime := s.now }).emit
            (.twoWire port d)
        | none => s) := by
  have hidle : (s.twPort port).idleBus = true := by simp [TwPort.idleBus, hstarted, htarget]
  have happly : s.twApplyCfg port = s := by simp [State.twApplyCfg, hcfg]
  change execTwiDescriptorStart port s = _
  simp only [execTwiDescriptorStart, hidle, if_true, happly, henable, hstuck, htrim]
  rfl

/-- A transaction that the engine started ends: by its attempts where it lost arbitration, else by its status and its bytes. -/
theorem exec_twiResult {d : TwDesc} (hactive : (s.twPort port).active = some d) (hstarted : (s.twPort port).started = true)
    (status count : Nat) (arbLost : Bool) (data : List Byte) :
    exec (.twiResult port status arbLost count data) s = .next (
      if arbLost then
        if (s.twPort port).attempts < 4 then s.modTwPort port fun p => { p with started := false } else s.twEnd port 0x03 count []
      else if status = 0 then
        s.twEnd port (d.result data).1 (d.wlen + (d.result data).2.length) (if (d.result data).1 = 0 || d.block then (d.result data).2 else [])
      else s.twEnd port status count []) := by
  change execTwiResult port status arbLost count data s = _
  simp only [execTwiResult, hactive, hstarted]
  rfl

theorem exec_toutExpiry_due {d : TwDesc} (hactive : (s.twPort port).active = some d)
    (hdue : (s.twPort port).startTime + d.timeout ≤ s.now) : exec (.toutExpiry port) s = .next (s.twEnd port 0x04 0 []) := by
  change execToutExpiry port s = _
  simp only [execToutExpiry, hactive, passed_of hdue, if_true]

theorem exec_busStuck (hstuck : (s.twPort port).stuck = false) (henable : (s.twPort port).enable = true) (sdaClears : Bool) :
    exec (.busStuck port sdaClears) s = .next (if sdaClears then s.modTwPort port fun p => { p with started := false }
      else ((s.modTwPort port fun p => { p with stuck := true, stuckTime := s.now }).twFlush port 0x07 true).raise 0x0B02 [(1, port)]) := by
  change execBusStuck port sdaClears s = _
  simp only [execBusStuck, hstuck, henable]
  rfl

theorem exec_busRecoveryRetry_due (hstuck : (s.twPort port).stuck = true) (hdue : (s.twPort port).stuckTime + 1000000000 ≤ s.now)
    (success : Bool) : exec (.busRecoveryRetry port success) s =
      .next (s.modTwPort port fun p => if success then { p with stuck := false } else { p with stuckTime := s.now }) := by
  change execBusRecoveryRetry port success s = _
  simp only [execBusRecoveryRetry, hstuck, passed_of hdue]
  rfl

theorem exec_targetLocalAccess_due {d : TwDesc} {p : TwPort} (htarget : (s.twPort port).busTarget = false)
    (henable : (s.twPort port).enable = true) (hpick : (s.twPort port).pickLocal = some (d, p)) :
    exec (.targetLocalAccess port) s = .next (
      (s.modTwPort port fun _ => (p.localAccess d).1.admitWaiting).twDeliver d 0 (d.wlen + (p.localAccess d).2.length) (p.localAccess d).2) := by
  change execTargetLocalAccess port s = _
  simp only [execTargetLocalAccess, htarget, henable, hpick]
  rfl

end

theorem exec_shadowResultTimeout_due {bay hand rd buf since : Nat} {s : State} (hstate : (s.hand bay hand).state = .wait)
    (hwait : (s.hand bay hand).wait = some (.twoWire rd buf since)) (hshadow : (s.hand bay hand).shadow = true)
    (howner : s.isOwner bay = false) (hdue : since + 10000000 ≤ s.now) :
    exec (.shadowResultTimeout bay hand) s = .next (s.resyncHand bay hand) := by
  change execShadowResultTimeout bay hand s = _
  simp only [execShadowResultTimeout, hstate, hwait, hshadow, howner, passed_of hdue]
  rfl

/-- Settles O50: a TWI by the checks of its port, and each event of the engine by its guards. -/
theorem twoWireRows : Obligations.TwoWireRows := by
  unfold Obligations.TwoWireRows
  refine ⟨?twi, ?shadow, ?start, ?ends, ?bus⟩
  case twi =>
    intro bay hand rd rs1 imm s hissue h a g d0 d waits hlow hhigh hplow hphigh howner
    have hexec := exec_twi (rd := rd) (imm := imm) hissue hlow hhigh hplow hphigh howner
    refine ⟨fun hinvalid => hexec.trans (congrArg Host.Outcome.next (if_pos hinvalid)), fun hvalid hdisabled => ?_, fun hvalid henable => ?_⟩
    · exact hexec.trans (congrArg Host.Outcome.next ((if_neg (ne_true_of_eq_false hvalid)).trans (if_pos (congrArg not hdisabled))))
    · have hserved := hexec.trans (congrArg Host.Outcome.next ((if_neg (ne_true_of_eq_false hvalid)).trans
        (if_neg (ne_true_of_eq_false (congrArg not henable)))))
      refine ⟨fun hstuck hother => ?_, fun hfree hfull => ?_, fun hfree hroom => ?_⟩
      · exact hserved.trans (congrArg Host.Outcome.next (if_pos (congrArg₂ and hstuck (congrArg not hother))))
      · have hbus := ne_true_of_eq_false (congrArg (and · (!d.ownPage)) hfree)
        exact hserved.trans (congrArg Host.Outcome.next ((if_neg hbus).trans (if_pos hfull)))
      · have hbus := ne_true_of_eq_false (congrArg (and · (!d.ownPage)) hfree)
        exact hserved.trans (congrArg Host.Outcome.next ((if_neg hbus).trans (if_neg (Nat.not_le.mpr hroom))))
  case shadow =>
    intro bay hand rd buf since s hstate hwait hshadow howner hdue
    exact exec_shadowResultTimeout_due hstate hwait hshadow howner hdue
  case start =>
    intro port s hstarted htarget hcfg henable hstuck htrim
    have hexec := exec_twiDescriptorStart hstarted htarget hcfg henable hstuck htrim
    refine ⟨fun d hactive => ?_, fun d p hactive hpick => ?_⟩
    · simpa only [hactive] using hexec
    · simpa only [hactive, hpick] using hexec
  case ends =>
    intro port status count data d s hactive
    refine ⟨fun hstarted => ?_, exec_toutExpiry_due hactive⟩
    have hexec := exec_twiResult hactive hstarted
    refine ⟨fun htry => ?_, fun hlost => ?_, fun hfailed => ?_, hexec 0 count false data⟩
    · exact (hexec status count true data).trans (congrArg Host.Outcome.next (if_pos htry))
    · exact (hexec status count true data).trans (congrArg Host.Outcome.next (if_neg (Nat.not_lt.mpr hlost)))
    · exact (hexec status count false data).trans (congrArg Host.Outcome.next (if_neg hfailed))
  case bus =>
    intro port s
    refine ⟨fun hstuck henable => ⟨exec_busStuck hstuck henable true, exec_busStuck hstuck henable false⟩,
      fun hstuck hdue => ⟨exec_busRecoveryRetry_due hstuck hdue true, exec_busRecoveryRetry_due hstuck hdue false⟩,
      fun d p htarget henable hpick => exec_targetLocalAccess_due htarget henable hpick⟩

end Sys2Proof.Machine

/-!
SUPPORT. The commands on the Granary and the fabric (R210, R216 to R222, R290, R314, R320, R331, R332): the checks that each passes and what
it does at its window, and from them O17; with it the Granary's memory at reset (R194, log entry 2), O59.
-/
namespace Sys2Proof.Machine
open Sys2Proof

/-! ### The Granary's memory at reset -/

theorem reset_granary_mem (bay : Nat) : (State.reset.granary bay).mem = [] := by rw [reset_granary]

/-- Settles O59: at reset no bay lists a cell, and the empty list is in canonical form. -/
theorem resetMemoryCanonical : Obligations.ResetMemoryCanonical :=
  ⟨fun bay => by rw [reset_granary_mem]; rfl, reset_granary_mem⟩

/-! ### Checks -/

theorem exists_passes {ok : Bool} (off : Nat) (h : ok = true) : (exists' ok off).bad = false := by simp [exists', h]

/-- A command that waits for the self-test engine passes where the bank is free and no test of the bay is under way (R216, R217). -/
theorem testFree_passes {s : State} {bay bank : Nat} (hfree : s.testFree bay bank = true) (hnone : s.noTest bay = true) :
    firstBad [check (s.testFree bay bank && s.noTest bay) 0x0206] = none :=
  firstBad_cons_none (check_passes _ _ (by rw [hfree, hnone]; rfl)) rfl

/-! ### REPAIR_APPLY (R219 to R221) -/

section
variable {h : CmdHdr} {bay bank kind pos : Nat} {s : State} (hbay : bay < 2) (hbank : bank < 68)
include hbay hbank

/-- A soft repair names a position of its kind, on a bank that is free and has a repair of that kind left. -/
theorem firstBad_specRepairApply_soft (hkind : kind = 1 ∨ kind = 2)
    (hrow : kind = 1 → pos < (if bank < 64 then 6144 else 4096) ∧ s.repairsOf bay bank false < 16)
    (hcolumn : kind = 2 → pos < 576 ∧ s.repairsOf bay bank true < 8) (hfree : s.testFree bay bank = true) (hnone : s.noTest bay = true) :
    let c := specRepairApply h bay bank kind pos s
    firstBad (c.params ++ c.states ++ c.late) = none := by
  have hstate : (s.testFree bay bank && s.noTest bay) = true := by rw [hfree, hnone]; rfl
  obtain ⟨rfl, hpos, hleft⟩ | ⟨rfl, hpos, hleft⟩ := hkind.imp (fun hk => And.intro hk (hrow hk)) fun hk => And.intro hk (hcolumn hk)
  all_goals exact firstBad_cons_none (inRange_passes 0 (decide_eq_true hbay)) (firstBad_cons_none (inRange_passes 2 rfl)
    (firstBad_cons_none (inRange_passes 4 (decide_eq_true hpos)) (firstBad_cons_none (exists_passes 1 (decide_eq_true hbank))
      (firstBad_cons_none (joint_passes 4 rfl) (firstBad_cons_none (check_passes _ _ hstate)
        (firstBad_cons_none (check_passes _ _ (decide_eq_true hleft)) rfl))))))

/-- A fuse repair makes a soft repair of the bank permanent, while the bay has a fuse entry left. -/
theorem firstBad_specRepairApply_fuse (hpos : pos < 6144) (hsoft : s.gran.repairs.any (softRepair bay bank pos) = true)
    (hleft : 0 < s.fuseLeft bay) :
    let c := specRepairApply h bay bank 3 pos s
    firstBad (c.params ++ c.states ++ c.late) = none :=
  firstBad_cons_none (inRange_passes 0 (decide_eq_true hbay)) (firstBad_cons_none (inRange_passes 2 rfl)
    (firstBad_cons_none (inRange_passes 4 (decide_eq_true hpos)) (firstBad_cons_none (exists_passes 1 (decide_eq_true hbank))
      (firstBad_cons_none (joint_passes 4 hsoft) (firstBad_cons_none (check_passes _ _ rfl)
        (firstBad_cons_none (check_passes _ _ (decide_eq_true hleft)) rfl))))))

end

/-- A soft repair runs the copy, the repair and the restore of a self-test (R216, R219). -/
theorem effRepairApply_soft {kind : Nat} (hkind : kind = 1 ∨ kind = 2) (j bay bank pos : Nat) (u : State) :
    effRepairApply j bay bank kind pos u =
      if u.testFree bay bank && u.noTest bay && (u.bay bay).bstate ≠ .down then u.startTest bay bank j (some (kind = 2, pos))
      else u.complete j 0x0504 [] := if_neg (by omega)

/-- The report that a command's keeper step succeeded brings what follows it (R238). -/
theorem exec_keeperStepReport_done {j : Nat} {i : Instr} {u : State} (hheld : (u.entry j).state = 1) (hdue : (u.entry j).stepsDue ≠ 0)
    (hbody : (u.entry j).body = .cmd i) : exec (.keeperStepReport j true true) u =
      .next ((u.modEntry j fun e => { e with stepsDue := 0, stepStarted := 1 }).finishStepOf j i) := by
  show execKeeperStepReport j true true u = _
  simp only [execKeeperStepReport, hheld, hdue, hbody, ne_eq, not_true_eq_false, decide_false, Bool.or_self, Bool.not_true, Bool.false_eq_true,
    if_false]

/-! ### FAB_GLOBAL and FAB_CONFIG (R290, R314, R320 to R322, R332) -/

/-- The proxy hands on a descriptor that agrees with PARAM and whose fields are in range. -/
theorem firstBad_specFabGlobal {h : CmdHdr} {op buf blen : Nat} {node : BitVec 64} {s : State} (hop : globalOp op = true)
    (halign : buf % 64 = 0) (hhi : buf < 2 ^ 64) (hlen : blen = if op = 1 then 112 else 64) (hproxy : s.fab.fab.roles.testBit 0 = true)
    (hmember : s.isMember = true) (hread : h.buf.isSome = true) (hopSame : (descOf (h.buf.getD [])).op = op)
    (hnodeSame : (descOf (h.buf.getD [])).scopeNode = node) (hscope : scopeOk (descOf (h.buf.getD [])) = true)
    (hfields : s.gridFieldsOk (descOf (h.buf.getD [])) = true) :
    let c := specFabGlobal h op node buf blen s
    firstBad (c.params ++ c.states ++ c.late) = none :=
  firstBad_cons_none (inRange_passes 0 hop) (firstBad_cons_none (bufAligned_passes halign hhi)
    (firstBad_cons_none (check_passes _ _ (decide_eq_true hlen)) (firstBad_cons_none (check_passes _ _ (by rw [hproxy, hmember]; rfl))
      (firstBad_cons_none (check_passes _ _ hread) (firstBad_cons_none (joint_passes 0 (decide_eq_true hopSame))
        (firstBad_cons_none (joint_passes 8 (decide_eq_true hnodeSame))
          (firstBad_cons_none (inRange_passes 16 (by rw [hscope, hfields]; rfl)) rfl)))))))

/-! ### O17 -/

/-- Settles O17: each command's checks pass by its premises, and its effect is its row's. -/
theorem granaryAndFabricCommands : Obligations.GranaryAndFabricCommands := by
  unfold Obligations.GranaryAndFabricCommands
  refine ⟨?bistRun, ?bistResult, ?softRepair, ?fuseRepair, ?fuseBurnt, ?granStatus, ?granConfig, ?fabGlobal, ?fabStatus, ?fabConfig⟩
  case bistRun =>
    intro h bay bank s hready hbay hbank hfree hnone
    exact carries_of_params_states (c := specBistRun h bay bank s) rfl hready rfl rfl
      (firstBad_cons_none (inRange_passes 0 (decide_eq_true hbay)) (firstBad_cons_none (exists_passes 1 hbank) rfl))
      (testFree_passes hfree hnone) fun _ _ => rfl
  case bistResult =>
    intro h bay bank buf s hready hbay hbank halign hhi
    exact carries_of_params (c := specBistResult h bay bank buf s) rfl hready rfl rfl rfl
      (firstBad_cons_none (inRange_passes 0 (decide_eq_true hbay)) (firstBad_cons_none (bufAligned_passes halign hhi)
        (firstBad_cons_none (exists_passes 1 hbank) rfl))) fun _ _ => rfl
  case softRepair =>
    intro h bay bank kind pos s hready hbay hbank hkind hrow hcolumn hfree hnone
    exact carries_of (c := specRepairApply h bay bank kind pos s) rfl hready rfl
      (firstBad_specRepairApply_soft hbay hbank hkind hrow hcolumn hfree hnone) fun j u => effRepairApply_soft hkind j bay bank pos u
  case fuseRepair =>
    intro h bay bank pos s hready hbay hbank hpos hsoft hleft
    exact carries_of (c := specRepairApply h bay bank 3 pos s) rfl hready rfl
      (firstBad_specRepairApply_fuse hbay hbank hpos hsoft hleft) fun _ _ => rfl
  case fuseBurnt => exact fun _ _ _ _ _ _ _ hheld hdue hbody => exec_keeperStepReport_done hheld hdue hbody
  case granStatus =>
    intro h bay first count buf s hready hbay hfirst hcount hlast halign hhi
    exact carries_of_params (c := specGranStatus h bay first count buf s) rfl hready rfl rfl rfl
      (firstBad_cons_none (inRange_passes 0 (decide_eq_true hbay)) (firstBad_cons_none (inRange_passes 4 (decide_eq_true hfirst))
        (firstBad_cons_none (inRange_passes 6 (within_of hcount (by omega))) (firstBad_cons_none (bufAligned_passes halign hhi)
          (firstBad_cons_none (joint_passes 6 (decide_eq_true hlast)) rfl))))) fun _ _ => rfl
  case granConfig =>
    intro h bay gleanPeriod ceThresh autotest s hready hbay hgleanLo hgleanHi hceLo hceHi hauto
    exact carries_of_params (c := specGranConfig h bay gleanPeriod ceThresh autotest s) rfl hready rfl rfl rfl
      (firstBad_cons_none (inRange_passes 0 (by simpa only [Bool.or_eq_true, decide_eq_true_eq] using hbay))
        (firstBad_cons_none (inRange_passes 4 (within_of hgleanLo hgleanHi)) (firstBad_cons_none (inRange_passes 8 (within_of hceLo hceHi))
          (firstBad_cons_none (switchOk_passes 12 hauto) rfl)))) fun _ _ => rfl
  case fabGlobal =>
    intro h op node buf blen s hready hop halign hhi hlen hproxy hmember hread hopSame hnodeSame hscope hfields
    exact carries_of (c := specFabGlobal h op node buf blen s) rfl hready rfl
      (firstBad_specFabGlobal hop halign hhi hlen hproxy hmember hread hopSame hnodeSame hscope hfields) fun _ _ => rfl
  case fabStatus =>
    intro h buf s hready halign hhi
    exact carries_of_params (c := specFabStatus h buf s) rfl hready rfl rfl rfl
      (firstBad_cons_none (bufAligned_passes halign hhi) rfl) fun _ _ => rfl
  case fabConfig =>
    intro h item value s hready hitem hvalue hdead hroot
    exact carries_of_params (c := specFabConfig h item value s) rfl hready rfl rfl rfl
      (firstBad_cons_none (inRange_passes 0 (decide_eq_true hitem)) (firstBad_cons_none (inRange_passes 8 hvalue)
        (firstBad_cons_none (joint_passes 8 (by rw [decide_eq_true hdead, decide_eq_true hroot]; rfl)) rfl))) fun _ _ => rfl

end Sys2Proof.Machine

/-!
SUPPORT. The Porch through port B and the trust of a bay (R203 to R207, R270, R271, R433, R443 to R447): the host window, the measurement
page and its QREQ, the debug port and the entropy source, and from them O22.
-/
namespace Sys2Proof.Machine
open Sys2Proof

/-! ### The host window (R203, R270, R271) -/

/-- An access of 4 or 8 aligned bytes to a page the host owns, below the last page, goes through port B. -/
theorem exec_hostWindowAccess_of_hostPage {s : State} {e offset size : Nat} (hreach : s.hostReaches e = true)
    (hreleased : (s.bay e).releasedAt.isSome = true) (hsize : size = 4 ∨ size = 8) (halign : offset % size = 0) (hlow : offset < 0xFF000)
    (howner : pageOwner ((s.granary e).pageEntry (0x02000000 + offset)) = 9) (write : Bool) (value : Word64) (ecc : Ecc) (collide : Bool) :
    exec (.hostWindowAccess e write offset size value ecc collide) s = .next (s.windowAccess e write offset size value ecc collide) := by
  show execHostWindowAccess e write offset size value ecc collide s = _
  have hform : ¬((size ≠ 4 && size ≠ 8) || offset % size ≠ 0 || 0x100000 ≤ offset) = true := by
    simp only [Bool.or_eq_true, Bool.and_eq_true, decide_eq_true_eq]; omega
  have hplaced : ¬(s.bay e).releasedAt.isNone = true := by rw [← Option.not_isSome, hreleased]; decide
  have hpage : ¬(write && decide (0xFF000 ≤ offset) && !measureWritable (offset - 0xFF000)) = true := by
    simp [Nat.not_le.2 hlow]
  rw [execHostWindowAccess, if_neg (by simp [hreach]), if_neg hform, if_neg hplaced, if_neg (not_not.2 howner), if_neg hpage]

/-- Another size, alignment or range is denied. -/
theorem exec_hostWindowAccess_of_misformed {s : State} {e offset size : Nat} (hreach : s.hostReaches e = true)
    (hform : (size ≠ 4 ∧ size ≠ 8) ∨ offset % size ≠ 0 ∨ 0x100000 ≤ offset) (write : Bool) (value : Word64) (ecc : Ecc) (collide : Bool) :
    exec (.hostWindowAccess e write offset size value ecc collide) s = .next (s.windowDeny e write offset size) := by
  show execHostWindowAccess e write offset size value ecc collide s = _
  have hbad : ((size ≠ 4 && size ≠ 8) || offset % size ≠ 0 || 0x100000 ≤ offset) = true := by
    simpa only [Bool.or_eq_true, Bool.and_eq_true, decide_eq_true_eq, or_assoc] using hform
  rw [execHostWindowAccess, if_neg (by simp [hreach]), if_pos hbad]

theorem windowAccess_write_clean (s : State) (e offset size : Nat) (value : Word64) : s.windowAccess e true offset size value .clean false =
    s.modGranary e fun g => g.store (0x02000000 + offset) (leBytes size value.toNat) := by
  simp [State.windowAccess]

theorem windowAccess_read_clean {s : State} {e offset : Nat} (hgood : (s.granary e).poisoned (0x02000000 + offset) = false) (size : Nat)
    (value : Word64) : s.windowAccess e false offset size value .clean false =
      (s.modEndpoint e fun x => { x with readData := BitVec.ofNat 64 ((s.granary e).load (0x02000000 + offset) size) }).emit
        (.readData e (BitVec.ofNat 64 ((s.granary e).load (0x02000000 + offset) size))) := by
  simp [State.windowAccess, State.windowAnswer, hgood]

/-! ### The measurement page and QREQ (R443) -/

/-- Bytes outside a range written read as before. -/
theorem memRead_memWrite_ne (bs : List Byte) (m : List Host.Cell) {a c n : Nat} (hout : c + n ≤ a ∨ a + bs.length ≤ c) :
    memRead (memWrite m a bs) c n = memRead m c n :=
  List.map_congr_left fun i hi => memGet_memWrite_ne bs m (by have := List.mem_range.1 hi; omega)

theorem load_fill_ne (g : Granary) {a c n : Nat} {bs : List Byte} (hout : c + n ≤ a ∨ a + bs.length ≤ c) : (g.fill a bs).load c n = g.load c n :=
  congrArg ofLeBytes (memRead_memWrite_ne bs g.mem hout)

theorem length_beBytes (n v : Nat) : (beBytes n v).length = n := by rw [beBytes, List.length_reverse, length_leBytes]

theorem length_measureBytes_tallies (s : State) (bay : Nat) : (s.measureBytes bay).1.length = 0x180 := by
  simp [State.measureBytes, length_beBytes, List.length_flatMap]

theorem length_measureBytes_identity (s : State) (bay : Nat) : (s.measureBytes bay).2.1.length = 0x28 := by
  simp [State.measureBytes, length_leBytes]

/-- Bringing the page up to date leaves QREQ as the host wrote it. -/
theorem showMeasures_qreq (s : State) (bay : Nat) : (s.showMeasures bay).qreq bay = s.qreq bay := by
  unfold State.showMeasures
  split
  · rfl
  · unfold State.qreq
    dsimp only
    rw [modGranary_same, load_fill_ne _ (.inl (by omega)), load_fill_ne _ (.inr (by rw [length_measureBytes_identity])),
      load_fill_ne _ (.inr (by rw [length_measureBytes_tallies]; omega))]

theorem showMeasures_only (s : State) (bay : Nat) : OnlyParts [.gran] s (s.showMeasures bay) := by
  unfold State.showMeasures
  exact .ite (.refl _ _) (modGranary_only _ _ _)

/-! ### Quotes (R443, R447) -/

/-- A poll of QREQ has taken its time, and the page shows it. -/
def State.pollTaken (s : State) (bay : Nat) : State := (s.modMeasure bay fun m => { m with pollTime := some s.now }).showMeasures bay

theorem pollTaken_qreq (s : State) (bay : Nat) : (s.pollTaken bay).qreq bay = s.qreq bay := showMeasures_qreq _ _

theorem pollTaken_boot (s : State) (bay : Nat) :
    (s.pollTaken bay).boot = (s.modMeasure bay fun m => { m with pollTime := some s.now }).boot := showMeasures_only _ _ .boot (by decide)

/-- The first poll of a released bay, with a new QREQ, entropy and a device secret, has the page signed. -/
theorem exec_quoteRequestPoll_of_new {s : State} {bay : Nat} (hreleased : (s.bay bay).releasedAt.isSome = true)
    (halive : (s.bay bay).alive = true) (hawake : s.sys.dormant = false) (hfirst : (s.measure bay).pollTime = none)
    (hready : s.boot.entropy.ready = true) (hsecret : s.boot.fuse.erased = false) (hnew : s.qreq bay ≠ (s.measure bay).qreqSeen) :
    exec (.quoteRequestPoll bay) s = .next (
      let t := s.pollTaken bay
      let u := ((t.drawEntropy 48).2.modMeasure bay fun m => { m with qreqSeen := t.qreq bay, qtime := (t.drawEntropy 48).2.devNow }).showMeasures bay
      (u.modMeasure bay fun m => { m with quote := (Config.ecdsaSign (memRead (u.granary bay).mem controlBase 0x1E0)).toNat }).showMeasures bay) := by
  have hplaced : (s.bay bay).releasedAt.isNone = false := by rw [← Option.not_isSome, hreleased]; rfl
  have hask : ¬(decide ((s.pollTaken bay).qreq bay = (s.measure bay).qreqSeen) || !(s.pollTaken bay).boot.entropy.ready ||
      (s.pollTaken bay).boot.fuse.erased) = true := by
    rw [pollTaken_boot]
    simp [pollTaken_qreq, hnew, State.modMeasure, hready, hsecret]
  show execQuoteRequestPoll bay s = _
  refine congrArg Host.Outcome.next ((if_neg ?_).trans (if_neg hask))
  simp [hplaced, halive, hawake, hfirst]

/-! ### The debug port (R203 to R205, R445) -/

theorem foldl_emit_only {α : Type} (f : α → Out) (l : List α) (s : State) : OnlyParts [.out] s (l.foldl (fun t a => t.emit (f a)) s) :=
  .foldl _ (fun t a => emit_only t (f a)) l s

/-- The challenge is drawn, and is yet to be shown to the probe. -/
def State.drawChallenge (s : State) (bay : Nat) : State :=
  (s.drawEntropy 48).2.modMeasure bay fun m => { m with challenge := some (s.drawEntropy 48).1, challengeDue := false }

theorem drawChallenge_only (s : State) (bay : Nat) : OnlyParts [.boot] s (s.drawChallenge bay) := (modEntropy_only _ _).trans (modMeasure_only _ _ _)

theorem giveChallenge_shows (s : State) (bay : Nat) : OnlyParts [.out] (s.drawChallenge bay) (s.giveChallenge bay) :=
  foldl_emit_only (Out.debugData bay) _ _

/-- The challenge stands, and of the parts only boot and what was driven out differ. -/
theorem giveChallenge_spec (s : State) (bay : Nat) :
    ((s.giveChallenge bay).measure bay).challenge = some (s.drawEntropy 48).1 ∧ ((s.giveChallenge bay).measure bay).challengeDue = false ∧
    (s.giveChallenge bay).boot.entropy.draws = s.boot.entropy.draws + 1 ∧ OnlyParts [.boot, .out] s (s.giveChallenge bay) := by
  have hboot : (s.giveChallenge bay).boot = (s.drawChallenge bay).boot := giveChallenge_shows s bay .boot (by decide)
  have hmeasure : (s.giveChallenge bay).measure bay = (s.drawChallenge bay).measure bay := by unfold State.measure; rw [hboot]
  rw [hmeasure, hboot, State.drawChallenge, modMeasure_same]
  exact ⟨rfl, rfl, rfl, ((drawChallenge_only s bay).mono (by simp)).trans ((giveChallenge_shows s bay).mono (by simp))⟩

section
variable {s : State} {bay : Nat} (hopen : (s.measure bay).dbg = 2)
include hopen

theorem debugPort_opened : ¬((s.measure bay).dbg ≠ 0 && (s.measure bay).dbg ≠ 2) = true := by simp [hopen]

theorem exec_debugAccess_writeWord {off : Nat} (halign : off % 8 = 0) (hlow : off < 0x100000) (v : Word64) :
    exec (.debugAccess bay (.writeWord off v) .clean false) s =
      .next (s.modGranary bay fun g => g.store (0x02000000 + off) (leBytes 8 v.toNat)) := by
  refine congrArg Host.Outcome.next ((if_neg (debugPort_opened hopen)).trans (if_neg ?_))
  simp [halign, hlow]

theorem exec_debugAccess_readWord {off : Nat} (halign : off % 8 = 0) (hlow : off < 0x100000)
    (hgood : (s.granary bay).poisoned (0x02000000 + off) = false) : exec (.debugAccess bay (.readWord off) .clean false) s =
      .next (s.debugAnswer bay (BitVec.ofNat 64 ((s.granary bay).load (0x02000000 + off) 8))) := by
  refine congrArg Host.Outcome.next ((if_neg (debugPort_opened hopen)).trans ((if_neg ?_).trans ?_))
  · simp [halign, hlow]
  · simp [State.debugRead, State.checkWord, hgood]

end

/-! ### Entropy (R447) -/

theorem forUpTo_fixed {α : Type} {n : Nat} {f : α → Nat → α} {a : α} (h : ∀ i < n, f a i = a) : forUpTo n f a = a := by
  induction n with
  | zero => rfl
  | succ n ih => rw [forUpTo, List.range_succ, List.foldl_concat, ← forUpTo, ih fun i hi => h i (by omega), h n (by omega)]

/-- The source becomes ready; with no challenge waiting that is all. -/
theorem exec_entropyReady_of_none_due {s : State} (hwaits : s.boot.entropy.ready = false) (hpowered : s.sys.suppliesValid = true)
    (hdue0 : (s.measure 0).challengeDue = false) (hdue1 : (s.measure 1).challengeDue = false) : exec .entropyReady s =
      .next (s.modEntropy fun e => { e with ready := true, reseeds := e.reseeds + 1, reseedTime := s.now }) := by
  refine congrArg Host.Outcome.next ((if_neg (by simp [hwaits, hpowered])).trans (forUpTo_fixed fun b hb => if_neg ?_))
  have hnone : (s.measure b).challengeDue = false := by interval_cases b <;> assumption
  exact fun hdue => absurd ((Bool.and_eq_true _ _).mp hdue).1 (ne_true_of_eq_false hnone)

/-! ### O22 -/

/-- Settles O22: each access, request and event meets the branch that its premises leave. -/
theorem windowAndTrust : Obligations.WindowAndTrust := by
  unfold Obligations.WindowAndTrust
  refine ⟨?hostPage, ?misformed, ?quote, ?stepMade, ?stepRefused, ?challenge, ?debug, ?entropyReady, ?reseed, ?healthFail⟩
  case hostPage =>
    intro e offset size value s hreach hreleased hsize halign hlow howner
    refine ⟨?_, fun hgood => ?_⟩
    · rw [exec_hostWindowAccess_of_hostPage hreach hreleased hsize halign hlow howner, windowAccess_write_clean]
    · rw [exec_hostWindowAccess_of_hostPage hreach hreleased hsize halign hlow howner, windowAccess_read_clean hgood]
  case misformed =>
    intro e offset size value ecc collide s hreach hform
    exact ⟨exec_hostWindowAccess_of_misformed hreach hform true value ecc collide,
      exec_hostWindowAccess_of_misformed hreach hform false value ecc collide⟩
  case quote =>
    exact fun _ _ hreleased halive hawake hfirst hready hsecret hnew =>
      exec_quoteRequestPoll_of_new hreleased halive hawake hfirst hready hsecret hnew
  case stepMade => exact fun _ _ _ _ _ hallowed => congrArg Host.Outcome.next (if_pos hallowed)
  case stepRefused => exact fun _ _ _ _ _ hrefused => congrArg Host.Outcome.next (if_neg (ne_true_of_eq_false hrefused))
  case challenge =>
    intro bay s hlocked
    have hasks : ∀ t : State, (if (s.measure bay).dbg ≠ 1 then s else t) = t := fun t => if_neg (not_not.2 hlocked)
    refine ⟨fun hready => ⟨s.giveChallenge bay, ?_, giveChallenge_spec s bay⟩, fun hwaits => ?_⟩
    · exact congrArg Host.Outcome.next ((hasks _).trans (if_pos hready))
    · exact congrArg Host.Outcome.next ((hasks _).trans (if_neg (ne_true_of_eq_false hwaits)))
  case debug =>
    intro bay off v hand reg s hopen halign hlow
    have hserves := debugPort_opened hopen
    refine ⟨exec_debugAccess_writeWord hopen halign hlow v, exec_debugAccess_readWord hopen halign hlow, ?halt, ?resume, fun hhalted => ?step,
      ?inspect⟩
    case halt => exact congrArg Host.Outcome.next (if_neg hserves)
    case resume => exact congrArg Host.Outcome.next (if_neg hserves)
    case step => exact congrArg Host.Outcome.next ((if_neg hserves).trans (if_pos hhalted))
    case inspect => exact congrArg Host.Outcome.next (if_neg hserves)
  case entropyReady => exact fun _ hwaits hpowered hdue0 hdue1 => exec_entropyReady_of_none_due hwaits hpowered hdue0 hdue1
  case reseed =>
    exact fun _ hready hpast => congrArg Host.Outcome.next (if_pos (by rw [hready, passed_of hpast]; rfl))
  case healthFail => exact fun _ hpowered => congrArg Host.Outcome.next (if_neg (by simp [hpowered]))

end Sys2Proof.Machine

/-!
SUPPORT. Ring commands and the journal (R232 to R242, R264, R278, R281, R295, R461): what a fetched command is answered with, and the order in
which entries take effect; from them O5, O6, O7 and O8.
-/
namespace Sys2Proof.Machine
open Sys2Proof

/-! ### The verdict on a fetched command, check by check (R278) -/

section
variable {s : State} {i : Instr} {h : CmdHdr} {c : CmdSpec}

theorem submit_of_not_fetched (hno : s.canFetch h.ring c.opcode = false) : s.submit i h c = s := by
  simp only [State.submit, hno, Bool.not_false, if_true]

section
variable (hold : seqNewer h.seq (s.ring h.ring).lastSeq = false)
include hold

theorem verdict_of_stale (hnone : s.heldEntry h.ring h.seq = none) : s.verdict i h c = .refuse 0x0201 (s.ring h.ring).lastSeq.toNat := by
  simp only [State.verdict, hold, hnone, Bool.not_false, if_true]

theorem verdict_of_held {j : Nat} (hheld : s.heldEntry h.ring h.seq = some j) : s.verdict i h c = .duplicate j := by
  simp only [State.verdict, hold, hheld, Bool.not_false, if_true]

end

section
variable (hnew : seqNewer h.seq (s.ring h.ring).lastSeq = true) (hgrid : c.grid = none)
include hnew hgrid

theorem verdict_of_badLength (hplen : h.plen ≠ c.plen) : s.verdict i h c = .refuse 0x0102 0 := by
  simp only [State.verdict, hnew, hgrid, Bool.not_true, Bool.false_eq_true, if_false, if_pos hplen]

variable (hplen : h.plen = c.plen)
include hplen

theorem verdict_of_reservedHeader (hrsv : h.rsvHdr = true ∨ h.opt &&& ~~~c.optMask ≠ 0) :
    s.verdict i h c = .refuse 0x0103 (Config.freeWord s.sys.freshCount).toNat := by
  have hset : (h.rsvHdr || (h.opt &&& ~~~c.optMask) ≠ 0) = true := by simpa using hrsv
  simp only [State.verdict, hnew, hgrid, Bool.not_true, Bool.false_eq_true, if_false, not_not.2 hplen, if_pos hset]

variable (hclear : h.rsvHdr = false) (hopt : h.opt &&& ~~~c.optMask = 0)
include hclear hopt

theorem verdict_of_reservedParam {off : Nat} (hrsv : h.rsvAt = some off) : s.verdict i h c = .refuse 0x0103 off := by
  simp only [State.verdict, hnew, hgrid, Bool.not_true, Bool.false_eq_true, if_false, not_not.2 hplen, hclear, not_not.2 hopt, decide_false,
    Bool.or_self, hrsv]

theorem verdict_of_firstBad {st r : Nat} (hrsv : h.rsvAt = none)
    (hbad : firstBad (c.params ++ s.deviceState i c.opcode h.ring ++ c.states ++ c.late) = some (st, r)) : s.verdict i h c = .refuse st r := by
  simp only [State.verdict, hnew, hgrid, Bool.not_true, Bool.false_eq_true, if_false, not_not.2 hplen, hclear, not_not.2 hopt, decide_false,
    Bool.or_self, hrsv, hbad]

end

theorem submit_of_duplicate {j : Nat} (hfetch : s.canFetch h.ring c.opcode = true) (hdup : s.verdict i h c = .duplicate j) :
    s.submit i h c = if (s.entry j).state = 2 ∧ (s.entry j).posted = true then s.answer h.ring (s.entry j).completion
      else ((s.passEntry h.ring).writeStatus h.ring).modEntry j fun e => { e with owed := e.owed + 1 } := by
  simp only [State.submit, hfetch, Bool.not_true, Bool.false_eq_true, if_false, hdup, Bool.and_eq_true, decide_eq_true_eq]

end

/-- But for the three grid operations, no ring command belongs to a series of targets, and each is submitted and no more (R102, R278). -/
theorem exec_of_no_tseq {s : State} {i : Instr} {c : CmdSpec} (hspec : s.specOf i = some c) (htarget : c.opcode ≠ 0x0200)
    (hpark : c.opcode ≠ 0x0203) (hunpark : c.opcode ≠ 0x0204) : c.grid = none ∧ exec i s = .next (s.submit i (hdrOf i) c) := by
  cases i
  case gridSetTarget => exact absurd (Option.some.inj (specOf_opcode hspec)).symm htarget
  case gridPark => exact absurd (Option.some.inj (specOf_opcode hspec)).symm hpark
  case gridUnpark => exact absurd (Option.some.inj (specOf_opcode hspec)).symm hunpark
  all_goals cases hspec <;> exact ⟨rfl, rfl⟩

/-! ### O5, O6 and O7 -/

/-- Settles O5: a command whose verdict is to accept is submitted, and what its submission leaves is an acceptance. -/
theorem ringCommandAccepted : Obligations.RingCommandAccepted := by
  unfold Obligations.RingCommandAccepted
  exact fun _ _ _ hspec hfetch haccept => ⟨_, exec_of_accept hspec haccept, submit_accept hfetch haccept⟩

/-- Settles O6: the verdict's checks in their order, each with the refusal that it gives. -/
theorem ringCommandRefused : Obligations.RingCommandRefused := by
  unfold Obligations.RingCommandRefused
  intro i s c hspec htarget hpark hunpark h refused
  obtain ⟨hgrid, hexec⟩ := exec_of_no_tseq hspec htarget hpark hunpark
  refine ⟨fun hno => by rw [hexec, submit_of_not_fetched hno], fun hfetch => ?_⟩
  have hrefused : ∀ {st r : Nat}, s.verdict i h c = .refuse st r → exec i s = refused st (BitVec.ofNat 64 r) :=
    fun hverdict => hexec.trans (congrArg Host.Outcome.next (submit_of_refused hfetch hverdict))
  refine ⟨fun hold hnone => hrefused (verdict_of_stale hold hnone), fun hnew => ⟨fun hplen => hrefused (verdict_of_badLength hnew hgrid hplen),
    fun hplen => ⟨fun hrsv => ?header, fun hclear hopt => ⟨fun off hrsv => hrefused (verdict_of_reservedParam hnew hgrid hplen hclear hopt hrsv),
      fun st r hrsv hbad => hrefused (verdict_of_firstBad hnew hgrid hplen hclear hopt hrsv hbad)⟩⟩⟩⟩
  case header =>
    rw [hrefused (verdict_of_reservedHeader hnew hgrid hplen hrsv), BitVec.ofNat_toNat, BitVec.setWidth_eq]

/-- Settles O7: the verdict on a held SEQ is a duplicate, answered by whether its entry's completion is posted. -/
theorem duplicateAnswered : Obligations.DuplicateAnswered := by
  unfold Obligations.DuplicateAnswered
  intro i s c j hspec htarget hpark hunpark h hfetch hold hheld
  have hexec := (exec_of_no_tseq hspec htarget hpark hunpark).2
  rw [hexec, submit_of_duplicate hfetch (verdict_of_held hold hheld)]
  exact ⟨fun hposted => by rw [if_pos hposted], fun hopen => by rw [if_neg hopen]⟩

/-! ### Entries that take effect (R235, R237, R461) -/

theorem entryDue_iff {s : State} {j : Nat} : s.entryDue j = true ↔
    (s.entry j).state = 1 ∧ (s.entry j).applied = false ∧ (s.entry j).acked = true ∧ (s.entry j).applyDwn ≤ s.dwn := by
  simp only [State.entryDue, Bool.and_eq_true, decide_eq_true_eq, Bool.not_eq_true', and_assoc]

theorem applyEntry_of_not_due {s : State} {j : Nat} (hwaits : s.entryDue j = false) : s.applyEntry j = s := by
  simp only [State.applyEntry, hwaits, Bool.not_false, if_true]

theorem applyEntry_change {u : State} {j : Nat} {c : Change} (hdue : u.entryDue j = true) (hbody : (u.entry j).body = .change c) :
    u.applyEntry j = (u.modEntry j fun e => { e with applied := true }).applyChange j c := by
  simp only [State.applyEntry, hdue, Bool.not_true, Bool.false_eq_true, if_false, hbody]

theorem applyEntry_nothing {u : State} {j : Nat} (hdue : u.entryDue j = true) (hbody : (u.entry j).body = .nothing) :
    u.applyEntry j = (u.modEntry j fun e => { e with applied := true }).ok j := by
  simp only [State.applyEntry, hdue, Bool.not_true, Bool.false_eq_true, if_false, hbody]

/-- With no bay in Fallow mode, the entries that take effect stand in the journal's order, and each is due. -/
theorem dueEntries_of_no_fallow {s : State} (hnone : ∀ n, s.fallowServes n = false) :
    s.dueEntries.Sublist (s.own.journal.entries.map Prod.fst) ∧ ∀ j ∈ s.dueEntries, s.entryDue j = true := by
  simp only [State.dueEntries, hnone, Bool.and_false, List.filter_false, List.map_nil, List.append_nil]
  split
  · refine ⟨(List.takeWhile_sublist _).trans ((List.filter_sublist.map _).trans ?_), fun j hj => List.mem_takeWhile_imp hj⟩
    rw [List.map_map]
    exact List.filter_sublist.map _
  · exact ⟨List.nil_sublist _, fun j hj => absurd hj List.not_mem_nil⟩

/-! ### O8 -/

/-- Settles O8: the entries that take effect are a run of the journal's own order, and each by what it carries. -/
theorem entriesTakeEffectInOrder : Obligations.EntriesTakeEffectInOrder := by
  unfold Obligations.EntriesTakeEffectInOrder
  refine ⟨fun _ => rfl, ?order, fun _ _ hwaits => applyEntry_of_not_due hwaits, ?effect⟩
  case order =>
    intro s hrising hnone
    obtain ⟨hsub, hdue⟩ := dueEntries_of_no_fallow hnone
    exact ⟨(List.pairwise_map.2 hrising).sublist hsub, fun j hj => entryDue_iff.1 (hdue j hj)⟩
  case effect =>
    intro s j hdue t
    exact ⟨fun hbody => applyEntry_nothing hdue hbody, fun _ _ hbody => applyEntry_change hdue hbody, fun hbody => applyEntry_change hdue hbody⟩

end Sys2Proof.Machine

/-!
SUPPORT. Completions and fetches (R236, R238, R254 to R264, R269, R272): the fetch of a ring's entries, the first posting of a completion, the
reports of keeper steps; from them O20.
-/
namespace Sys2Proof.Machine
open Sys2Proof

/-! ### Fetches (R260, R261) -/

/-- Fetched from a ring, a ring command runs as it does on its own. -/
theorem runCommand_of_opcode {i : Instr} {s : State} (hring : opcodeOf i ≠ none) : runCommand i s = exec i s := by
  cases i <;> simp only [opcodeOf, ne_eq, reduceCtorEq, not_true_eq_false, not_false_eq_true] at hring <;> rfl

theorem exec_of_opcode {i : Instr} {s : State} (hring : opcodeOf i ≠ none) : ∃ t, exec i s = .next t := by
  cases i <;> simp only [opcodeOf, ne_eq, reduceCtorEq, not_true_eq_false, not_false_eq_true] at hring <;> exact ⟨_, rfl⟩

theorem exec_commandFetch_of_turn {s : State} {ring : Nat} (hturn : s.mayFetch ring = true) (es : List RawEntry) :
    exec (.commandFetch ring es) s = .next ((fetchEntries ring (es.take 8) s).noteFetch ring) :=
  congrArg Host.Outcome.next (if_pos hturn)

section
variable {s : State} {ring : Nat} {e : RawEntry} (hfetch : s.canFetch ring 0x0D01 = true)
include hfetch

theorem fetchEntries_of_poisoned (hpoison : e.poisoned = true) (es : List RawEntry) : fetchEntries ring (e :: es) s = s.poisonedRead ring := by
  simp only [fetchEntries, hfetch, hpoison, Bool.not_true, Bool.false_eq_true, if_false, if_true]

theorem fetchEntries_singleton {i : Instr} (hgood : e.poisoned = false) (hdecode : decodeCommand ring e = some i) :
    fetchEntries ring [e] s = nextOf (runCommand i (s.modRing ring fun r => { r with poisonReads := 0 }))
      (s.modRing ring fun r => { r with poisonReads := 0 }) := by
  simp only [fetchEntries, hfetch, hgood, hdecode, Bool.not_true, Bool.false_eq_true, if_false]

end

/-! ### The first posting of a completion (R254, R256, R264) -/

@[simp] theorem modEntry_ring (s : State) (j : Nat) (f : Entry → Entry) (n : Nat) : (s.modEntry j f).ring n = s.ring n := rfl

@[simp] theorem modRing_entry (s : State) (n : Nat) (f : Ring → Ring) (j : Nat) : (s.modRing n f).entry j = s.entry j := rfl

theorem drainRing_of_not_draining {s : State} {n : Nat} (hlive : (s.ring n).state ≠ .draining) : s.drainRing n = s := if_neg (by simp [hlive])

theorem fallowCommitted_only (s : State) (e : Entry) : OnlyParts [.loft] s (s.fallowCommitted e) := by
  unfold State.fallowCommitted
  split
  · exact .ite (modUpd_only _ _) (.refl _ _)
  · exact .refl _ _

theorem fallowCommitted_entry (s : State) (e : Entry) (j : Nat) : (s.fallowCommitted e).entry j = s.entry j := by
  unfold State.entry
  rw [fallowCommitted_only _ _ .own (by decide)]

theorem fallowCommitted_ring (s : State) (e : Entry) (n : Nat) : (s.fallowCommitted e).ring n = s.ring n := by
  unfold State.ring
  rw [fallowCommitted_only _ _ .host (by decide)]

/-- The completion of an entry stands on its completion ring, the entry is marked posted there, and its ring has one open command less. -/
def State.postedOn (s : State) (j : Nat) : State :=
  let n := (s.entry j).ring
  let c := (s.ring n).desc.peer
  ((s.ringWrite c (s.entry j).completion).modEntry j fun e =>
    { e with posted := true, bufOut := [], compIdx := some (s.ring c).ctrlIdx, owed := if e.posted then e.owed - 1 else e.owed }).modRing n
      fun r => { r with fetchedOpen := r.fetchedOpen - 1 }

theorem postedOn_only (s : State) (j : Nat) : OnlyParts [.own, .host, .out] s (s.postedOn j) :=
  ((ringWrite_only _ _ _).mono (by simp)).trans (((modEntry_only _ _ _).mono (by simp)).trans ((modRing_only _ _ _).mono (by simp)))

theorem postedOn_entry (s : State) (j : Nat) : ((s.postedOn j).entry j).posted = true ∧
    ((s.postedOn j).entry j).compIdx = some (s.ring (s.ring (s.entry j).ring).desc.peer).ctrlIdx := by
  rw [State.postedOn, modRing_entry, modEntry_same]
  exact ⟨rfl, rfl⟩

section
variable {s : State} {j : Nat} (hpeer : (s.ring (s.entry j).ring).desc.peer ≠ (s.entry j).ring)
include hpeer

theorem postedOn_ring : (s.postedOn j).ring (s.entry j).ring =
    { s.ring (s.entry j).ring with fetchedOpen := (s.ring (s.entry j).ring).fetchedOpen - 1 } := by
  rw [State.postedOn, modRing_same, modEntry_ring, ringWrite_ring _ _ _ _ hpeer.symm]

theorem postedOn_peer_ctrlIdx : ((s.postedOn j).ring (s.ring (s.entry j).ring).desc.peer).ctrlIdx =
    (s.ring (s.ring (s.entry j).ring).desc.peer).ctrlIdx + 1 := by
  rw [State.postedOn, modRing_ne _ _ _ _ hpeer, modEntry_ring, ringWrite_ctrlIdx]

/-- A finished entry not yet posted, with no output buffer, on a ring that does not drain. -/
theorem postCompletion_of_first (hkind : (s.entry j).kind = 0) (hstate : (s.entry j).state = 2) (hposted : (s.entry j).posted = false)
    (hout : (s.entry j).bufOut = []) (hroom : s.ringRoom (s.ring (s.entry j).ring).desc.peer = true)
    (hlive : (s.ring (s.entry j).ring).state ≠ .draining) : s.postCompletion j true = (s.postedOn j).fallowCommitted (s.entry j) := by
  have hkept : (((s.postedOn j).fallowCommitted (s.entry j)).ring (s.entry j).ring).state ≠ .draining := by
    rw [fallowCommitted_ring, postedOn_ring hpeer]
    exact hlive
  rw [← drainRing_of_not_draining hkept]
  simp only [State.postCompletion, Bool.true_or, if_true, hkind, hstate, hposted, hout, hroom, decide_true, Bool.not_false, Bool.and_self,
    List.foldl_nil, Bool.false_eq_true, if_false]
  rfl

end

/-! ### Reports of keeper steps (R238, R281) -/

section
variable {s : State} {j : Nat} (hheld : (s.entry j).state = 1) (hdue : (s.entry j).stepsDue ≠ 0)
include hheld hdue

theorem exec_keeperStepReport_start (ok : Bool) : exec (.keeperStepReport j false ok) s =
    .next (s.modEntry j fun e => { e with stepStarted := max e.stepStarted 1 }) := by
  show execKeeperStepReport j false ok s = _
  simp only [execKeeperStepReport, hheld, hdue, ne_eq, not_true_eq_false, decide_false, Bool.or_self, Bool.not_false, Bool.false_eq_true,
    if_false, if_true]

theorem exec_keeperStepReport_failed : exec (.keeperStepReport j true false) s =
    .next ((s.modEntry j fun e => { e with stepsDue := 0, stepStarted := 1 }).complete j 0x0503 [0xFF]) := by
  show execKeeperStepReport j true false s = _
  simp only [execKeeperStepReport, hheld, hdue, ne_eq, not_true_eq_false, decide_false, Bool.or_self, Bool.not_true, Bool.not_false,
    Bool.false_eq_true, if_false, if_true]

end

/-! ### O20 -/

/-- Settles O20: each fetch, posting, report and ring event meets one branch of its row. -/
theorem completionsAndFetches : Obligations.CompletionsAndFetches := by
  unfold Obligations.CompletionsAndFetches
  refine ⟨?fetch, ?poisoned, ?post, fun _ ok _ hheld hdue => exec_keeperStepReport_start hheld hdue ok,
    fun _ _ hheld hdue => exec_keeperStepReport_failed hheld hdue, ?coalesced, fun _ _ => rfl, ?dmaPoisoned⟩
  case fetch =>
    intro ring e i s hturn hfetch hgood hdecode hring
    obtain ⟨t, hnext⟩ := exec_of_opcode (s := s.modRing ring fun r => { r with poisonReads := 0 }) hring
    refine ⟨t, hnext, (exec_commandFetch_of_turn hturn [e]).trans ?_⟩
    rw [List.take_of_length_le (by simp), fetchEntries_singleton hfetch hgood hdecode, runCommand_of_opcode hring, hnext, nextOf]
  case poisoned =>
    intro ring e es s hturn hfetch hpoison
    rw [exec_commandFetch_of_turn hturn, List.take_succ_cons, fetchEntries_of_poisoned hfetch hpoison]
  case post =>
    intro j s hkind hstate hposted hout hroom hlive hpeer
    have hloft : OnlyParts [.loft] (s.postedOn j) ((s.postedOn j).fallowCommitted (s.entry j)) := fallowCommitted_only _ _
    refine ⟨_, congrArg Host.Outcome.next (postCompletion_of_first hpeer hkind hstate hposted hout hroom hlive), ?_⟩
    dsimp only
    rw [fallowCommitted_entry, fallowCommitted_ring, fallowCommitted_ring, postedOn_ring hpeer, postedOn_peer_ctrlIdx hpeer, hloft .out (by decide)]
    obtain ⟨hmarked, hindex⟩ := postedOn_entry s j
    exact ⟨hmarked, hindex, rfl, rfl, ((postedOn_only s j).mono (by simp)).trans (hloft.mono (by simp)),
      fun e hcarrier => ringWrite_out s _ e _ hcarrier⟩
  case coalesced =>
    intro ring s hirq hkind hwaiting hpast
    exact congrArg Host.Outcome.next (if_pos (by simp [hirq, hkind, hwaiting, passed_of hpast]))
  case dmaPoisoned => exact fun _ _ hactive hkind => congrArg Host.Outcome.next ((if_pos rfl).trans (if_pos (by simp [hactive, hkind])))

end Sys2Proof.Machine

/-!
SUPPORT. The update, log, port, calibration and bay commands (R291 to R294, R355, R430, R431, R452 to R467): the checks that each passes and what
it does at its window; from them O18 and O19.
-/
namespace Sys2Proof.Machine
open Sys2Proof

/-! ### The update commands' checks (R291, R452 to R454) -/

/-- No push that a bay in Fallow mode asked for brings in an image of a kind that is free (R452, R463). -/
theorem firstBad_specUpdBegin {h : CmdHdr} {kind len : Nat} {s : State} (hkind : kind < 2) (hlen : len ≤ slotSize kind)
    (hidle : s.updating kind = false) (hpush : kind ≠ 0 ∨ s.fab.fab.offerTaken = none) (hfree : (s.freeSlot kind).isSome = true) :
    let c := specUpdBegin h kind len s
    firstBad (c.params ++ c.states ++ c.late) = none := by
  have hquiet : (decide (kind = 0) && s.fab.fab.offerTaken.isSome) = false := by
    obtain hfirmware | hnone := hpush
    · rw [decide_eq_false hfirmware, Bool.false_and]
    · rw [hnone, Option.isSome_none, Bool.and_false]
  exact firstBad_cons_none (inRange_passes 0 (decide_eq_true hkind)) (firstBad_cons_none (inRange_passes 4 (decide_eq_true hlen))
    (firstBad_cons_none (check_passes _ _ (by rw [hidle, hquiet]; rfl)) (firstBad_cons_none (check_passes _ _ hfree) rfl)))

/-- Whole pages within LEN of a session, whose CRC-32C agrees. -/
theorem firstBad_specUpdBlock {h : CmdHdr} {offset blen buf n : Nat} {crc : Word32} {s : State} (hsession : s.sessionSlot h.ring = some n)
    (hpage : offset % 4096 = 0) (hend : offset + blen ≤ (s.slot n).len) (hlo : 4096 ≤ blen) (hhi : blen ≤ 1048576) (hwhole : blen % 4096 = 0)
    (halign : buf % 64 = 0) (hbuf : buf < 2 ^ 64) (hread : h.buf.isSome = true) (hcrc : crc32c ((h.buf.getD []).take blen) = crc) :
    let c := specUpdBlock h offset blen buf crc s
    firstBad (c.params ++ c.states ++ c.late) = none :=
  firstBad_cons_none (inRange_passes 0 (by simp [hpage, hsession, hend])) (firstBad_cons_none (check_passes _ _ (by simp [hlo, hhi, hwhole]))
    (firstBad_cons_none (bufAligned_passes halign hbuf) (firstBad_cons_none (rightState_passes 0 (by rw [hsession]; rfl))
      (firstBad_cons_none (check_passes _ _ hread) (firstBad_cons_none (joint_passes 16 (decide_eq_true hcrc)) rfl)))))

/-- Every page of a session's image has come, and an image that its hash proves can stand beside the varnished one. -/
theorem firstBad_specUpdCommit {h : CmdHdr} {hash n : Nat} {s : State} (hsession : s.sessionSlot h.ring = some n)
    (hcomplete : (s.slot n).complete = true) (hstands : kindOf n ≠ 0 ∨ hashOf (s.slot n).bytes ≠ hash ∨ s.canStand n = true) :
    let c := specUpdCommit h hash s
    firstBad (c.params ++ c.states ++ c.late) = none :=
  firstBad_cons_none (joint_passes 0 (by simpa [hsession, hcomplete, or_assoc] using hstands))
    (firstBad_cons_none (rightState_passes 0 (by rw [hsession]; rfl)) rfl)

/-! ### What the update commands do -/

/-- UPD_BLOCK becomes a keeper step while its session stands (R453). -/
theorem effUpdBlock_eq (j : Nat) (h : CmdHdr) (u : State) : effUpdBlock j h u =
    if (u.sessionSlot h.ring).isSome then u.modEntry j fun e => { e with stepsDue := 1 } else u.complete j 0x0504 [] := by
  unfold effUpdBlock
  cases u.sessionSlot h.ring <;> rfl

theorem finishUpdBlock_of_session {h : CmdHdr} {u : State} {n : Nat} (hsession : u.sessionSlot h.ring = some n) (j offset blen : Nat) :
    finishUpdBlock j h offset blen u =
      (u.modSlot n fun x => (x.write offset ((h.buf.getD []).take blen)).mark (offset / 4096) (blen / 4096)).ok j := by
  simp only [finishUpdBlock, hsession]

/-- The states of the four slots stand in four bits each (R449). -/
theorem slotStates_eq (u : State) : (List.range 4).foldl (fun a n => a + (u.slot n).state * 2 ^ (4 * n)) 0 =
    (u.slot 0).state + (u.slot 1).state * 2 ^ 4 + (u.slot 2).state * 2 ^ 8 + (u.slot 3).state * 2 ^ 12 := by simp [List.range_succ]

/-! ### O18 -/

/-- Settles O18: each command's checks pass by its premises, and its effect is its row's. -/
theorem updateCommands : Obligations.UpdateCommands := by
  unfold Obligations.UpdateCommands
  refine ⟨?begins, ?block, ?blockWritten, ?commit, ?confirm, ?lock, ?abort, ?status⟩
  case begins =>
    intro h kind len s hready hkind hlen hidle hpush hfree
    exact carries_of (c := specUpdBegin h kind len s) rfl hready rfl (firstBad_specUpdBegin hkind hlen hidle hpush hfree) fun _ _ => rfl
  case block =>
    intro h offset blen buf crc n s hready hsession hpage hend hlo hhi hwhole halign hbuf hread hcrc
    exact carries_of (c := specUpdBlock h offset blen buf crc s) rfl hready rfl
      (firstBad_specUpdBlock hsession hpage hend hlo hhi hwhole halign hbuf hread hcrc) fun j u => effUpdBlock_eq j h u
  case blockWritten =>
    intro h offset blen buf crc j n u hheld hdue hbody v hsession
    exact (exec_keeperStepReport_done hheld hdue hbody).trans (congrArg Host.Outcome.next (finishUpdBlock_of_session hsession j offset blen))
  case commit =>
    intro h hash n s hready hsession hcomplete hstands
    exact carries_of (c := specUpdCommit h hash s) rfl hready rfl (firstBad_specUpdCommit hsession hcomplete hstands) fun _ _ => rfl
  case confirm =>
    intro h kind s hready hkind himage
    exact carries_of_params_states (c := specUpdConfirm h kind s) rfl hready rfl rfl
      (firstBad_cons_none (inRange_passes 0 (decide_eq_true hkind)) rfl) (firstBad_cons_none (rightState_passes _ himage) rfl) fun _ _ => rfl
  case lock =>
    intro h lock s hready hlock
    exact carries_of_params (c := specUpdLock h lock s) rfl hready rfl rfl rfl (firstBad_cons_none (switchOk_passes 0 hlock) rfl) fun _ _ => rfl
  case abort =>
    intro h kind s hready hkind himage
    exact carries_of_params_states (c := specUpdAbort h kind s) rfl hready rfl rfl
      (firstBad_cons_none (inRange_passes 0 (decide_eq_true hkind)) rfl) (firstBad_cons_none (rightState_passes _ himage) rfl) fun _ _ => rfl
  case status =>
    intro h s hready
    exact carries_of_params (c := specUpdStatus h s) rfl hready rfl rfl rfl rfl
      fun j u => congrArg (fun n => u.complete j 0 [n, _, _]) (slotStates_eq u)

/-! ### The bays' commands (R242, R293) -/

/-- A standby that can take over lets BAY_HANDOVER pass. -/
theorem firstBad_specBayHandover_states {h : CmdHdr} {waitUs b : Nat} {s : State} (hserve : s.serving = some b)
    (hpeer : (s.bay (peer b)).bstate = .standby) : firstBad (specBayHandover h waitUs s).states = none := by
  simp only [specBayHandover, hserve, hpeer, decide_true]
  rfl

/-- Only the restart of the owner needs a standby peer. -/
theorem firstBad_specBayRestart_states {h : CmdHdr} {bay : Nat} {s : State}
    (hpeer : s.serving ≠ some bay ∨ (s.bay (peer bay)).bstate = .standby) : firstBad (specBayRestart h bay s).states = none := by
  refine firstBad_cons_none (rightState_passes _ ?_) rfl
  by_cases hserve : s.serving = some bay
  · simp [hserve, hpeer.resolve_left (not_not.2 hserve)]
  · simp [hserve]

/-! ### O19 -/

/-- Settles O19: each command's checks pass by its premises, and its effect is its row's. -/
theorem bayLogPortCommands : Obligations.BayLogPortCommands := by
  unfold Obligations.BayLogPortCommands
  refine ⟨?logRead, ?logStatus, ?twXfer, ?twConfig, ?calRead, ?calWrite, fun _ _ _ _ _ _ hheld hdue hbody =>
    exec_keeperStepReport_done hheld hdue hbody, ?bayStatus, ?bayHandover, ?bayConfig, ?bayRestart⟩
  case logRead =>
    intro h start count buf s hready hlo hhi halign hbuf
    exact carries_of_params (c := specLogRead h start count buf s) rfl hready rfl rfl rfl
      (firstBad_cons_none (inRange_passes 8 (within_of hlo hhi)) (firstBad_cons_none (bufAligned_passes halign hbuf) rfl)) fun _ _ => rfl
  case logStatus =>
    intro h s hready
    exact carries_of_params (c := specLogStatus h s) rfl hready rfl rfl rfl rfl fun _ _ => rfl
  case twXfer =>
    intro h port addr kind wlen rlen tout buf wdata s hready hport halign hbuf
    exact carries_of_params (c := specTwXfer h port addr kind wlen rlen tout buf wdata s) rfl hready rfl rfl rfl
      (firstBad_cons_none (inRange_passes 0 (decide_eq_true hport)) (firstBad_cons_none (check_passes _ _ (by simpa [halign] using hbuf)) rfl))
      fun _ _ => rfl
  case twConfig =>
    intro h port enable speed filter target s hready hport henable hspeed hfilter htarget hjoint
    exact carries_of_params (c := specTwConfig h port enable speed filter target s) rfl hready rfl rfl rfl
      (firstBad_cons_none (inRange_passes 0 (decide_eq_true hport)) (firstBad_cons_none (switchOk_passes 1 henable)
        (firstBad_cons_none (inRange_passes 2 (decide_eq_true hspeed)) (firstBad_cons_none (inRange_passes 3 (decide_eq_true hfilter))
          (firstBad_cons_none (inRange_passes 4 htarget) (firstBad_cons_none (joint_passes 3 (decide_eq_true hjoint)) rfl)))))) fun _ _ => rfl
  case calRead =>
    intro h offset len buf s hready hend halign hbuf
    exact carries_of_params (c := specCalRead h offset len buf s) rfl hready rfl rfl rfl
      (firstBad_cons_none (inRange_passes 0 (decide_eq_true (by omega))) (firstBad_cons_none (inRange_passes 4 (decide_eq_true hend))
        (firstBad_cons_none (bufAligned_passes halign hbuf) rfl))) fun _ _ => rfl
  case calWrite =>
    intro h offset len buf s hready hheader hend halign hbuf hconfirm hread horder
    exact carries_of (c := specCalWrite h offset len buf s) rfl hready rfl
      (firstBad_cons_none (inRange_passes 0 (decide_eq_true hheader)) (firstBad_cons_none (inRange_passes 4 (decide_eq_true hend))
        (firstBad_cons_none (bufAligned_passes halign hbuf) (firstBad_cons_none (check_passes _ _ hconfirm)
          (firstBad_cons_none (check_passes _ _ hread) (firstBad_cons_none (joint_passes 8 horder) rfl)))))) fun _ _ => rfl
  case bayStatus =>
    intro h s hready
    exact carries_of_params (c := specBayStatus h s) rfl hready rfl rfl rfl rfl fun _ _ => rfl
  case bayHandover =>
    intro h waitUs b s hready hlo hhi hserve hpeer
    exact carries_of_params_states (c := specBayHandover h waitUs s) rfl hready rfl rfl
      (firstBad_cons_none (inRange_passes 4 (within_of hlo hhi)) rfl) (firstBad_specBayHandover_states hserve hpeer) fun _ _ => rfl
  case bayConfig =>
    intro h item value s hready hitem hvalue
    exact carries_of_params (c := specBayConfig h item value s) rfl hready rfl rfl rfl
      (firstBad_cons_none (inRange_passes 0 (decide_eq_true hitem)) (firstBad_cons_none (inRange_passes 4 hvalue) rfl)) fun _ _ => rfl
  case bayRestart =>
    intro h bay s hready hbay hpeer
    exact carries_of_params_states (c := specBayRestart h bay s) rfl hready rfl rfl
      (firstBad_cons_none (inRange_passes 0 (decide_eq_true hbay)) rfl) (firstBad_specBayRestart_states hpeer) fun _ _ => rfl

end Sys2Proof.Machine

/-!
SUPPORT. The admin commands (R253 to R260, R266, R283, R447): the checks on the rings that they name, and from them O9.
-/
namespace Sys2Proof.Machine
open Sys2Proof

/-! ### Checks on rings (R253, R258 to R260) -/

theorem ringExists_passes {ring : Nat} (hring : ring < 32768) : (ringExists ring).bad = false := exists_passes 0 (decide_eq_true hring)

theorem ringNamed_passes {ring : Nat} (hlo : 2 ≤ ring) (hhi : ring < 32768) : (ringNamed ring).bad = false :=
  exists_passes 0 (by rw [decide_eq_true hlo, decide_eq_true hhi]; rfl)

/-- A descriptor that keeps R258, for a ring that is none of the admin rings; only a command ring needs a free completion ring. -/
theorem firstBad_specAdmRingCreate_params {h : CmdHdr} {ring : Nat} {desc : RingDesc} {s : State} (hdesc : descBadAt desc = none)
    (hlo : 2 ≤ ring) (hhi : ring < 32768) (hpeer : desc.kind ≠ 0 ∨ s.peerFree (ringKey h.ring desc.peer) = true) :
    firstBad (specAdmRingCreate h ring desc s).params = none :=
  firstBad_cons_none (inRange_passes _ (by rw [hdesc]; rfl)) (firstBad_cons_none (ringNamed_passes hlo hhi)
    (firstBad_cons_none (joint_passes 24 (by simpa only [Bool.or_eq_true, decide_eq_true_eq] using hpeer)) rfl))

/-! ### O9 -/

/-- Settles O9: each command's checks pass by its premises, and its effect is its row's. -/
theorem adminCommands : Obligations.AdminCommands := by
  unfold Obligations.AdminCommands
  refine ⟨?nop, ?create, ?delete, ?reset, ?query, ?subscribe, ?health, ?entropy⟩
  case nop =>
    intro h s hready
    exact carries_of_params (c := specAdmNop h s) rfl hready rfl rfl rfl rfl fun _ _ => rfl
  case create =>
    intro h ring desc s hready hdesc hlo hhi hdisabled hpeer
    exact carries_of_params_states (c := specAdmRingCreate h ring desc s) rfl hready rfl rfl
      (firstBad_specAdmRingCreate_params hdesc hlo hhi hpeer)
      (firstBad_cons_none (rightState_passes _ (decide_eq_true hdisabled)) rfl) fun _ _ => rfl
  case delete =>
    intro h ring s hready hlo hhi hdeletable
    exact carries_of_params_states (c := specAdmRingDelete h ring s) rfl hready rfl rfl
      (firstBad_cons_none (ringNamed_passes hlo hhi) rfl) (firstBad_cons_none (rightState_passes _ hdeletable) rfl) fun _ _ => rfl
  case reset =>
    intro h ring s hready hring hstopped
    exact carries_of_params_states (c := specAdmRingReset h ring s) rfl hready rfl rfl
      (firstBad_cons_none (ringExists_passes hring) rfl) (firstBad_cons_none (rightState_passes _ (decide_eq_true hstopped)) rfl) fun _ _ => rfl
  case query =>
    intro h ring buf s hready halign hbuf hring
    exact carries_of_params (c := specAdmRingQuery h ring buf s) rfl hready rfl rfl rfl
      (firstBad_cons_none (bufAligned_passes halign hbuf) (firstBad_cons_none (ringExists_passes hring) rfl)) fun _ _ => rfl
  case subscribe =>
    intro h ring subs minSev s hready hsev hring
    exact carries_of_params (c := specAdmRingSubscribe h ring subs minSev s) rfl hready rfl rfl rfl
      (firstBad_cons_none (inRange_passes 8 (decide_eq_true hsev)) (firstBad_cons_none (ringExists_passes hring) rfl)) fun _ _ => rfl
  case health =>
    intro h s hready
    exact carries_of_params (c := specAdmHealth h s) rfl hready rfl rfl rfl rfl fun _ _ => rfl
  case entropy =>
    intro h bytes s hready hlo hhi
    exact carries_of_params (c := specAdmEntropy h bytes s) rfl hready rfl rfl rfl
      (firstBad_cons_none (inRange_passes 0 (within_of hlo hhi)) rfl) fun _ _ => rfl

end Sys2Proof.Machine

/-!
SUPPORT. The rows of the ring commands (R283 to R291): which commands have one, and from it O4.
-/
namespace Sys2Proof.Machine
open Sys2Proof

/-- A command without a row of checks carries no OPCODE either. -/
theorem opcodeOf_of_no_row {s : State} {i : Instr} (hnone : s.specOf i = none) : opcodeOf i = none := by
  cases i <;> simp only [State.specOf, reduceCtorEq] at hnone <;> rfl

/-- Settles O4: a command with a row carries the row's OPCODE, and one without a row carries none. -/
theorem ringCommandOpcodes : Obligations.RingCommandOpcodes := by
  unfold Obligations.RingCommandOpcodes
  intro s i
  cases hrow : s.specOf i with
  | none => exact (opcodeOf_of_no_row hrow).symm
  | some c => exact (specOf_opcode hrow).symm

end Sys2Proof.Machine

/-!
SUPPORT. The cooling commands (R287, R389 to R408): the checks that each passes, and from them O12.
-/
namespace Sys2Proof.Machine
open Sys2Proof

/-! ### Checks (R287, R408) -/

/-- COOL_SET_SENSOR of a point that exists, with a buffer that lists points that exist. -/
theorem firstBad_specCoolSetSensor {h : CmdHdr} {point zone n buf blen : Nat} {thresh : Int} {s : State} (hzone : zone < 16) (hnLo : 1 ≤ n)
    (hnHi : n ≤ 255) (hthreshLo : 64 ≤ thresh) (hthreshHi : thresh ≤ 6400) (halign : buf % 64 = 0) (hbuf : buf < 2 ^ 64) (hlenLo : 2 ≤ blen)
    (hlenHi : blen ≤ 32) (heven : blen % 2 = 0) (hpoint : pointExists point = true) (hread : h.buf.isSome = true)
    (hneighbours : (neighbourPoints (h.buf.getD []) blen).all pointExists = true) :
    let c := specCoolSetSensor h point zone n thresh buf blen s
    firstBad (c.params ++ c.states ++ c.late) = none :=
  firstBad_cons_none (inRange_passes 2 (decide_eq_true hzone)) (firstBad_cons_none (inRange_passes 3 (within_of hnLo hnHi))
    (firstBad_cons_none (inRange_passes 4 (by rw [decide_eq_true hthreshLo, decide_eq_true hthreshHi]; rfl))
      (firstBad_cons_none (bufAligned_passes halign hbuf)
        (firstBad_cons_none (check_passes _ _ (by rw [within_of hlenLo hlenHi, decide_eq_true heven]; rfl))
          (firstBad_cons_none (exists_passes 0 hpoint) (firstBad_cons_none (check_passes _ _ hread)
            (firstBad_cons_none (exists_passes 8 hneighbours) rfl)))))))

/-- A limit that depends on the kind of an input holds where it holds for each kind. -/
theorem limit_of_kinds {channel : Nat} {leak flow other : Bool} (hleak : isLeak channel = true → leak = true)
    (hflow : isLeak channel = false → isFlow channel = true → flow = true)
    (hother : isLeak channel = false → isFlow channel = false → other = true) :
    (if isLeak channel then leak else if isFlow channel then flow else other) = true := by
  split
  next hisLeak => exact hleak hisLeak
  next hnotLeak =>
    have hk := Bool.eq_false_iff.2 hnotLeak
    split
    next hisFlow => exact hflow hk hisFlow
    next hnotFlow => exact hother hk (Bool.eq_false_iff.2 hnotFlow)

theorem or_within_of (a : Bool) {lo v hi : Nat} (hlo : lo ≤ v) (hhi : v ≤ hi) : (a || (decide (lo ≤ v) && decide (v ≤ hi))) = true := by
  rw [within_of hlo hhi, Bool.or_true]

/-- COOL_SET_INPUT of an input, each of the three kinds with its own limits. -/
theorem firstBad_specCoolSetInput {h : CmdHdr} {channel filter stuck chatter : Nat} {s : State} (hinput : isInput channel = true)
    (hleak : isLeak channel = true →
      100 ≤ filter ∧ filter ≤ 1000000 ∧ 1000000 ≤ stuck ∧ stuck ≤ 86400000000 ∧ 1 ≤ chatter ∧ chatter ≤ 1000)
    (hflow : isLeak channel = false → isFlow channel = true → 10000 ≤ filter ∧ filter ≤ 1000000 ∧ 10 ≤ chatter ∧ chatter ≤ 10000)
    (hother : isLeak channel = false → isFlow channel = false →
      1 ≤ filter ∧ filter ≤ 100000 ∧ 10000 ≤ stuck ∧ stuck ≤ 86400000000 ∧ 1 ≤ chatter ∧ chatter ≤ 100000) :
    firstBad (specCoolSetInput h channel filter stuck chatter s).params = none := by
  have hfilter := limit_of_kinds (fun hk => let ⟨hlo, hhi, _⟩ := hleak hk; within_of hlo hhi)
    (fun hk hf => let ⟨hlo, hhi, _⟩ := hflow hk hf; within_of hlo hhi)
    fun hk hf => let ⟨hlo, hhi, _⟩ := hother hk hf; or_within_of (!isInput channel) hlo hhi
  have hstuck := limit_of_kinds (fun hk => let ⟨_, _, hlo, hhi, _⟩ := hleak hk; within_of hlo hhi) (fun _ _ => rfl)
    fun hk hf => let ⟨_, _, hlo, hhi, _⟩ := hother hk hf; or_within_of (!isInput channel) hlo hhi
  have hchatter := limit_of_kinds (fun hk => let ⟨_, _, _, _, hlo, hhi⟩ := hleak hk; within_of hlo hhi)
    (fun hk hf => let ⟨_, _, hlo, hhi⟩ := hflow hk hf; within_of hlo hhi)
    fun hk hf => let ⟨_, _, _, _, hlo, hhi⟩ := hother hk hf; or_within_of (!isInput channel) hlo hhi
  exact firstBad_cons_none (inRange_passes 4 hfilter) (firstBad_cons_none (inRange_passes 8 hstuck)
    (firstBad_cons_none (inRange_passes 12 hchatter) (firstBad_cons_none (exists_passes 0 hinput) rfl)))

/-! ### O12 -/

/-- Settles O12: each command's checks pass by its premises, and its effect is its row's. -/
theorem coolingCommands : Obligations.CoolingCommands := by
  unfold Obligations.CoolingCommands
  refine ⟨?zone, ?sensor, ?drive, ?valve, ?input, ?status⟩
  case zone =>
    intro h zone pumps fans slots target trip s hready hzone hpumps htargetLo htargetHi htripLo htripHi
    exact carries_of_params (c := specCoolSetZone h zone pumps target trip s) rfl hready rfl rfl rfl
      (firstBad_cons_none (inRange_passes 0 (decide_eq_true hzone)) (firstBad_cons_none (inRange_passes 1 (decide_eq_true hpumps))
        (firstBad_cons_none (inRange_passes 8 (by rw [decide_eq_true htargetLo, decide_eq_true htargetHi]; rfl))
          (firstBad_cons_none (inRange_passes 12 (by rw [decide_eq_true htripLo, decide_eq_true htripHi]; rfl)) rfl)))) fun _ _ => rfl
  case sensor =>
    intro h point zone n thresh buf blen s hready hzone hnLo hnHi hthreshLo hthreshHi halign hbuf hlenLo hlenHi heven hpoint hread hneighbours
    exact carries_of (c := specCoolSetSensor h point zone n thresh buf blen s) rfl hready rfl
      (firstBad_specCoolSetSensor hzone hnLo hnHi hthreshLo hthreshHi halign hbuf hlenLo hlenHi heven hpoint hread hneighbours) fun _ _ => rfl
  case drive =>
    intro h channel mode drive s hready hmode hdrive hchannel
    exact carries_of_params (c := specCoolSetDrive h channel mode drive s) rfl hready rfl rfl rfl
      (firstBad_cons_none (inRange_passes 2 (decide_eq_true hmode)) (firstBad_cons_none (inRange_passes 4 (decide_eq_true hdrive))
        (firstBad_cons_none (exists_passes 0 hchannel) rfl))) fun _ _ => rfl
  case valve =>
    intro h channel on s hready hon hvalve hnoLeak
    exact carries_of_params_states (c := specCoolSetValve h channel on s) rfl hready rfl rfl
      (firstBad_cons_none (switchOk_passes 2 hon) (firstBad_cons_none (exists_passes 0 hvalve) rfl))
      (firstBad_cons_none (rightState_passes _ (by simpa [imp_iff_not_or] using hnoLeak)) rfl) fun _ _ => rfl
  case input =>
    intro h channel filter stuck chatter s hready hinput hleak hflow hother
    exact carries_of_params (c := specCoolSetInput h channel filter stuck chatter s) rfl hready rfl rfl rfl
      (firstBad_specCoolSetInput hinput hleak hflow hother) fun _ _ => rfl
  case status =>
    intro h buf s hready halign hbuf
    exact carries_of_params (c := specCoolStatus h buf s) rfl hready rfl rfl rfl
      (firstBad_cons_none (bufAligned_passes halign hbuf) rfl) fun _ _ => rfl

end Sys2Proof.Machine

/-!
SUPPORT. The power commands (R287, R333 to R341, R364 to R385): the checks that each passes, and from them O13.
-/
namespace Sys2Proof.Machine
open Sys2Proof

/-! ### Checks (R287, R366, R385) -/

/-- PWR_SET_TRIP of a branch or a feed, each with its own limits. -/
theorem firstBad_specPwrSetTrip {h : CmdHdr} {channel thresh retries : Nat} {s : State} (hpower : isPower channel = true)
    (hretries : retries ≤ 7) (hfeed : isFeed channel = true → 600 ≤ thresh ∧ thresh ≤ 1000)
    (hbranch : isFeed channel = false → 80 ≤ thresh ∧ thresh ≤ 160) : firstBad (specPwrSetTrip h channel thresh retries s).params = none := by
  refine firstBad_cons_none (inRange_passes 4 ?_)
    (firstBad_cons_none (inRange_passes 8 (decide_eq_true hretries)) (firstBad_cons_none (exists_passes 0 hpower) rfl))
  split
  next hisFeed =>
    obtain ⟨hlo, hhi⟩ := hfeed hisFeed
    exact within_of hlo hhi
  next hnotFeed =>
    obtain ⟨hlo, hhi⟩ := hbranch (Bool.eq_false_iff.2 hnotFeed)
    exact or_within_of _ hlo hhi

/-- A slot that is not parked, with its branch neither tripped nor latched off and no thermal hold, may have it closed (R287, R395). -/
theorem firstBad_specPwrBranch_on_states {h : CmdHdr} {slot : Nat} {s : State} (hparked : s.parked slot = false)
    (htripped : (s.branch slot).cstate ≠ .tripped) (hlatched : (s.branch slot).cstate ≠ .latched) (hhold : (s.thermal slot).hold = 0) :
    firstBad (specPwrBranch h slot 1 s).states = none :=
  firstBad_cons_none (rightState_passes _ (by simp [hparked, htripped, hlatched, hhold])) rfl

/-! ### O13 -/

/-- Settles O13: each command's checks pass by its premises, and its effect is its row's; PWR_BRANCH on goes by the CSTATE of its branch. -/
theorem powerCommands : Obligations.PowerCommands := by
  unfold Obligations.PowerCommands
  refine ⟨?setTrip, ?resetTrip, ?branchOff, ?branchOn, ?setRail, ?railCtrl, ?setWarn, ?status⟩
  case setTrip =>
    intro h channel thresh retries s hready hpower hretries hfeed hbranch
    exact carries_of_params (c := specPwrSetTrip h channel thresh retries s) rfl hready rfl rfl rfl
      (firstBad_specPwrSetTrip hpower hretries hfeed hbranch) fun _ _ => rfl
  case resetTrip =>
    intro h channel s hready hpower hlatched
    exact carries_of_params_states (c := specPwrResetTrip h channel s) rfl hready rfl rfl
      (firstBad_cons_none (exists_passes 0 hpower) rfl) (firstBad_cons_none (rightState_passes _ (decide_eq_true hlatched)) rfl) fun _ _ => rfl
  case branchOff =>
    intro h slot s hready hslot hparked
    exact carries_of_params_states (c := specPwrBranch h slot 0 s) rfl hready rfl rfl
      (firstBad_cons_none (inRange_passes 0 (decide_eq_true hslot)) rfl)
      (firstBad_cons_none (rightState_passes _ (by rw [hparked]; rfl)) rfl) fun _ _ => rfl
  case branchOn =>
    intro h slot s hready hslot hparked htripped hlatched hhold
    refine carries_of_params_states (c := specPwrBranch h slot 1 s) rfl hready rfl rfl
      (firstBad_cons_none (inRange_passes 0 (decide_eq_true hslot)) rfl)
      (firstBad_specPwrBranch_on_states hparked htripped hlatched hhold) fun j u => ?_
    change effPwrBranch j slot 1 u = _
    simp only [effPwrBranch, one_ne_zero, if_false]
    cases u.own.latch.hold with
    | true => simp only [Bool.true_or, if_true]
    | false => cases (u.branch slot).cstate <;> simp only [Bool.false_or, Bool.false_eq_true, reduceCtorEq, if_true, if_false]
  case setRail =>
    intro h rail sheaf parents riseTimeout s hready hchecks
    obtain ⟨hparams, hstates⟩ := firstBad_none_append hchecks
    exact carries_of_params_states (c := specPwrSetRail h rail sheaf parents riseTimeout s) rfl hready rfl rfl hparams hstates fun _ _ => rfl
  case railCtrl =>
    intro h mask on s hready hon hkind hafter
    exact carries_of_params_states (c := specPwrRailCtrl h mask on s) rfl hready rfl rfl (firstBad_cons_none (switchOk_passes 8 hon) rfl)
      (firstBad_cons_none (check_passes _ _ (by rw [decide_eq_false hkind, hafter]; rfl)) rfl) fun _ _ => rfl
  case setWarn =>
    intro h feed thresh s hready hfeed hlo hhi
    exact carries_of_params (c := specPwrSetWarn h feed thresh s) rfl hready rfl rfl rfl
      (firstBad_cons_none (inRange_passes 0 (decide_eq_true hfeed))
        (firstBad_cons_none (inRange_passes 4 (by rw [decide_eq_true hlo, decide_eq_true hhi]; rfl)) rfl)) fun _ _ => rfl
  case status =>
    intro h buf s hready halign hbuf
    exact carries_of_params (c := specPwrStatus h buf s) rfl hready rfl rfl rfl
      (firstBad_cons_none (bufAligned_passes halign hbuf) rfl) fun _ _ => rfl

end Sys2Proof.Machine

/-!
SUPPORT. Steps (R483): what the front of the queue decides, that every arm of the dispatch answers a next state, and from them O1, O2 and O3;
and timers that may not have run yet.
-/
namespace Sys2Proof.Machine
open Sys2Proof

/-! ### The queue -/

theorem step_of_empty {s : State} (hempty : s.pending = []) : step s = .next (idle s) := by
  unfold step
  rw [hempty]

theorem step_of_cons {s : State} {c : Instr} {rest : List Instr} (hfront : s.pending = c :: rest) : step s = exec c { s with pending := rest } := by
  unfold step
  rw [hfront]

/-- Each arm of the dispatch is a meaning that ends in `next`. -/
theorem exec_goesOn (i : Instr) (s : State) : ∃ t, exec i s = .next t := by
  cases i <;> exact ⟨_, rfl⟩

/-! ### Timers -/

/-- A timer that has not been started, or whose time has passed, is due. -/
theorem timer_due {s : State} {o : Option Nat} {d : Nat} (hdue : ∀ t, o = some t → t + d ≤ s.now) :
    o = none ∨ ∃ t, o = some t ∧ s.passed t d = true := by
  cases o with
  | none => exact .inl rfl
  | some t => exact .inr ⟨t, rfl, passed_of (hdue t rfl)⟩

/-! ### O1, O2 and O3 -/

/-- Settles O1: the front command is what the step runs. -/
theorem stepRunsFrontCommand : Obligations.StepRunsFrontCommand := by
  unfold Obligations.StepRunsFrontCommand
  exact fun _ _ _ => step_of_cons rfl

/-- Settles O2: the idle keeper cycle counts time only where device time counts. -/
theorem idleStepCountsTime : Obligations.IdleStepCountsTime := by
  unfold Obligations.IdleStepCountsTime
  intro s hempty
  rw [step_of_empty hempty]
  exact ⟨fun hcounting => congrArg Host.Outcome.next (if_pos hcounting), fun hstill => congrArg Host.Outcome.next (if_neg (by simp [hstill]))⟩

/-- Settles O3: a step is the front command's meaning, or the idle cycle. -/
theorem everyStepGoesOn : Obligations.EveryStepGoesOn := by
  unfold Obligations.EveryStepGoesOn
  refine ⟨fun s => ?_, exec_goesOn⟩
  unfold GoesOn
  cases hqueue : s.pending with
  | nil => exact ⟨_, step_of_empty hqueue⟩
  | cons c rest =>
    rw [step_of_cons hqueue]
    exact exec_goesOn c _

end Sys2Proof.Machine

/-!
SUPPORT. The fabric's ports, election and periodic frames (R299, R303 to R310, R317, R331): what each deadline does once it is due, and from
them O39.
-/
namespace Sys2Proof.Machine
open Sys2Proof

/-- The node as the loss of light on a port leaves it, before its other ports are looked at (R299). -/
def State.portDown (s : State) (p : Nat) : State := s.modPort p fun x => { x with pstate := .down, good := 0 }

/-- A port whose neighbour is lost forgets what the neighbour's BEACONs told of it (R308). -/
def State.neighbourLost (s : State) (p : Nat) : State := s.modPort p fun x =>
  { x with lost := true, neighbour := 0, nbRoot := 0, nbParent := 0, nbAncestors := [], nbMepoch := 0, nbRoleEpoch := 0 }

/-- A BEACON_PERIOD begins: the root's RTICK advances (R309). -/
def State.beaconTick (s : State) : State :=
  s.modFabric fun f => { f with beaconTime := some s.now, rtick := if s.isRoot then f.rtick + 1 else f.rtick }

/-! ### Ports (R299, R306) -/

section
variable {s : State} {p : Nat} (halive : s.fab.fab.alive = true)
include halive

theorem exec_portLightLock_of_down (hport : p < 4) (henabled : s.portEnabled p = true) (hdown : (s.port p).pstate = .down) :
    exec (.portLightLock p) s = .next (s.modPort p fun x => { x with pstate := .train, good := 0, trainStart := s.now }) :=
  congrArg Host.Outcome.next (if_pos (by simp [halive, hport, henabled, hdown]))

theorem exec_portTrainTimeout_of_past (htrain : (s.port p).pstate = .train) (hpast : (s.port p).trainStart + 1000000 ≤ s.now) :
    exec (.portTrainTimeout p) s =
      .next (s.modPort p fun x => { x with good := 0, trainStart := s.now, attempts := satAdd 16 x.attempts 1 }) :=
  congrArg Host.Outcome.next (if_pos (by simp [halive, htrain, passed_of hpast]))

/-- Loss of light takes the port down; only the last port down isolates the node (R299, R306). -/
theorem exec_portLossOfLight_of_lit (hlit : (s.port p).pstate ≠ .down) : exec (.portLossOfLight p) s =
    .next (if (List.range 4).all fun q => ((s.portDown p).port q).pstate = .down then
      ((s.portDown p).modFabric fun f => { f with
        state := .isolated, upPort := none, joinPort := none, claimStart := none, backoffEnd := none }).modGrid
          fun g => { g with pathLost := g.pathLost || s.fab.fab.mepoch != 0 }
    else s.portDown p) :=
  congrArg Host.Outcome.next (if_pos (by simp [halive, hlit]))

section
variable (hlost : (s.port p).lost = false) (hpast : (s.port p).lastValid + s.fab.param.deadTimeout * 1000 ≤ s.now)
include hlost hpast

/-- A member's up port is no child's: its silence loses the way up (R309). -/
theorem exec_deadTimeoutExpiry_of_up (hmember : s.isMember = true) (hup : s.fab.fab.upPort = some p)
    (hparent : (s.children.any fun m => m.node = (s.port p).neighbour) = false) :
    exec (.deadTimeoutExpiry p) s = .next (s.neighbourLost p).lostUp := by
  refine congrArg Host.Outcome.next ((if_neg (by simp [halive, hlost, passed_of hpast])).trans ?_)
  exact (if_neg (by rw [hparent, Bool.and_false]; decide)).trans (if_pos (Bool.and_eq_true_iff.2 ⟨hmember, decide_eq_true hup⟩))

/-- The root removes a child that has fallen silent (R308). -/
theorem exec_deadTimeoutExpiry_of_child (hmember : s.isMember = true) (hroot : s.isRoot = true)
    (hchild : (s.children.any fun m => m.node = (s.port p).neighbour) = true) :
    exec (.deadTimeoutExpiry p) s = .next ((s.neighbourLost p).removeMember (s.port p).neighbour) := by
  refine congrArg Host.Outcome.next ((if_neg (by simp [halive, hlost, passed_of hpast])).trans ?_)
  exact (if_pos (Bool.and_eq_true_iff.2 ⟨hmember, hchild⟩)).trans (if_pos hroot)

end

/-! ### BEACONs, claims and the way up (R300, R304, R305, R309, R310) -/

theorem exec_beaconSend_of_due (hdue : ∀ t, s.fab.fab.beaconTime = some t → t + s.fab.param.beaconPeriod * 1000 ≤ s.now) :
    exec .beaconSend s = .next (((List.range 4).filter fun p => (s.beaconTick.port p).pstate ≠ .down).foldl
      (fun s p => s.originate p 0 0 0 (.beacon s.beaconBody)) s.beaconTick) := by
  refine congrArg Host.Outcome.next (if_neg ?_)
  obtain hnever | ⟨t, hlast, hpast⟩ := timer_due hdue
  · simp [halive, hnever]
  · simp [halive, hlast, hpast]

theorem exec_claimBackoffExpiry_of_past {t : Nat} (hend : s.fab.fab.backoffEnd = some t) (hpast : t ≤ s.now)
    (hrootless : s.fab.fab.state = .isolated ∨ s.fab.fab.state = .claiming) (hup : (List.range 4).any s.portUp = true) :
    exec .claimBackoffExpiry s = .next s.floodClaim := by
  show execClaimBackoffExpiry s = _
  simp only [execClaimBackoffExpiry, hend]
  exact congrArg Host.Outcome.next (if_pos (by simp [halive, hpast, hrootless, hup]))

theorem exec_claimSettleExpiry_of_settled {t : Nat} (hstart : s.fab.fab.claimStart = some t) (hclaiming : s.fab.fab.state = .claiming)
    (hpast : t + s.fab.param.claimSettle * 1000 ≤ s.now) (hown : s.fab.fab.claimSeen = s.nodeId) :
    exec .claimSettleExpiry s = .next s.becomeRoot := by
  show execClaimSettleExpiry s = _
  simp only [execClaimSettleExpiry, hstart]
  exact congrArg Host.Outcome.next (if_pos (by simp [halive, hclaiming, hown, passed_of hpast]))

theorem exec_rootTimeoutExpiry_of_member (hmember : s.fab.fab.state = .member) (hup : s.fab.fab.upPort = some p)
    (hpast : (s.port p).nbTickTime + s.fab.param.rootTimeout * 1000 ≤ s.now) : exec .rootTimeoutExpiry s = .next s.lostUp := by
  show execRootTimeoutExpiry s = _
  simp only [execRootTimeoutExpiry, halive, hmember, hup, passed_of hpast, Bool.not_true, Bool.or_true, Bool.false_eq_true, if_false, if_true]

theorem exec_rootTimeoutExpiry_of_reattaching (hreattaching : s.fab.fab.state = .reattaching)
    (hpast : s.fab.fab.reattachStart + s.fab.param.rootTimeout * 1000 ≤ s.now) : exec .rootTimeoutExpiry s =
      .next ((s.modFabric fun f => { f with state := .claiming, upPort := none, joinPort := none, claimSeen := 0 }).drawBackoff 0) := by
  show execRootTimeoutExpiry s = _
  simp only [execRootTimeoutExpiry, halive, hreattaching, passed_of hpast, Bool.not_true, Bool.false_eq_true, if_false, if_true]

theorem exec_staleMemberRemoval_of_past {t : Nat} (hsince : s.fab.fab.becameRoot = some t) (hroot : s.isRoot = true)
    (hpast : t + 2 * s.fab.param.rootTimeout * 1000 ≤ s.now) : exec .staleMemberRemoval s = .next (
      let u := s.modFabric fun f => { f with becameRoot := none }
      (u.setTable (u.fab.fab.members.filter fun m => m.node = u.nodeId || u.fab.fab.reattached.contains m.node)).modFabric
        fun f => { f with reattached := [] }) := by
  show execStaleMemberRemoval s = _
  simp only [execStaleMemberRemoval, hsince]
  exact congrArg Host.Outcome.next (if_pos (by simp [halive, hroot, passed_of hpast]))

/-! ### Time exchanges, reports and records (R112, R317, R331) -/

section
variable (hup : s.fab.fab.upPort = some p) (hmember : s.isMember = true)
include hup hmember

theorem exec_timeExchangeSend_of_due (hdue : ∀ t, s.fab.fab.exchangeTime = some t → t + 125000 ≤ s.now) : exec .timeExchangeSend s =
    .next ((s.modFabric fun f => { f with exchangeTime := some s.now }).originate p 0 0 0 (.time { t1 := s.devNow })) := by
  show execTimeExchangeSend s = _
  simp only [execTimeExchangeSend, hup]
  refine congrArg Host.Outcome.next (if_pos ?_)
  obtain hnever | ⟨t, hlast, hpast⟩ := timer_due hdue
  · simp [halive, hmember, hnever]
  · simp [halive, hmember, hlast, hpast]

theorem exec_reportSend_of_due (hdue : ∀ t, s.fab.fab.reportTime = some t → t + 1000000 ≤ s.now) : exec .reportSend s =
    .next ((s.modFabric fun f => { f with reportTime := some s.now }).originate p 0 0 0
      (.report s.groupReport.1 s.groupReport.2.1 s.groupReport.2.2)) := by
  show execReportSend s = _
  simp only [execReportSend, hup]
  refine congrArg Host.Outcome.next (if_pos ?_)
  obtain hnever | ⟨t, hlast, hpast⟩ := timer_due hdue
  · simp [halive, hmember, hnever]
  · simp [halive, hmember, hlast, hpast]

end
end

theorem exec_fabricRecord_of_due {s : State} (hserve : s.serving.isSome = true)
    (hdue : ∀ t, s.fab.fab.recordTime = some t → t + s.fab.param.recordPeriod * 1000 ≤ s.now) :
    exec .fabricRecord s = .next ((s.modFabric fun f => { f with recordTime := some s.now }).telemetry 6 s.nodeRecord) := by
  refine congrArg Host.Outcome.next (if_pos ?_)
  obtain hnever | ⟨t, hlast, hpast⟩ := timer_due hdue
  · simp [hserve, hnever]
  · simp [hserve, hlast, hpast]

/-! ### O39 -/

/-- Settles O39: each deadline, once due, meets one branch of its row. -/
theorem fabricPortRows : Obligations.FabricPortRows := by
  unfold Obligations.FabricPortRows
  refine ⟨?ports, ?node, fun s => exec_fabricRecord_of_due⟩
  case ports =>
    intro p s halive
    refine ⟨exec_portLightLock_of_down halive, exec_portTrainTimeout_of_past halive, fun hlit => ⟨fun hothers => ?othersUp, fun hlast => ?lastPort⟩,
      fun hlost hpast => ⟨exec_deadTimeoutExpiry_of_up halive hlost hpast, exec_deadTimeoutExpiry_of_child halive hlost hpast⟩⟩
    case othersUp => exact (exec_portLossOfLight_of_lit halive hlit).trans (congrArg Host.Outcome.next (if_neg (Bool.eq_false_iff.1 hothers)))
    case lastPort => exact (exec_portLossOfLight_of_lit halive hlit).trans (congrArg Host.Outcome.next (if_pos hlast))
  case node =>
    intro s halive
    exact ⟨exec_beaconSend_of_due halive, fun t => exec_claimBackoffExpiry_of_past halive, fun t => exec_claimSettleExpiry_of_settled halive,
      fun p => exec_rootTimeoutExpiry_of_member halive, exec_rootTimeoutExpiry_of_reattaching halive,
      fun t => exec_staleMemberRemoval_of_past halive,
      fun p hup hmember => ⟨exec_timeExchangeSend_of_due halive hup hmember, exec_reportSend_of_due halive hup hmember⟩⟩

end Sys2Proof.Machine

/-!
SUPPORT. The frames of the tree's upkeep (R300, R301, R304 to R309, R312, R313, R317): when a frame is accepted, what each frame accepted does,
and from them O40.
-/
namespace Sys2Proof.Machine
open Sys2Proof

/-! ### Acceptance (R301) -/

/-- A valid frame refreshes its port (R299, R301). -/
def State.refreshPort (s : State) (p : Nat) : State := s.modPort p fun x => { x with lastValid := s.now, lost := false, rxFrames := x.rxFrames + 1 }

section
variable {s : State} {p : Nat} {hdr : FabHdr} (halive : s.fab.fab.alive = true) (hup : (s.port p).pstate ≠ .down)
include halive hup

theorem accept_of_badCrc (hcrc : hdr.crcOk = false) (needs epochs answer : Bool) : s.accept p hdr needs epochs answer =
    ((s.modPort p fun x => { x with crcErr := satAdd 32 x.crcErr 1, good := 0 }).discard, false) :=
  (if_neg (by simp [halive, hup])).trans (if_pos (by simp [hcrc]))

section
variable (hcrc : hdr.crcOk = true)
include hcrc

theorem accept_of_misformed (hbad : hdr.ver ≠ 1 ∨ hdr.src = 0) (needs epochs answer : Bool) : s.accept p hdr needs epochs answer =
    ((s.modPort p fun x => { x with good := 0 }).discard, false) :=
  (if_neg (by simp [halive, hup])).trans ((if_neg (by simp [hcrc])).trans (if_pos (by simpa using hbad)))

section
variable (hver : hdr.ver = 1) (hsrc : hdr.src ≠ 0)
include hver hsrc

theorem accept_of_wellFormed : s.accept p hdr false false false = (s.refreshPort p, true) :=
  (if_neg (by simp [halive, hup])).trans ((if_neg (by simp [hcrc])).trans (if_neg (by simpa [hver] using hsrc)))

/-- A member's frame is accepted unless its owner epoch is an older one (R301). -/
theorem accept_of_member {m : Member} (hmember : (s.fab.fab.members.find? fun m => m.node = hdr.src && m.mepoch = hdr.mepoch) = some m)
    (hepoch : m.ownerEpoch.toNat ≤ hdr.ownerEpoch.toNat) (epochs : Bool) : (s.accept p hdr true epochs false).2 = true := by
  refine (congrArg Prod.snd ((if_neg (by simp [halive, hup])).trans ((if_neg (by simp [hcrc])).trans
    (if_neg (by simpa [hver] using hsrc))))).trans ?_
  simp [hmember, Nat.not_lt.2 hepoch]

end
end
end

/-! ### Frames that any node may send (R304 to R306, R317) -/

theorem isMember_of_isRoot {s : State} (hroot : s.isRoot = true) : s.isMember = true :=
  (Bool.and_eq_true_iff.1 hroot).1

section
variable {s t : State} {p : Nat} {hdr : FabHdr} (haccept : s.accept p hdr false false false = (t, true))
include haccept

/-- A BEACON that names no root is noted and trains its port, and nothing more (R299, R300). -/
theorem exec_beacon_of_rootless {b : BeaconBody} (hroot : b.root = 0) : exec (.beacon p hdr b) s = .next ((t.noteBeacon p hdr b).trainPort p) := by
  show execBeacon p hdr b s = _
  simp only [execBeacon, haccept, hroot, decide_true, Bool.or_true, Bool.not_true, Bool.false_eq_true, if_false, if_true]

theorem exec_claim_of_higher (hhigher : idAbove hdr.src t.fab.fab.claimSeen = true) : exec (.claim p hdr) s = .next (
    let u := t.modFabric fun f => { f with claimSeen := hdr.src, claimStart := none }
    ((List.range 4).filter fun q => u.portUp q && q ≠ p).foldl (fun s q => s.relay q hdr .claim) u) := by
  show execClaim p hdr s = _
  simp only [execClaim, haccept, hhigher, Bool.not_true, Bool.or_self, Bool.false_eq_true, if_false]

/-- The root admits a node that brings no MEPOCH under the next one above every MEPOCH seen (R305, R306). -/
theorem exec_join_of_newcomer (hroot : t.isRoot = true) (hnew : hdr.mepoch = 0) (hroom : t.fab.fab.members.length < 59049) (top : BitVec 32)
    (parent : BitVec 64) : exec (.join p hdr top parent) s = .next (
      let ep := (if t.fab.fab.maxMepoch.toNat < top.toNat then top else t.fab.fab.maxMepoch) + 1
      let m : Member := { node := hdr.src, mepoch := ep, parent := parent, ownerEpoch := hdr.ownerEpoch, proxyPrio := Config.proxyPrio hdr.src }
      let u := (t.modFabric fun f => { f with maxMepoch := ep, reattached := hdr.src :: f.reattached }).setTable
        (t.fab.fab.members.filter (fun m => m.node ≠ hdr.src) ++ [m])
      u.originate p 0 hdr.src 0 (.admitted ep u.fab.fab.members)) := by
  show execJoin p hdr top parent s = _
  simp only [execJoin, haccept, hroot, isMember_of_isRoot hroot, hnew, Nat.not_le.2 hroom, ne_eq, not_true_eq_false, decide_false, Bool.false_and,
    Bool.not_true, Bool.or_self, Bool.false_eq_true, if_false]

section
variable (hmember : t.isMember = true)
include hmember

theorem exec_timeFrame_of_parent (hup : t.fab.fab.upPort = some p) (stamps : Stamps) :
    exec (.timeFrame p hdr stamps) s = .next (t.align p stamps) := by
  show execTimeFrame p hdr stamps s = _
  simp only [execTimeFrame, haccept, hmember, hup, Bool.not_true, Bool.or_self, Bool.false_eq_true, if_false, if_true]

theorem exec_timeFrame_of_child (hup : t.fab.fab.upPort ≠ some p) (hdown : t.isDown p = true) (stamps : Stamps) : exec (.timeFrame p hdr stamps) s =
    .next (t.originate p 0 0 0 (.time { stamps with t2 := t.fabNow, t3 := t.fabNow })) := by
  show execTimeFrame p hdr stamps s = _
  simp only [execTimeFrame, haccept, hmember, hup, hdown, Bool.not_true, Bool.or_self, Bool.false_eq_true, if_false, if_true]

end
end

/-! ### Answers (R306, R307, R312, R315) -/

/-- Taking the roles of an entry changes nothing of the fabric engine but them (R313). -/
theorem takeRoles_only (s : State) (m : Member) : OnlyParts [.host, .out]
    (s.modFabric fun f => { f with roles := m.roles.toNat, roleEpoch := m.roleEpoch }) (s.takeRoles m) := by
  unfold State.takeRoles
  split
  · exact .refl _ _
  · exact raise_only _ _ _

/-- A node in whose table an ADMIT has put it, before it takes its roles (R306). -/
def State.admitted (t : State) (ep : Word32) (table : List Member) : State := (t.modFabric fun f => { f with
  state := .member, mepoch := ep, members := table, joinPort := none, claimSeen := 0, becameRoot := none
  maxMepoch := if f.maxMepoch.toNat < ep.toNat then ep else f.maxMepoch
  stepDue := !f.admitted && t.owner.isNone, admitted := true }).modGrid fun g => { g with pathLost := false }

section
variable {s t : State} {p : Nat} {hdr : FabHdr} (haccept : s.accept p hdr false false true = (t, true))
include haccept

theorem exec_admitFrame_of_joining {table : List Member} {m : Member} (hjoining : t.fab.fab.state = .joining)
    (hentry : (table.find? fun m => m.node = t.nodeId) = some m) (ep : Word32) : exec (.admitFrame p hdr ep table) s =
      .next (((t.admitted ep table).takeRoles m).raise 0x0801 [(8, ((t.admitted ep table).takeRoles m).nodeId.toNat), (4, ep.toNat)]) := by
  have houtside : t.isMember = false := by rw [State.isMember, hjoining]; rfl
  have hfound : (table.find? fun m => m.node = (t.admitted ep table).nodeId) = some m := hentry
  show execAdmitFrame p hdr ep table s = _
  unfold State.admitted at hfound ⊢
  simp only [execAdmitFrame, haccept, houtside, hjoining, hfound, ne_eq, not_true_eq_false, reduceCtorEq, decide_false, Bool.not_true,
    Bool.false_and, Bool.false_eq_true, if_false, if_true]

theorem runs_admitFrame_of_joining {table : List Member} {m : Member} (hjoining : t.fab.fab.state = .joining)
    (hentry : (table.find? fun m => m.node = t.nodeId) = some m) (ep : Word32) : Runs (.admitFrame p hdr ep table) s fun u =>
      u.isMember = true ∧ u.fab.fab.mepoch = ep ∧ u.fab.fab.members = table ∧ u.fab.fab.roles = m.roles.toNat ∧ u.grid.pathLost = false := by
  refine ⟨_, exec_admitFrame_of_joining haccept hjoining hentry ep, ?_⟩
  have honly := (takeRoles_only (t.admitted ep table) m).trans
    (raise_only _ 0x0801 [(8, ((t.admitted ep table).takeRoles m).nodeId.toNat), (4, ep.toNat)])
  have hfab := congrArg FabSt.fab (honly .fab (by decide))
  exact ⟨congrArg (fun f : Fabric => decide (f.state = .member)) hfab, congrArg Fabric.mepoch hfab, congrArg Fabric.members hfab,
    congrArg Fabric.roles hfab, congrArg Grid.pathLost (honly .grid (by decide))⟩

section
variable (hhere : hdr.dst = t.nodeId) (roles : Nat) (roleEpoch : BitVec 32)
include hhere

theorem exec_nak_role : exec (.nak p hdr 1 roles roleEpoch) s = .next (t.roleNak hdr.src roles roleEpoch) := by
  show execNak p hdr 1 roles roleEpoch s = _
  simp only [execNak, haccept, hhere, ne_eq, not_true_eq_false, Bool.not_true, Bool.false_eq_true, if_false]

theorem exec_nak_rejoin : exec (.nak p hdr 2 roles roleEpoch) s = .next (t.rejoin p) := by
  show execNak p hdr 2 roles roleEpoch s = _
  simp only [execNak, haccept, hhere, ne_eq, not_true_eq_false, Bool.not_true, Bool.false_eq_true, if_false]

end
end

/-! ### Changes of the member table and reports (R112, R307) -/

/-- Removals of other nodes change the table and go on down; this node keeps its roles (R307). -/
theorem exec_memberFrame_of_removals {s t : State} {p : Nat} {hdr : FabHdr} {cs : List MemberChange}
    (haccept : s.accept p hdr true false false = (t, true)) (hup : t.fab.fab.upPort = some p) (hremoves : ∀ c ∈ cs, ∃ id, c = .remove id) :
    exec (.memberFrame p hdr cs) s = .next (
      let u := (t.modFabric fun f => { f with members := cs.foldl (fun ms c => MemberChange.apply c ms) f.members }).pruneChildren
      u.downPorts.foldl (fun s q => s.relay q hdr (.member cs)) u) := by
  show execMemberFrame p hdr cs s = _
  simp only [execMemberFrame, haccept, hup, ne_eq, not_true_eq_false, decide_false, Bool.not_true, Bool.or_self, Bool.false_eq_true, if_false]
  rw [List.filterMap_eq_nil_iff.2]
  intro c hc
  obtain ⟨id, rfl⟩ := hremoves c hc
  rfl

theorem exec_report_of_child {s t : State} {p : Nat} {hdr : FabHdr} (haccept : s.accept p hdr true true false = (t, true))
    (hdown : t.isDown p = true) (want keep flr : Nat) : exec (.report p hdr want keep flr) s =
      .next (t.modGrid fun g => { g with children := tset g.children p { want := want, keep := keep, flr := flr, time := t.now } }) := by
  show execReport p hdr want keep flr s = _
  simp only [execReport, haccept, hdown, Bool.and_self, if_true]

/-! ### O40 -/

/-- Settles O40: acceptance by the header's fields, then one branch of each frame's row. -/
theorem fabricFrames : Obligations.FabricFrames := by
  unfold Obligations.FabricFrames
  refine ⟨?acceptance, ?anyone, ?answers, fun p hdr cs s t => exec_memberFrame_of_removals,
    fun p want keep flr hdr s t haccept hdown => exec_report_of_child haccept hdown want keep flr⟩
  case acceptance =>
    intro p hdr s halive hup
    exact ⟨accept_of_wellFormed halive hup, fun m e hcrc hver hsrc hmember hepoch => accept_of_member halive hup hcrc hver hsrc hmember hepoch e,
      accept_of_badCrc halive hup, accept_of_misformed halive hup⟩
  case anyone =>
    intro p hdr s t haccept
    exact ⟨fun b => exec_beacon_of_rootless haccept, exec_claim_of_higher haccept,
      fun top parent hroot hnew hroom => exec_join_of_newcomer haccept hroot hnew hroom top parent,
      fun stamps hmember hup => exec_timeFrame_of_parent haccept hmember hup stamps,
      fun stamps hmember hup hdown => exec_timeFrame_of_child haccept hmember hup hdown stamps⟩
  case answers =>
    intro p hdr s t haccept
    exact ⟨fun ep table m hjoining hentry => runs_admitFrame_of_joining haccept hjoining hentry ep,
      fun roles re hhere => ⟨exec_nak_role haccept hhere roles re, exec_nak_rejoin haccept hhere roles re⟩⟩

end Sys2Proof.Machine

/-!
SUPPORT. Push boot over the fabric and Fallow mode's push (R329, R330, R464, R465): requests, offers, acknowledgements and blocks, and from them
O42.
-/
namespace Sys2Proof.Machine
open Sys2Proof

/-! ### Requests and offers (R329) -/

/-- A PUSHREQ for a bay goes out: the hash it names and the bay it is for are kept (R329). -/
def State.asksFor (s : State) (b hash : Nat) : State := s.modFabric fun f => { f with
  pushReqBay := some b, pushHash := hash, pushReqTime := some s.now, firstOffer := if f.pushReqBay = some b then f.firstOffer else none }

theorem exec_pushreqSend_of_wanted {s : State} {b hash : Nat} (halive : s.fab.fab.alive = true) (hopen : s.fab.fab.offerTaken = none)
    (hdue : ∀ t, s.fab.fab.pushReqTime = some t → t + 10000000 ≤ s.now) (hwanted : s.pushWanted = some (b, hash)) :
    exec .pushreqSend s = .next ((List.range 4).foldl
      (fun u q => if u.portUp q then u.originate q 0 0 0 (.pushreq hash b) else u) (s.asksFor b hash)) := by
  show execPushreqSend s = _
  simp only [execPushreqSend, hwanted]
  refine congrArg Host.Outcome.next (if_neg ?_)
  obtain hnever | ⟨t, hlast, hpast⟩ := timer_due hdue
  · simp [halive, hopen, hnever]
  · simp [halive, hopen, hlast, hpast]

theorem exec_pushreq_of_server {s t : State} {p hash n : Nat} {hdr : FabHdr} (haccept : s.accept p hdr false false false = (t, true))
    (hserves : t.fab.param.pushServe = true) (hserve : t.serving.isSome = true) (hfree : t.fab.fab.pushTo = none)
    (hslot : t.offerSlot hash = some n) (bay : Nat) : exec (.pushreq p hdr hash bay) s = .next (
      (t.modFabric fun f => { f with
        pushTo := some p, pushTaken := false, pushSlot := n, pushNext := 0, pushAcked := 0, pushAckTime := t.now }).originate
          p 0 hdr.src 0 (.offer (t.slot n).hash false)) := by
  show execPushreq p hdr hash bay s = _
  simp only [execPushreq, haccept, hserves, Option.isNone_eq_false_iff.2 hserve, hfree, hslot, Option.isNone_none, Bool.true_or,
    Bool.not_true, Bool.or_self, Bool.false_eq_true, if_false]

section
variable {s : State} {p hash : Nat} (halive : s.fab.fab.alive = true) (hup : s.portUp p = true) (hasked : s.fab.fab.pushReqBay.isSome = true)
  (hnamed : s.fab.fab.pushHash = 0 ∨ hash = s.fab.fab.pushHash)
include halive hup hasked hnamed

/-- The keeper listens to an offer of the image it asked for. -/
theorem offer_heard : ¬(!s.fab.fab.alive || !s.portUp p || s.fab.fab.pushReqBay.isNone ||
    (decide (s.fab.fab.pushHash ≠ 0) && decide (hash ≠ s.fab.fab.pushHash))) = true := by
  obtain ⟨b, hb⟩ := Option.isSome_iff_exists.1 hasked
  simpa [halive, hup, hb] using fun hne => hnamed.resolve_left hne

theorem exec_pushOffer_of_taken (htaken : s.fab.fab.offerTaken.isSome = true) : exec (.pushOffer p hash) s = .next (s.declineOffer p) :=
  congrArg Host.Outcome.next ((if_neg (offer_heard halive hup hasked hnamed)).trans (if_pos htaken))

/-- The first offer is taken where it came on the up port, else kept (R329). -/
theorem exec_pushOffer_of_first (hopen : s.fab.fab.offerTaken = none) (hfirst : s.fab.fab.firstOffer = none) : exec (.pushOffer p hash) s =
    .next (if s.fab.fab.upPort = some p then s.takeOffer p else s.modFabric fun f => { f with firstOffer := some (p, s.now) }) := by
  refine congrArg Host.Outcome.next ((if_neg (offer_heard halive hup hasked hnamed)).trans ((if_neg (by simp [hopen])).trans ?_))
  simp only [hfirst]

end

theorem exec_offerWaitExpiry_of_past {s : State} {p t : Nat} (hfirst : s.fab.fab.firstOffer = some (p, t)) (halive : s.fab.fab.alive = true)
    (hopen : s.fab.fab.offerTaken = none) (hpast : t + 1000000 ≤ s.now) : exec .offerWaitExpiry s = .next (s.takeOffer p) := by
  show execOfferWaitExpiry s = _
  simp only [execOfferWaitExpiry, hfirst]
  exact congrArg Host.Outcome.next (if_pos (by simp [halive, hopen, passed_of hpast]))

/-! ### The pusher (R330) -/

section
variable {s : State} {p : Nat} (halive : s.fab.fab.alive = true) (hpushes : s.fab.fab.pushTo = some p)
include halive hpushes

theorem exec_pushAcknowledge_of_end {off : Nat} (hend : (s.slot s.fab.fab.pushSlot).len ≤ off) :
    exec (.pushAcknowledge p off) s = .next (s.modFabric fun f => { f with pushTo := none, pushAcked := off }) :=
  congrArg Host.Outcome.next ((if_neg (by simp [halive, hpushes])).trans (if_pos hend))

theorem exec_pushAcknowledge_of_more {off : Nat} (hmore : off < (s.slot s.fab.fab.pushSlot).len) (hserve : s.serving.isSome = true) :
    exec (.pushAcknowledge p off) s = .next
      ((s.modFabric fun f => { f with pushTaken := true, pushAcked := off, pushAckTime := s.now }).sendImageBlocks p off) :=
  congrArg Host.Outcome.next ((if_neg (by simp [halive, hpushes])).trans ((if_neg (Nat.not_le.2 hmore)).trans (if_pos hserve)))

section
variable (hpast : s.fab.fab.pushAckTime + 1000000 ≤ s.now)
include hpast

theorem exec_pushAckTimeout_of_offered (hoffered : s.fab.fab.pushTaken = false) :
    exec .pushAckTimeout s = .next (s.modFabric fun f => { f with pushTo := none }) := by
  show execPushAckTimeout s = _
  simp only [execPushAckTimeout, hpushes]
  exact congrArg Host.Outcome.next ((if_neg (by simp [halive, passed_of hpast])).trans (if_pos (by simp [hoffered])))

theorem exec_pushAckTimeout_of_taken (htaken : s.fab.fab.pushTaken = true) (hup : s.portUp p = true) (hserve : s.serving.isSome = true) :
    exec .pushAckTimeout s =
      .next ((s.modFabric fun f => { f with pushAckTime := s.now }).sendImageBlocks p s.fab.fab.pushAcked) := by
  show execPushAckTimeout s = _
  simp only [execPushAckTimeout, hpushes]
  exact congrArg Host.Outcome.next ((if_neg (by simp [halive, passed_of hpast])).trans ((if_neg (by simp [htaken, hup])).trans (if_pos hserve)))

end
end

/-! ### Blocks (R330, R435, R464) -/

/-- A block counted towards the next acknowledgement (R330). -/
def State.countBlock (t : State) : State := t.modFabric fun f => { f with pushBlocks := f.pushBlocks + 1 }

/-- Where a block brought progress, its time is kept (R329, R464). -/
def State.stampBlock (t u : State) : State :=
  if u.fab.fab.pushRecv = t.fab.fab.pushRecv then u else u.modFabric fun f => { f with pushRecvTime := u.now }

section
variable {s t : State} {p off b : Nat} {hdr : FabHdr} {data : List Byte} (haccept : s.accept p hdr false false false = (t, true))
  (hasked : t.fab.fab.pushReqBay = some b) (htaken : t.fab.fab.offerTaken = some p) (hdata : data ≠ [])
  (hlen : data.length ≤ pushBlockBytes) (hend : off + data.length ≤ imageMax)
include haccept hasked htaken hdata hlen hend

theorem exec_push_of_window (hstate : (t.push b).state = .pushing) (hagent : (t.push b).agent = 3) :
    exec (.push p hdr off data) s = .next (t.stampBlock (t.countBlock.windowBlock b p off data)) := by
  show execPush p hdr off data s = _
  simp only [execPush, haccept, hasked]
  refine congrArg Host.Outcome.next ((if_neg (by simp [htaken, hdata, Nat.not_lt.2 hlen, Nat.not_lt.2 hend])).trans ?_)
  exact congrArg t.stampBlock (if_pos (Bool.and_eq_true_iff.2 ⟨decide_eq_true hstate, decide_eq_true hagent⟩))

theorem exec_push_of_fallow {n : Nat} (hstate : (t.push b).state ≠ .pushing) (hfallow : (t.bay b).bstate = .fallow)
    (hsession : t.loft.upd.session0 = some n) :
    exec (.push p hdr off data) s = .next (t.stampBlock (t.countBlock.fallowBlock n p off data)) := by
  have hopen : t.countBlock.loft.upd.session0 = some n := hsession
  show execPush p hdr off data s = _
  simp only [execPush, haccept, hasked]
  refine congrArg Host.Outcome.next ((if_neg (by simp [htaken, hdata, Nat.not_lt.2 hlen, Nat.not_lt.2 hend])).trans ?_)
  refine congrArg t.stampBlock ((if_neg fun hpushing => hstate ?_).trans ((if_pos hfallow).trans ?_))
  · exact of_decide_eq_true (Bool.and_eq_true_iff.1 hpushing).1
  · unfold State.countBlock at hopen ⊢
    simp only [hopen]

end

/-! ### Fallow mode (R464, R465) -/

theorem exec_fallowPushCommit_of_complete {s : State} {n : Nat} (hpush : s.fallowPush = true) (hsession : s.loft.upd.session0 = some n)
    (hlen : 0 < (s.slot n).len) (hcomplete : (s.slot n).complete = true) (hstands : s.endOffer.canStand n = true) :
    exec .fallowPushCommit s = .next ((s.endOffer.commitSlot n (hashOf (s.slot n).bytes) true).modUpd
      fun u => { u with fallowCommit := some s.endOffer.now, pushSession := false }) := by
  show execFallowPushCommit s = _
  simp only [execFallowPushCommit, hsession]
  exact congrArg Host.Outcome.next ((if_pos (by simp [hpush, hlen, hcomplete])).trans (if_pos hstands))

theorem exec_fallowPushStall_of_past {s : State} (hpush : s.fallowPush = true) (hpast : s.fab.fab.pushRecvTime + 20000000 ≤ s.now) :
    exec .fallowPushStall s = .next s.endOffer :=
  congrArg Host.Outcome.next (if_pos (Bool.and_eq_true_iff.2 ⟨hpush, passed_of hpast⟩))

theorem exec_fallowResetExpiry_of_past {s : State} {t : Nat} (hcommit : s.loft.upd.fallowCommit = some t) (hpast : t + 10000000 ≤ s.now) :
    exec .fallowResetExpiry s = .next ((List.range 2).foldl (fun u b => if (u.bay b).bstate = .fallow then u.resetBay b else u)
      (s.modUpd fun u => { u with fallowCommit := none })) := by
  show execFallowResetExpiry s = _
  simp only [execFallowResetExpiry, hcommit]
  exact congrArg Host.Outcome.next (if_pos (passed_of hpast))

/-! ### O42 -/

/-- Settles O42: each request, offer, acknowledgement and block meets one branch of its row. -/
theorem imagePushRows : Obligations.ImagePushRows := by
  unfold Obligations.ImagePushRows
  refine ⟨fun s b hash => exec_pushreqSend_of_wanted, fun p hash bay n hdr s t haccept hserves hserve hfree hslot =>
    exec_pushreq_of_server haccept hserves hserve hfree hslot bay, ?offers, fun p t s => exec_offerWaitExpiry_of_past, ?pusher, ?blocks,
    fun n s hpush => ⟨exec_fallowPushCommit_of_complete hpush, exec_fallowPushStall_of_past hpush⟩, fun t s => exec_fallowResetExpiry_of_past⟩
  case offers =>
    intro p hash s halive hup hasked hnamed
    refine ⟨fun hopen hfirst => ?_, exec_pushOffer_of_taken halive hup hasked hnamed⟩
    rw [exec_pushOffer_of_first halive hup hasked hnamed hopen hfirst]
    exact ⟨fun hparent => by rw [if_pos hparent], fun hside => by rw [if_neg hside]⟩
  case pusher =>
    intro p off s halive hpushes
    exact ⟨exec_pushAcknowledge_of_end halive hpushes, exec_pushAcknowledge_of_more halive hpushes,
      fun hpast => ⟨exec_pushAckTimeout_of_offered halive hpushes hpast, exec_pushAckTimeout_of_taken halive hpushes hpast⟩⟩
  case blocks =>
    intro p off b hdr data s t haccept hasked htaken hdata hlen hend
    exact ⟨exec_push_of_window haccept hasked htaken hdata hlen hend,
      fun n => exec_push_of_fallow haccept hasked htaken hdata hlen hend⟩

end Sys2Proof.Machine

/-!
SUPPORT. Feeds (R359, R362, R363, R372 to R378, R382): samples, seating, validity, switching, the feed warning and gate faults, and from them
O34.
-/
namespace Sys2Proof.Machine
open Sys2Proof

/-! ### Samples (R359, R493) -/

theorem exec_senseSample_of_trimmed {s : State} (htrim : s.sys.trimValid = true) (samples : List SenseIn) :
    exec (.senseSample samples none) s = .next (samples.foldl State.convert s) ∧ ∀ mv, exec (.senseSample samples (some mv)) s =
      .next ((samples.foldl State.convert s).modSys fun p => { p with holdup := holdupLevel mv }) :=
  ⟨congrArg Host.Outcome.next (if_pos htrim), fun _ => congrArg Host.Outcome.next (if_pos htrim)⟩

/-! ### Seating (R363, R382) -/

/-- A pin that counts as broken ends the count of 100 ms and is signalled (R363). -/
def State.pinBroken (s : State) (pinB : Bool) : State := ((s.modFeed fun f =>
  if pinB then { f with seatB := false, madeTime := none } else { f with seatA := false, madeTime := none }).signalChannel (0xAC + bit pinB))

theorem pinBroken_chan (s : State) (pinB : Bool) (ch : Nat) : (s.pinBroken pinB).chan ch = s.chan ch := by
  have hbarn : OnlyParts [.barn] (s.modFeed _) (s.pinBroken pinB) := signalChannel_only _ _
  exact (congrArg (fun w : PowerSt => tget w.chans ch (chanDefault ch)) (hbarn .pwr (by decide))).trans rfl

theorem exec_seatPinBroken_of_undriven {s : State} (hhold : s.own.latch.hold = false) (hoff : ∀ n, n < 10 → (s.chan (0x2A + n)).gate = false)
    (pinB : Bool) : exec (.seatPinBroken pinB) s = .next ((s.pinBroken pinB).modFeed fun f => { f with seated := false }) := by
  have hown : (s.pinBroken pinB).own.latch.hold = false := hhold
  have hundriven : ((List.range 10).any fun n => ((s.pinBroken pinB).chan (0x2A + n)).gate) = false := by
    rw [List.any_eq_false]
    intro n hn
    rw [pinBroken_chan, hoff n (List.mem_range.1 hn)]
    decide
  refine congrArg Host.Outcome.next ((if_neg (Bool.eq_false_iff.1 hown)).trans (if_pos ?_))
  exact congrArg not hundriven

/-- A feed that is valid with its gate off becomes READY when the tray is seated (R372). -/
def State.readyValid (s : State) (ch : Nat) : State :=
  s.setChan ch fun c => if c.cstate = .off && c.valid then { c with cstate := .ready, readySince := some s.now } else c

theorem exec_seated_of_past {s : State} {t : Nat} (hmade : s.pwr.feed.madeTime = some t) (hunseated : s.pwr.feed.seated = false)
    (hpast : t + 100000000 ≤ s.now) (htrim : s.sys.trimValid = true) : exec .seated s =
      .next (((s.modFeed fun f => { f with seated := true }).readyValid 0x32).readyValid 0x33).feedAuto := by
  show execSeated s = _
  simp only [execSeated, hmade]
  exact congrArg Host.Outcome.next (if_pos (by simp [hunseated, passed_of hpast, htrim]))

/-! ### Feeds (R372 to R376, R378) -/

theorem isFeed_of {ch : Nat} (hfeed : ch = 0x32 ∨ ch = 0x33) : isFeed ch = true := by simpa [isFeed] using hfeed

theorem exec_feedValid_of_past {s : State} {ch t : Nat} (habove : (s.chan ch).aboveSince = some t) (hfeed : ch = 0x32 ∨ ch = 0x33)
    (hinvalid : (s.chan ch).valid = false) (hpast : t + 10000000 ≤ s.now) : exec (.feedValid ch) s =
      .next (s.setChan ch fun c => { c with
        valid := true, cstate := if c.cstate = .off then .ready else c.cstate
        readySince := if c.cstate = .off then some s.now else c.readySince }).feedAuto := by
  show execFeedValid ch s = _
  simp only [execFeedValid, habove]
  exact congrArg Host.Outcome.next (if_pos (by simp [isFeed_of hfeed, hinvalid, passed_of hpast]))

theorem exec_bothOffExpiry_of_no_switch {s : State} (hnone : s.pwr.feed.switchTo = none) : exec .bothOffExpiry s = .next s.feedAuto := by
  show execBothOffExpiry s = _
  simp only [execBothOffExpiry, hnone]

theorem setChan_only (s : State) (ch : Nat) (f : Chan → Chan) : OnlyParts [.pwr, .barn] s (s.setChan ch f) := by
  have hchan : OnlyParts [.pwr, .barn] s (s.modChan ch f) := (modChan_only _ _ _).mono (by simp)
  exact .ite hchan (hchan.trans ((signalChannel_only _ _).mono (by simp)))

theorem setChan_now (s : State) (ch : Nat) (f : Chan → Chan) : (s.setChan ch f).now = s.now :=
  congrArg (fun p : Power => p.devTime) (setChan_only s ch f .sys (by decide))

/-- The feed a switch waits for takes the tray over without a ramp (R374). -/
theorem exec_bothOffExpiry_of_free {s : State} {f : Nat} (hto : s.pwr.feed.switchTo = some f) (hhold : s.own.latch.hold = false)
    (hgates : s.pwr.feed.gateFault = false) (hready : (s.chan f).cstate = .ready) (hfree : s.feedFree f = true) : exec .bothOffExpiry s =
      .next ((s.setChan f fun c => { c with cstate := .inrush, gate := true, limited := true, rampStart := s.now, readySince := none }).modFeed
        fun x => { x with switchTo := none, switchTime := s.now, inUse := some f }) := by
  show execBothOffExpiry s = _
  simp only [execBothOffExpiry, hto, hhold, hgates, hready, hfree, setChan_now, ne_eq, not_true_eq_false, Bool.or_self,
    Bool.false_eq_true, if_false, if_true]

theorem exec_feedWarnDeassert_of_good {s : State} {f t : Nat} (huse : s.pwr.feed.inUse = some f) (hok : (s.chan f).okSince = some t)
    (hwarn : s.pwr.feed.warnPin = true) (hgate : (s.chan f).gate = true) (hpast : t + 50000 ≤ s.now) (hramp : (s.chan f).rampStart + 50000 ≤ s.now) :
    exec .feedWarnDeassert s = .next (
      let u := (s.modFeed fun x => { x with warnPin := false }).modChan (otherFeed f)
        fun c => { c with readySince := if c.cstate = .ready then some s.now else c.readySince }
      if u.rail.seq.kind = .inputLoss then u else u.raisePg) := by
  show execFeedWarnDeassert s = _
  simp only [execFeedWarnDeassert, huse, hok]
  exact congrArg Host.Outcome.next (if_pos (by simp [hwarn, hgate, passed_of hpast, passed_of hramp]))

theorem exec_returnToFeedA_of_past {s : State} {t : Nat} (hsince : (s.chan 0x32).readySince = some t) (huse : s.pwr.feed.inUse = some 0x33)
    (hon : (s.chan 0x33).cstate = .on) (hready : (s.chan 0x32).cstate = .ready) (hwarn : s.pwr.feed.warnPin = false)
    (hpast : t + 10000000000 ≤ s.now) (hto : s.pwr.feed.switchTo = none) (hhold : s.own.latch.hold = false)
    (hgates : s.pwr.feed.gateFault = false) : exec .returnToFeedA s = .next (s.startSwitch 0x33 0x32) := by
  show execReturnToFeedA s = _
  simp only [execReturnToFeedA, hsince]
  exact congrArg Host.Outcome.next (if_pos (by simp [huse, hon, hready, hwarn, passed_of hpast, hto, hhold, hgates]))

theorem exec_gateFault_of_off {s : State} {ch : Nat} (hfeed : ch = 0x32 ∨ ch = 0x33) (hgate : (s.chan ch).gate = false)
    (hnew : (s.chan ch).cstate ≠ .gateFault) : exec (.gateFault ch) s =
      .next (((s.setChan ch fun c => { c with cstate := .gateFault, gateRead := true, cause := 4, readySince := none }).modFeed fun f =>
        { f with gateFault := true, switchTo := none }).raise 0x0E04 [(2, ch)]) :=
  congrArg Host.Outcome.next (if_pos (by simp [isFeed_of hfeed, hgate, hnew]))

/-! ### O34 -/

/-- Settles O34: each sample, pin and deadline of a feed meets one branch of its row. -/
theorem feedRows : Obligations.FeedRows := by
  unfold Obligations.FeedRows
  refine ⟨?sample, fun s hloft => congrArg Host.Outcome.next (if_neg (Bool.eq_false_iff.1 hloft)), fun _ _ => rfl,
    fun pinB s hhold hoff => exec_seatPinBroken_of_undriven hhold hoff pinB, fun t s => exec_seated_of_past, fun ch t s => exec_feedValid_of_past,
    fun s => ⟨exec_bothOffExpiry_of_no_switch, fun f => exec_bothOffExpiry_of_free⟩, ?warning, fun t s => exec_returnToFeedA_of_past,
    fun ch s => exec_gateFault_of_off⟩
  case sample =>
    intro samples mv s htrim
    obtain ⟨hplain, hheld⟩ := exec_senseSample_of_trimmed htrim samples
    exact ⟨hplain, hheld mv⟩
  case warning =>
    intro f t s huse hok hwarn hgate hpast hramp
    exact ⟨_, exec_feedWarnDeassert_of_good huse hok hwarn hgate hpast hramp, rfl⟩

end Sys2Proof.Machine

/-!
SUPPORT. Rail sequencing (R336 to R347): power-good, the timeouts, the EN readback and the input-loss shutdown, and from them O36.
-/
namespace Sys2Proof.Machine
open Sys2Proof

/-! ### Power-good and the timeouts (R336, R338, R339, R345) -/

section
variable {s : State} {n : Nat}

theorem exec_pgCountedUp_of_low (hlow : (s.rail_ n).pg = false) : exec (.pgCountedUp n) s =
    .next (((s.modRail_ n fun r => { r with
      pg := true, stray := r.stray || !r.en, rstate := if r.rstate = .rising then .up else r.rstate
      riseUs := if r.rstate = .rising then (s.now - r.riseStart) / 1000 else r.riseUs }).signalChannel (0x54 + n)).railRun) :=
  congrArg Host.Outcome.next (if_neg (Bool.eq_false_iff.1 hlow))

/-- A rail whose power-good counts down: OFF where it was falling, before an UP one drops out (R336). -/
def State.pgDown (s : State) (n : Nat) : State :=
  (s.modRail_ n fun r => { r with pg := false, rstate := if r.rstate = .falling then .off else r.rstate }).signalChannel (0x54 + n)

section
variable (hgood : (s.rail_ n).pg = true)
include hgood

theorem exec_pgCountedDown_of_up (hup : (s.rail_ n).rstate = .up) (hhold : s.own.latch.hold = false) :
    exec (.pgCountedDown n) s = .next ((s.pgDown n).railFault n 2 false) := by
  have hown : (!(s.pgDown n).own.latch.hold) = true := congrArg not hhold
  refine congrArg Host.Outcome.next ((if_neg (by simp [hgood])).trans (if_pos ?_))
  exact Bool.and_eq_true_iff.2 ⟨decide_eq_true hup, hown⟩

theorem exec_pgCountedDown_of_not_up (hnot : (s.rail_ n).rstate ≠ .up) : exec (.pgCountedDown n) s = .next (s.pgDown n).railRun :=
  congrArg Host.Outcome.next ((if_neg (by simp [hgood])).trans (if_neg (by simp [hnot])))

end

section
variable (hhold : s.own.latch.hold = false)
include hhold

theorem exec_riseTimeoutExpiry_of_past (hrising : (s.rail_ n).rstate = .rising)
    (hpast : (s.rail_ n).riseStart + (s.rail_ n).riseTimeout * 1000 ≤ s.now) :
    exec (.riseTimeoutExpiry n) s = .next (s.railFault n 1 false) :=
  congrArg Host.Outcome.next (if_pos (by simp [hrising, passed_of hpast, hhold]))

theorem exec_enReadbackMismatch_of_driven (hdriven : (s.rail_ n).released = false) :
    exec (.enReadbackMismatch n) s = .next ((s.raise 0x0E04 [(2, 0x54 + n)]).railFault n 3 true) :=
  congrArg Host.Outcome.next (if_neg (by simp [hdriven, hhold]))

end
end

theorem exec_fallingExpiry_of_past {s : State} (hfalling : s.anyRail (BitVec.allOnes 64) .falling = true)
    (hpast : s.rail.seq.levelTime + 100000 ≤ s.now) : exec .fallingExpiry s = .next (((List.range 64).foldl (fun s n =>
      if (s.rail_ n).rstate = .falling then (s.modRail_ n fun r => { r with rstate := .off }).signalChannel (0x54 + n) else s) s).railRun) :=
  congrArg Host.Outcome.next (if_pos (Bool.and_eq_true_iff.2 ⟨hfalling, passed_of hpast⟩))

/-! ### The input lost and returned (R342, R343, R379) -/

/-- Every branch still on is opened, and none is to be closed (R342, R367). -/
def State.openBranches (s : State) : State :=
  ((List.range 8).foldl (fun s n => if (s.branch n).cstate = .on || (s.branch n).cstate = .inrush then s.commandOpen n else s) s).modFeed
    fun f => { f with closing := none, closingOn := false }

theorem exec_shutdownFirstStep_of_past {s : State} {t : Nat} (hkind : s.rail.seq.kind = .inputLoss) (hstart : s.rail.seq.shutStart = some t)
    (hfirst : s.rail.seq.firstDone = false) (hpast : t + 250000 ≤ s.now) (hhold : s.own.latch.hold = false) : exec .shutdownFirstStep s =
      .next ((s.openBranches.modSeq fun q => { q with
        firstDone := true, upSet := 0, startedUp := true, startDone := false
        downSet := s.openBranches.onRails &&& ~~~s.openBranches.safeFloor }).railRun) := by
  show execShutdownFirstStep s = _
  simp only [execShutdownFirstStep, hkind, hstart]
  exact congrArg Host.Outcome.next (if_neg (by simp [hfirst, passed_of hpast, hhold]))

section
variable {s : State} {ch t : Nat} (hfeed : ch = 0x32 ∨ ch = 0x33) (hseated : s.pwr.feed.seated = true) (hhold : s.own.latch.hold = false)
  (hok : (s.chan ch).okSince = some t) (hpast : t + 50000 ≤ s.now) (hkind : s.rail.seq.kind = .inputLoss)
include hfeed hseated hhold hok hpast hkind

/-- After the first step the return is only kept (R343). -/
theorem exec_inputReturned_of_late (hfirst : s.rail.seq.firstDone = true) :
    exec (.inputReturned ch) s = .next (s.modSeq fun q => { q with returned := true }) := by
  refine congrArg Host.Outcome.next ((if_neg ?_).trans ((if_neg (by simp [hfirst])).trans (if_pos hkind)))
  simp [isFeed_of hfeed, hseated, hhold, hok, passed_of hpast]

/-- Before the first step, with no sequence under way, the shutdown ends (R343). -/
theorem exec_inputReturned_of_early (hfirst : s.rail.seq.firstDone = false) (hups : s.rail.seq.upSet = 0) (hdowns : s.rail.seq.downSet = 0)
    (hrising : s.anyRail s.rail.seq.seqSet .rising = false) : exec (.inputReturned ch) s =
      .next ((((s.modSeq fun q => { q with kind := .idle, shutStart := none, aborts := satAdd 32 q.aborts 1 }).raisePg).raise
        0x0406 [(1, ch - 0x32)]).railRun) := by
  have hgood : (isFeed ch && s.pwr.feed.seated && !s.own.latch.hold) = true := by simp [isFeed_of hfeed, hseated, hhold]
  show execInputReturned ch s = _
  simp only [execInputReturned, hgood, hok, passed_of hpast, hkind, hfirst, State.modSeq, hups, hdowns, hrising, bne_self_eq_false, decide_true,
    Bool.and_self, Bool.not_true, Bool.not_false, Bool.or_self, Bool.false_eq_true, if_false, if_true]

end

/-! ### O36 -/

/-- Settles O36: each change of a rail and each step of the shutdown meets one branch of its row. -/
theorem railRows : Obligations.RailRows := by
  unfold Obligations.RailRows
  refine ⟨?rails, fun s => exec_fallingExpiry_of_past, fun t s => exec_shutdownFirstStep_of_past, ?returned,
    fun s hserve => congrArg Host.Outcome.next (if_pos hserve)⟩
  case rails =>
    intro n s
    exact ⟨exec_pgCountedUp_of_low, fun hgood => ⟨exec_pgCountedDown_of_up hgood, exec_pgCountedDown_of_not_up hgood⟩,
      fun hrising hpast hhold => exec_riseTimeoutExpiry_of_past hhold hrising hpast,
      fun hdriven hhold => exec_enReadbackMismatch_of_driven hhold hdriven⟩
  case returned =>
    intro ch t s hfeed hseated hhold hok hpast hkind
    exact ⟨exec_inputReturned_of_late hfeed hseated hhold hok hpast hkind, exec_inputReturned_of_early hfeed hseated hhold hok hpast hkind⟩

end Sys2Proof.Machine

/-!
SUPPORT. Temperature and cooling (R388 to R397, R405, R407): diode conversions, neighbour checks, zones, thermal steps and holds, current reads
and records, and from them O30.
-/
namespace Sys2Proof.Machine
open Sys2Proof

/-! ### Conversions and neighbour checks (R388, R389) -/

theorem exec_diodeConversion_of_due {s : State} (hlive : s.cool.scarecrow = true)
    (hdue : ∀ t, s.cool.diodeTime = some t → t + 10000000 ≤ s.now) (readings : List (Option Int)) : exec (.diodeConversion readings) s =
      .next (forUpTo 8 State.diodeTrip (forUpTo 8 (fun s n =>
        if (s.diode n).temp = readings.getD n none then s
        else (s.modDiode n fun d => { d with temp := readings.getD n none }).signalChannel (0x22 + n))
          (s.modCool fun c => { c with diodeTime := some s.now }))).followDrives := by
  refine congrArg Host.Outcome.next (if_neg ?_)
  obtain hnever | ⟨t, hlast, hpast⟩ := timer_due hdue
  · simp [hnever, hlive]
  · simp [hlast, hpast, hlive]

theorem exec_sensorCheck_of_due {s : State} {bay : Nat} (hruns : s.runs bay = true) (hawake : s.sys.dormant = false)
    (hdue : tget s.cool.checkTick bay 0 ≠ s.tick) : exec (.sensorCheck bay) s =
      .next (s.cool.points.foldl (fun s p => if p.2.neighbours.isEmpty then s else s.checkPoint bay p.1)
        (s.modCool fun c => { c with checkTick := tset c.checkTick bay s.tick })) :=
  congrArg Host.Outcome.next (if_neg (by simp [hruns, hawake, hdue]))

/-! ### Zones, thermal steps and holds (R390 to R395) -/

theorem exec_zoneDemand_of_due {s : State} {bay : Nat} (hserve : s.serving = some bay) (hdue : s.cool.demandTick ≠ s.tick) :
    exec .zoneDemand s =
      .next (forUpTo 20 State.writeDrive (forUpTo 16 (fun s z => s.formZone bay z) (s.modCool fun c => { c with demandTick := s.tick }))) := by
  show execZoneDemand s = _
  simp only [execZoneDemand, hserve, hdue, if_false]

theorem exec_thermalStep_of_due {s : State} (hserve : s.serving.isSome = true) (hwindow : s.dwn % 5000 = 0)
    (hdue : s.cool.stepWindow ≠ s.dwn + 1) : exec .thermalStep s = .next (forUpTo 8 (fun s i =>
      if s.nextFactor i = (s.thermal i).h ∨ s.journalFree = false then s
      else (s.journalChange (.thermal i (s.nextFactor i))).raise 0x0306
        [(1, s.stepZone i), (1, 2 ^ i), (4, twos 32 ((s.nextFactor i : Int) - (s.thermal i).h))])
          (s.modCool fun c => { c with stepWindow := s.dwn + 1 })) := by
  show execThermalStep s = _
  simp only [execThermalStep, Option.isNone_eq_false_iff.2 hserve, hwindow, hdue, ne_eq, not_true_eq_false, decide_false,
    Bool.or_self, Bool.false_eq_true, if_false, Bool.or_eq_true, decide_eq_true_eq, Bool.not_eq_true']

/-- Every zone that lists the slot has been within its target for 10 s or without a reading for 60 s (R395). -/
theorem exec_thermalHoldRelease_of_calm {s : State} {slot : Nat} (hserve : s.serving.isSome = true) (hhold : (s.thermal slot).hold ≠ 0)
    (hcalm : ∀ z, z < 16 → (s.zone z).slots.testBit slot = true → (∃ t, (s.zone z).okSince = some t ∧ t + 10000000000 ≤ s.now) ∨
      (∃ t, (s.zone z).blankSince = some t ∧ t + 60000000000 ≤ s.now)) :
    exec (.thermalHoldRelease slot) s = .next (s.modThermal slot fun t => { t with hold := 0 }) := by
  refine congrArg Host.Outcome.next (if_pos ?_)
  refine Bool.and_eq_true_iff.2 ⟨by simp [hserve, hhold], List.all_eq_true.2 fun z hz => ?_⟩
  cases hlists : (s.zone z).slots.testBit slot with
  | false => rfl
  | true =>
    obtain ⟨t, hok, hpast⟩ | ⟨t, hblank, hpast⟩ := hcalm z (List.mem_range.1 hz) hlists
    · simp [hok, passed_of hpast]
    · simp [hblank, passed_of hpast]

/-! ### Current reads and records (R397, R407) -/

/-- What a monitor's answer, or its miss, leaves of a channel (R397). -/
def Drive.takesIout (d : Drive) (now : Nat) (answer : Option Rat) : Drive :=
  match answer with
  | some a => { d with readTime := some now, misses := 0, current := some (min 65534 (a * 1000).floor.toNat) }
  | none => { d with readTime := some now, misses := min 15 (d.misses + 1) }

/-- A channel that is not tach-lost takes its monitor's answer and is not judged again. -/
theorem exec_readIout_of_due {s : State} {channel : Nat} (hserve : s.serving.isSome = true) (hdrive : channel < 20)
    (hmonitor : (s.drive channel).monitor.isSome = true) (hdue : ∀ t, (s.drive channel).readTime = some t → t + 100000000 ≤ s.now)
    (hjudged : (s.drive channel).dstate ≠ .tachLost) (word : Option (BitVec 16)) (b : Bool) : exec (.readIout channel word b) s =
      .next (s.modDrive channel fun d => d.takesIout s.now (word.bind fun w => pmbusValue w b)) := by
  refine congrArg Host.Outcome.next ((if_neg ?_).trans (if_neg (by simp [hjudged])))
  obtain hnever | ⟨t, hlast, hpast⟩ := timer_due hdue
  · simp [Option.isNone_eq_false_iff.2 hserve, Option.isNone_eq_false_iff.2 hmonitor, isDrive, hdrive, hnever]
  · simp [Option.isNone_eq_false_iff.2 hserve, Option.isNone_eq_false_iff.2 hmonitor, isDrive, hdrive, hlast, hpast]

theorem exec_coolingRecord_of_due {s : State} (hserve : s.serving.isSome = true)
    (hdue : ∀ t, s.cool.recordTime = some t → t + 100000000 ≤ s.now) : exec .coolingRecord s = .next (forUpTo 16 (fun s z => if (s.zone z).used then
      (s.telemetry 4 (s.coolingRecord z)).modZone z fun x => { x with posted := s.zoneFlags z } else s)
        (s.modCool fun c => { c with recordTime := some s.now })) := by
  show execCoolingRecord s = _
  obtain hnever | ⟨t, hlast, hpast⟩ := timer_due hdue
  · simp only [execCoolingRecord, Option.isNone_eq_false_iff.2 hserve, hnever, Bool.true_or, Bool.and_true, Bool.false_eq_true,
      if_false, if_true]
  · simp only [execCoolingRecord, Option.isNone_eq_false_iff.2 hserve, hlast, hpast, Bool.true_or, Bool.and_true, Bool.false_eq_true,
      if_false, if_true]

/-! ### O30 -/

/-- Settles O30: each conversion, check, step and read meets one branch of its row. -/
theorem sensorsAndZones : Obligations.SensorsAndZones := by
  unfold Obligations.SensorsAndZones
  refine ⟨fun readings s hlive hdue => exec_diodeConversion_of_due hlive hdue readings, fun bay s => exec_sensorCheck_of_due,
    fun bay s => exec_zoneDemand_of_due, fun s => exec_thermalStep_of_due, fun slot s => exec_thermalHoldRelease_of_calm, ?currents,
    fun s => exec_coolingRecord_of_due⟩
  case currents =>
    intro channel w b a s hserve hdrive hmonitor hdue hjudged hread
    refine ⟨?answered, exec_readIout_of_due hserve hdrive hmonitor hdue hjudged none b⟩
    case answered =>
      rw [exec_readIout_of_due hserve hdrive hmonitor hdue hjudged, Option.bind_some, hread]
      rfl

end Sys2Proof.Machine

/-!
SUPPORT. The push window (R432 to R443): opening, claims, copies, release, the checks of stages 0 and 1, and from them O38.
-/
namespace Sys2Proof.Machine
open Sys2Proof

/-! ### Opening and claims (R432, R436, R438) -/

section
variable {s : State} {bay : Nat} (hmay : s.mayOpen bay = true)
include hmay

theorem exec_pushWindowOpen_of_fallowN_low (hlow : s.sys.fallowN = false) : exec (.pushWindowOpen bay) s = .next (s.enterFallow bay) :=
  congrArg Host.Outcome.next ((if_neg (by simp [hmay])).trans (if_pos (by simp [hlow])))

theorem exec_pushWindowOpen_of_fallowN_high (hhigh : s.sys.fallowN = true) : exec (.pushWindowOpen bay) s =
    .next (s.modPush bay fun _ => { state := .opened, wantHash := s.wantFor bay, openTime := s.now, progressTime := s.now }) :=
  congrArg Host.Outcome.next ((if_neg (by simp [hmay])).trans (if_neg (by simp [hhigh])))

end

section
variable {s : State} {bay : Nat} (hopen : (s.push bay).state = .opened)
include hopen

theorem exec_fallowEntry_of_past (hpast : (s.push bay).openTime + 250000000 ≤ s.now) (hnone : s.slotOfHash (s.push bay).wantHash = none) :
    exec (.fallowEntry bay) s = .next (s.enterFallow bay) :=
  congrArg Host.Outcome.next (if_pos (by simp [hopen, passed_of hpast, hnone]))

theorem exec_claimWrite_of_allowed {agent : Nat} (hmay : s.mayClaim bay agent = true) : exec (.claimWrite bay agent) s =
    .next (s.modPush bay fun p => { p with state := .pushing, agent := agent, claimTime := s.now, progressTime := s.now }) :=
  congrArg Host.Outcome.next (if_pos (by simp [hopen, hmay]))

/-- The streamer serves both windows that wait for the same image (R436). -/
theorem exec_streamerClaim_of_allowed {n : Nat} (hmay : s.mayClaim bay 4 = true) (hslot : s.slotOfHash (s.push bay).wantHash = some n) :
    exec (.streamerClaim bay) s = .next ([bay, peer bay].foldl (fun t b =>
      if (t.push b).state = .opened && (t.push b).wantHash = (s.push bay).wantHash && t.mayClaim b 4 then
        (t.claimWindow b 4).streamImage b (t.slot n).bytes else t) s) := by
  refine congrArg Host.Outcome.next ((if_neg (by simp [hopen, hmay])).trans ?_)
  simp only [hslot]

end

/-! ### Copies and release (R434, R435, R437, R439) -/

/-- Two changes that agree on a bay's window are one change. -/
theorem modPush_congr {s : State} {bay : Nat} {f g : Push → Push} (heq : f (s.push bay) = g (s.push bay)) : s.modPush bay f = s.modPush bay g := by
  unfold State.modPush
  rw [heq]

/-- A copy's bytes are kept where their CRC is the one given (R434). -/
theorem exec_apertureCopyDone_of_copy {s : State} {bay off len half : Nat} {crc : Word32}
    (hpushing : (s.push bay).state = .pushing) (hcopy : (s.push bay).copy = some (off, len, crc, half)) (hbusy : (s.push bay).xstat = 1) :
    exec (.apertureCopyDone bay) s = .next (if crc32c (memRead (s.granary bay).mem (halfBase half) len) = crc then
        (s.modGranary bay fun g => g.fill (imageBase + off) (memRead (s.granary bay).mem (halfBase half) len)).modPush bay fun p =>
          { p.markGood (off / 4096) (len / 4096) s.now with xstat := 2, copy := none, progressTime := s.now }
      else s.modPush bay fun p => { p with xstat := 3, copy := none, progressTime := s.now }) := by
  show execApertureCopyDone bay s = _
  simp only [execApertureCopyDone, hcopy]
  exact congrArg Host.Outcome.next (if_neg (by simp [hpushing, hbusy]))

section
variable {s : State} {bay agent : Nat} (hpushing : (s.push bay).state = .pushing) (hagent : (s.push bay).agent = agent)
include hpushing hagent

section
variable (hidle : (s.push bay).xstat ≠ 1) (hother : agent ≠ 1)
include hidle hother

/-- The copy that an agent other than the peer bay asks for starts, or is out of range (R434). -/
theorem exec_go_of_agent : exec (.go bay agent) s = .next (s.modPush bay fun p =>
    if imageMax < p.imgOff + p.len || p.imgOff % 4096 ≠ 0 || p.len % 4096 ≠ 0 || p.len < 4096 || 520192 < p.len then
      { p with xstat := 4, progressTime := if p.xstat = 4 then p.progressTime else s.now }
    else { p with xstat := 1, copy := some (p.imgOff, p.len, p.crc, p.half), progressTime := s.now }) := by
  show Host.Outcome.next (s.goCopy bay agent) = _
  simp only [State.goCopy, hpushing, hagent, hidle, hother, ne_eq, not_true_eq_false, decide_false, Bool.or_self, Bool.false_eq_true, if_false]

theorem exec_go_of_bad_bounds (hbad : imageMax < (s.push bay).imgOff + (s.push bay).len ∨ (s.push bay).imgOff % 4096 ≠ 0 ∨
    (s.push bay).len % 4096 ≠ 0 ∨ (s.push bay).len < 4096 ∨ 520192 < (s.push bay).len) : exec (.go bay agent) s =
      .next (s.modPush bay fun p => { p with xstat := 4, progressTime := if p.xstat = 4 then p.progressTime else s.now }) :=
  (exec_go_of_agent hpushing hagent hidle hother).trans
    (congrArg Host.Outcome.next (modPush_congr (if_pos (by simpa [or_assoc] using hbad))))

theorem exec_go_of_good_bounds (hend : (s.push bay).imgOff + (s.push bay).len ≤ imageMax) (hoff : (s.push bay).imgOff % 4096 = 0)
    (hpages : (s.push bay).len % 4096 = 0) (hlo : 4096 ≤ (s.push bay).len) (hhi : (s.push bay).len ≤ 520192) : exec (.go bay agent) s =
      .next (s.modPush bay fun p => { p with xstat := 1, copy := some (p.imgOff, p.len, p.crc, p.half), progressTime := s.now }) :=
  (exec_go_of_agent hpushing hagent hidle hother).trans (congrArg Host.Outcome.next
    (modPush_congr (if_neg (by simp [Nat.not_lt.2 hend, hoff, hpages, Nat.not_lt.2 hlo, Nat.not_lt.2 hhi]))))

end

theorem exec_pushAbandonExpiry_of_past (hpast : (s.push bay).progressTime + 20000000 ≤ s.now) (hother : agent ≠ 3) :
    exec (.pushAbandonExpiry bay) s = .next (s.modPush bay fun p =>
      { p with state := .opened, agent := 0, attempt := satAdd 4 p.attempt 1, copy := none, xstat := if p.xstat = 1 then 0 else p.xstat }) := by
  refine congrArg Host.Outcome.next ((if_pos (by simp [hpushing, passed_of hpast])).trans ?_)
  simp only [hagent, hother, if_false]

/-- RELEASE before every page of the image is good is refused (R439). -/
theorem exec_release_of_agent : exec (.release bay agent) s = .next (
    if (s.push bay).doneTo < (if agent ≤ 2 then (s.push bay).imgLen else imgLen (s.imageBytes bay 0 16)) then
      s.modPush bay fun p => { p with xstat := 5, progressTime := if p.xstat = 5 then p.progressTime else s.now }
    else s.modPush bay fun p => { p with state := .verifying, copy := none }) :=
  congrArg Host.Outcome.next (if_neg (by simp [hpushing, hagent]))

end

/-! ### Stages 0 and 1 (R439 to R443) -/

/-- The image in a bay's image area, as long as its header says. -/
def State.pushedImage (s : State) (bay : Nat) : List Byte := s.imageBytes bay 0 (min (imgLen (s.imageBytes bay 0 16)) imageMax)

section
variable {s : State} {bay : Nat} {img : List Byte} (himg : s.pushedImage bay = img)
include himg

section
variable (hverifying : (s.push bay).state = .verifying)
include hverifying

theorem exec_stage0Done_of_failed {c : Nat} (hcheck : s.stage0Check bay = some c) : exec (.stage0Done bay) s =
    .next (s.attemptFailed bay { s.push bay with check := c } c (hashOf img)) := by
  unfold State.pushedImage at himg
  show execStage0Done bay s = _
  simp only [execStage0Done, hverifying, himg, hcheck, ne_eq, not_true_eq_false, if_false]

theorem exec_stage0Done_of_passed (hcheck : s.stage0Check bay = none) : exec (.stage0Done bay) s = .next (
    let entry := BitVec.ofNat 32 (imageBase + fieldAt img 0x24 4)
    let t := forUpTo 32 (fun s c => s.modHand bay (128 * c) fun _ => { state := .ready, pc := entry, entry := entry, lastCkpt := s.devNow })
      ((s.fixDebug bay).measureStage0 bay img)
    (t.modPush bay fun p => { p with state := .released, stage1 := true, check := 0 }).modMeasure bay
      fun m => { m with imgEpoch := fieldAt img 0x00C 1 }) := by
  unfold State.pushedImage at himg
  show execStage0Done bay s = _
  simp only [execStage0Done, hverifying, himg, hcheck, ne_eq, not_true_eq_false, if_false]

end

section
variable (hreleased : (s.push bay).state = .released) (hstage : (s.push bay).stage1 = true) (halive : (s.bay bay).alive = true)
include hreleased hstage halive

theorem exec_stage1Done_of_failed (hsections : sectionsOk img = false) : exec (.stage1Done bay) s =
    .next ((s.resetBay bay).attemptFailed bay (s.push bay) 8 (hashOf img)) := by
  unfold State.pushedImage at himg
  show execStage1Done bay s = _
  simp only [execStage1Done, hreleased, hstage, halive, himg, hsections, ne_eq, not_true_eq_false, decide_false, Bool.not_true, Bool.not_false,
    Bool.or_self, Bool.false_eq_true, if_false, if_true]

theorem exec_stage1Done_of_passed (hsections : sectionsOk img = true) : exec (.stage1Done bay) s = .next (
    let t := (sectionsOf img).foldl (fun s x => s.extendTally bay 4 ((img.drop x.1).take x.2.1)) s
    let t := t.extendTally bay 5 (memRead t.loft.die.cal 0 131072 ++ Config.settingsBytes t.sys.freshCount)
    let t := (t.modSys fun y => { y with freshCount := y.freshCount + 1 }).modBarn
      fun b => { b with hands := b.hands.filter fun e => e.1 / 4096 != bay }
    let t := forUpTo 256 (fun s n => s.modHand bay n fun _ =>
      { state := .ready, pc := Config.romEntry false n, entry := Config.romEntry false n, shadow := true, lastCkpt := s.devNow })
      ((t.modGranary bay Granary.bootPages).placeSections bay img)
    let t := ((t.loadFromLoft bay).modPush bay fun p => { p with stage1 := false }).runsImage bay (hashOf img)
    ((t.freshGovernor bay).bayReleased bay).showMeasures bay) := by
  unfold State.pushedImage at himg
  show execStage1Done bay s = _
  simp only [execStage1Done, hreleased, hstage, halive, himg, hsections, ne_eq, not_true_eq_false, decide_false, Bool.not_true,
    Bool.or_self, Bool.false_eq_true, if_false]

end
end

/-! ### O38 -/

/-- Settles O38: each event of the window meets one branch of its row. -/
theorem pushWindowRows : Obligations.PushWindowRows := by
  unfold Obligations.PushWindowRows
  refine ⟨fun bay s hmay => ⟨exec_pushWindowOpen_of_fallowN_low hmay, exec_pushWindowOpen_of_fallowN_high hmay⟩, ?opened, ?pushing, ?stage0, ?stage1⟩
  case opened =>
    intro bay s hopen
    exact ⟨exec_fallowEntry_of_past hopen, fun agent => exec_claimWrite_of_allowed hopen, fun n => exec_streamerClaim_of_allowed hopen⟩
  case pushing =>
    intro bay agent s hpushing hagent
    refine ⟨exec_go_of_bad_bounds hpushing hagent, exec_go_of_good_bounds hpushing hagent, ?copied,
      exec_pushAbandonExpiry_of_past hpushing hagent, ?released⟩
    case copied =>
      intro off len crc half hcopy hbusy
      rw [exec_apertureCopyDone_of_copy hpushing hcopy hbusy]
      exact ⟨fun hgood => by rw [if_pos hgood], fun hbad => by rw [if_neg hbad]⟩
    case released =>
      rw [exec_release_of_agent hpushing hagent]
      exact ⟨fun hshort => congrArg Host.Outcome.next (if_pos hshort), fun hwhole => congrArg Host.Outcome.next (if_neg (Nat.not_lt.2 hwhole))⟩
  case stage0 =>
    intro bay s hverifying img
    exact ⟨fun c => exec_stage0Done_of_failed rfl hverifying, exec_stage0Done_of_passed rfl hverifying⟩
  case stage1 =>
    intro bay s hreleased hstage halive img
    exact ⟨exec_stage1Done_of_failed rfl hreleased hstage halive, exec_stage1Done_of_passed rfl hreleased hstage halive⟩

end Sys2Proof.Machine

/-!
SUPPORT. Images, the fuse counter and the Loft's dies (R18, R446, R455, R457, R458): burns, the standby limit, movement and a lost die, and from
them O43.
-/
namespace Sys2Proof.Machine
open Sys2Proof

/-! ### The fuse counter (R446, R458) -/

/-- One burn raises the counter, which both bays' measurement pages show (R443, R446). -/
def State.burnFuse (s : State) : State := ((s.modFuse fun f => { f with counter := f.counter + 1 }).showMeasures 0).showMeasures 1

section
variable {s : State} (htrim : s.sys.trimValid = true) (hburns : s.boot.fuse.counter < s.boot.fuse.burnTo)
include htrim hburns

theorem exec_fuseCounterBurn_of_more (hmore : s.boot.fuse.counter + 1 < s.boot.fuse.burnTo) : exec .fuseCounterBurn s = .next s.burnFuse :=
  congrArg Host.Outcome.next ((if_neg (by simp [htrim, hburns])).trans (if_pos hmore))

/-- The last burn varnishes the slot that waits for it (R458). -/
theorem exec_fuseCounterBurn_of_last {n : Nat} (hlast : s.boot.fuse.burnTo = s.boot.fuse.counter + 1) (hslot : s.boot.fuse.burnSlot = some n) :
    exec .fuseCounterBurn s =
      .next (((s.burnFuse.varnish n).modFuse fun f => { f with burnSlot := none, burnJseq := 0 }).completeIf s.boot.fuse.burnJseq 0 []) := by
  refine congrArg Host.Outcome.next ((if_neg (by simp [htrim, hburns])).trans ((if_neg (by simp [hlast])).trans ?_))
  simp only [hslot]
  rfl

end

/-! ### The standby limit, movement and the Loft (R18, R455, R457) -/

theorem exec_standbyLimitExpiry_of_past {s : State} {bay t n : Nat} (hreleased : (s.bay bay).releasedAt = some t)
    (hruns : (s.bay bay).runsSlot = some n) (hfield : s.slotU = some n) (hpast : t + 10000000000 ≤ s.now) (hstandby : (s.bay bay).bstate ≠ .standby)
    (howner : (s.bay bay).bstate ≠ .owner) : exec (.standbyLimitExpiry bay) s = .next (s.refuseSlot n bay 0).shedRefused := by
  show execStandbyLimitExpiry bay s = _
  simp only [execStandbyLimitExpiry, hreleased, hruns]
  exact congrArg Host.Outcome.next (if_pos (by simp [hfield, passed_of hpast, hstandby, howner]))

theorem exec_accelerometerRead_of_due {s : State} (hserve : s.serving.isSome = true) (hnamed : s.loft.upd.accel.isSome = true)
    (hdue : ∀ t, s.loft.upd.accelTime = some t → t + 10000000 ≤ s.now) (dev : Nat) : exec (.accelerometerRead dev) s =
      .next (s.modUpd fun u => { u with accelTime := some s.now, moveTime := if 300 < dev then some s.now else u.moveTime }) := by
  refine congrArg Host.Outcome.next (if_neg ?_)
  obtain hnever | ⟨t, hlast, hpast⟩ := timer_due hdue
  · simp [Option.isNone_eq_false_iff.2 hserve, Option.isNone_eq_false_iff.2 hnamed, hnever]
  · simp [Option.isNone_eq_false_iff.2 hserve, Option.isNone_eq_false_iff.2 hnamed, hlast, hpast]

/-! ### O43 -/

/-- Settles O43: each burn, limit and read meets one branch of its row; a die is noted as lost once. -/
theorem imageRows : Obligations.ImageRows := by
  unfold Obligations.ImageRows
  refine ⟨fun s htrim hburns => ⟨exec_fuseCounterBurn_of_more htrim hburns, fun n => exec_fuseCounterBurn_of_last htrim hburns⟩,
    fun bay t n s => exec_standbyLimitExpiry_of_past, fun dev s hserve hnamed hdue => exec_accelerometerRead_of_due hserve hnamed hdue dev, ?dies⟩
  case dies =>
    intro s
    exact ⟨fun hlives => congrArg Host.Outcome.next (if_neg (Bool.eq_false_iff.1 hlives)),
      fun hlives => congrArg Host.Outcome.next (if_neg (Bool.eq_false_iff.1 hlives)), fun hlost => congrArg Host.Outcome.next (if_pos hlost)⟩

end Sys2Proof.Machine
